-- ==== Sys2Proof/Word.lean ====
section
/-!
DEFINITION. Sys2Proof/Word.lean: the word types of the MZ6402 model (spec/00_scope.md, Notation, R5).
A parameter word is 32 bits; bytes are little-endian in every multi-byte field (R5).
-/
namespace Sys2Proof

/-- A byte of a packet, frame, record or memory structure. -/
abbrev Byte := BitVec 8

/-- A 16-bit field (detail codes, powers, host-defined identifiers). -/
abbrev Half := BitVec 16

/-- A parameter word or packet word. -/
abbrev Word := BitVec 32

/-- A 64-bit field (device time in ns, the state epoch, serial numbers). -/
abbrev DWord := BitVec 64

/-- A local scan channel, 0 to 63 (R12). -/
abbrev Chan := Fin 64

/-- A machine axis, 0 to 15 (R426). -/
abbrev AxisNo := Fin 16

/-- One of the three axes of a scan channel: 0 X, 1 Y, 2 Z (R313). -/
abbrev XYZ := Fin 3

/-- A cascade position, 0 to 15 (R63). -/
abbrev Position := Fin 16

/-- A build stream number, 0 to 255 (R132). -/
abbrev StreamNo := Fin 256

end Sys2Proof
end

