-- ==== Sys2Proof/Machine/Arith.lean ====
section
/-!
DEFINITION. Sys2Proof/Machine/Arith.lean: plain arithmetic helpers of the machine: sparse tables, byte order (R5),
rounding, two's complement fields, and the CRC-32 of R140, R170 and R580.
-/
namespace Sys2Proof.Machine

/-! ## Sparse tables

A table keyed by a number holds only the entries that differ from a default, at rising keys, so that equal
tables are equal data. -/

/-- Entries at rising keys; a key that is not listed holds the table's default. -/
abbrev Tab (α : Type) := List (Nat × α)

/-- Put an entry into a list sorted by key. -/
def tabInsert {α : Type} (k : Nat) (v : α) : Tab α → Tab α
  | [] => [(k, v)]
  | (k', v') :: t => if k < k' then (k, v) :: (k', v') :: t else (k', v') :: tabInsert k v t

/-- The entry of `k`, or the default `d` where none is listed. -/
def tabGet {α : Type} (d : α) : Tab α → Nat → α
  | [], _ => d
  | (k', v') :: t, k => if k' = k then v' else tabGet d t k

/-- The table without an entry for `k`. -/
def tabDrop {α : Type} (t : Tab α) (k : Nat) : Tab α := t.filter (fun e => e.1 != k)

/-- The table with `k` holding `v`: listed only when `v` differs from the default `d`. -/
def tabPut {α : Type} [DecidableEq α] (d : α) (t : Tab α) (k : Nat) (v : α) : Tab α :=
  if v = d then tabDrop t k else tabInsert k v (tabDrop t k)

/-! ## Numbers, fields and bytes -/

/-- Bits `lo` to `lo + w - 1` of a number. -/
def bitsOf (v lo w : Nat) : Nat := v / 2 ^ lo % 2 ^ w

/-- A number with bits `lo` to `lo + w - 1` replaced by the low `w` bits of `x`. -/
def withBits (v lo w x : Nat) : Nat :=
  v % 2 ^ lo + (x % 2 ^ w) * 2 ^ lo + v / 2 ^ (lo + w) * 2 ^ (lo + w)

/-- A `w`-bit field read as two's complement. -/
def signedOf (w v : Nat) : Int := if v % 2 ^ w < 2 ^ (w - 1) then (v % 2 ^ w : Nat) else (v % 2 ^ w : Nat) - (2 ^ w : Nat)

/-- The `w`-bit two's complement field of an integer (the low `w` bits). -/
def fieldOf (w : Nat) (x : Int) : Nat := (x % (2 ^ w : Nat)).toNat

/-- An integer held within bounds. -/
def clampI (lo hi x : Int) : Int := if x < lo then lo else if hi < x then hi else x

/-- A number held at or below a bound (saturation). -/
def satN (hi x : Nat) : Nat := if hi < x then hi else x

/-- The quotient of `n` by `d` rounded to the nearest integer, halves to the even one; 0 where `d` is 0. -/
def roundHalfEven (n : Int) (d : Nat) : Int :=
  if d = 0 then 0 else
  let q := n / (d : Int)
  let r := n % (d : Int)
  if 2 * r < (d : Int) then q
  else if (d : Int) < 2 * r then q + 1
  else if q % 2 = 0 then q else q + 1

/-- Signed 48-bit difference `a - b` of two launch times (R149, R196). -/
def diff48 (a b : Int) : Int := signedOf 48 (fieldOf 48 (a - b))

/-- How far the frame boundary of `f` µs lies ahead of device time `ns`, as the signed 64-bit difference of R196: what lies 2^63 ns or more
ahead counts as past. (DEDUCED, log entry 205.) -/
def frameLead (f ns : Nat) : Int :=
  let d : Int := (f * 1000 : Nat) - (ns : Int)
  if 2 ^ 63 ≤ d then d % 2 ^ 63 - 2 ^ 63 else if d < -2 ^ 63 then d + 2 ^ 64 else d

/-- Signed 32-bit difference `a - b` of two sequence numbers (R96). -/
def diff32 (a b : Int) : Int := signedOf 32 (fieldOf 32 (a - b))

/-- The `n` bytes of a number, least significant first (R5). -/
def leBytes : Nat → Nat → List Byte
  | 0, _ => []
  | n + 1, v => BitVec.ofNat 8 v :: leBytes n (v / 256)

/-- The number that bytes spell, least significant first (R5). -/
def ofLE : List Byte → Nat
  | [] => 0
  | b :: t => b.toNat + 256 * ofLE t

/-- The number spelled by `n` bytes from offset `i` of a byte list (R5). -/
def leAt (bs : List Byte) (i n : Nat) : Nat := ofLE ((bs.drop i).take n)

/-- The bytes of packet words in stream order, least significant byte first (R133). -/
def bytesOfWords (ws : List Word) : List Byte := ws.flatMap (fun w => leBytes 4 w.toNat)

/-- The words that bytes fill, four bytes to a word; a last part word is filled with zeros. -/
def wordsOfBytes : List Byte → List Word
  | [] => []
  | a :: b :: c :: d :: t => BitVec.ofNat 32 (ofLE [a, b, c, d]) :: wordsOfBytes t
  | t => [BitVec.ofNat 32 (ofLE t)]

/-- A 32-bit word of a number. -/
def word (n : Nat) : Word := BitVec.ofNat 32 n

/-- The low and the high word of a 64-bit number, low word first. -/
def lowHigh (n : Nat) : List Word := [word n, word (n / 2 ^ 32)]

/-- The 64-bit number of two words, low word first. -/
def dword (lo hi : Word) : Nat := lo.toNat + hi.toNat * 2 ^ 32

/-- One bit of the reflected CRC-32 of IEEE 802.3. -/
def crcBit (c : Nat) : Nat := if c % 2 = 1 then (c / 2) ^^^ 0xEDB88320 else c / 2

/-- The CRC-32 register after one more byte. -/
def crcByte (c : Nat) (b : Byte) : Nat :=
  crcBit (crcBit (crcBit (crcBit (crcBit (crcBit (crcBit (crcBit (c ^^^ b.toNat))))))))

/-- CRC-32 with the IEEE 802.3 polynomial, as in Ethernet (R140). -/
def crc32 (bs : List Byte) : Nat := (bs.foldl crcByte 0xFFFFFFFF) ^^^ 0xFFFFFFFF

/-- Whether every byte is 0. -/
def allZero (bs : List Byte) : Bool := bs.all (fun b => b == 0)

/-- The numbers below `n`, rising. -/
def upTo (n : Nat) : List Nat := List.range n

/-- Apply `f` for each index of a list to a state, in list order. -/
def forEach {α σ : Type} (xs : List α) (f : α → σ → σ) (s : σ) : σ := xs.foldl (fun s x => f x s) s

end Sys2Proof.Machine
end

