-- ==== Sys2Proof/Syntax.lean ====
section
/-!
DEFINITION. Sys2Proof/Syntax.lean: the commands of the block: one constructor of `Instr` for each of the 285 rows of
spec/opcode_table.json (host packets, register writes with a row of their own, and events), with what comes
from outside the device as operands. An operand `t` is the device time in ns at which an outside event
falls, an operand `k` or `f` a whole microsecond of device time that keys a frame (R37, R40).
-/
namespace Sys2Proof

/-- The host paths of R86, and the ridge path on which forwarded packets arrive (R127). -/
inductive Path where
  | pcie | eth0 | eth1 | ridge
deriving DecidableEq, Repr

/-- What a packet row carries besides its opcode: path, tag, TARGET and body words (R79). -/
structure Pkt where
  path : Path
  tag : Byte
  target : Word
  body : List Word
deriving DecidableEq, Repr

/-- Path and tag of a register write with a row of its own: a direct SET_PARAM of one word (R105). -/
structure Hdr where
  path : Path
  tag : Byte
deriving DecidableEq, Repr

/-- A datagram as it reaches an Ethernet port (R93, R94). -/
structure UdpFrame where
  port : Bool
  mac : BitVec 48
  srcIp : Word
  srcUdp : Half
  dstIp : Word
  dstUdp : Half
  fragment : Bool
  payload : List Byte
deriving DecidableEq, Repr


/-- The feedback sample of one machine axis (R426). -/
structure FbkSample where
  /-- position counter, 32 bits, and a reading completed since the last sample -/
  pos : Nat := 0
  fresh : Bool := false
  /-- accepted levels of LIMP, LIMN and HOME (R428) -/
  limp : Bool := false
  limn : Bool := false
  home : Bool := false
  /-- latest accepted edge of AX_HOME since the last sample: counter value, device time in ns, new level -/
  homeEdge : Option (Nat × Nat × Bool) := none
  /-- index event since the last sample: latched counter value (R432) -/
  index : Option Nat := none
  /-- the probe was hit since the last sample (R442) -/
  probe : Bool := false
  /-- SPEED, hall state, and the levels of IDX and PROBE (R426) -/
  speed : Int := 0
  hall : Nat := 0
  idx : Bool := false
  probeLevel : Bool := false
  /-- device time of the index event; counter value and device time of the probe hit -/
  indexAt : Nat := 0
  probeAt : Option (Nat × Nat) := none
  /-- the serial reading completed since the last sample -/
  reading : Option Nat := none
deriving DecidableEq, Repr


/-- A PTP message as it arrives (R200, R202): messageType of IEEE 1588, times in 2^-16 ns. -/
structure PtpMsg where
  /-- 0 Sync, 1 Delay_Req, 2 Pdelay_Req, 3 Pdelay_Resp, 8 Follow_Up, 9 Delay_Resp, 10 Pdelay_Resp_Follow_Up, 11 Announce -/
  kind : Nat
  domain : Nat
  seq : Nat
  twoStep : Bool := false
  /-- originTimestamp, receiveTimestamp or requestReceiptTimestamp -/
  stamp : Nat := 0
  correction : Int := 0
  /-- logMessageInterval -/
  logInterval : Int := 0
  /-- sourcePortIdentity -/
  source : Nat := 0
  /-- it came in an Ethernet frame of Ethertype 0x88F7, not over UDP -/
  l2 : Bool := false
  /-- of an Announce: priority1, clockClass, priority2, grandmaster identity -/
  priority1 : Nat := 0
  clockClass : Nat := 0
  priority2 : Nat := 0
  identity : Nat := 0
deriving DecidableEq, Repr

/-- A time marker (R213) as it arrives on a ridge link; times in 2^-32 ns. -/
structure Marker where
  number : Nat
  /-- the summit's device time at departure, and the correction field on arrival with the delay of the last link, in 2^-32 ns -/
  departure : Nat
  correction : Nat
  adj : Int
  state : Nat
  holdCause : Nat
deriving DecidableEq, Repr

namespace Machine

/-- A ridge message as it is received, but for its payload (R466): device time of its arrival in ns and its link; the fields of its header but LEN,
which is the number of bytes of the payload; and the CRC-32. -/
structure RidgeHead where
  t : Nat
  link : Fin 4
  type : Byte
  prioDir : Byte
  src : Byte
  dst : Byte
  reach : Byte
  crc : Word
deriving DecidableEq, Repr

/-- A ridge message with its payload (R466). Where the specification lays a payload out its bytes are read here; of another message the row's
further operands say what the payload tells. (DESIGN CHOICE, log entry 196.) -/
structure RidgeMsg extends RidgeHead where
  payload : List Byte := []
deriving DecidableEq, Repr

/-! ## Parts of the units' state

The structures from here to `end Machine` are what the units hold. They stand before the commands because a hot join carries them
(spec/13 R494); Machine/State.lean puts them together. -/

/-- One word write of a staged batch: the bits of `mask` take those of `value` (R105, R108). -/
structure StagedWrite where
  addr : Nat
  mask : Word
  value : Word
deriving DecidableEq, Repr

/-- A batch scheduled for frame `f` (R109); `order` is the acceptance order of its COMMIT, of its JOURNAL_RESTORE, or of its arrival. -/
structure Scheduled where
  f : Nat
  order : Nat
  path : Path
  tag : Byte
  writes : List StagedWrite
  /-- positions whose confirmation has arrived, on a summit (R111) -/
  confirmed : Word := 0
  /-- whether the batch was sent to the members as a cascade batch (R111) -/
  cascade : Bool := false
  /-- its place in the acceptance order of the device that took the COMMIT (R19, R88) -/
  rank : Nat := 0
  /-- the commit of a JOURNAL_RESTORE, with or without the cascade words: every other saved field returns to its reset value (R602) -/
  whole : Option Bool := none
deriving DecidableEq, Repr

/-- A channel entry of a RUN checkpoint (R598). -/
structure RunChan where
  state : Nat := 0
  broken : Bool := false
  partialRec : Bool := false
  layer : Nat := 0
  progTag : Nat := 0
  recsDone : Nat := 0
  slip : Int := 0
  x : Int := 0
  y : Int := 0
  z : Int := 0
  energy : Nat := 0
deriving DecidableEq, Repr

/-- A stream entry of a RUN checkpoint (R598). -/
structure RunStream where
  state : Nat := 0
  bytes : Nat := 0
  chunk : Nat := 0
  layer : Nat := 0
  slot : Nat := 0
deriving DecidableEq, Repr

/-- An axis entry of a RUN checkpoint (R598). -/
structure RunAxis where
  state : Nat := 0
  homed : Bool := false
  counter : Nat := 0
  serialOffset : Int := 0
deriving DecidableEq, Repr

/-- A RUN checkpoint (R598). -/
structure RunImage where
  number : Nat
  base : Nat
  k : Nat
  reason : Nat
  epoch : Nat
  boot : Nat
  fwRev : Nat
  chans : Tab RunChan := []
  streams : Tab RunStream := []
  axes : Tab RunAxis := []
  /-- a saved field changed after the BASE it names (R597) -/
  paramsNewer : Bool := false
deriving DecidableEq, Repr

/-- A BASE parameter image (R597): the words that differ from their reset values. -/
structure BaseImage where
  number : Nat
  words : Tab Word
deriving DecidableEq, Repr

/-- What the ROM learns of a firmware image when it has read it (R65, R66). -/
structure FwImage where
  length : Nat := 0
  fwRev : Word := 0
  rollback : Nat := 0
  /-- SHA-384 digest of the image, of the public key, and the two halves of the ECDSA signature and key (R65) -/
  digest : Nat := 0
  keyX : Nat := 0
  keyY : Nat := 0
  sigR : Nat := 0
  sigS : Nat := 0
deriving DecidableEq, Repr



/-! ## STREAM: input buffers, the parser and the staging areas (spec/04) -/

/-- A segment record (R148) with its program and its launch time (R149). -/
structure Seg where
  type : Nat
  flags : Nat := 0
  /-- launch time, 48 bits of ns; 0 for a LAUNCH record, whose BASE stands in `base` -/
  launch : Nat := 0
  base : Nat := 0
  x : Int := 0
  y : Int := 0
  z : Int := 0
  speed : Nat := 0
  p0 : Nat := 0
  p1 : Nat := 0
  saddle : Nat := 0xFFFF
  duration : Nat := 0
  ident : Nat := 0
  scope : Nat := 0
  stream : Nat := 0
  layer : Nat := 0
  /-- the program's TAG (R144) -/
  tag : Nat := 0
deriving DecidableEq, Repr

/-- A program of a layer as the parser and its channel follow it (R144, R145, R158, R270). -/
structure Program where
  stream : Nat
  layer : Nat
  chan : Nat
  tag : Nat
  blocks : Nat
  records : Nat
  blocksSeen : Nat := 0
  recordsSeen : Nat := 0
  /-- next INDEX expected (R145) -/
  nextIndex : Nat := 0
  /-- BASE of the latest LAUNCH record parsed, and the launch of the latest timed record (R149, R150) -/
  base : Option Nat := none
  lastLaunch : Option Nat := none
  layerEnd : Bool := false
  /-- START of its layer, 48 bits (R144) -/
  start : Nat := 0
  /-- detail of the first malformed block (R158) -/
  broken : Option Nat := none
  discarded : Nat := 0
  /-- no further block can come: the last block seen, or closed by R145 -/
  closed : Bool := false
  /-- the channel error of R158 has been raised -/
  faulted : Bool := false
  /-- its stream has been opened anew since -/
  old : Bool := false
  /-- marked PARTIAL at a promotion (R499) -/
  partialRec : Bool := false
  /-- blocks with a lower INDEX were staged or executed before a promotion, and are discarded (R499) -/
  skip : Nat := 0
  /-- void: flushed (R271) -/
  void : Bool := false
  /-- LAYER_END executed, or counted complete after CLEAR, or flushed (R270) -/
  complete : Bool := false
  /-- S and G reported at its completion (R269, R270) -/
  repS : Int := 0
  repG : Int := 0
  /-- cairns launched: identifier, launch time, slip (R151) -/
  cairns : List (Nat × Nat × Int) := []
deriving DecidableEq, Repr

/-- A layer (R144, R145, R268, R270). -/
structure Layer where
  stream : Nat
  layer : Nat
  start : Nat
  programs : Nat
  /-- PROGRAM containers parsed -/
  seen : Nat := 0
  /-- judged complete by R145 -/
  closed : Bool := false
  /-- its stream has been opened anew since -/
  old : Bool := false
  started : Bool := false
  complete : Bool := false
  /-- cairn identifiers whose layer event was raised (R151) -/
  cairnsDone : List Nat := []
  /-- identifiers of the cairns launched with SCOPE 1 (R151) -/
  cairnsAsked : List Nat := []
deriving DecidableEq, Repr

/-- A block placed in a channel's staging area (R152, R153). -/
structure Staged where
  stream : Nat
  layer : Nat
  index : Nat
  bytes : Nat
  /-- admission frame in µs (R153) -/
  admitAt : Nat
  records : List Seg
  /-- the late record event of this block has been raised (R155) -/
  late : Bool := false
  /-- number by which keeper and partner know the block (R482) -/
  number : Nat := 0
  /-- its admission frame is fixed: on a keeper once the partner has acknowledged the block, on a partner once ADMIT has come (R482) -/
  admitted : Bool := true
deriving DecidableEq, Repr

/-- A block that the parser has accepted and that waits for room or for a hold (R146, R152). -/
structure ParsedBlock where
  chan : Nat
  block : Staged
deriving DecidableEq, Repr

/-- An open stream's buffers and parser (R135, R139, R140, R143). Its state and counts stand in the S_ words. -/
structure Stream where
  inbuf : List Byte := []
  /-- the 32-byte stream header, once parsed -/
  header : List Byte := []
  /-- payload bytes that wait for decompression (COMPRESSED) -/
  code : List Byte := []
  /-- plaintext bytes that wait for the container parser (R172) -/
  plain : List Byte := []
  /-- the LAST chunk has been processed (R140) -/
  lastChunk : Bool := false
  layersSeen : Nat := 0
  /-- a parsed block that waits for staging room or for a hold -/
  waiting : Option ParsedBlock := none
  /-- STREAM_END has been parsed -/
  ended : Bool := false
  /-- AES key slot in use, and the key in the AES stage (R560) -/
  keySlot : Nat := 0
  key : List Byte := []
  /-- bytes of a PAD container still to be ignored (R144) -/
  padLeft : Nat := 0
  /-- the compression context is held (R172) -/
  holdsSlot : Bool := false
  /-- a FETCH is running (R134) -/
  fetching : Bool := false
deriving DecidableEq, Repr

/-- STREAM (spec/04). -/
structure StreamSt where
  streams : Tab Stream := []
  layers : List Layer := []
  programs : List Program := []
  /-- staging area of each channel, in stream order -/
  staging : Tab (List Staged) := []
  /-- latest frame at which each channel admitted records (R153) -/
  admittedAt : Tab Nat := []
deriving DecidableEq, Repr

/-! ## PACK: contexts, jobs and telemetry feeds (spec/05) -/

/-- An entry of a code table: prefix code and suffix byte (R160). -/
structure Entry where
  pre : Nat
  suffix : Byte
deriving DecidableEq, Repr

/-- Who holds a slot (R169): 0 none, 1 stream, 2 job, 3 telemetry feed. -/
structure Slot where
  /-- 0 SEEDED, 1 ENCODE, 2 DECODE, 3 BROKEN (R169) -/
  state : Nat := 0
  width : Nat := 9
  startWidth : Nat := 9
  seed : List Entry := []
  /-- learned entries, from code 259 + S on -/
  learned : List Entry := []
  clearMode : Bool := true
  isSealed : Bool := false
  skipBits : Nat := 0
  /-- deferred code of an encoder or previous code of a decoder -/
  link : Option Nat := none
  totalIn : Nat := 0
  totalOut : Nat := 0
  clears : Nat := 0
  holder : Nat := 0
  persist : Bool := false
  journalValid : Bool := false
deriving DecidableEq, Repr

/-- A job (R179). -/
structure Job where
  path : Path
  tag : Byte
  slot : Nat
  decode : Bool
  final : Bool
  fresh : Bool
  inAddr : Nat := 0
  inLen : Nat
  outAddr : Nat
  outLen : Nat
  order : Nat
  acceptClk : Nat
  /-- engine on which it runs -/
  engine : Option Nat := none
  /-- RESET_UNIT of PACK has asked it to stop at the next code boundary (R190) -/
  stopping : Bool := false
deriving DecidableEq, Repr

/-- A telemetry feed (R185, R187). -/
structure Feed where
  enabled : Bool := false
  /-- 1 LEDGER, 2 ERR -/
  source : Nat := 0
  started : Bool := false
  seq : Nat := 0
  /-- slot in use -/
  slot : Nat := 0
  chunkMax : Nat := 32
  resync : Nat := 64
  /-- unconsumed input carried into the next chunk -/
  carry : List Byte := []
  /-- the WARN of R187 has been raised for this enabling -/
  warned : Bool := false
deriving DecidableEq, Repr

/-- What an engine holds (R189). -/
structure Engine where
  slot : Nat := 0
  active : Bool := false
  cls : Nat := 0
  /-- bytes run since the last switch -/
  run : Nat := 0
  /-- QUANTUM_KB as it was at that switch (R191) -/
  quantum : Nat := 1024
deriving DecidableEq, Repr

/-- PACK (spec/05). -/
structure PackSt where
  slots : Tab Slot := []
  jobs : List Job := []
  feeds : Tab Feed := []
  engines : Tab Engine := []
  /-- the image of each slot that is being written to the journal (R173) -/
  journaling : Tab (List Byte) := []
  /-- work that waits for an engine, in order of readiness: class 0 with a stream number, 2 with a feed number (R189) -/
  ready : List (Nat × Nat) := []
deriving DecidableEq, Repr


/-! ## TIME: device time, the servo, TRIG outputs and captures (spec/06) -/

/-- An entry of a capture FIFO (R230). -/
structure CapEntry where
  time : Nat
  rising : Bool
  overflowBefore : Bool
deriving DecidableEq, Repr

/-- A capture input's FIFO (R228, R229). -/
structure CapFifo where
  entries : List CapEntry := []
  /-- edges were dropped since the last entry stored -/
  overflowed : Bool := false
deriving DecidableEq, Repr

/-- A TRIG output's program in progress (R222 to R226). -/
structure Trig where
  /-- next pulse to emit -/
  pulse : Nat := 0
  active : Bool := false
  /-- device time (ns) at which the pulse in progress falls -/
  fallAt : Nat := 0
  /-- POL with which the pulse in progress rose -/
  level : Bool := false
  /-- pulses have been skipped in the present stay in HALT -/
  haltSkip : Bool := false
deriving DecidableEq, Repr

/-- A master that has announced itself (R202): its port, its rank, the TIME clock of its latest Announce and its interval. -/
structure PtpForeign where
  source : Nat
  /-- priority1, clockClass, priority2, grandmaster identity -/
  rank : List Nat
  clk : Nat
  logAnnounce : Nat
deriving DecidableEq, Repr

/-- TIME (spec/06). Its state, rate, integral term and counters stand in the TIME words. -/
structure TimeSt where
  /-- device time in units of 2^-32 ns (R192) -/
  now : Nat := 0
  /-- TIME clocks elapsed since power-on (R195) -/
  clk : Nat := 0
  /-- the integral term at entry to HOLDOVER, 2^-8 ppb (R211) -/
  holdRate : Int := 0
  /-- TIME clock at which HOLDOVER was entered -/
  holdSince : Nat := 0
  /-- latest offsets of an UNSTEPPED slave, newest first (R203) -/
  firsts : List Int := []
  /-- latest measured offset in 2^-32 ns (R209) -/
  offset : Int := 0
  /-- consecutive in-threshold measurements in HOLDOVER (R199) -/
  goodRun : Nat := 0
  /-- TIME clock at which a slew ends (R209) -/
  slewEnd : Option Nat := none
  /-- the source of CFG has been measured since it was chosen (R221) -/
  sourcePresent : Bool := false
  /-- MISALIGN run (R216) and marker bookkeeping of a member (R213, R215) -/
  misalignRun : Nat := 0
  markerNumber : Nat := 0
  markerCw : Bool := true
  markerMissed : Nat := 0
  /-- TIME clock of the latest marker from each direction -/
  markerClkCw : Option Nat := none
  markerClkCcw : Option Nat := none
  markersSince : Option Nat := none
  summitAdj : Int := 0
  summitState : Nat := 0
  /-- number of the next marker that a summit sends -/
  nextMarker : Nat := 0
  /-- summit ADJ changes added since the member locked (R215), and whether a marker has been used -/
  adjSum : Int := 0
  markerSeen : Bool := false
  /-- a measurement that is complete and has not been given to the servo: offset in 2^-32 ns, rational interval as e = offset × num /
  den ppb (R206) -/
  measured : Option (Int × Nat × Nat) := none
  /-- TIME clock of the start of the present wait for a measurement, and of the latest Announce (R205) -/
  ptpMeasureClk : Nat := 0
  ptpAnnounceClk : Nat := 0
  /-- the port is master; a master has been heard -/
  ptpIsMaster : Bool := false
  ptpMaster : Bool := false
  ptpLogAnnounce : Nat := 1
  /-- sync interval of the master, log2 seconds -/
  ptpLogSync : Int := -3
  ptpSyncSeq : Nat := 0
  ptpDelaySeq : Nat := 0
  /-- Sync in hand: sequence, arrival; its correction where a Follow_Up is awaited (2^-16 ns) -/
  ptpSync : Option (Nat × Int × Int) := none
  /-- the latest Sync complete: t1 with corrections, t2 -/
  ptpT12 : Option (Int × Int) := none
  /-- a delay request in hand: sequence, departure -/
  ptpReq : Option (Nat × Int) := none
  /-- a two-step peer answer in hand: sequence, t2, arrival, correction -/
  ptpPeer : Option (Nat × Int × Int × Int) := none
  /-- ASYM as it stood at the latest Sync, 2^-16 ns (R201) -/
  ptpAsym : Int := 0
  /-- the masters heard, and the one that is followed (R202) -/
  ptpForeign : List PtpForeign := []
  ptpParent : Option Nat := none
  /-- TIME clock of the latest Announce sent, and the sequence number of the next -/
  ptpAnnounceTx : Option Nat := none
  ptpAnnounceSeq : Nat := 0
  /-- mean path delay, once measured, 2^-32 ns -/
  ptpDelay : Option Int := none
  /-- PTP messages dropped or ignored, counted in NET statistics (R202, R204) -/
  ptpDropped : Nat := 0
  trigs : Tab Trig := []
  caps : Tab CapFifo := []
deriving DecidableEq, Repr

/-! ## SEQ: queues, plans and slip of the scan channels (spec/06, spec/07) -/

/-- A planned timed record (R242, R249): phases in µs, V' and A' in 2^-32 nm/µs and 2^-32 nm/µs². -/
structure Plan where
  na : Nat := 0
  nc : Nat := 0
  /-- duration in ns -/
  dur : Nat := 0
  v : Nat := 0
  a : Nat := 0
  /-- path length in 2^-16 nm (R249) -/
  len : Nat := 0
  /-- displacement and start point (R253, R254) -/
  dx : Int := 0
  dy : Int := 0
  dz : Int := 0
  /-- blend partner of the record before it; overrun; planned overlap in ns (R255, R257) -/
  blend : Bool := false
  overrun : Bool := false
  overlap : Int := 0
  /-- a start or end point lies outside the field (R274) -/
  outside : Bool := false
  /-- start point (R254) -/
  sx : Int := 0
  sy : Int := 0
  sz : Int := 0
  /-- FLOOR in force at the planning (R242, R259) -/
  floor : Nat := 0
deriving DecidableEq, Repr

/-- A queued record with its plan (R241, R242). -/
structure QRec where
  seg : Seg
  plan : Option Plan := none
deriving DecidableEq, Repr

/-- A started timed record: its lag G (R243, R244). -/
structure Active where
  seg : Seg
  plan : Plan
  lag : Int
deriving DecidableEq, Repr

/-- The frame sample of R239. -/
structure Sample where
  f : Nat := 0
  xSet : Int := 0
  ySet : Int := 0
  zSet : Int := 0
  xVff : Int := 0
  yVff : Int := 0
  zVff : Int := 0
  xAff : Int := 0
  yAff : Int := 0
  zAff : Int := 0
  p0 : Nat := 0
  p1 : Nat := 0
  mark : Bool := false
  deferred : Bool := false
  bedX : Int := 0
  bedY : Int := 0
  bedZ : Int := 0
  /-- S(f) (R232) -/
  slip : Int := 0
deriving DecidableEq, Repr

/-- A trigger of a channel state transition at an apply instant (R34, R35); `cause` is a detail code. -/
structure ChTrigger where
  at_ : Nat
  target : Nat
  cause : Nat
  /-- 0 for a trigger of the device's own, else the bit of CH_STATE that requested it (R31) -/
  kind : Nat := 0
  /-- entered with a supervision trip (R301) -/
  trip : Bool := false
deriving DecidableEq, Repr

/-- SEQ's part of a scan channel. -/
structure SeqCh where
  queue : List QRec := []
  active : List Active := []
  /-- the latest started timed record of the plan, for R244 and R255; none where no record precedes -/
  prev : Option Active := none
  /-- endpoint of the latest started motion record of the plan (R254) -/
  prevEnd : Option (Int × Int × Int) := none
  /-- bed setpoint decided for the latest apply instant -/
  bedX : Int := 0
  bedY : Int := 0
  bedZ : Int := 0
  /-- slip S in ns (R232) -/
  slip : Int := 0
  /-- S of the apply instant before the one that is computed -/
  slipBefore : Int := 0
  /-- S of the latest apply instants computed, newest first (R232, R233) -/
  slips : List (Nat × Int) := []
  /-- LAYER, PROG_TAG and the records completed in the program, after the latest apply instants computed, newest first (R598) -/
  progress : List (Nat × Nat × Nat × Nat) := []
  absorbPending : Nat := 0
  /-- apply instants of yields and resyncs already decided (R375, R380) -/
  yields : List Nat := []
  /-- first apply instant of the present run of marking samples (R363) -/
  markRun : Nat := 0
  /-- program running: stream, layer, tag; whether its LAYER_END has executed -/
  running : Option (Nat × Nat × Nat) := none
  /-- records completed in the program that runs or ran last (R598) -/
  progDone : Nat := 0
  starved : Bool := false
  lateRun : Bool := false
  /-- HOLD request waiting (R264), by the apply instant from which it may act -/
  holdFrom : Option Nat := none
  /-- requests accepted (R263) -/
  requests : List ChTrigger := []
  triggers : List ChTrigger := []
  /-- decided transitions not yet in effect, in order: apply instant, state, cause detail -/
  next : List (Nat × Nat × Nat) := []
  /-- in SAFE: entered by a supervision trip (R301) -/
  tripped : Bool := false
  /-- park move (R267) -/
  park : Option Active := none
  parkLaunch : Int := 0
  /-- SAFE entered in SAFE_STOP; its park move is complete -/
  parked : Bool := false
  samples : List Sample := []
  /-- correction grid nodes that differ from 0, buffers 0 and 1: node to (NX, NY, NZ) (R273, R275) -/
  grid0 : Tab (Int × Int × Int) := []
  grid1 : Tab (Int × Int × Int) := []
  /-- apply instant of the latest sample built -/
  built : Nat := 0
deriving DecidableEq, Repr


/-! ## LOOP and TRACE (spec/08) -/

/-- The state of one scanner axis loop (R285, R289, R298, R299). -/
structure AxLoop where
  ePrev : Int := 0
  /-- filtered derivative, 2^-16 counts per µs -/
  d : Int := 0
  /-- integrator, 2^-16 command LSB -/
  i : Int := 0
  /-- latest class: 1 POS, -1 NEG, 0 none (R298) -/
  cls : Int := 0
  /-- apply instants of the crossings, newest first (R298) -/
  crossings : List Nat := []
  /-- consecutive saturated evaluations (R299) -/
  satRun : Nat := 0
  /-- consecutive held evaluations (R297) -/
  heldRun : Nat := 0
  /-- initialize at the next evaluation (R288) -/
  init : Bool := true
  /-- in a zero-current period (R297) -/
  zero : Bool := false
  held : Bool := false
  /-- fallback 1 in force at the latest evaluation (R301) -/
  detuned : Bool := false
  /-- bank used by the latest evaluation -/
  bank : Nat := 0
  /-- the retained setpoints of the two frames before (R286, R288) -/
  ret1 : Int := 0
  ret2 : Int := 0
  /-- an oscillation trip, a saturation trip found in the latest evaluation and not yet acted on (R300) -/
  oscTrip : Bool := false
  satTrip : Bool := false
  /-- terms of the latest evaluation, for the trace (R307) -/
  r : Int := 0
  y : Int := 0
  p : Int := 0
  dTerm : Int := 0
  ff : Int := 0
  u : Int := 0
deriving DecidableEq, Repr

/-- The state of one machine axis loop (R303 to R306). -/
structure MaLoop where
  ePrev : Int := 0
  d : Int := 0
  i : Int := 0
  init : Bool := true
  /-- bank used by the latest evaluation -/
  bank : Nat := 0
  /-- out of service after a trip (R306) -/
  stopped : Bool := false
  feTrip : Bool := false
  /-- first microsecond whose readings the latest evaluation did not see (R438) -/
  lastEval : Nat := 0
  cmd : Int := 0
  r : Int := 0
  y : Int := 0
deriving DecidableEq, Repr

/-- LOOP (spec/08). -/
structure LoopSt where
  /-- scanner axis loops, by 3 × channel + axis -/
  ax : Tab AxLoop := []
  ma : Tab MaLoop := []
  /-- a supervision trip was found in the latest window: OSC or SAT of a channel, or FE of an axis (R309 mode 3) -/
  tripSeen : Bool := false
deriving DecidableEq, Repr

/-- TRACE: the buffers of the capture in hand (R307 to R312). Its state stands in TSTAT, its count in COUNT. -/
structure TraceSt where
  /-- the sampled apply instants, oldest first, each with the samples of the sixteen probes; a probe that stores nothing has 0 -/
  rows : List (List Int) := []
  /-- apply instant of the oldest sample, and DECIM of the capture -/
  first : Nat := 0
  decim : Nat := 1
  /-- latest sample of the condition probe (R309) -/
  lastCond : Option Int := none
  force : Bool := false
  /-- samples still to store after the trigger -/
  left : Nat := 0
deriving DecidableEq, Repr

/-! ## STN: station links (spec/11) -/

/-- An inbound frame that was accepted (R403, R411). -/
structure InFrame where
  /-- sample instant, µs -/
  k : Nat
  x : Int
  y : Int
  z : Int
  b1 : List Nat
  b2 : List Nat
  status : Nat
  /-- obtained by mirror fill (R40) -/
  filled : Bool := false
  /-- its 42 bytes, as FILL_DATA carries them (R480) -/
  raw : List Byte := []
deriving DecidableEq, Repr

/-- A sideband request (R413, R414): `owner` 0 bring-up and delay, 1 the host's mailbox, 2 a gate delay write. -/
structure SbReq where
  type : Nat
  addr : Nat
  lo : Nat := 0
  hi : Nat := 0
  owner : Nat := 0
deriving DecidableEq, Repr

/-- The request outstanding on a port (R415). -/
structure SbWait where
  req : SbReq
  sseq : Nat
  /-- apply instant whose packet carried it last -/
  sent : Nat
  tries : Nat := 0
  /-- to be sent again with the next packet -/
  resend : Bool := false
deriving DecidableEq, Repr

/-- A station link (R420 to R422). Its state and counters stand in the STN words. -/
structure StnCh where
  last : Option InFrame := none
  /-- the frame accepted before it, and the run of misses then (R481) -/
  prior : Option InFrame := none
  priorRun : Nat := 0
  /-- consecutive accepted frames, and consecutive missing frames while symbol lock holds (R420, R421) -/
  goodRun : Nat := 0
  lostRun : Nat := 0
  /-- the sum of the measured delays in 0.25 ns, doubled, and their number (R400) -/
  deltaSum : Int := 0
  deltaN : Nat := 0
  /-- the latest average, 0.25 ns -/
  deltaAvg : Option Int := none
  /-- bring-up: TURN has been read, LINK_DELAY has been written and acknowledged -/
  turnRead : Bool := false
  delayAcked : Bool := false
  waiting : Option SbWait := none
  queue : List SbReq := []
  nextSseq : Nat := 0
  /-- an echo mismatch episode is open (R411) -/
  echoBad : Bool := false
  /-- the delay above 150 ns, TURN out of range: raised in this bring-up -/
  longWarned : Bool := false
  turnWarned : Bool := false
  /-- device time (ns) at which symbol lock was lost -/
  lostAt : Option Nat := none
  /-- frame for which the missing-frame rule has been applied (R42) -/
  missFor : Option Nat := none
  /-- a GATE_DLY write has failed, awaits its acknowledgement (R419, R515) -/
  gateFailed : Bool := false
deriving DecidableEq, Repr


/-! ## POWER and LEDGER (spec/09) -/

/-- A finished power evaluation that later ones refer to (R323, R325). -/
structure PowEval where
  f : Nat
  /-- gate 1 with both sub-slots nonzero -/
  lit : Bool
  /-- the reference formed at this instant (R325) -/
  ref : Nat
  /-- own deposit energy -/
  de : Nat
deriving DecidableEq, Repr

/-- A look-ahead read: the instant it serves, the cell (none outside the region), the decayed energy and the gain (R340, R342). -/
structure GainRead where
  f : Nat
  cell : Option Nat
  /-- indices of the cell that was read -/
  ci : Int := 0
  cj : Int := 0
  energy : Nat := 0
deriving DecidableEq, Repr

/-- A telemetry summary in progress (R350, R351). -/
structure Summary where
  frames : Nat := 0
  valid : Nat := 0
  emSum : Nat := 0
  emMin : Nat := 0
  emMax : Nat := 0
  trimSum : Int := 0
  gSum : Nat := 0
  monOut : Nat := 0
  energy : Nat := 0
deriving DecidableEq, Repr

/-- POWER's part of a scan channel. -/
structure PowCh where
  ePrev : Int := 0
  d : Int := 0
  i : Int := 0
  init : Bool := true
  heldRun : Nat := 0
  /-- latest evaluations, newest first -/
  evals : List PowEval := []
  reads : List GainRead := []
  /-- the last gain whose cells matched since the channel left OFFLINE (R341) -/
  goodGain : Nat := 32768
  /-- the monitor's action of this episode has been taken (R328) -/
  monActed : Bool := false
  summ : Summary := {}
  /-- channel state at the latest evaluation -/
  lastState : Nat := 0
  /-- gate and sub-slots of the latest evaluation, for the outbound frame -/
  gate : Bool := false
  u0 : Nat := 0
  u1 : Nat := 0
  /-- values of the latest evaluation, for the trace (R353) -/
  e : Int := 0
  g : Nat := 32768
  eRead : Nat := 0
  p1 : Nat := 0
  b1 : Nat := 0
  b2 : Nat := 0
  m : Nat := 0
  r : Nat := 0
  t : Int := 0
  de : Nat := 0
  matched : Bool := false
  valid : Bool := false
  held : Bool := false
  outside : Bool := false
  monOutside : Bool := false
deriving DecidableEq, Repr

/-- The ledger's configuration in use (R332). -/
structure LedgerCfg where
  tShift : Nat := 6
  half : Nat := 1024
  i0 : Int := 0
  j0 : Int := 0
  nx : Nat := 0
  ny : Nat := 0
deriving DecidableEq, Repr

/-- The ledger before it was emptied at `h`, for reads that reflect an earlier instant (R348). -/
structure LedgerPast where
  h : Nat
  cfg : LedgerCfg
  active : Bool
  cells : Tab (Nat × Nat)
  clearedAt : Nat
  runs : List (Nat × Nat)
  visits : Nat
  undo : List (Nat × List (Nat × (Nat × Nat)))
deriving DecidableEq, Repr

/-- A fill that waits for its apply instant (R349). -/
structure Fill where
  h : Nat
  i0 : Int
  j0 : Int
  w : Nat
  hh : Nat
  energy : Nat
  order : Nat
  done : Bool := false
deriving DecidableEq, Repr

/-- A beam of an accepted foreign digest (R336): period end, position, channel, energy, bed points at d - 10 and d. -/
structure Foreign where
  d : Nat
  pos : Nat
  chan : Nat
  energy : Nat
  x0 : Int
  y0 : Int
  x1 : Int
  y1 : Int
deriving DecidableEq, Repr

/-- LEDGER (R330 to R346). A cell that is not listed holds E = 0 and the stamp of its latest scrub visit. -/
structure LedgerSt where
  cfg : LedgerCfg := {}
  /-- a region is in force -/
  active : Bool := false
  /-- listed cells: index in row order to (E, STAMP) -/
  cells : Tab (Nat × Nat) := []
  /-- apply instant at which the ledger was emptied last -/
  clearedAt : Nat := 0
  /-- runs of consecutive scrub instants, newest first: first instant, visits made before it -/
  runs : List (Nat × Nat) := []
  /-- visits made since the ledger was emptied; latest instant whose operations were made -/
  visits : Nat := 0
  latest : Nat := 0
  /-- the cells changed by the latest instants' operations with their values before, newest first (R348) -/
  undo : List (Nat × List (Nat × (Nat × Nat))) := []
  /-- the ledger before each emptying that a read may still look behind, newest first (R348) -/
  past : List LedgerPast := []
  fills : List Fill := []
  foreign : List Foreign := []
  /-- the 64 KB summary buffer, oldest first, 32 bytes each (R352) -/
  records : List (List Byte) := []
  /-- records lost in the open overflow episode, and the apply instant of the first -/
  lost : Nat := 0
  lostAt : Nat := 0
deriving DecidableEq, Repr


/-! ## COL: digests, verdicts and deferrals (spec/10) -/

/-- A digest entry (R365); positions in µm. -/
structure ColEntry where
  ch : Nat
  rho : Nat := 0
  mark : Nat := 0
  x0 : Int := 0
  y0 : Int := 0
  dx : Int := 0
  dy : Int := 0
  start : Int := 0
  energy : Nat := 0
  px : Int := 0
  py : Int := 0
  qx : Int := 0
  qy : Int := 0
deriving DecidableEq, Repr

/-- A position digest of period `d` (R364). -/
structure Digest where
  pos : Nat
  keeper : Bool := false
  holdover : Bool := false
  d : Nat
  entries : List ColEntry := []
  /-- obtained by partner fill (R369) -/
  filled : Bool := false
deriving DecidableEq, Repr

/-- What the pair checks found for one own beam (R370, R372). `kind` is 0 none, 1 EXCL, 2 LEE_IN, 3 LEE_OUT, 4 substitute, 5 overrun. -/
structure Finding where
  ch : Nat
  kind : Nat := 0
  rival : Nat := 0
  wins : Nat := 0
deriving DecidableEq, Repr

/-- The verdict of a window for one own beam (R373). -/
structure WindowVerdict where
  w : Nat
  ch : Nat
  lose : Bool
deriving DecidableEq, Repr

/-- COL (spec/10). -/
structure ColSt where
  /-- own digests of the latest periods, newest first -/
  own : List Digest := []
  /-- accepted digests of other positions, newest first -/
  got : List Digest := []
  /-- results of the pair checks of a period, until its verdicts are fixed -/
  checked : Option (Nat × List Finding) := none
  /-- the pairs tested and found in conflict in those checks -/
  counted : Nat × Nat := (0, 0)
  verdicts : List WindowVerdict := []
  /-- COL words as they were in force for the apply instants that begin the latest periods, newest first (R374) -/
  words : List (Nat × Tab Word) := []
  /-- positions in an open episode of absence (R376), and of digests from outside POSITIONS (R368) -/
  absent : List Nat := []
  outside : List Nat := []
  /-- digests discarded as from outside POSITIONS (R368) -/
  discarded : Nat := 0
  /-- period whose absences have been counted -/
  countedFor : Option Nat := none
  /-- by channel: last apply instant of the yield and of the resync in force, consecutive windows lost, the warning of R382 raised -/
  yields : Tab (List (Nat × Nat)) := []
  resyncTo : Tab Nat := []
  loseRun : Tab Nat := []
  warned : List Nat := []
deriving DecidableEq, Repr


/-! ## FBK and AXIS: machine axes (spec/12) -/

/-- FBK's part of a machine axis. Counter, speed and latches stand in the FBK words. -/
structure FbkCh where
  /-- filtered levels of A, B and IDX, raw levels of LIMP, LIMN and HOME (R428) -/
  a : Bool := false
  b : Bool := false
  idx : Bool := false
  limp : Bool := false
  limn : Bool := false
  home : Bool := false
  probe : Bool := false
  /-- levels in the latest sample, and samples that have shown the other level (R428) -/
  sLimp : Bool := false
  sLimn : Bool := false
  sHome : Bool := false
  runLimp : Nat := 0
  runLimn : Nat := 0
  runHome : Nat := 0
  /-- the last valid hall state (R434) -/
  hall : Nat := 0
  /-- device time (ns) of the latest counted change, the period before it (ns), its sense (R440, R441) -/
  lastEdge : Option Nat := none
  period : Nat := 0
  sense : Int := 0
  /-- a change since the latest sample reversed the sense -/
  reversed : Bool := false
  /-- the index, probe and home edges latched since the latest sample -/
  index : Option Nat := none
  probeHit : Bool := false
  homeEdge : Option (Nat × Nat × Bool) := none
  indexAt : Nat := 0
  probeAt : Option (Nat × Nat) := none
  fresh : Bool := false
  /-- the latest correction by IDX_FIX: its device time and dev (R433) -/
  fix : Option (Nat × Int) := none
  /-- instants of the latest samples that brought a new serial reading, newest first (R438) -/
  freshAt : List Nat := []
  /-- serial sensor: instant of the frame in progress, next start to be skipped, missing readings in a row, last reading, its instant,
  the offset of R437 -/
  busy : Option Nat := none
  skip : Bool := false
  missing : Nat := 0
  reading : Option (Nat × Nat) := none
  offset : Int := 0
  /-- SRC of the latest sample -/
  src : Nat := 0
  /-- changes of position by homing or AXIS_SET_POS that wait for their sample (R457) -/
  shifts : List (Nat × Int) := []
  /-- the samples that decisions use, by instant, newest first (R426, R427) -/
  samples : List (Nat × FbkSample) := []
  /-- apply instant at which the probe arms; it has been hit since it was armed last (R442) -/
  armAt : Option Nat := none
  hitSinceArm : Bool := false
deriving DecidableEq, Repr

/-- A move (R459): speeds in 2^-24 count per µs, accelerations in 2^-36 count per µs². -/
structure Move where
  blend : Bool
  relative : Bool
  probeStop : Bool
  tied : Bool
  tie : Nat
  target : Nat
  launch : Nat
  vmax : Nat
  acc : Nat
  dec : Nat
deriving DecidableEq, Repr

/-- What an axis opcode asks for at its apply instant (R447, R458). -/
inductive AxisReq where
  | moves (ms : List Move)
  | stop (hard : Bool)
  | home
  | clear
  | setPos (x : Int)
  | probeArm
deriving DecidableEq, Repr

/-- An axis as decided for an apply instant, until its words take it. -/
structure AxFrame where
  f : Nat
  state : Nat
  phase : Nat
  homed : Bool
  cause : Nat
  p : Int
  v : Int
  queue : Nat
  /-- position change at this instant, without steps (R457) -/
  shift : Int := 0
deriving DecidableEq, Repr

/-- AXIS's part of a machine axis: the generator of R448 and the homing of R454, as decided for the latest apply instant. -/
structure MaAxis where
  state : Nat := 0
  phase : Nat := 0
  homed : Bool := false
  cause : Nat := 0
  /-- 2^-36 count, 2^-36 count per µs -/
  p : Int := 0
  v : Int := 0
  queue : List Move := []
  /-- a move is active: target in counts, V and A and D, PROBE_STOP; it has been ended by the probe -/
  active : Bool := false
  target : Int := 0
  vm : Nat := 0
  am : Nat := 0
  dm : Nat := 0
  probeStop : Bool := false
  probed : Bool := false
  /-- target of the move before (R449) -/
  lastTarget : Option Int := none
  /-- causes of the ramp in hand: STOP_DEC, LIM_DEC, HOME_ACC (R447) -/
  byStop : Bool := false
  byLimit : Bool := false
  byHome : Bool := false
  /-- deceleration of the ramp in progress, and whether a larger one was kept (R450) -/
  ramp : Option Nat := none
  kept : Bool := false
  /-- homing: position at the start, sample of the latest change of the home input, accepted level, latches -/
  homeStart : Int := 0
  homeSince : Nat := 0
  homeLevel : Bool := false
  accepted : Option Bool := none
  edgePos : Nat := 0
  homeLatch : Nat := 0
  indexLatch : Option Nat := none
  /-- requests accepted, with their apply instants -/
  reqs : List (Nat × AxisReq) := []
  /-- decided and not yet taken into the words -/
  frames : List AxFrame := []
  built : Nat := 0
  /-- step accumulator in 2^-36 step, sense of its last change, clocks since the boundary of the last step (R443, R444) -/
  q : Int := 0
  dir : Int := 0
  lastStep : Option Int := none
  /-- commands of the closed loop by apply instant, newest first (R303) -/
  cmds : List (Nat × Int) := []
deriving DecidableEq, Repr

/-- AXIS and FBK. -/
structure AxisSt where
  fbk : Tab FbkCh := []
  ax : Tab MaAxis := []
  /-- the keeper's samples: own samples wait here until it arrives or is missed (R427) -/
  waiting : Option Nat := none
  /-- instant of the latest sample received from a keeper, and the step accumulators at it (R499) -/
  keeperAt : Option Nat := none
  keeperQ : List Int := []
deriving DecidableEq, Repr


/-! ## HUSK (spec/16) -/

/-- The key island and the husk's work in progress (R552 to R573). The island's readable items stand in the HUSK words. -/
structure HuskSt where
  /-- the device key DK -/
  dk : Option (List Byte) := none
  /-- stream keys by slot; an empty list for an EMPTY slot -/
  keys : Tab (List Byte) := []
  /-- ISLAND_S at TIME clock 0 (R552) -/
  islandBase : Nat := 0
  /-- source of a STOP raised on battery that waits for the end of the next boot (R565) -/
  pendingStop : Option Nat := none
  /-- highest action in force: 1 STOP, 2 ERASE (R571) -/
  inForce : Nat := 0
  /-- TIME clocks from which a stop closes the gates, and from which its local stop sends sync packets only (R567) -/
  gateClk : Nat := 0
  syncClk : Nat := 0
deriving DecidableEq, Repr



/-! ## RIDGE and PAIR: the ring, heartbeats, lockstep and joins (spec/13) -/

/-- A node of the ring as discovery and the ring map carry it (R472, R473, R503). -/
structure RingNode where
  serial : Nat
  pos : Nat
  /-- cascade role from the straps: 0 MEMBER, 1 SUMMIT, 2 REFEREE -/
  role : Nat
  side : Bool := false
  part : Nat := 0
  siRev : Nat := 0
  fwRev : Nat := 0
  index : Nat := 0
  excluded : Bool := false
  /-- it stood in the map before (R472) -/
  known : Bool := false
deriving DecidableEq, Repr

/-- The latest heartbeat received from a node (R487), with the TIME clock of its arrival. -/
structure HbSeen where
  serial : Nat
  pos : Nat
  role : Nat
  side : Bool
  pairRole : Nat
  devState : Nat
  partnerLost : Bool
  diverged : Bool
  localStop : Bool
  misalign : Bool
  joining : Bool
  timeLocked : Bool
  health : Nat
  num : Nat
  epoch : Nat
  verdict : Nat
  clk : Nat
deriving DecidableEq, Repr

/-- What a CASCADE message carries (R111, R117, R124, R126 to R128, R220). `id` is the number by which the summit knows its packet. -/
inductive CascadeMsg where
  /-- `tag` is the tag of host software, `inner` the one that the summit assigned (R127) -/
  | forward (id : Nat) (inner : Byte) (bcast : Bool) (opcode tag : Byte) (target : Word) (body : List Word)
  /-- the summit has answered its packet TIMEOUT (R129) -/
  | withdraw (id : Nat)
  | forwardReply (id pos : Nat) (words : List Word)
  | batch (id f : Nat) (writes : List StagedWrite)
  | confirm (id pos : Nat)
  | cairn (id : Nat) (inner : Byte)
  | cairnDone (id pos time : Nat)
  | snapshot (id : Nat) (inner : Byte) (f : Nat) (entries : List Word)
  | snapshotReply (id pos : Nat) (words : List Word)
  | timeReset
deriving DecidableEq, Repr

/-- RIDGE (R463 to R473). Link states, the map and the flags stand in the RIDGE words. -/
structure RidgeSt where
  /-- what HELLO told of the node at the other end of each link (R467) -/
  peers : Tab (Option RingNode) := []
  /-- TIME clock at which the links began to train, and at which the present discovery began; of its latest DISCOVER (R472) -/
  trainClk : Option Nat := none
  findClk : Option Nat := none
  sentClk : Option Nat := none
  /-- nodes reached clockwise and counterclockwise by the present discovery, nearest first -/
  cw : List RingNode := []
  ccw : List RingNode := []
  /-- the ring map in force, clockwise from the summit, and the map that waits for its apply instant -/
  map : List RingNode := []
  mapNext : Option (Nat × List RingNode) := none
  /-- a map failure has been raised in this episode (R473) -/
  failRaised : Nat := 0
  seen : List HbSeen := []
  /-- TIME clock from which the referee's silence counts (R492) -/
  refClk : Nat := 0
  /-- a digest has been sent for this period (R358) -/
  sentDigest : Option Nat := none
  /-- messages of unknown type that were discarded (R467) -/
  unknown : Nat := 0
  /-- the latest CASCADE messages heard from one direction (clockwise or not) with their sender, whose other copy has not come (R467) -/
  heard : List (Bool × Byte × CascadeMsg) := []
deriving DecidableEq, Repr

/-- A verdict that waits for its apply instant (R490). -/
structure RoleVerdict where
  pos : Nat
  source : Nat
  number : Nat
  appoint : Nat
  at_ : Nat
  rule : Nat
deriving DecidableEq, Repr

/-- A write that waits for the partner's acknowledgement (R483). -/
structure Mirrored where
  number : Nat
  order : Nat
  /-- TIME clocks of the acceptance and of the latest sending -/
  acceptClk : Nat
  sentClk : Nat
  /-- the batch that a COMMIT has taken from its path (R121) -/
  batch : List StagedWrite := []
deriving DecidableEq, Repr

/-- What the referee keeps for a position: the runs of rules 2, 3, 5 and 6 of R489. -/
structure RefRuns where
  keeperGone : Nat := 0
  shadowGone : Nat := 0
  healthRun : Nat := 0
  candidateOnly : Nat := 0
  /-- the node last appointed: its serial number -/
  appointed : Option Nat := none
deriving DecidableEq, Repr

/-- What a MIRROR message carries (R467, R154, R175, R483). -/
inductive MirrorItem where
  /-- a write that the keeper accepted: opcode, target, body, and the boundary `q` of the keeper's acceptance (R614) -/
  | packet (opcode : Byte) (target : Word) (body : List Word) (q : Nat)
  /-- a batch scheduled for `f` (R109), with its place in the acceptance order -/
  | batch (rank f : Nat) (writes : List StagedWrite)
  /-- a layer, a program and a staged block with its number (R154) -/
  | layer (l : Layer)
  | program (p : Program)
  | block (c : Chan) (b : Staged)
  /-- STREAM words as they stand on the keeper at frame `f` (R154) -/
  | words (f : Nat) (ws : List (Nat × Word))
  /-- a slot image and its persistence (R175) -/
  | slot (n : Nat) (persist : Bool) (image : List Byte)
deriving DecidableEq, Repr

/-- PAIR (R475 to R505). Role and flags stand in the PAIR words. -/
structure PairSt where
  /-- role changes decided: apply instant and role (R477, R478) -/
  next : List (Nat × Nat) := []
  verdict : Option RoleVerdict := none
  /-- verdicts counted and ignored (R490) -/
  ignored : Nat := 0
  /-- source of the divergence found (R486) -/
  divSrc : Nat := 0
  /-- number of the partner's latest heartbeat, and number up to which misses have been counted (R488) -/
  hbLast : Option Nat := none
  hbCounted : Option Nat := none
  /-- a write went unacknowledged and no verdict has settled the pair since (R483) -/
  noAck : Bool := false
  nextMirror : Nat := 0
  mirrored : List Mirrored := []
  /-- sequence numbers applied on the partner's side, newest first (R483) -/
  applied : List Nat := []
  /-- items passed on after the cut instant of a join, until its capture is loaded (R494) -/
  held : List (Nat × MirrorItem) := []
  /-- own FILL_REQ and the partner's: frame and bitmap of missing channels; channels served (R480, R481) -/
  missing : Option (Nat × Nat) := none
  partnerMissing : Option (Nat × Nat) := none
  served : List Nat := []
  fillGot : Option Nat := none
  /-- CRC of each apply instant's CONTENT, newest first (R485) -/
  crcs : List (Nat × Nat) := []
  /-- number m of the latest lock check received, checks that did not come, µs of the latest that differed -/
  lockLast : Option Nat := none
  lockMissing : Nat := 0
  lockBad : Option Nat := none
  /-- admission frames that came before their block, by block number (R482) -/
  admits : Tab Nat := []
  /-- a join: TIME clock by which the phase must end, cut instant, join cairn, clock from which an automatic join may start again -/
  joinLimit : Option Nat := none
  joinBytes : Nat := 0
  joinCut : Option Nat := none
  joinAt : Option Nat := none
  joinDone : Option Nat := none
  retryClk : Option Nat := none
  /-- frames accepted since the cut, by channel (R494) -/
  replay : List (Nat × InFrame) := []
  /-- the candidate holds the captured state -/
  loaded : Bool := false
  /-- feedback samples of the keeper that did not come (R479) -/
  sampleMisses : Nat := 0
  /-- STREAM words of the keeper that wait for their frame (R154) -/
  streamWords : List (Nat × List (Nat × Word)) := []
  runs : Tab RefRuns := []
  /-- the verdict number issued last by this referee or host -/
  issued : Nat := 0
deriving DecidableEq, Repr


/-! ## THERM and CAL (spec/14) -/

/-- THERM (R506 to R520). Readings, bands and marks stand in the THERM words. -/
structure ThermSt where
  /-- the next cycle sets the band directly (R512) -/
  first : Bool := true
  /-- consecutive deviating cycles by sensor; sensors whose mark is due (R508) -/
  devRun : Tab Nat := []
  due : List Nat := []
  upRun : Nat := 0
  downRun : Nat := 0
  /-- own band decided and not yet taken by BAND_CHANGE, with its cycle instant in µs (R512) -/
  bandDue : Option (Nat × Nat) := none
  shutRun : Nat := 0
  critRun : Nat := 0
  tdRun : Tab Nat := []
  shutDue : Bool := false
  critDue : Bool := false
  /-- a TCRIT halt waits for its cause to clear (R520) -/
  coolRun : Nat := 0
  /-- consecutive cycles that each diode has read valid, and the diodes in an open episode (R507) -/
  tdGood : Tab Nat := []
  tdEpisode : List Nat := []
  quorumLost : Bool := false
  /-- consecutive cycles that the derating source has read valid, and its episode (R541) -/
  srcGood : Nat := 0
  srcEpisode : Bool := false
  /-- TIME clock at which the sequence of a thermal shutdown request began (R518) -/
  shutClk : Option Nat := none
  /-- changes of the POWER band not yet in force: apply instant, band (R514) -/
  power : List (Nat × Nat) := []
deriving DecidableEq, Repr

/-- A calibration target (R521 to R524). Taps and results stand in the CAL words. -/
structure CalTarget where
  queued : Bool := false
  /-- TIME clock of the start of the run in progress -/
  started : Option Nat := none
  /-- USED of the governing sensor at the cycle that queued the run -/
  temp : Nat := 0
  /-- centres of the last successful run -/
  phase : Nat := 32
  thresh : Nat := 16
  found : Bool := false
deriving DecidableEq, Repr

/-- CAL (R521 to R527). -/
structure CalSt where
  targets : Tab CalTarget := []
  /-- transmit presets in force, ridge and Ethernet (R513) -/
  ridgePreset : Nat := 5
  ethPreset : Nat := 3
deriving DecidableEq, Repr

/-! ## LIGHT (spec/15) -/

/-- A lamp string (R531 to R546). Its status stands in the LIGHT words. -/
structure LightStr where
  /-- PATTERN and LAMPS that its bypass latch holds, once loaded (R534, R535) -/
  latch : Option (Nat × Nat) := none
  /-- the output is high, and the device time in ns at which it rose and falls -/
  on : Bool := false
  rise : Nat := 0
  fall : Nat := 0
  /-- the pulse in progress is a stretch or a diagnostic pulse, belongs to a LIGHT_MEASURE, has been measured, has been hit by an exposure -/
  stretch : Bool := false
  asked : Bool := false
  measured : Bool := false
  hit : Bool := false
  /-- periods since the last placed stretch, periods refused in a row (R545) -/
  periods : Nat := 0
  refused : Nat := 0
  /-- strobe program: next pulse, whether it runs, skipped in the present stay in HALT (R538, R539) -/
  pulse : Nat := 0
  active : Bool := false
  haltSkip : Bool := false
  /-- judgement of the latest measurements (0 good, 1 open, 2 short), its count of lamps, how many in a row (R543) -/
  judged : Nat := 0
  count : Nat := 0
  run : Nat := 0
  /-- acceptance order of a LIGHT_MEASURE that waits (R548) -/
  ask : Option Nat := none
deriving DecidableEq, Repr

/-- LIGHT. -/
structure LightSt where
  strings : Tab LightStr := []
  /-- device time in ns at which the latest row load releases LED_COL (R534) -/
  loadEnd : Nat := 0
deriving DecidableEq, Repr

/-! ## What a hot join carries (R494) -/

/-- The state captured at the cut: what changes from frame to frame (R494). -/
structure Capture where
  c : Nat
  epoch : Nat
  words : List (Nat × Word)
  scheduled : List Scheduled
  stream : StreamSt
  seq : Tab SeqCh
  loop : LoopSt
  power : Tab PowCh
  ledger : LedgerSt
  col : ColSt
  axis : AxisSt
deriving DecidableEq, Repr

end Machine


/-! ## What ridge messages carry -/

/-- What a DIGEST_FILL message carries (R369): the request for the digests of positions for period `d`, and the partner's answer, its accepted
copy of one digest or its report that it has none. -/
inductive DigestFill where
  | request (d : Nat) (positions : List Nat)
  | answer (bytes : List Byte)
  | absent (d pos : Nat)
deriving DecidableEq, Repr

/-- What a MIRROR message carries (R467, R154, R175, R483). -/
abbrev MirrorItem := Machine.MirrorItem

/-- What a TRANSFER message carries (R494). -/
inductive TransferItem where
  | words (ws : List (Nat × Word))
  | ledger (l : Machine.LedgerSt)
  | staging (c : Chan) (blocks : List Machine.Staged)
  | slot (n : Nat) (persist : Bool) (image : List Byte)
  | journal (runs : List Machine.RunImage) (bases : List Machine.BaseImage)
  /-- the cut instant named by the ALONE device, and the state captured at it -/
  | cut (c : Nat)
  | capture (x : Machine.Capture)
  /-- frames of the replay log -/
  | replay (frames : List (Chan × Machine.InFrame))
  /-- the join cairn named by the candidate -/
  | cairn (l : Nat)
deriving DecidableEq, Repr

/-- What a CASCADE message carries (R111, R117, R124, R126 to R128, R220). -/
abbrev CascadeMsg := Machine.CascadeMsg


/-- Uncorrectable memory errors met in one window: scanner axis loops corrected and not, ledger words corrected and cells of lines that
could not be (R285, R345). -/
structure MemErrors where
  loopFixed : Nat := 0
  loopBad : List Nat := []
  ledgerFixed : Nat := 0
  ledgerBad : List Nat := []
deriving DecidableEq, Repr

/-- The lanes that one lane PLL serves (R39). -/
structure Lanes where
  stations : List Chan := []
  ridge : List (Fin 4) := []
  eth0 : Bool := false
  eth1 : Bool := false
  pcie : Bool := false
deriving DecidableEq, Repr

/-- The keeper's FBK_SAMPLE: the sixteen samples, ESTOP and LASER_ENABLE deasserted, and POWER band changes with their apply instants
(R427, R484, R514). -/
structure KeeperSample where
  axes : List FbkSample
  estop : Bool
  laserOff : Bool
  bands : List (Nat × Nat) := []
deriving DecidableEq, Repr

/-- A ridge message as it is received (R466). -/
abbrev RidgeMsg := Machine.RidgeMsg

/-- A ridge message but for its payload, which its row gives as bytes (R466). -/
abbrev RidgeHead := Machine.RidgeHead

/-- A write of CRING_PROD through BAR0 (R89), and before it the writes of ring words that the host has made there, by word index. -/
structure Doorbell where
  setup : List (Fin 12 × Word) := []
  prod : Nat
deriving DecidableEq, Repr

/-- A node as HELLO and DISCOVER name it. -/
abbrev RingNode := Machine.RingNode

/-- The result of a calibration scan (R523): first and last tap of the phase eye (none where no tap agrees), and of the threshold eye. -/
structure EyeScan where
  phase : Option (Nat × Nat)
  thresh : Option (Nat × Nat)
deriving DecidableEq, Repr

/-- The owner of an LPDDR5 region that failed (R594). -/
inductive MemRegion where
  | ledger (cell : Nat)
  | staging (c : Chan)
  | context (slot : Fin 256)
  | inbuf (stream : StreamNo)
  | firmware (core : Fin 4)
deriving DecidableEq, Repr

/-- The DMA user whose completion timed out (R593). -/
inductive DmaUser where
  | commandRing
  | replyRing
  | fetch (path : Path) (tag : Byte) (accepted : List Byte)
  | job (slot : Fin 256) (input : List Byte)
deriving DecidableEq, Repr



/-- The commands: one constructor for each row of spec/opcode_table.json. -/
inductive Instr where
  /-- GO_BUILD (R28): Write of SYS.DEV_STATE.GO_BUILD requests READY to BUILD; it is checked at acceptance and scheduled for q + 20. -/
  | goBuild (h : Hdr)
  /-- DRAIN (R28): Write of SYS.DEV_STATE.DRAIN requests BUILD to DRAIN; it is checked at acceptance and scheduled for q + 20. -/
  | drain (h : Hdr)
  /-- STOP (R28): Write of SYS.DEV_STATE.STOP requests an orderly stop to SAFE_STOP; it is checked at acceptance and scheduled for q + 20. -/
  | stop (h : Hdr)
  /-- RESUME (R28): Write of SYS.DEV_STATE.RESUME requests HALT to READY; it is refused with 0x0012 while a standing cause persists. -/
  | resume (h : Hdr)
  /-- DEV_STATE_REQUEST_ACT (R614): At apply instant q + 20 an accepted device state request is tested again and either resolved with the other triggers of that instant or lapses. -/
  | devStateRequestAct (f : Nat)
  /-- ONLINE (R34): Write of SEQ.CH_STATE.ONLINE requests OFFLINE to IDLE, with the station link required to be in frame lock. -/
  | online (h : Hdr) (c : Chan)
  /-- ARM (R34): Write of SEQ.CH_STATE.ARM requests IDLE to ARMED; it is refused without LASER_ENABLE (0x1801) or without a queued program (0x1802). -/
  | arm (h : Hdr) (c : Chan)
  /-- DISARM (R34): Write of SEQ.CH_STATE.DISARM requests ARMED or HOLD to IDLE. -/
  | disarm (h : Hdr) (c : Chan)
  /-- HOLD (R264): Write of SEQ.CH_STATE.HOLD requests RUNNING to HOLD at the instant that HOLD_AT selects. -/
  | hold (h : Hdr) (c : Chan)
  /-- RELEASE (R265): Write of SEQ.CH_STATE.RELEASE requests HOLD to RUNNING at q + 20. -/
  | release (h : Hdr) (c : Chan)
  /-- CLEAR (R34): Write of SEQ.CH_STATE.CLEAR requests SAFE or FAULT to IDLE once the cause is absent. -/
  | clear (h : Hdr) (c : Chan)
  /-- OFF (R34): Write of SEQ.CH_STATE.OFF requests any channel state to OFFLINE. -/
  | off (h : Hdr) (c : Chan)
  /-- CH_REQUEST_ACT (R263): At apply instant q + 20 an accepted channel request is tested again and either resolved under R35 or lapses. -/
  | chRequestAct (c : Chan) (f : Nat)
  /-- HOLD_AT_REST (R264): With HOLD_AT = 1, a pending hold takes effect at the first apply instant at or after q + 20 at which no duration record is active or starts. -/
  | holdAtRest (c : Chan) (f : Nat)
  /-- FRAME_BOUNDARY (R38): Device time reaches k µs: FBK forms the feedback sample, AXIS generators and step outputs advance, and other per-microsecond work runs. -/
  | frameBoundary (k : Nat) (lines : List (Nat × Bool × Bool))
  /-- INBOUND_FRAME_RX (R411): An inbound station frame is received and checked for CRC, KIND, length, SEQ and ECHO, and is accepted if it is valid by 600 ns. -/
  | inboundFrameRx (c : Chan) (t a : Nat) (bytes : List Byte)
  /-- INBOUND_ARRIVAL_DEADLINE (R40): At 600 ns into frame k the arrival deadline passes; on a pair, FILL_REQ is sent for the frames that are missing. -/
  | inboundArrivalDeadline (k : Nat)
  /-- FRAME_COMPUTE (R40): At the 900 ns point the frame samples, feed-forward and verdicts for k + 2 are fixed, the missing-frame rule applies, the triggers are resolved, and the loop window runs. -/
  | frameCompute (k : Nat) (errors : MemErrors)
  /-- CHANNEL_MISS_SAFE (R42): The third consecutive missing inbound frame moves the channel to SAFE with CHANNEL error 0x4012. -/
  | channelMissSafe (c : Chan) (k : Nat)
  /-- SAFE_STOP_50US_DEADLINE (R267): 50 µs after SAFE_STOP entry, every channel still RUNNING enters SAFE and starts its park move. -/
  | safeStopDeadline (f : Nat)
  /-- HALT_AFTER_PARK (R598): At k + 100 µs after the scanners counted as parked, the device passes from SAFE_STOP to HALT, whether or not the checkpoint was written. -/
  | haltAfterPark (f : Nat)
  /-- OUTBOUND_FRAME_TX (R401): At 1,550 ns the device starts each channel's command frame or sync packet for apply instant k + 2, with TX_LAG, optionally followed by a sideband slot. -/
  | outboundFrameTx (k lag : Nat)
  /-- ESTOP_ASSERT (R30): ESTOP_N falls: the hardware forces gate 0 within 3 µs and triggers SAFE_STOP with CAUSE 0x6. -/
  | estopAssert (t : Nat)
  /-- ESTOP_RELEASE (R47): ESTOP_N has stayed released for 100 µs without interruption, and the release is accepted. -/
  | estopRelease (t : Nat)
  /-- LASER_ENABLE_DEASSERT (R30): LASER_ENABLE falls: the hardware forces gate 0 within 3 µs and triggers SAFE_STOP with CAUSE 0x6. -/
  | laserEnableDeassert (t : Nat)
  /-- LASER_ENABLE_RELEASE (R47): LASER_ENABLE has stayed high for 100 µs without interruption, and the assertion is accepted. -/
  | laserEnableRelease (t : Nat)
  /-- MAIN_PLL_LOSS (R39): The main PLL loses lock and forces HALT at once. -/
  | mainPllLoss (t : Nat)
  /-- LANE_PLL_LOSS (R39): A lane PLL loses lock, and only the links it clocks go down under their own loss rules. -/
  | lanePllLoss (t : Nat) (lanes : Lanes)
  /-- PORST_N_ASSERT (R58): Power-on reset is asserted: everything except the key island resets, lanes go to electrical idle and FAULT_N is pulled low. -/
  | porstAssert (t : Nat)
  /-- PORST_N_RELEASE (R66): PORST_N rises: the straps are latched and boot begins at step 0. -/
  | porstRelease (t straps : Nat)
  /-- SYSRST_N_ASSERT (R58): System reset is asserted, with the PLL, straps, key island and journal retained. -/
  | sysrstAssert (t : Nat)
  /-- SYSRST_N_RELEASE (R194): SYSRST_N is released, and the time base restarts UNSTEPPED from 0 as the device reboots. -/
  | sysrstRelease (t : Nat)
  /-- PERST_N_ASSERT (R60): PERST_N resets HOSTIF and the PCIe path only, and the PCIe host path is treated as lost. -/
  | perstAssert (t : Nat)
  /-- PWRFAIL_N_ASSERT (R53): PWRFAIL_N is asserted: DEVICE error 0x0031 is raised, SAFE_STOP follows, and the journal commit starts. -/
  | pwrfailAssert (t : Nat)
  /-- STRAP_MISMATCH (R64): A live strap level differs from its latched value, which sets MISMATCH and raises a WARN event. -/
  | strapMismatch (t live : Nat)
  /-- MAIN_PLL_LOCK (R66): Boot step 0 completes as the main PLL and the lane PLLs lock, and idle symbols start on the STN lanes. -/
  | mainPllLock (t : Nat)
  /-- ROM_START_CHECK (R66): Boot step 1 completes with fuses, straps and key island checked; an invalid strap ends the boot with STRAP_BAD. -/
  | romStartCheck (t : Nat) (islandLost : Bool)
  /-- IMAGE_READ_DONE (R66): Boot step 2 completes when the firmware image has been read and hashed from its source. -/
  | imageReadDone (t : Nat) (image : Machine.FwImage)
  /-- IMAGE_AUTH_CHECK (R65): Boot step 3 completes the signature and rollback check; a refused image sets AUTH_FAIL and moves on to the next source. -/
  | imageAuthCheck (t : Nat)
  /-- LPDDR5_TRAINING_DONE (R66): Boot step 4 completes LPDDR5 training, or fails with TRAIN_FAIL. -/
  | lpddr5TrainingDone (t : Nat) (ok : Bool)
  /-- FIRMWARE_START (R66): Boot step 5 completes: firmware starts, SYS.FW_REV becomes nonzero and BAR2 is disabled. -/
  | firmwareStart (t : Nat)
  /-- JOURNAL_SCAN (R68): Boot step 6 completes the journal scan and unit initialization, and the device enters READY. -/
  | journalScan (t : Nat) (ok : Bool)
  /-- BOOT_STEP_TIMEOUT (R67): A boot step has not completed by its latest end time, and the boot ends with TIMEOUT. -/
  | bootStepTimeout (t : Nat)
  /-- BOOT_WINDOW_START (R70): A write of the image length to BAR2 offset 0x80_0000 starts boot steps 2 and 3 on the PCIe window. -/
  | bootWindowStart (t length : Nat)
  /-- ANALOG_THERMAL_TRIP (R519): The 125 °C comparator trips: THERMTRIP_N is latched low, the device enters HALT, and FATAL 0x5040 is logged. -/
  | analogThermalTrip (t : Nat) (logged : Bool)
  /-- CRING_DOORBELL (R90): A host write to CRING_PROD makes the device fetch every whole packet in the command ring. -/
  | cringDoorbell (t : Nat) (bell : Doorbell) (ring : List Word)
  /-- RING_RESET (R89): RING_CTRL.RESET clears all four ring indices and the RING_STAT error bits, and only while ENABLE = 0. -/
  | ringReset (via : Option Hdr)
  /-- REPLY_HELD_WRITE (R91): Once the reply ring has space, a held reply is written and RING_STAT.HELD falls. -/
  | replyHeldWrite (t cons : Nat)
  /-- UDP_DATAGRAM_RX (R94): A Dolyan datagram arrives on an Ethernet port, its header and source are checked, and its packets are accepted. -/
  | udpDatagramRx (t : Nat) (d : UdpFrame)
  /-- ARP_REQUEST (R93): An ARP request for a port's own address is answered. -/
  | arpRequest (t : Nat) (port : Bool) (mac : BitVec 48) (src dst : Word)
  /-- ICMP_ECHO (R93): An ICMP echo request for a port's own address is answered. -/
  | icmpEcho (t : Nat) (port : Bool) (mac : BitVec 48) (src dst : Word) (payload : List Byte)
  /-- NET_CMD_UDP_WRITE (R96): A change of a port's CMD_UDP enable bit or IPv4 address clears its source list and its kept outcomes. -/
  | netCmdUdpWrite (h : Hdr) (n : Fin 3) (v : Word)
  /-- NOP (R98): NOP does nothing and replies. -/
  | nop (p : Pkt)
  /-- IDENT (R99): IDENT returns the identity words, serial number, straps, state and roles. -/
  | ident (p : Pkt)
  /-- GET_PARAM (R115): GET_PARAM reads 1 to 1,024 consecutive parameter words at the next snapshot instant. -/
  | getParam (p : Pkt)
  /-- SET_PARAM (R105): SET_PARAM writes parameter words directly, or adds them to the path's staged batch; it is the write row for registers without a row of their own. -/
  | setParam (p : Pkt)
  /-- COMMIT (R109): COMMIT schedules the path's staged batch for frame f, or refuses it. -/
  | commit (p : Pkt)
  /-- COMMIT_APPLY (R19): At the commit frame, scheduled batches are applied in acceptance order before any launch is tested, and COMMIT replies. -/
  | commitApply (f : Nat)
  /-- SNAPSHOT (R116): SNAPSHOT reads up to 64 entries at one snapshot instant, optionally at a named frame or across the cascade. -/
  | snapshot (p : Pkt)
  /-- SNAPSHOT_AT_FRAME (R114): The named frame of a SNAPSHOT with AT_FRAME is reached, and the values are taken. -/
  | snapshotAtFrame (f : Nat)
  /-- CASCADE_SNAPSHOT_DEADLINE (R117): At frame + 20 µs the summit replies to a cascade snapshot, with absent positions marked. -/
  | cascadeSnapshotDeadline (f : Nat)
  /-- RESET_UNIT (R100): RESET_UNIT returns a unit's words to reset and ends its work as R101 and R611 state, or refuses. -/
  | resetUnit (p : Pkt)
  /-- SYS_RESET_BEGIN (R100): 10 µs after the reply to RESET_UNIT of SYS, the reset acts as SYSRST_N. -/
  | sysResetBegin
  /-- CAIRN (R123): CAIRN sets a barrier at path, device or cascade scope. -/
  | cairn (p : Pkt)
  /-- CAIRN_COMPLETE (R123): Every covered packet accepted before the cairn has completed, so the cairn replies and the packets held behind it start. -/
  | cairnComplete (path : Path) (tag : Byte)
  /-- CAIRN_TIMEOUT (R125): A cairn not complete within CAIRN_TIMEOUT replies TIMEOUT, and the packets held behind it are ABORTED. -/
  | cairnTimeout (path : Path) (tag : Byte)
  /-- FORWARD (R126): FORWARD carries an inner packet from the summit to one position, or to all positions. -/
  | forward (p : Pkt)
  /-- CASCADE_MSG_RX (R127): A CASCADE ridge message (forwarded packet, cascade commit, cairn, snapshot or reply) is received and acted on. -/
  | cascadeMsgRx (m : RidgeMsg) (c : CascadeMsg)
  /-- DISCARD (R112): DISCARD empties the path's staged batch. -/
  | discard (p : Pkt)
  /-- PACKET_TIMEOUT (R129): A packet not complete within PKT_TIMEOUT is answered TIMEOUT 0x02A1 with no effect. -/
  | packetTimeout (path : Path) (tag : Byte)
  /-- PCIE_PATH_LOSS (R130): A PCIe link-down or surprise removal loses the path: unstarted packets are discarded, the batch is dropped, and the loss log is written. -/
  | pciePathLoss (t : Nat)
  /-- ETH_PATH_LOSS (R130): After more than 10 ms without PCS block lock, an Ethernet host path is lost, with outcomes kept for retransmission. -/
  | ethPathLoss (t : Nat) (port : Bool)
  /-- HOST_PATH_RETURN (R130): A lost host path returns when the PCIe link is up again or PCS lock is regained. -/
  | hostPathReturn (t : Nat) (path : Path)
  /-- STREAM_OPEN (R132): STREAM_OPEN moves a FREE stream to OPEN. -/
  | streamOpen (p : Pkt)
  /-- STREAM_PUSH (R133): STREAM_PUSH appends body bytes to a stream's input buffer, accepting as many as fit. -/
  | streamPush (p : Pkt)
  /-- STREAM_FETCH (R134): STREAM_FETCH starts a DMA read of stream bytes from host memory over PCIe. -/
  | streamFetch (p : Pkt)
  /-- STREAM_FETCH_COMPLETE (R135): The DMA of a STREAM_FETCH ends, and the reply reports the bytes accepted. -/
  | streamFetchComplete (path : Path) (tag : Byte) (bytes : List Byte)
  /-- STREAM_CLOSE (R137): STREAM_CLOSE ends a stream, optionally aborting it or saving its context. -/
  | streamClose (p : Pkt)
  /-- STREAM_HEADER_PARSE (R139): The 32-byte stream header in the input buffer is checked, the key and context are bound, and the channel holds are taken. -/
  | streamHeaderParse (n : StreamNo)
  /-- CHUNK_PROCESS (R140): A chunk lying whole in the input buffer is framed, checked, decrypted and passed on for decompression. -/
  | chunkProcess (n : StreamNo)
  /-- DECODE_RESUME (R172): A stream decoder that stopped for output room continues once the parser has made room. -/
  | decodeResume (n : StreamNo)
  /-- CONTAINER_PAD (R144): A PAD container is parsed and ignored. -/
  | containerPad (n : StreamNo)
  /-- CONTAINER_LAYER (R145): A LAYER container is parsed and checked in order; it closes the layer two before it. -/
  | containerLayer (n : StreamNo)
  /-- CONTAINER_PROGRAM (R145): A PROGRAM container is parsed and checked against its layer and the stream's channels. -/
  | containerProgram (n : StreamNo)
  /-- CONTAINER_BLOCK (R144): A BLOCK container is parsed and its records are validated for staging. -/
  | containerBlock (n : StreamNo)
  /-- CONTAINER_STREAM_END (R145): STREAM_END is parsed, the last layers close, and the stream becomes ENDED. -/
  | containerStreamEnd (n : StreamNo)
  /-- CHANNEL_HOLD_TAKE (R146): A waiting stream takes hold of a channel once the previous holder reaches FREE, DONE or STOPPED. -/
  | channelHoldTake (n : StreamNo) (c : Chan)
  /-- BLOCK_STAGE (R152): A parsed block is placed whole in its channel's staging area once there is room, and is mirrored to a partner. -/
  | blockStage (n : StreamNo)
  /-- BLOCK_ADMISSION (R153): From its admission frame, up to four eligible records per frame move from staging into the channel's queue. -/
  | blockAdmission (c : Chan) (q : Nat)
  /-- BROKEN_PROGRAM_FAULT (R158): At the last valid record, or at the layer START, a channel with a broken program enters FAULT with the block's detail. -/
  | brokenProgramFault (c : Chan)
  /-- STREAM_DONE (R138): An ENDED stream whose programs have all completed becomes DONE. -/
  | streamDone (n : StreamNo)
  /-- PACK_JOB (R179): PACK_JOB queues an encode or decode job on a slot. -/
  | packJob (p : Pkt)
  /-- JOB_START (R189): A queued job starts on an engine that has become available. -/
  | jobStart
  /-- JOB_QUEUE_TIMEOUT (R184): A job not started within PKT_TIMEOUT is answered TIMEOUT and releases its slot. -/
  | jobQueueTimeout (slot : Fin 256)
  /-- JOB_COMPLETE (R181): A job ends DONE or STOPPED with exact counts, or with the slot BROKEN after an error. -/
  | jobComplete (slot : Fin 256) (input : List Byte) (dmaFail : Bool)
  /-- CTX_SEED (R177): CTX_SEED installs a seed dictionary in a slot. -/
  | ctxSeed (p : Pkt)
  /-- CTX_PERSIST (R178): CTX_PERSIST sets or clears a slot's persistence and writes or erases its journal images. -/
  | ctxPersist (p : Pkt)
  /-- ENGINE_SWITCH (R189): Stream or telemetry work leaves its engine at the quantum or when it has no input, and ready work is switched in. -/
  | engineSwitch (e : Fin 6)
  /-- TELEMETRY_CHUNK (R185): A telemetry chunk closes at CHUNK_MAX or at a flush and is sent. -/
  | telemetryChunk (feed : Fin 16) (flush : Bool)
  /-- TELEMETRY_FEED_START (R187): A feed whose slot was HELD starts with a FRESH chunk once the slot is free. -/
  | telemetryFeedStart (feed : Fin 16)
  /-- TIME_STEP (R219): TIME_STEP steps an UNSTEPPED time base once by a host offset and enters HOLDOVER. -/
  | timeStep (p : Pkt)
  /-- TIME_RESET (R220): TIME_RESET returns the time base to UNSTEPPED across the cascade, at rest only. -/
  | timeReset (p : Pkt)
  /-- TIME_VERDICT (R209): TIME_VERDICT settles a refused jump with STAY or SLEW. -/
  | timeVerdict (p : Pkt)
  /-- SLEW_END (R209): The computed slew duration expires, SLEWING clears and the rate returns to I. -/
  | slewEnd
  /-- CAP_READ (R230): CAP_READ removes and returns entries from a capture FIFO. -/
  | capRead (p : Pkt)
  /-- PTP_MESSAGE_RX (R200): A PTP message is received and time-stamped on the active port. -/
  | ptpMessageRx (t : Nat) (port : Bool) (m : PtpMsg) (stamp : Nat)
  /-- PTP_SYNC_TX (R202): As PTP master, the port sends Sync at its log sync interval. -/
  | ptpSyncTx (t stamp : Nat)
  /-- PTP_MEASUREMENT (R206): An offset measurement completes and is given to the servo, or is handled under the jump rule. -/
  | ptpMeasurement
  /-- PTP_FIRST_STEP (R203): Three consecutive consistent measurements step an UNSTEPPED time base, which enters LOCKED. -/
  | ptpFirstStep
  /-- JUMP_REFUSED (R207): JUMP_SEEN reaches JUMP_COUNT: the time base enters HOLDOVER with cause 3, and WARN 0x0820 is raised. -/
  | jumpRefused
  /-- HOLDOVER_EXIT (R199): JUMP_COUNT consecutive in-threshold measurements return the time base from HOLDOVER to LOCKED. -/
  | holdoverExit
  /-- ANNOUNCE_RECEIPT_TIMEOUT (R205): announceReceiptTimeout expires, the master is lost, and the time base enters HOLDOVER with cause 2. -/
  | announceReceiptTimeout (t : Nat)
  /-- SYNC_LOSS (R205): Four sync intervals pass without a measurement, the master is lost, and HOLDOVER follows. -/
  | syncLoss (t : Nat)
  /-- PTP_PORT_SWITCH (R204): With AUTO_PORT, a PCS lock loss above 10 ms moves PTP to the other port. -/
  | ptpPortSwitch (t : Nat)
  /-- TIME_CFG_SOURCE_CHANGE (R221): A write that changes CFG.SOURCE or PTP_PORT while LOCKED enters HOLDOVER with cause 2. -/
  | timeCfgSourceChange (h : Hdr) (v : Word)
  /-- TRIG_PULSE_RISE (R223): A TRIG pulse falls due under DUE with its tie slip, and the output goes active. -/
  | trigPulseRise (t : Nat) (n : Fin 24)
  /-- TRIG_PULSE_FALL (R223): WIDTH after the due instant, the TRIG output goes inactive. -/
  | trigPulseFall (t : Nat) (n : Fin 24)
  /-- CAP_EDGE (R228): An edge on a CAP input is stamped and stored in its FIFO. -/
  | capEdge (t : Nat) (n : Fin 8) (rising : Bool)
  /-- MARKER_SEND (R213): Every 100 µs the summit sends a time marker in both ring directions. -/
  | markerSend (t : Nat)
  /-- MARKER_RX (R215): A member receives a marker, forwards it with corrections, and runs its hardware servo. -/
  | markerRx (m : RidgeMsg) (k : Marker) (residence : Nat)
  /-- MARKER_DIRECTION_CHANGE (R213): After three consecutive missing markers, a member changes the direction it uses. -/
  | markerDirectionChange (t : Nat)
  /-- MARKER_LOSS_HOLDOVER (R213): After 1 ms with no marker from either direction, a member enters HOLDOVER with cause 2. -/
  | markerLossHoldover (t : Nat)
  /-- MEMBER_STEP (R215): Once markers have been valid for 1 ms, a member steps once and locks. -/
  | memberStep
  /-- MISALIGN (R216): Ten consecutive markers with an offset above MISALIGN_NS set MISALIGN and raise UNIT 0x0822. -/
  | misalign
  /-- RIDGE_DELAY_MEASURE (R214): Every 1 ms each ridge link measures its delay by round trip. -/
  | ridgeDelayMeasure (t : Nat) (link : Fin 4) (delay : Half)
  /-- ABSORB_APPLY_PENDING (R235): A pending ABSORB amount is applied, clamped, once the channel is OFFLINE, IDLE or ARMED. -/
  | absorbApplyPending (c : Chan) (f : Nat)
  /-- LAYER_START (R268): Device time reaches a layer's START, the layer starts, and INFO 0x1840 is raised. -/
  | layerStart (n : StreamNo) (layer : Word)
  /-- SCAN_FLUSH (R271): SCAN_FLUSH discards the queued and staged records of a channel and marks their programs void. -/
  | scanFlush (p : Pkt)
  /-- SCAN_TABLE_LOAD (R275): SCAN_TABLE_LOAD writes grid nodes into an inactive buffer and updates its CRC. -/
  | scanTableLoad (p : Pkt)
  /-- SCAN_PLAN (R279): SCAN_PLAN returns the plans of queued timed records. -/
  | scanPlan (p : Pkt)
  /-- OSCILLATION_TRIP (R298): OSC.COUNT crossings within OSC_WIN frames trip the axis, and its channel enters SAFE with 0x2010. -/
  | oscillationTrip (c : Chan)
  /-- SATURATION_TRIP (R299): SAT_FRAMES consecutive saturated evaluations trip the axis, and its channel enters SAFE with 0x2011. -/
  | saturationTrip (c : Chan)
  /-- FOLLOWING_ERROR_TRIP (R305): FE_COUNT reaches FE_TIME and trips the axis with 0x2020, which puts it in FAULT. -/
  | followingErrorTrip (a : AxisNo)
  /-- TRACE_ARM (R311): TRACE_ARM empties all buffers and enters ARMED. -/
  | traceArm (p : Pkt)
  /-- TRACE_STOP (R311): TRACE_STOP ends a capture in DONE. -/
  | traceStop (p : Pkt)
  /-- TRACE_READ (R312): TRACE_READ returns the samples of a probe. -/
  | traceRead (p : Pkt)
  /-- TRACE_FORCE (R311): TRACE_FORCE triggers at the next sampled instant. -/
  | traceForce (p : Pkt)
  /-- TRACE_DONE (R310): The post-trigger samples are stored, and the trace enters DONE. -/
  | traceDone
  /-- EMISSION_MONITOR_TRIP (R328): MON_RUN reaches MON_COUNT, and the MON_ACT action (count, WARN 0x2801, or SAFE with 0x2802) follows. -/
  | emissionMonitorTrip (c : Chan)
  /-- LEDGER_READ (R348): LEDGER_READ returns the decayed energies of a rectangle of cells. -/
  | ledgerRead (p : Pkt)
  /-- LEDGER_FILL (R349): LEDGER_FILL schedules a rectangle fill at apply instant h. -/
  | ledgerFill (p : Pkt)
  /-- LEDGER_FILL_APPLY (R349): At h the fill sets its cells and the reply is sent. -/
  | ledgerFillApply (h : Nat)
  /-- DIGEST_TRANSMIT (R358): At d − 400 ns the digest is sent on the ridge ring by an ALONE or KEEPER device. -/
  | digestTransmit (d : Nat)
  /-- DIGEST_RX (R368): A digest from another position is checked and accepted, or discarded. -/
  | digestRx (h : RidgeHead) (payload : List Byte)
  /-- DIGEST_DEADLINE (R376): At d + 8 µs the arrival deadline passes; a pair requests missing digests, and absences are counted. -/
  | digestDeadline (d : Nat)
  /-- DIGEST_FILL (R369): A DIGEST_FILL request or answer between partners is received and served. -/
  | digestFill (m : RidgeMsg) (d : DigestFill)
  /-- PAIR_CHECKS_START (R383): At d + 9 µs the pair units begin the 65,536 TEST slots of the period. -/
  | pairChecksStart (d : Nat)
  /-- VERDICT_FIX (R374): At d + 16 µs the verdicts of window w are fixed, and LOSE deferrals are scheduled. -/
  | verdictFix (d : Nat)
  /-- YIELD_WARN (R382): A channel that has lost YIELD_WARN consecutive windows raises WARN 0x3011. -/
  | yieldWarn (c : Chan)
  /-- COL_READ (R384): COL_READ returns the digest judged for a position. -/
  | colRead (p : Pkt)
  /-- SYMBOL_LOCK_ACQUIRED (R394): A station receiver acquires symbol lock after three aligned K28.5 code groups, and the port enters SYMBOL. -/
  | symbolLockAcquired (t : Nat) (c : Chan)
  /-- SYMBOL_LOCK_LOST (R422): Four invalid code groups within 16 lose symbol lock; the port goes DOWN with WARN 0x4013. -/
  | symbolLockLost (t : Nat) (c : Chan)
  /-- LINK_OFFLINE_TIMEOUT (R34): After 100 µs without symbol lock, the channel goes OFFLINE. -/
  | linkOfflineTimeout (t : Nat) (c : Chan)
  /-- FRAME_LOCK_ENTRY (R421): With TURN and δ in range, LINK_DELAY acknowledged and eight frames accepted, the port enters FRAME_LOCK. -/
  | frameLockEntry (c : Chan)
  /-- FRAME_LOCK_LOSS (R420): 64 consecutive missing inbound frames return the port from FRAME_LOCK to MEASURE. -/
  | frameLockLoss (c : Chan)
  /-- SIDEBAND_REPLY_RX (R414): A READ_ACK, WRITE_ACK or NAK sideband slot from the station is received. -/
  | sidebandReplyRx (t : Nat) (c : Chan) (bytes : List Byte)
  /-- SIDEBAND_TIMEOUT (R415): After 16 ticks without a reply the request is resent, up to three times, and then fails. -/
  | sidebandTimeout (c : Chan)
  /-- SB_GO (R418): SB_CTRL.GO sends a mailbox READ or WRITE to a station register. -/
  | sbGo (h : Hdr) (c : Chan) (v : Word)
  /-- QUADRATURE_CHANGE (R430): An accepted change of A or B counts ±1. -/
  | quadratureChange (t : Nat) (a : AxisNo) (la lb : Bool)
  /-- INDEX_EVENT (R432): A qualified rise of IDX latches IDX_POS. -/
  | indexEvent (t : Nat) (a : AxisNo)
  /-- HALL_CHANGE (R434): A change of hall state counts, or is reported as skipped or invalid. -/
  | hallChange (t : Nat) (a : AxisNo) (hall : Fin 8)
  /-- SERIAL_FRAME_START (R436): At a scheduled microsecond, a BiSS-C or SSI frame starts on AX_MA. -/
  | serialFrameStart (t : Nat) (a : AxisNo)
  /-- SERIAL_READING_COMPLETE (R437): A valid serial reading updates the position counter. -/
  | serialReadingComplete (t : Nat) (a : AxisNo) (code : Nat) (nE nW : Bool) (crc : Nat)
  /-- SERIAL_READING_MISSING (R438): A bad or unended serial frame is missing: SER_ERR counts, and the next start is skipped. -/
  | serialReadingMissing (t : Nat) (a : AxisNo)
  /-- SERIAL_FEEDBACK_LOST (R438): Four consecutive missing readings move the axis to FAULT with 0x3906. -/
  | serialFeedbackLost (t : Nat) (a : AxisNo)
  /-- SPEED_STILL (R440): No counted change for STILL_US sets SPEED to 0 and sets STILL. -/
  | speedStill (t : Nat) (a : AxisNo)
  /-- PROBE_EDGE (R442): A matching probe edge latches PROBE_POS and PROBE_T and disarms the probe. -/
  | probeEdge (t : Nat) (a : AxisNo) (level : Bool)
  /-- HOME_EDGE (R442): An accepted AX_HOME edge is latched for homing. -/
  | homeEdge (t : Nat) (a : AxisNo) (level : Bool)
  /-- HOME_LEVEL_ACCEPT (R455): The home input has stood HOME_STAB µs at its awaited level, and the homing phase advances. -/
  | homeLevelAccept (k : Nat) (a : AxisNo)
  /-- AXIS_MOVE (R459): AXIS_MOVE queues up to 16 moves. -/
  | axisMove (p : Pkt)
  /-- AXIS_STOP (R458): AXIS_STOP stops an axis hard or by ramp and flushes its queue. -/
  | axisStop (p : Pkt)
  /-- AXIS_HOME (R454): AXIS_HOME starts homing. -/
  | axisHome (p : Pkt)
  /-- AXIS_CLEAR (R453): AXIS_CLEAR returns a FAULT axis to IDLE. -/
  | axisClear (p : Pkt)
  /-- AXIS_SET_POS (R457): AXIS_SET_POS applies a position offset to an IDLE or DISABLED axis. -/
  | axisSetPos (p : Pkt)
  /-- PROBE_ARM (R442): PROBE_ARM arms an axis's probe. -/
  | probeArm (p : Pkt)
  /-- AXIS_REQUEST_ACT (R447): An axis request or a move entering the queue acts at apply instant q + 20. -/
  | axisRequestAct (a : AxisNo) (f : Nat)
  /-- FBK_SAMPLE_RX (R427): The shadow receives the keeper's feedback sample with safety levels and band changes. -/
  | fbkSampleRx (m : RidgeMsg) (k : Nat) (x : KeeperSample)
  /-- KEEPER_SAMPLE_MISSING (R427): At t + 900 ns without the keeper's sample, the shadow uses its own and counts the miss. -/
  | keeperSampleMissing (k : Nat)
  /-- EPISODE_END (R429): 1,000 µs without a further occurrence end an event episode. -/
  | episodeEnd (t : Nat)
  /-- RIDGE_LINK_UP (R464): A ridge link gains Clause 49 block lock and exchanges HELLO. -/
  | ridgeLinkUp (t : Nat) (link : Fin 4)
  /-- RIDGE_LINK_DOWN (R469): A ridge link loses block lock; the connection runs on its other link or goes down, opening the ring. -/
  | ridgeLinkDown (t : Nat) (link : Fin 4)
  /-- HELLO_RX (R467): A HELLO from a neighbour is received during training. -/
  | helloRx (h : RidgeHead) (payload : List Byte) (node : RingNode)
  /-- DISCOVER_SEND (R472): The summit sends DISCOVER, repeating every 10 ms until the ring is closed or 1 s has passed. -/
  | discoverSend (t : Nat)
  /-- DISCOVER_RX (R472): A DISCOVER copy is appended to and forwarded, or at the summit it builds and checks the map. -/
  | discoverRx (h : RidgeHead) (payload : List Byte) (ended : Bool) (nodes : List RingNode)
  /-- NO_SUMMIT_TIMEOUT (R473): After 1 s with no summit, every node raises UNIT 0x4810. -/
  | noSummitTimeout (t : Nat)
  /-- MAP_RX (R472): A MAP message naming its apply instant is received. -/
  | mapRx (m : RidgeMsg) (at_ : Nat) (nodes : List RingNode)
  /-- MAP_APPLY (R478): At the map's apply instant, each node takes its index and pair role. -/
  | mapApply (f : Nat)
  /-- HEARTBEAT_TX (R487): At each multiple of 100 µs every node sends its heartbeat. -/
  | heartbeatTx (n : Nat)
  /-- HEARTBEAT_RX (R487): A heartbeat is received and recorded. -/
  | heartbeatRx (h : RidgeHead) (payload : List Byte)
  /-- PARTNER_HEARTBEAT_LOSS (R488): HB_LOSS missed partner heartbeats set PARTNER_LOST and raise WARN 0x4930. -/
  | partnerHeartbeatLoss (n : Nat)
  /-- FILL_REQ_RX (R480): A partner's FILL_REQ is received, and FILL_DATA is sent with up to four frames. -/
  | fillReqRx (h : RidgeHead) (payload : List Byte) (k : Nat)
  /-- FILL_DATA_RX (R481): FILL_DATA is received and checked, and the served frames count as accepted. -/
  | fillDataRx (h : RidgeHead) (payload : List Byte) (k : Nat)
  /-- ADMIT_RX (R482): The partner receives an ADMIT naming a staged block's admission frame. -/
  | admitRx (m : RidgeMsg) (number q : Nat)
  /-- ADMIT_DEADLINE (R482): 3 µs before an admission frame without ADMIT, the partner admits nothing and diverges. -/
  | admitDeadline (number f : Nat)
  /-- MIRROR_RX (R483): A mirrored write, request, commit, block or image is applied once and acknowledged. -/
  | mirrorRx (m : RidgeMsg) (number : Nat) (x : MirrorItem)
  /-- MIRROR_ACK_RX (R483): The keeper receives the partner's acknowledgement, applies the write and replies. -/
  | mirrorAckRx (m : RidgeMsg) (number : Nat)
  /-- MIRROR_RESEND (R483): Every 50 µs an unacknowledged mirrored write is sent again. -/
  | mirrorResend (t number : Nat)
  /-- MIRROR_ACK_TIMEOUT (R483): 200 µs without acknowledgement refuses the write with 0x4931 and causes divergence. -/
  | mirrorAckTimeout (t number : Nat)
  /-- LOCK_CHECK_TX (R485): Every 10 apply instants, a device sends its partner ten frame CRCs. -/
  | lockCheckTx (m : Nat)
  /-- LOCK_CHECK_RX (R485): A partner's lock check is compared with the device's own CRCs. -/
  | lockCheckRx (h : RidgeHead) (payload : List Byte) (n : Nat)
  /-- REFEREE_EVALUATION (R489): At HB_NUM × 100 + 20 µs the referee applies its rules to each pair and issues verdicts. -/
  | refereeEvaluation (n : Nat)
  /-- VERDICT_RX (R490): A VERDICT message is received and accepted or ignored by number. -/
  | verdictRx (h : RidgeHead) (payload : List Byte)
  /-- VERDICT_APPLY (R490): At the verdict's apply instant the roles change, or from the first instant still buildable when it arrived late. -/
  | verdictApply (v : Nat)
  /-- REFEREE_LOST (R492): 1 ms without a referee heartbeat sets REF_LOST and raises WARN 0x4932. -/
  | refereeLost (t : Nat)
  /-- PAIR_JOIN (R493): PAIR_JOIN starts a hot join on the ALONE device. -/
  | pairJoin (p : Pkt)
  /-- AUTO_JOIN_START (R493): With AUTO_JOIN, a join starts once its conditions hold. -/
  | autoJoinStart (t : Nat)
  /-- TRANSFER_RX (R494): The candidate receives TRANSFER state during a join. -/
  | transferRx (m : RidgeMsg) (x : TransferItem) (bytes : Nat)
  /-- JOIN_COPY_DONE (R494): The COPY phase completes, and the ALONE device names the cut instant C. -/
  | joinCopyDone (t : Nat)
  /-- JOIN_CUT (R494): At C, the frame-varying state is captured and sent, and the replay log starts. -/
  | joinCut (c : Nat)
  /-- JOIN_REPLAY_CAUGHT_UP (R494): The candidate builds frames ahead of their deadlines and names the join cairn L. -/
  | joinReplayCaughtUp (t : Nat)
  /-- JOIN_CAIRN (R495): At L the candidate becomes SHADOW and the ALONE device becomes KEEPER, with INFO 0x4950. -/
  | joinCairn (l : Nat)
  /-- JOIN_ABORT (R496): A join is aborted by a phase limit, a verdict, a connection loss or a lock mismatch, with WARN 0x4951. -/
  | joinAbort (t : Nat)
  /-- JOIN_RETRY (R496): With AUTO_JOIN, an aborted join starts again after 1 s. -/
  | joinRetry (t : Nat)
  /-- PAIR_SWAP (R497): PAIR_SWAP schedules an exchange of keeper and shadow at instant v. -/
  | pairSwap (p : Pkt)
  /-- PAIR_SWAP_APPLY (R497): At v the roles are exchanged, and outputs and digests pass to the new keeper. -/
  | pairSwapApply (v : Nat)
  /-- PAIR_DROP (R498): PAIR_DROP schedules the shadow to become CANDIDATE at v. -/
  | pairDrop (p : Pkt)
  /-- PAIR_DROP_APPLY (R498): At v the shadow becomes CANDIDATE and the keeper becomes ALONE. -/
  | pairDropApply (v : Nat)
  /-- PAIR_VERDICT (R491): PAIR_VERDICT sends a host verdict on the ring from a device of summit role. -/
  | pairVerdict (p : Pkt)
  /-- THERM_CYCLE (R506): Every 10 µs all sensors are converted and the thermal decisions are taken. -/
  | thermCycle (c : Nat) (raws : List (Option Int)) (diodes : List (Option Int))
  /-- SENSOR_FAILED (R508): A sensor deviating for 10,000 cycles, or out of range, is marked failed with WARN 0x5001. -/
  | sensorFailed (n : Fin 16)
  /-- BAND_CHANGE (R512): Three cycles above the next threshold, or 100 below the hysteresis, move the own band by one step. -/
  | bandChange
  /-- POWER_BAND_APPLY (R514): At c + 200 µs the POWER band changes. -/
  | powerBandApply (f : Nat)
  /-- THERMAL_SHUTDOWN_REQUEST (R516): Three cycles above TSHUT or a diode limit latch the request, with UNIT 0x5010, and SAFE_STOP follows. -/
  | thermalShutdownRequest
  /-- TCRIT_HALT (R518): Three cycles above TCRIT raise FATAL 0x5032 and enter HALT. -/
  | tcritHalt
  /-- SHUTDOWN_LIMIT_EXPIRY (R518): A thermal sequence not in HALT within SHUT_LIMIT raises FATAL 0x5031 and enters HALT. -/
  | shutdownLimitExpiry (t : Nat)
  /-- THERMAL_CAUSE_CLEAR (R520): 100,000 cool cycles set CAUSE_CLEAR. -/
  | thermalCauseClear
  /-- CAL_RUN_START (R522): A queued calibration run starts when fewer than eight are running, or is dropped if its link is down. -/
  | calRunStart (t : Nat)
  /-- CAL_RUN_END (R523): A calibration run ends, setting new tap targets or failing with WARN 0x5102. -/
  | calRunEnd (t : Nat) (target : Fin 84) (eye : EyeScan)
  /-- CAL_RUN (R527): CAL_RUN queues a run and replies with its result. -/
  | calRun (p : Pkt)
  /-- SENSOR_READMIT (R527): SENSOR_READMIT clears a sensor's failed mark. -/
  | sensorReadmit (p : Pkt)
  /-- PWM_PERIOD_START (R537): A string's PWM period begins, its on-time is fixed, and LED_PWM rises. -/
  | pwmPeriodStart (t : Nat) (n : Fin 8)
  /-- PWM_OFF (R537): The on-time of a PWM period expires, and LED_PWM falls. -/
  | pwmOff (t : Nat) (n : Fin 8)
  /-- ROW_LOAD (R534): A pending bypass pattern is loaded into a string's latch during an off-time of at least 150 clocks. -/
  | rowLoad (t : Nat) (n : Fin 8)
  /-- STROBE_RISE (R538): A strobe pulse falls due, and LED_PWM rises. -/
  | strobeRise (t : Nat) (n : Fin 8)
  /-- STROBE_FALL (R538): W after the due instant, the strobe ends. -/
  | strobeFall (t : Nat) (n : Fin 8)
  /-- LAMP_MEASUREMENT (R542): The 4 µs window closes, and the sense measurement is judged good, open or short. -/
  | lampMeasurement (t : Nat) (n : Fin 8) (codes : List (Fin 4096))
  /-- LAMP_FAULT_DECLARE (R543): FAULT_CNT equal judgements declare an open or shorted lamp, with WARN 0x5801 or 0x5802. -/
  | lampFaultDeclare (n : Fin 8)
  /-- LAMP_OFF_FAULT (R544): With LAMP_ACT, a declared fault holds the string dark, with WARN 0x5803. -/
  | lampOffFault (t : Nat) (n : Fin 8)
  /-- LAMP_FAULT_CLEAR (R543): FAULT_CNT good measurements clear a lamp fault. -/
  | lampFaultClear (n : Fin 8)
  /-- STRETCH_STARVED (R545): 1,024 refused periods set STARVED and raise WARN 0x5804. -/
  | stretchStarved (n : Fin 8)
  /-- LIGHT_CLEAR (R548): LIGHT_CLEAR clears a string's lamp fault state. -/
  | lightClear (p : Pkt)
  /-- LIGHT_MEASURE (R548): LIGHT_MEASURE takes one lamp measurement at the next allowed slot. -/
  | lightMeasure (p : Pkt)
  /-- HUSK_INIT (R555): HUSK_INIT installs the device key over PCIe. -/
  | huskInit (p : Pkt)
  /-- HUSK_POLICY (R563): HUSK_POLICY sets the alarm policy once. -/
  | huskPolicy (p : Pkt)
  /-- KEY_LOAD (R557): KEY_LOAD unwraps a stream key into a slot. -/
  | keyLoad (p : Pkt)
  /-- KEY_CLEAR (R558): KEY_CLEAR erases a slot's key. -/
  | keyClear (p : Pkt)
  /-- HUSK_ACK (R572): HUSK_ACK clears STAT.STOP when no stop source remains. -/
  | huskAck (p : Pkt)
  /-- HUSK_ZEROIZE (R573): HUSK_ZEROIZE erases every key and plaintext, clears the policy, and empties the island. -/
  | huskZeroize (p : Pkt)
  /-- MESH_CHECK (R562): Every 10 ms the lid mesh is checked, and an open or short raises the MESH alarm. -/
  | meshCheck (t : Nat) (bad battery : Bool)
  /-- VOLT_ALARM (R562): A watched rail is out of tolerance and raises the VOLT alarm. -/
  | voltAlarm (t : Nat)
  /-- CLOCK_ALARM (R562): REFCLK is out of range against the island oscillator and raises the CLOCK alarm. -/
  | clockAlarm (t : Nat)
  /-- TEMP_CHECK (R562): The island temperature check runs and raises the TEMP alarm when out of range. -/
  | tempCheck (t : Nat) (bad battery : Bool)
  /-- DEBUG_ALARM (R562): A JTAG instruction other than IDCODE or BYPASS raises the DEBUG alarm. -/
  | debugAlarm (t : Nat)
  /-- AUTH_ALARM (R561): AUTH_FAILS.RUN reaches AUTH_LIMIT and raises the AUTH alarm. -/
  | authAlarm (t : Nat)
  /-- ZEROIZATION_COMPLETE (R568): Zeroization of the plaintext completes, and ZEROIZING clears. -/
  | zeroizationComplete (t : Nat)
  /-- VBAT_CHECK (R553): Every 10 s VBAT_KEY is compared with 2.4 V, which sets VBAT_LOW and raises WARN 0x6002 when below. -/
  | vbatCheck (t millivolts : Nat)
  /-- ERR_RECORD_RELEASE (R588): 20 µs after its TIME, a record is released in order to the queue, the log and telemetry. -/
  | errRecordRelease
  /-- LOG_RATE_EPISODE_END (R587): 10 ms with no record kept out ends a log-rate episode. -/
  | logRateEpisodeEnd (t : Nat)
  /-- LOG_WRITE_TIMEOUT (R587): An MRAM log write unacknowledged for 1 ms sets LOG_FAIL. -/
  | logWriteTimeout (t : Nat)
  /-- PCIE_COMPLETION_TIMEOUT (R593): A DMA read completion times out and acts per its user. -/
  | pcieCompletionTimeout (t : Nat) (user : DmaUser)
  /-- LPDDR5_TIMEOUT (R594): An LPDDR5 request not done in 2 µs is retried, and a second failure goes to the region owner. -/
  | lpddr5Timeout (t : Nat) (noData retryFailed : Bool) (region : MemRegion)
  /-- WATCHDOG_EXPIRY (R595): A firmware core's watchdog expires, and the core restarts with UNIT 0x6840. -/
  | watchdogExpiry (t : Nat) (core : Fin 4)
  /-- CORE_RESTART_COMPLETE (R595): A restarted core resumes and answers its accepted packets. -/
  | coreRestartComplete (t : Nat) (core : Fin 4)
  /-- REPEATED_RESTART (R595): A third restart of one core within 1 s raises DEVICE 0x6841. -/
  | repeatedRestart (t : Nat) (core : Fin 4)
  /-- CHECKPOINT_PERIODIC (R598): At each multiple of CKPT_MS in BUILD or DRAIN, a reason 0 checkpoint begins. -/
  | checkpointPeriodic (k : Nat)
  /-- CHECKPOINT_PWRFAIL (R598): At the first frame boundary after PWRFAIL_N, the held records are logged and a reason 2 checkpoint begins. -/
  | checkpointPwrfail (k : Nat)
  /-- CHECKPOINT_WRITE_DONE (R598): A RUN checkpoint write completes, with its BASE written if needed. -/
  | checkpointWriteDone (t : Nat)
  /-- BASE_WRITE_DONE (R597): A BASE parameter image write completes. -/
  | baseWriteDone (t : Nat)
  /-- CHECKPOINT_WRITE_FAIL (R600): An unacknowledged checkpoint write fails, sets WRITE_FAIL and raises UNIT 0x6820. -/
  | checkpointWriteFail (t : Nat)
  /-- ERR_READ (R605): ERR_READ returns, and unless PEEK is set removes, the oldest queued records. -/
  | errRead (p : Pkt)
  /-- LOG_READ (R605): LOG_READ returns log records from a given NUMBER. -/
  | logRead (p : Pkt)
  /-- ERR_ACK (R605): ERR_ACK closes the UNIT head of a unit. -/
  | errAck (p : Pkt)
  /-- JOURNAL_INFO (R605): JOURNAL_INFO describes the newest valid checkpoint and its predecessor. -/
  | journalInfo (p : Pkt)
  /-- JOURNAL_READ (R605): JOURNAL_READ returns words of the newest valid RUN. -/
  | journalRead (p : Pkt)
  /-- JOURNAL_RESTORE (R602): JOURNAL_RESTORE schedules the named BASE image as one commit at frame f. -/
  | journalRestore (p : Pkt)
  /-- JOURNAL_RESTORE_APPLY (R601): At f the restored parameter image is applied as one change of the epoch. -/
  | journalRestoreApply (f : Nat)
  /-- CHECKPOINT (R605): CHECKPOINT takes a reason 4 checkpoint and replies once it is written. -/
  | checkpoint (p : Pkt)
  /-- PWRFAIL_N_RELEASE (R613): PWRFAIL_N returns high, which ends the PWRFAIL standing cause that blocks RESUME. -/
  | pwrfailRelease (t : Nat)
  /-- PERST_N_RELEASE (R72): PERST_N is released, HOSTIF leaves reset and PCIe link training begins. -/
  | perstRelease (t : Nat)
  /-- MAIN_PLL_RELOCK (R613): The main PLL regains lock after a loss, which ends the PLL standing cause. -/
  | mainPllRelock (t : Nat)
  /-- ALARM_SOURCE_DEASSERT (R562): A continuously watched husk source (VOLT, CLOCK or DEBUG) ceases to hold its condition and deasserts in STAT.ASSERTED. -/
  | alarmSourceDeassert (t : Nat) (source : Fin 6)
  /-- DELAY_REQ_TX (R202): As PTP slave, or in peer-to-peer mode, the port sends Delay_Req or Pdelay_Req on its own schedule. -/
  | delayReqTx (t stamp : Nat)
  /-- CONTEXT_JOURNAL_WRITE_DONE (R173): The MRAM journal write of a persistent context image completes, and the CTX_PERSIST reply that waits on it is sent. -/
  | contextJournalWriteDone (slot : Fin 256)
  /-- DIAGNOSTIC_PULSE_START (R546): In MODE 3 with W under 4,000 ns, a separate 1,000-clock diagnostic pulse rises at the midpoint between strobe pulses n and n + 1 when it passes the placement test. -/
  | diagnosticPulseStart (t : Nat) (n : Fin 8)
  /-- INTERRUPT_MODERATION_EXPIRY (R89): The MOD_US interval expires, and a reply interrupt withheld by moderation is raised on RING_CTRL.VECTOR. -/
  | interruptModerationExpiry
deriving DecidableEq, Repr

end Sys2Proof
end

