-- ==== Sys2Proof/Decode.lean ====
section
/-!
DEFINITION. Sys2Proof/Decode.lean: the command that a word spells by the bits of spec/opcode_table.json. The table gives bits to none
of its 285 rows: commands are packets, register writes and events (spec/03 R79, R97), not words.
-/
namespace Sys2Proof

/-- No row of the table has bits, so no word spells a command (log entry 3). (DESIGN CHOICE, log entry 3.) -/
def decodeTableWord (_nbits _w : Nat) : Option Instr := none

end Sys2Proof
end

