-- ==== Sys2Proof/Config.lean ====
section
/-!
DEFINITION. Sys2Proof/Config.lean: values that the specification leaves open. Each is an opaque constant, so that nothing can be
proved about the value it gives; notes/assumptions names each of them.
-/
namespace Sys2Proof.Config

/-- What a signed 32-bit field holds when its exact value lies outside it and the specification states no result: a setpoint of
R273, a feed-forward of R239. (DESIGN CHOICE, log entry 4.) -/
opaque outside32 : Int → BitVec 32

/-- The queue position that the event 0x1821 carries (R266), of which the specification gives no numbering: from the channel and the TIME
clock of the event. (DESIGN CHOICE, log entry 6.) -/
opaque queuePosition : Nat → Nat → BitVec 32

/-- What a signed 16-bit field holds when its exact value lies outside it and the specification states no result. (DESIGN CHOICE, log entry 5.) -/
opaque outside16 : Int → BitVec 16

/-- The two-colour ratio that is reported, and not used, when band 2 measures 0 (R322, R323), from band 1. (DESIGN CHOICE, log entry 7.) -/
opaque ratioByZero : Nat → BitVec 16

/-- Whether a mean that ends in one half is rounded up where the specification names no rounding (R510), from twice the mean. (DESIGN CHOICE, log entry 8.) -/
opaque halfUp : Int → Bool

/-- USED of a failed on-die sensor when no sensor is valid (R510), from the sensor and the cycle. (DESIGN CHOICE, log entry 9.) -/
opaque usedUnknown : Nat → Nat → BitVec 16

/-- The word at an index of the header of a RUN checkpoint, from its number, base number, k, reason, epoch, boot count and FW_REV: the
specification names the fields and not their places (R598). (DESIGN CHOICE, log entry 10.) -/
opaque runHeader : List Nat → Nat → BitVec 32

/-- The word at an index of a stream entry (kind 0) or an axis entry (kind 1) of a RUN checkpoint, from its fields (R598). -/
opaque runEntry : Nat → List Int → Nat → BitVec 32

/-- The low byte of the detail of the WARN event of R64, which the specification does not give. (DESIGN CHOICE, log entry 11.) -/
opaque strapDetail : BitVec 8

/-- The firmware core that serves the packet with an acceptance number: R595 does not say how packets are divided. (DESIGN CHOICE, log entry 12.) -/
opaque coreOf : Nat → BitVec 2

/-- The path field of IDENT on the ridge path, which R99 does not name. (DESIGN CHOICE, log entry 13.) -/
opaque ridgePathCode : BitVec 4

/-- The time between the arrival of a Pdelay_Req and the departure of its Pdelay_Resp in 2^-16 ns, from the TIME clock of the arrival: the
specification gives the MAC no such time (R200, R202). (DESIGN CHOICE, log entry 202.) -/
opaque pdelayTurn : Nat → BitVec 32

/-- Whether every other device of the cascade is without a channel in ARMED, RUNNING or HOLD and without a scheduled commit, as TIME_RESET asks
(R220), from the TIME clock: nothing that they send tells it. (DESIGN CHOICE, log entry 54.) -/
opaque othersAtRest : Nat → Bool

end Sys2Proof.Config
end

