-- ==== Sys2Proof/Machine/RegTable.lean ====
section
/-!
DEFINITION. Sys2Proof/Machine/RegTable.lean: the parameter words of every unit, field by field, as the
tables of the chapters give them (access codes of R7, reset values, ranges, and whether the word is a
commit word or a direct word under R106). One list per unit; a word that several channels, axes, strings
and so on share is given once, with the strides and counts of its repetitions.
-/
namespace Sys2Proof.Machine

/-- Access codes of R7. -/
inductive Access where
  | rw | ro | rc | w1c | wo | cmd
deriving DecidableEq, Repr

/-- One field of a parameter word: its low bit, its width, its access code (R7), its reset value and, where
the table states a range narrower than the field, that range (a signed range starts below 0). -/
structure RegField where
  lo : Nat
  width : Nat
  acc : Access
  rst : Nat
  range : Option (Int × Int)
deriving DecidableEq, Repr

/-- One parameter word of a unit, or one family of repeated words. `perCh` marks a word of each channel's block
of 1,024 words (R102); `dims` lists the stride and count of each further repetition. -/
structure RegWord where
  base : Nat
  perCh : Bool
  dims : List (Nat × Nat)
  commit : Bool
  fields : List RegField
deriving DecidableEq, Repr

/-- A field of a parameter word at a given address: the name by which the meanings read and write it. -/
structure Fld where
  addr : Nat
  lo : Nat
  width : Nat
deriving DecidableEq, Repr

/-- The parameter address of word `w` of unit `u` (R102). -/
def wordAddr (u w : Nat) : Nat := u * 65536 + w

/-- The parameter address of word `w` of channel `c`'s block in the per-channel unit `u` (R102). -/
def chanAddr (u c w : Nat) : Nat := u * 65536 + c * 1024 + w

/-- The words of SYS (unit 0x00): spec/00_scope.md R1, spec/01_architecture.md R26, spec/01_architecture.md R613, spec/02_package_power_reset.md R61, spec/02_package_power_reset.md R64, spec/02_package_power_reset.md R71. -/
def wordsSYS : List RegWord := [
  ⟨0x0, false, [], false, [⟨0, 16, .ro, 18263, none⟩]⟩,
  ⟨0x1, false, [], false, [⟨0, 16, .ro, 25602, none⟩, ⟨16, 8, .ro, 77, none⟩]⟩,
  ⟨0x2, false, [], false, [⟨0, 8, .ro, 0, none⟩, ⟨8, 8, .ro, 0, none⟩, ⟨16, 8, .ro, 0, none⟩]⟩,
  ⟨0x3, false, [], false, [⟨0, 16, .ro, 0, none⟩, ⟨16, 8, .ro, 0, none⟩, ⟨24, 8, .ro, 0, none⟩]⟩,
  ⟨0x10, false, [], false, [⟨0, 3, .ro, 0, none⟩, ⟨4, 4, .ro, 0, none⟩, ⟨8, 1, .cmd, 0, none⟩, ⟨9, 1, .cmd, 0, none⟩, ⟨10, 1, .cmd, 0, none⟩, ⟨11, 1, .cmd, 0, none⟩, ⟨16, 16, .ro, 0, none⟩]⟩,
  ⟨0x11, false, [], false, [⟨0, 1, .ro, 0, none⟩, ⟨1, 1, .ro, 0, none⟩, ⟨2, 1, .ro, 0, none⟩, ⟨3, 1, .ro, 0, none⟩, ⟨4, 1, .ro, 0, none⟩, ⟨5, 1, .ro, 0, none⟩, ⟨6, 1, .ro, 0, none⟩]⟩,
  ⟨0x20, false, [], false, [⟨0, 4, .ro, 0, none⟩, ⟨4, 2, .ro, 0, none⟩, ⟨6, 2, .ro, 0, none⟩, ⟨16, 4, .ro, 0, none⟩, ⟨20, 2, .ro, 0, none⟩, ⟨22, 2, .ro, 0, none⟩, ⟨24, 1, .w1c, 0, none⟩]⟩,
  ⟨0x21, false, [], false, [⟨0, 4, .ro, 0, none⟩, ⟨4, 2, .ro, 0, none⟩, ⟨6, 1, .ro, 0, none⟩, ⟨7, 1, .ro, 0, none⟩, ⟨8, 1, .ro, 0, none⟩, ⟨9, 1, .ro, 0, none⟩, ⟨10, 1, .ro, 0, none⟩, ⟨11, 1, .ro, 0, none⟩, ⟨12, 1, .ro, 0, none⟩, ⟨16, 16, .ro, 0, none⟩]⟩,
  ⟨0x22, false, [], false, [⟨0, 1, .w1c, 1, none⟩, ⟨1, 1, .w1c, 0, none⟩, ⟨2, 1, .w1c, 0, none⟩, ⟨3, 1, .w1c, 0, none⟩, ⟨4, 1, .w1c, 0, none⟩, ⟨5, 1, .w1c, 0, none⟩, ⟨6, 1, .w1c, 0, none⟩]⟩]

/-- The words of HOSTIF (unit 0x01): spec/03_command_protocol.md R131, spec/03_command_protocol.md R89. -/
def wordsHOSTIF : List RegWord := [
  ⟨0x0, false, [], false, [⟨12, 20, .rw, 0, none⟩]⟩,
  ⟨0x1, false, [], false, [⟨0, 32, .rw, 0, none⟩]⟩,
  ⟨0x2, false, [], false, [⟨0, 5, .rw, 14, some (14, 22)⟩]⟩,
  ⟨0x3, false, [], false, [⟨0, 20, .rw, 0, none⟩]⟩,
  ⟨0x4, false, [], false, [⟨0, 20, .ro, 0, none⟩]⟩,
  ⟨0x5, false, [], false, [⟨12, 20, .rw, 0, none⟩]⟩,
  ⟨0x6, false, [], false, [⟨0, 32, .rw, 0, none⟩]⟩,
  ⟨0x7, false, [], false, [⟨0, 5, .rw, 14, some (14, 22)⟩]⟩,
  ⟨0x8, false, [], false, [⟨0, 20, .ro, 0, none⟩]⟩,
  ⟨0x9, false, [], false, [⟨0, 20, .rw, 0, none⟩]⟩,
  ⟨0xA, false, [], false, [⟨0, 1, .rw, 0, none⟩, ⟨1, 1, .cmd, 0, none⟩, ⟨8, 8, .rw, 0, none⟩, ⟨16, 5, .rw, 0, none⟩]⟩,
  ⟨0xB, false, [], false, [⟨0, 1, .ro, 0, none⟩, ⟨1, 1, .w1c, 0, none⟩, ⟨2, 1, .w1c, 0, none⟩, ⟨3, 1, .w1c, 0, none⟩, ⟨4, 1, .w1c, 0, none⟩, ⟨8, 9, .ro, 0, none⟩]⟩,
  ⟨0x10, false, [], false, [⟨0, 9, .ro, 0, none⟩, ⟨16, 9, .ro, 0, none⟩, ⟨31, 1, .w1c, 0, none⟩]⟩]

/-- The words of CMD (unit 0x02): spec/03_command_protocol.md R113. -/
def wordsCMD : List RegWord := [
  ⟨0x0, false, [], false, [⟨0, 32, .ro, 0, none⟩]⟩,
  ⟨0x1, false, [], false, [⟨0, 32, .ro, 0, none⟩]⟩,
  ⟨0x8, false, [], false, [⟨0, 16, .rw, 100, none⟩]⟩,
  ⟨0x9, false, [], false, [⟨0, 16, .rw, 1000, none⟩]⟩,
  ⟨0xC, false, [], false, [⟨0, 13, .ro, 0, none⟩]⟩,
  ⟨0xD, false, [], false, [⟨0, 13, .ro, 0, none⟩]⟩,
  ⟨0xE, false, [], false, [⟨0, 13, .ro, 0, none⟩]⟩,
  ⟨0x10, false, [], true, [⟨0, 32, .rw, 0, none⟩]⟩,
  ⟨0x11, false, [], false, [⟨0, 5, .ro, 0, none⟩]⟩]

/-- The words of FAB (unit 0x03): spec/17_faults_recovery.md R607. -/
def wordsFAB : List RegWord := [
  ⟨0x0, false, [], false, [⟨0, 32, .rc, 0, none⟩]⟩,
  ⟨0x100, false, [(1, 256)], false, [⟨0, 4, .rw, 0, some (1, 15)⟩]⟩]

/-- The words of MEM (unit 0x04): spec/17_faults_recovery.md R608. -/
def wordsMEM : List RegWord := [
  ⟨0x0, false, [], false, [⟨0, 16, .rc, 0, none⟩, ⟨16, 16, .rc, 0, none⟩]⟩,
  ⟨0x1, false, [], false, [⟨0, 16, .rc, 0, none⟩, ⟨16, 16, .rc, 0, none⟩]⟩,
  ⟨0x2, false, [], false, [⟨0, 2, .ro, 0, none⟩, ⟨2, 1, .ro, 0, none⟩, ⟨3, 1, .ro, 0, none⟩]⟩]

/-- The words of TIME (unit 0x08): spec/06_time_base.md R221, spec/06_time_base.md R227, spec/06_time_base.md R231. -/
def wordsTIMEPart0 : List RegWord := [
  ⟨0x0, false, [], false, [⟨0, 2, .ro, 0, none⟩, ⟨2, 2, .ro, 0, none⟩, ⟨4, 1, .ro, 0, none⟩, ⟨5, 1, .ro, 0, none⟩, ⟨6, 3, .ro, 0, none⟩, ⟨9, 1, .w1c, 0, none⟩, ⟨10, 1, .w1c, 0, none⟩, ⟨11, 1, .w1c, 0, none⟩, ⟨16, 4, .ro, 0, none⟩, ⟨24, 8, .ro, 0, none⟩]⟩,
  ⟨0x1, false, [], false, [⟨0, 32, .ro, 0, none⟩]⟩,
  ⟨0x2, false, [], false, [⟨0, 32, .ro, 0, none⟩]⟩,
  ⟨0x3, false, [], false, [⟨0, 32, .ro, 0, none⟩]⟩,
  ⟨0x4, false, [], false, [⟨0, 32, .ro, 0, none⟩]⟩,
  ⟨0x5, false, [], false, [⟨0, 32, .ro, 0, none⟩]⟩,
  ⟨0x6, false, [], false, [⟨0, 32, .ro, 0, none⟩]⟩,
  ⟨0x7, false, [], false, [⟨0, 32, .ro, 0, none⟩]⟩,
  ⟨0x8, false, [], false, [⟨0, 32, .ro, 0, none⟩]⟩,
  ⟨0x9, false, [], false, [⟨0, 32, .ro, 0, none⟩]⟩,
  ⟨0x10, false, [], false, [⟨0, 1, .rw, 0, none⟩, ⟨1, 1, .rw, 0, none⟩, ⟨2, 1, .rw, 0, none⟩, ⟨3, 1, .rw, 0, none⟩, ⟨4, 1, .rw, 0, none⟩, ⟨5, 1, .rw, 0, none⟩, ⟨6, 1, .rw, 0, none⟩, ⟨16, 7, .rw, 0, none⟩, ⟨24, 4, .rw, 13, some ((-4), 1)⟩]⟩,
  ⟨0x11, false, [], false, [⟨0, 8, .rw, 128, none⟩, ⟨8, 8, .rw, 128, none⟩, ⟨16, 8, .rw, 248, none⟩]⟩,
  ⟨0x12, false, [], false, [⟨0, 4, .rw, 1, some (0, 8)⟩, ⟨4, 4, .rw, 4, some (0, 12)⟩, ⟨16, 10, .rw, 200, some (1, 1000)⟩]⟩,
  ⟨0x13, false, [], false, [⟨0, 32, .rw, 0, none⟩]⟩,
  ⟨0x18, false, [(1, 4)], false, [⟨0, 32, .ro, 0, none⟩]⟩,
  ⟨0x40, false, [], true, [⟨0, 20, .rw, 1000, some (100, 1000000)⟩]⟩,
  ⟨0x41, false, [], true, [⟨0, 4, .rw, 3, some (1, 15)⟩]⟩,
  ⟨0x42, false, [], true, [⟨0, 17, .rw, 50000, some (1000, 100000)⟩]⟩,
  ⟨0x43, false, [], true, [⟨0, 8, .rw, 20, some (2, 255)⟩]⟩,
  ⟨0x100, false, [(8, 24)], true, [⟨0, 2, .rw, 0, some (0, 2)⟩, ⟨2, 1, .rw, 0, none⟩, ⟨3, 1, .rw, 0, none⟩, ⟨4, 6, .rw, 0, none⟩]⟩,
  ⟨0x101, false, [(8, 24)], true, [⟨0, 32, .rw, 0, none⟩]⟩,
  ⟨0x102, false, [(8, 24)], true, [⟨0, 16, .rw, 0, none⟩]⟩,
  ⟨0x103, false, [(8, 24)], true, [⟨0, 32, .rw, 0, none⟩]⟩,
  ⟨0x104, false, [(8, 24)], true, [⟨0, 16, .rw, 0, none⟩]⟩]

/-- Further words of TIME. -/
def wordsTIMEPart1 : List RegWord := [
  ⟨0x105, false, [(8, 24)], true, [⟨0, 24, .rw, 8, none⟩]⟩,
  ⟨0x106, false, [(8, 24)], true, [⟨0, 32, .rw, 0, none⟩]⟩,
  ⟨0x107, false, [(8, 24)], false, [⟨0, 1, .ro, 0, none⟩, ⟨1, 1, .w1c, 0, none⟩, ⟨2, 1, .w1c, 0, none⟩, ⟨16, 16, .rc, 0, none⟩]⟩,
  ⟨0x200, false, [(2, 8)], false, [⟨0, 2, .rw, 0, none⟩]⟩,
  ⟨0x201, false, [(2, 8)], false, [⟨0, 5, .ro, 0, none⟩, ⟨16, 16, .rc, 0, none⟩]⟩]

/-- All words of TIME. -/
def wordsTIME : List RegWord := wordsTIMEPart0 ++ wordsTIMEPart1

/-- The words of NET (unit 0x09): spec/03_command_protocol.md R131, spec/03_command_protocol.md R93. -/
def wordsNET : List RegWord := [
  ⟨0x10, false, [], false, [⟨0, 32, .rw, 0, none⟩]⟩,
  ⟨0x11, false, [], false, [⟨0, 32, .rw, 0, none⟩]⟩,
  ⟨0x12, false, [], false, [⟨0, 16, .rw, 47056, none⟩, ⟨16, 1, .rw, 0, none⟩, ⟨17, 1, .rw, 0, none⟩]⟩,
  ⟨0x18, false, [], false, [⟨0, 9, .ro, 0, none⟩, ⟨16, 9, .ro, 0, none⟩, ⟨31, 1, .w1c, 0, none⟩]⟩,
  ⟨0x19, false, [], false, [⟨0, 9, .ro, 0, none⟩, ⟨16, 9, .ro, 0, none⟩, ⟨31, 1, .w1c, 0, none⟩]⟩]

/-- The words of STREAM (unit 0x10): spec/04_build_stream.md R159. -/
def wordsSTREAM : List RegWord := [
  ⟨0x0, false, [], false, [⟨0, 15, .rw, 1024, some (64, 16384)⟩]⟩,
  ⟨0x100, false, [(8, 256)], false, [⟨0, 3, .ro, 0, none⟩, ⟨3, 1, .ro, 0, none⟩, ⟨4, 1, .ro, 0, none⟩, ⟨5, 1, .ro, 0, none⟩, ⟨8, 8, .ro, 0, none⟩, ⟨16, 16, .ro, 0, none⟩]⟩,
  ⟨0x101, false, [(8, 256)], false, [⟨0, 32, .ro, 0, none⟩]⟩,
  ⟨0x102, false, [(8, 256)], false, [⟨0, 32, .ro, 0, none⟩]⟩,
  ⟨0x103, false, [(8, 256)], false, [⟨0, 21, .ro, 0, none⟩]⟩,
  ⟨0x104, false, [(8, 256)], false, [⟨0, 32, .ro, 0, none⟩]⟩,
  ⟨0x105, false, [(8, 256)], false, [⟨0, 32, .ro, 0, none⟩]⟩,
  ⟨0x106, false, [(8, 256)], false, [⟨0, 32, .ro, 4294967295, none⟩]⟩,
  ⟨0x107, false, [(8, 256)], false, [⟨0, 32, .ro, 4294967295, none⟩]⟩,
  ⟨0xA00, false, [(1, 64)], false, [⟨0, 8, .ro, 0, none⟩, ⟨8, 1, .ro, 0, none⟩, ⟨9, 1, .ro, 0, none⟩, ⟨16, 16, .ro, 0, none⟩]⟩,
  ⟨0xA40, false, [(1, 64)], false, [⟨0, 32, .rc, 0, none⟩]⟩]

/-- The words of PACK (unit 0x11): spec/05_compression.md R191. -/
def wordsPACK : List RegWord := [
  ⟨0x0, false, [], false, [⟨0, 3, .rw, 4, some (1, 6)⟩, ⟨4, 2, .rw, 1, some (0, 2)⟩, ⟨8, 12, .rw, 1024, some (64, 4095)⟩]⟩,
  ⟨0x1, false, [], false, [⟨0, 6, .ro, 0, none⟩, ⟨8, 3, .ro, 0, none⟩, ⟨16, 10, .ro, 0, none⟩, ⟨26, 4, .ro, 0, none⟩]⟩,
  ⟨0x10, false, [(1, 6)], false, [⟨0, 8, .ro, 0, none⟩, ⟨8, 1, .ro, 0, none⟩, ⟨9, 2, .ro, 0, none⟩, ⟨16, 16, .rc, 0, none⟩]⟩,
  ⟨0x20, false, [], false, [⟨0, 8, .rw, 64, some (1, 255)⟩, ⟨8, 8, .rw, 240, some (0, 240)⟩, ⟨16, 6, .rw, 32, some (1, 32)⟩]⟩,
  ⟨0x100, false, [(1, 256)], false, [⟨0, 2, .ro, 0, none⟩, ⟨2, 1, .ro, 0, none⟩, ⟨3, 2, .ro, 0, none⟩, ⟨5, 1, .ro, 0, none⟩, ⟨6, 1, .ro, 0, none⟩, ⟨7, 1, .ro, 1, none⟩, ⟨8, 1, .ro, 0, none⟩, ⟨12, 4, .ro, 8, none⟩, ⟨16, 16, .ro, 0, none⟩]⟩]

/-- The words of SEQ (unit 0x18): spec/01_architecture.md R31, spec/06_time_base.md R237, spec/07_scan_execution.md R280. -/
def wordsSEQPart0 : List RegWord := [
  ⟨0x0, true, [], false, [⟨0, 3, .ro, 0, none⟩, ⟨3, 1, .ro, 0, none⟩, ⟨8, 1, .cmd, 0, none⟩, ⟨9, 1, .cmd, 0, none⟩, ⟨10, 1, .cmd, 0, none⟩, ⟨11, 1, .cmd, 0, none⟩, ⟨12, 1, .cmd, 0, none⟩, ⟨13, 1, .cmd, 0, none⟩, ⟨14, 1, .cmd, 0, none⟩, ⟨16, 8, .ro, 0, none⟩]⟩,
  ⟨0x1, true, [], false, [⟨0, 1, .ro, 0, none⟩, ⟨1, 1, .ro, 0, none⟩, ⟨2, 1, .ro, 0, none⟩, ⟨3, 1, .ro, 0, none⟩, ⟨4, 1, .ro, 0, none⟩, ⟨5, 1, .ro, 0, none⟩, ⟨6, 1, .ro, 0, none⟩, ⟨8, 4, .ro, 0, none⟩, ⟨16, 11, .ro, 0, none⟩]⟩,
  ⟨0x2, true, [], false, [⟨0, 32, .ro, 0, none⟩]⟩,
  ⟨0x3, true, [], false, [⟨0, 32, .rc, 0, none⟩]⟩,
  ⟨0x4, true, [], false, [⟨0, 16, .rc, 0, none⟩, ⟨16, 16, .rc, 0, none⟩]⟩,
  ⟨0x5, true, [], false, [⟨0, 16, .rc, 0, none⟩, ⟨16, 16, .rc, 0, none⟩]⟩,
  ⟨0x6, true, [], false, [⟨0, 32, .ro, 0, none⟩]⟩,
  ⟨0x7, true, [], false, [⟨0, 32, .ro, 0, none⟩]⟩,
  ⟨0x8, true, [], false, [⟨0, 32, .ro, 4294967295, none⟩]⟩,
  ⟨0x9, true, [], false, [⟨0, 32, .ro, 0, none⟩]⟩,
  ⟨0xA, true, [], false, [⟨0, 32, .ro, 0, none⟩]⟩,
  ⟨0xB, true, [], false, [⟨0, 32, .ro, 0, none⟩]⟩,
  ⟨0xC, true, [], false, [⟨0, 32, .ro, 0, none⟩]⟩,
  ⟨0x10, true, [], false, [⟨0, 32, .ro, 0, none⟩]⟩,
  ⟨0x11, true, [], false, [⟨0, 32, .ro, 0, none⟩]⟩,
  ⟨0x12, true, [], false, [⟨0, 32, .ro, 0, none⟩]⟩,
  ⟨0x13, true, [], false, [⟨0, 32, .ro, 0, none⟩]⟩,
  ⟨0x14, true, [], false, [⟨0, 32, .ro, 0, none⟩]⟩,
  ⟨0x15, true, [], true, [⟨0, 31, .wo, 0, none⟩]⟩,
  ⟨0x16, true, [], false, [⟨0, 32, .ro, 0, none⟩]⟩,
  ⟨0x17, true, [], false, [⟨0, 1, .ro, 0, none⟩, ⟨1, 1, .w1c, 0, none⟩]⟩,
  ⟨0x20, true, [], true, [⟨0, 32, .rw, 2000000, some (1000, 100000000)⟩]⟩,
  ⟨0x21, true, [], true, [⟨0, 32, .rw, 5120, some (1, 2147483647)⟩]⟩,
  ⟨0x22, true, [], true, [⟨0, 32, .rw, 5000000, some (1000, 100000000)⟩]⟩]

/-- Further words of SEQ. -/
def wordsSEQPart1 : List RegWord := [
  ⟨0x23, true, [], true, [⟨0, 32, .rw, 10240, some (1, 2147483647)⟩]⟩,
  ⟨0x24, true, [], true, [⟨0, 32, .rw, 500000, some (1000, 100000000)⟩]⟩,
  ⟨0x25, true, [], true, [⟨0, 32, .rw, 256, some (1, 2147483647)⟩]⟩,
  ⟨0x26, true, [], true, [⟨0, 16, .rw, 100, some (0, 65534)⟩, ⟨16, 16, .rw, 5000, none⟩]⟩,
  ⟨0x27, true, [], true, [⟨0, 16, .rw, 4096, none⟩]⟩,
  ⟨0x28, true, [], true, [⟨0, 1, .rw, 1, none⟩, ⟨8, 24, .rw, 10000, some (1, 16777215)⟩]⟩,
  ⟨0x29, true, [], true, [⟨0, 32, .rw, 0, none⟩]⟩,
  ⟨0x2A, true, [], true, [⟨0, 32, .rw, 0, none⟩]⟩,
  ⟨0x2B, true, [], true, [⟨0, 32, .rw, 0, none⟩]⟩,
  ⟨0x30, true, [], true, [⟨0, 1, .rw, 0, none⟩]⟩,
  ⟨0x31, true, [], true, [⟨0, 32, .rw, 1073741824, none⟩]⟩,
  ⟨0x32, true, [], true, [⟨0, 32, .rw, 0, none⟩]⟩,
  ⟨0x33, true, [], true, [⟨0, 32, .rw, 0, none⟩]⟩,
  ⟨0x34, true, [], true, [⟨0, 32, .rw, 1073741824, none⟩]⟩,
  ⟨0x35, true, [], true, [⟨0, 32, .rw, 0, none⟩]⟩,
  ⟨0x36, true, [], true, [⟨0, 32, .rw, 0, none⟩]⟩,
  ⟨0x37, true, [], true, [⟨0, 32, .rw, 0, none⟩]⟩,
  ⟨0x38, true, [], true, [⟨0, 26, .rw, 1000000, some (1000, 50000000)⟩]⟩,
  ⟨0x39, true, [], true, [⟨0, 32, .rw, 0, none⟩]⟩,
  ⟨0x40, true, [], false, [⟨0, 1, .ro, 0, none⟩, ⟨1, 1, .ro, 0, none⟩]⟩,
  ⟨0x41, true, [], false, [⟨0, 32, .ro, 0, none⟩]⟩,
  ⟨0x42, true, [], false, [⟨0, 32, .ro, 0, none⟩]⟩]

/-- All words of SEQ. -/
def wordsSEQ : List RegWord := wordsSEQPart0 ++ wordsSEQPart1

/-- The words of LOOP (unit 0x20): spec/08_servo_loops.md R313. -/
def wordsLOOP : List RegWord := [
  ⟨0x0, true, [], true, [⟨0, 1, .rw, 0, none⟩, ⟨1, 1, .rw, 0, none⟩, ⟨2, 1, .rw, 0, none⟩, ⟨4, 2, .rw, 1, none⟩, ⟨8, 3, .rw, 2, some (1, 7)⟩]⟩,
  ⟨0x1, true, [], true, [⟨0, 16, .rw, 256, some (1, 65535)⟩, ⟨16, 8, .rw, 8, none⟩]⟩,
  ⟨0x2, true, [], true, [⟨0, 16, .rw, 200, some (1, 65535)⟩, ⟨16, 16, .rw, 2000, none⟩]⟩,
  ⟨0x10, true, [(1, 3)], false, [⟨0, 1, .ro, 0, none⟩, ⟨1, 1, .ro, 0, none⟩, ⟨2, 1, .ro, 0, none⟩, ⟨3, 1, .ro, 0, none⟩, ⟨4, 1, .ro, 0, none⟩, ⟨5, 1, .w1c, 0, none⟩, ⟨6, 1, .w1c, 0, none⟩, ⟨7, 1, .w1c, 0, none⟩, ⟨8, 8, .ro, 0, none⟩]⟩,
  ⟨0x14, true, [(1, 3)], false, [⟨0, 32, .ro, 0, none⟩]⟩,
  ⟨0x18, true, [(1, 3)], false, [⟨0, 32, .ro, 0, none⟩]⟩,
  ⟨0x1C, true, [(1, 3)], false, [⟨0, 16, .ro, 0, none⟩, ⟨16, 16, .rc, 0, none⟩]⟩,
  ⟨0x40, true, [(64, 3), (32, 2)], false, [⟨0, 32, .rw, 0, none⟩]⟩,
  ⟨0x41, true, [(64, 3), (32, 2)], false, [⟨0, 32, .rw, 0, none⟩]⟩,
  ⟨0x42, true, [(64, 3), (32, 2)], false, [⟨0, 32, .rw, 0, none⟩]⟩,
  ⟨0x43, true, [(64, 3), (32, 2)], false, [⟨0, 17, .rw, 65536, some (1, 65536)⟩]⟩,
  ⟨0x44, true, [(64, 3), (32, 2)], false, [⟨0, 32, .rw, 0, none⟩]⟩,
  ⟨0x45, true, [(64, 3), (32, 2)], false, [⟨0, 32, .rw, 0, none⟩]⟩,
  ⟨0x46, true, [(64, 3), (32, 2)], false, [⟨0, 16, .rw, 0, none⟩, ⟨16, 15, .rw, 0, none⟩]⟩,
  ⟨0x47, true, [(64, 3), (32, 2)], false, [⟨0, 16, .rw, 57344, some ((-32767), 32767)⟩, ⟨16, 16, .rw, 8192, some ((-32767), 32767)⟩]⟩]

/-- The words of TRACE (unit 0x21): spec/08_servo_loops.md R315. -/
def wordsTRACE : List RegWord := [
  ⟨0x0, false, [], false, [⟨0, 9, .ro, 0, none⟩, ⟨16, 9, .rc, 0, none⟩]⟩,
  ⟨0x1, false, [], false, [⟨0, 16, .rc, 0, none⟩]⟩,
  ⟨0x10, false, [(1, 16)], false, [⟨0, 8, .rw, 0, none⟩, ⟨8, 6, .rw, 0, none⟩, ⟨14, 2, .rw, 0, some (0, 2)⟩, ⟨31, 1, .rw, 0, none⟩]⟩,
  ⟨0x20, false, [], false, [⟨0, 2, .rw, 0, none⟩, ⟨16, 16, .rw, 0, none⟩]⟩,
  ⟨0x21, false, [], false, [⟨0, 16, .rw, 1, some (1, 65535)⟩]⟩,
  ⟨0x22, false, [], false, [⟨0, 32, .rw, 0, none⟩]⟩,
  ⟨0x23, false, [], false, [⟨0, 16, .rw, 0, none⟩]⟩,
  ⟨0x24, false, [], false, [⟨0, 4, .rw, 0, none⟩, ⟨4, 2, .rw, 0, some (0, 2)⟩]⟩,
  ⟨0x25, false, [], false, [⟨0, 32, .rw, 0, none⟩]⟩,
  ⟨0x30, false, [], false, [⟨0, 2, .ro, 0, none⟩]⟩,
  ⟨0x31, false, [], false, [⟨0, 32, .ro, 0, none⟩]⟩,
  ⟨0x32, false, [], false, [⟨0, 32, .ro, 0, none⟩]⟩,
  ⟨0x33, false, [], false, [⟨0, 17, .ro, 0, none⟩]⟩,
  ⟨0x34, false, [], false, [⟨0, 17, .ro, 0, none⟩]⟩]

/-- The words of POWER (unit 0x28): spec/09_melt_pool_power.md R354. -/
def wordsPOWERPart0 : List RegWord := [
  ⟨0x0, true, [], true, [⟨0, 1, .rw, 1, none⟩, ⟨1, 1, .rw, 0, none⟩, ⟨2, 1, .rw, 0, none⟩, ⟨3, 1, .rw, 0, none⟩, ⟨4, 2, .rw, 0, none⟩, ⟨6, 1, .rw, 0, none⟩, ⟨8, 2, .rw, 1, some (0, 2)⟩]⟩,
  ⟨0x1, true, [], true, [⟨0, 16, .rw, 0, none⟩]⟩,
  ⟨0x2, true, [], true, [⟨0, 16, .rw, 65535, none⟩]⟩,
  ⟨0x3, true, [], true, [⟨0, 32, .rw, 0, none⟩]⟩,
  ⟨0x4, true, [], true, [⟨0, 16, .rw, 0, none⟩, ⟨16, 16, .rw, 100, some (1, 65535)⟩]⟩,
  ⟨0x5, true, [], true, [⟨0, 16, .rw, 0, none⟩, ⟨16, 16, .rw, 65535, none⟩]⟩,
  ⟨0x6, true, [], true, [⟨0, 16, .rw, 10, some (1, 65535)⟩, ⟨16, 16, .rw, 0, none⟩]⟩,
  ⟨0x7, true, [], true, [⟨0, 16, .rw, 0, none⟩, ⟨16, 16, .rw, 0, none⟩]⟩,
  ⟨0x8, true, [], true, [⟨0, 16, .rw, 16384, none⟩, ⟨16, 16, .rw, 16384, none⟩]⟩,
  ⟨0x10, true, [(1, 5)], true, [⟨0, 9, .rw, 0, some (0, 450)⟩, ⟨16, 9, .rw, 0, some (0, 450)⟩]⟩,
  ⟨0x20, true, [(1, 17)], true, [⟨0, 16, .rw, 32768, none⟩]⟩,
  ⟨0x40, true, [], false, [⟨0, 1, .ro, 0, none⟩, ⟨1, 1, .ro, 0, none⟩, ⟨2, 1, .ro, 0, none⟩, ⟨3, 1, .ro, 0, none⟩, ⟨4, 1, .ro, 0, none⟩, ⟨5, 1, .w1c, 0, none⟩, ⟨16, 16, .ro, 0, none⟩]⟩,
  ⟨0x41, true, [], false, [⟨0, 16, .ro, 0, none⟩, ⟨16, 16, .ro, 0, none⟩]⟩,
  ⟨0x42, true, [], false, [⟨0, 16, .ro, 32768, none⟩, ⟨16, 16, .ro, 0, none⟩]⟩,
  ⟨0x43, true, [], false, [⟨0, 16, .ro, 0, none⟩, ⟨16, 16, .ro, 0, none⟩]⟩,
  ⟨0x44, true, [], false, [⟨0, 16, .ro, 0, none⟩]⟩,
  ⟨0x45, true, [], false, [⟨0, 32, .ro, 0, none⟩]⟩,
  ⟨0x46, true, [], false, [⟨0, 16, .rc, 0, none⟩, ⟨16, 16, .rc, 0, none⟩]⟩,
  ⟨0x47, true, [], false, [⟨0, 32, .ro, 0, none⟩]⟩,
  ⟨0x48, true, [], false, [⟨0, 32, .ro, 0, none⟩]⟩,
  ⟨0x80, true, [(16, 2)], false, [⟨0, 32, .rw, 0, none⟩]⟩,
  ⟨0x81, true, [(16, 2)], false, [⟨0, 32, .rw, 0, none⟩]⟩,
  ⟨0x82, true, [(16, 2)], false, [⟨0, 32, .rw, 0, none⟩]⟩,
  ⟨0x83, true, [(16, 2)], false, [⟨0, 17, .rw, 65536, some (1, 65536)⟩]⟩]

/-- Further words of POWER. -/
def wordsPOWERPart1 : List RegWord := [
  ⟨0x84, true, [(16, 2)], false, [⟨0, 15, .rw, 0, none⟩]⟩,
  ⟨0x85, true, [(16, 2)], false, [⟨0, 16, .rw, 57344, some ((-32767), 32767)⟩, ⟨16, 16, .rw, 8192, some ((-32767), 32767)⟩]⟩]

/-- All words of POWER. -/
def wordsPOWER : List RegWord := wordsPOWERPart0 ++ wordsPOWERPart1

/-- The words of LEDGER (unit 0x29): spec/09_melt_pool_power.md R355. -/
def wordsLEDGER : List RegWord := [
  ⟨0x0, false, [], true, [⟨0, 4, .rw, 6, some (0, 10)⟩, ⟨16, 14, .rw, 1024, some (1, 16383)⟩]⟩,
  ⟨0x1, false, [], true, [⟨0, 16, .rw, 0, none⟩, ⟨16, 16, .rw, 0, none⟩]⟩,
  ⟨0x2, false, [], true, [⟨0, 16, .rw, 0, some (0, 32767)⟩, ⟨16, 16, .rw, 0, some (0, 32767)⟩]⟩,
  ⟨0x3, false, [], false, [⟨0, 32, .rw, 0, none⟩]⟩,
  ⟨0x4, false, [], false, [⟨0, 16, .rw, 0, none⟩, ⟨16, 1, .rw, 0, none⟩, ⟨17, 1, .rw, 0, none⟩, ⟨18, 4, .rw, 0, none⟩]⟩,
  ⟨0x10, false, [], false, [⟨0, 1, .ro, 0, none⟩]⟩,
  ⟨0x11, false, [], false, [⟨0, 32, .rc, 0, none⟩]⟩,
  ⟨0x12, false, [], false, [⟨0, 32, .rc, 0, none⟩]⟩,
  ⟨0x13, false, [], false, [⟨0, 32, .rc, 0, none⟩]⟩,
  ⟨0x14, false, [], false, [⟨0, 16, .ro, 0, none⟩]⟩,
  ⟨0x15, false, [], false, [⟨0, 16, .rc, 0, none⟩]⟩,
  ⟨0x16, false, [], false, [⟨0, 28, .ro, 0, none⟩]⟩,
  ⟨0x17, false, [], false, [⟨0, 32, .rc, 0, none⟩]⟩]

/-- The words of COL (unit 0x30): spec/10_col_zones_lee.md R386, spec/10_col_zones_lee.md R387, spec/10_col_zones_lee.md R388. -/
def wordsCOL : List RegWord := [
  ⟨0x100, false, [], true, [⟨0, 1, .rw, 1, none⟩, ⟨1, 1, .rw, 1, none⟩, ⟨2, 1, .rw, 1, none⟩, ⟨8, 8, .rw, 0, none⟩, ⟨16, 16, .rw, 50, none⟩]⟩,
  ⟨0x101, false, [], true, [⟨0, 16, .rw, 0, none⟩]⟩,
  ⟨0x102, false, [], true, [⟨0, 16, .rw, 16384, none⟩, ⟨16, 16, .rw, 0, none⟩]⟩,
  ⟨0x103, false, [], true, [⟨0, 24, .rw, 20000, some (0, 200000)⟩]⟩,
  ⟨0x104, false, [], true, [⟨0, 16, .rw, 500, none⟩, ⟨16, 16, .rw, 4096, none⟩]⟩,
  ⟨0x105, false, [], true, [⟨0, 16, .rw, 20, none⟩]⟩,
  ⟨0x110, false, [], false, [⟨0, 32, .ro, 0, none⟩]⟩,
  ⟨0x111, false, [], false, [⟨0, 32, .ro, 0, none⟩]⟩,
  ⟨0x112, false, [], false, [⟨0, 17, .ro, 0, none⟩]⟩,
  ⟨0x113, false, [], false, [⟨0, 17, .ro, 0, none⟩]⟩,
  ⟨0x120, false, [(1, 16)], false, [⟨0, 16, .rc, 0, none⟩, ⟨16, 16, .rc, 0, none⟩]⟩,
  ⟨0x200, false, [(4, 128)], true, [⟨0, 16, .rw, 0, none⟩, ⟨16, 16, .rw, 0, none⟩]⟩,
  ⟨0x201, false, [(4, 128)], true, [⟨0, 16, .rw, 0, none⟩, ⟨16, 16, .rw, 0, none⟩]⟩,
  ⟨0x202, false, [(4, 128)], true, [⟨0, 16, .rw, 0, none⟩, ⟨16, 16, .rw, 500, none⟩]⟩,
  ⟨0x203, false, [(4, 128)], true, [⟨0, 1, .rw, 0, none⟩, ⟨1, 2, .rw, 0, none⟩]⟩,
  ⟨0x0, true, [], false, [⟨0, 1, .ro, 0, none⟩, ⟨1, 1, .ro, 0, none⟩, ⟨2, 1, .ro, 0, none⟩, ⟨3, 1, .ro, 0, none⟩, ⟨8, 10, .ro, 0, none⟩, ⟨18, 3, .ro, 0, none⟩]⟩,
  ⟨0x1, true, [], false, [⟨0, 32, .rc, 0, none⟩]⟩,
  ⟨0x2, true, [], false, [⟨0, 32, .rc, 0, none⟩]⟩,
  ⟨0x3, true, [], false, [⟨0, 16, .rc, 0, none⟩, ⟨16, 16, .rc, 0, none⟩]⟩,
  ⟨0x4, true, [], false, [⟨0, 32, .ro, 0, none⟩]⟩,
  ⟨0x5, true, [], false, [⟨0, 32, .ro, 0, none⟩]⟩]

/-- The words of AXIS (unit 0x38): spec/08_servo_loops.md R314, spec/12_machine_axes.md R461. -/
def wordsAXISPart0 : List RegWord := [
  ⟨0x0, false, [(64, 16)], true, [⟨0, 1, .rw, 0, none⟩, ⟨1, 1, .rw, 0, none⟩, ⟨2, 1, .rw, 1, none⟩, ⟨3, 1, .rw, 0, none⟩, ⟨4, 1, .rw, 0, none⟩, ⟨5, 1, .rw, 0, none⟩, ⟨6, 1, .rw, 0, none⟩, ⟨8, 8, .rw, 25, some (2, 255)⟩, ⟨16, 8, .rw, 50, some (1, 255)⟩]⟩,
  ⟨0x1, false, [(64, 16)], true, [⟨0, 32, .rw, 16777216, some (1, 4294967295)⟩]⟩,
  ⟨0x2, false, [(64, 16)], true, [⟨0, 32, .rw, 67108864, some (1, 4294967295)⟩]⟩,
  ⟨0x3, false, [(64, 16)], true, [⟨0, 32, .rw, 67108864, some (1, 4294967295)⟩]⟩,
  ⟨0x4, false, [(64, 16)], true, [⟨0, 32, .rw, 65536, none⟩]⟩,
  ⟨0x5, false, [(64, 16)], true, [⟨0, 1, .rw, 0, none⟩, ⟨1, 1, .rw, 0, none⟩, ⟨2, 1, .rw, 0, none⟩, ⟨16, 16, .rw, 1000, some (1, 65535)⟩]⟩,
  ⟨0x6, false, [(64, 16)], true, [⟨0, 32, .rw, 8388608, none⟩]⟩,
  ⟨0x7, false, [(64, 16)], true, [⟨0, 32, .rw, 262144, none⟩]⟩,
  ⟨0x8, false, [(64, 16)], true, [⟨0, 32, .rw, 16777216, none⟩]⟩,
  ⟨0x9, false, [(64, 16)], true, [⟨0, 32, .rw, 0, none⟩]⟩,
  ⟨0xA, false, [(64, 16)], true, [⟨0, 32, .rw, 0, none⟩]⟩,
  ⟨0x10, false, [(64, 16)], false, [⟨0, 3, .ro, 0, none⟩, ⟨3, 1, .ro, 0, none⟩, ⟨4, 3, .ro, 0, none⟩, ⟨8, 5, .ro, 0, none⟩, ⟨16, 1, .w1c, 0, none⟩, ⟨17, 1, .w1c, 0, none⟩, ⟨18, 1, .w1c, 0, none⟩, ⟨19, 1, .w1c, 0, none⟩, ⟨20, 1, .w1c, 0, none⟩, ⟨21, 1, .w1c, 0, none⟩, ⟨22, 1, .w1c, 0, none⟩, ⟨24, 8, .ro, 0, none⟩]⟩,
  ⟨0x11, false, [(64, 16)], false, [⟨0, 32, .ro, 0, none⟩]⟩,
  ⟨0x12, false, [(64, 16)], false, [⟨0, 32, .ro, 0, none⟩]⟩,
  ⟨0x13, false, [(64, 16)], false, [⟨0, 32, .ro, 0, none⟩]⟩,
  ⟨0x14, false, [(64, 16)], false, [⟨0, 32, .ro, 0, none⟩]⟩,
  ⟨0x15, false, [(64, 16)], false, [⟨0, 16, .rc, 0, none⟩, ⟨16, 16, .rc, 0, none⟩]⟩,
  ⟨0x16, false, [(64, 16)], false, [⟨0, 16, .rc, 0, none⟩]⟩,
  ⟨0x400, false, [(64, 16)], true, [⟨0, 1, .rw, 0, none⟩, ⟨1, 1, .rw, 0, none⟩, ⟨16, 10, .rw, 10, some (10, 1000)⟩]⟩,
  ⟨0x401, false, [(64, 16)], true, [⟨0, 10, .rw, 0, none⟩]⟩,
  ⟨0x402, false, [(64, 16)], true, [⟨0, 32, .rw, 1000, none⟩]⟩,
  ⟨0x403, false, [(64, 16)], true, [⟨0, 16, .rw, 100, none⟩]⟩,
  ⟨0x404, false, [(64, 16)], true, [⟨0, 32, .rw, 0, none⟩]⟩,
  ⟨0x408, false, [(64, 16), (8, 2)], false, [⟨0, 32, .rw, 0, none⟩]⟩]

/-- Further words of AXIS. -/
def wordsAXISPart1 : List RegWord := [
  ⟨0x409, false, [(64, 16), (8, 2)], false, [⟨0, 32, .rw, 0, none⟩]⟩,
  ⟨0x40A, false, [(64, 16), (8, 2)], false, [⟨0, 32, .rw, 0, none⟩]⟩,
  ⟨0x40B, false, [(64, 16), (8, 2)], false, [⟨0, 17, .rw, 65536, some (1, 65536)⟩]⟩,
  ⟨0x40C, false, [(64, 16), (8, 2)], false, [⟨0, 32, .rw, 65536, none⟩]⟩,
  ⟨0x40D, false, [(64, 16), (8, 2)], false, [⟨0, 22, .rw, 0, some (0, 4000000)⟩]⟩,
  ⟨0x40E, false, [(64, 16), (8, 2)], false, [⟨0, 22, .rw, 100000, some (1, 4000000)⟩]⟩,
  ⟨0x420, false, [(64, 16)], false, [⟨0, 1, .ro, 0, none⟩, ⟨1, 1, .ro, 0, none⟩, ⟨2, 1, .ro, 0, none⟩, ⟨3, 1, .w1c, 0, none⟩, ⟨4, 1, .w1c, 0, none⟩, ⟨5, 1, .w1c, 0, none⟩, ⟨16, 16, .ro, 0, none⟩]⟩,
  ⟨0x421, false, [(64, 16)], false, [⟨0, 32, .ro, 0, none⟩]⟩,
  ⟨0x422, false, [(64, 16)], false, [⟨0, 32, .ro, 0, none⟩]⟩,
  ⟨0x423, false, [(64, 16)], false, [⟨0, 32, .ro, 0, none⟩]⟩]

/-- All words of AXIS. -/
def wordsAXIS : List RegWord := wordsAXISPart0 ++ wordsAXISPart1

/-- The words of FBK (unit 0x39): spec/12_machine_axes.md R460. -/
def wordsFBK : List RegWord := [
  ⟨0x0, false, [(32, 16)], true, [⟨0, 2, .rw, 0, none⟩, ⟨2, 1, .rw, 0, none⟩, ⟨3, 1, .rw, 0, none⟩, ⟨4, 1, .rw, 0, none⟩, ⟨5, 1, .rw, 0, none⟩, ⟨6, 1, .rw, 0, none⟩, ⟨8, 4, .rw, 3, none⟩, ⟨12, 2, .rw, 1, none⟩, ⟨16, 8, .rw, 4, some (1, 255)⟩]⟩,
  ⟨0x1, false, [(32, 16)], true, [⟨0, 32, .rw, 0, none⟩]⟩,
  ⟨0x2, false, [(32, 16)], true, [⟨0, 32, .rw, 0, none⟩]⟩,
  ⟨0x3, false, [(32, 16)], true, [⟨0, 16, .rw, 2, none⟩]⟩,
  ⟨0x4, false, [(32, 16)], true, [⟨0, 24, .rw, 10000, some (1, 16777215)⟩]⟩,
  ⟨0x5, false, [(32, 16)], true, [⟨0, 2, .rw, 0, some (0, 2)⟩, ⟨2, 6, .rw, 26, some (13, 32)⟩, ⟨8, 13, .rw, 25, some (13, 1250)⟩, ⟨21, 8, .rw, 20, some (1, 255)⟩]⟩,
  ⟨0x6, false, [(32, 16)], true, [⟨0, 16, .rw, 10, some (1, 65535)⟩, ⟨16, 16, .rw, 0, none⟩]⟩,
  ⟨0x10, false, [(32, 16)], false, [⟨0, 32, .ro, 0, none⟩]⟩,
  ⟨0x11, false, [(32, 16)], false, [⟨0, 32, .ro, 0, none⟩]⟩,
  ⟨0x12, false, [(32, 16)], false, [⟨0, 3, .ro, 0, none⟩, ⟨3, 1, .ro, 0, none⟩, ⟨4, 1, .ro, 0, none⟩, ⟨5, 1, .ro, 0, none⟩, ⟨6, 1, .ro, 0, none⟩, ⟨7, 1, .w1c, 0, none⟩, ⟨8, 1, .w1c, 0, none⟩, ⟨9, 1, .w1c, 0, none⟩, ⟨10, 1, .w1c, 0, none⟩, ⟨11, 1, .ro, 0, none⟩, ⟨16, 7, .ro, 0, none⟩]⟩,
  ⟨0x13, false, [(32, 16)], false, [⟨0, 32, .ro, 0, none⟩]⟩,
  ⟨0x14, false, [(32, 16)], false, [⟨0, 32, .ro, 0, none⟩]⟩,
  ⟨0x15, false, [(32, 16)], false, [⟨0, 32, .ro, 0, none⟩]⟩,
  ⟨0x16, false, [(32, 16)], false, [⟨0, 32, .ro, 0, none⟩]⟩,
  ⟨0x17, false, [(32, 16)], false, [⟨0, 32, .ro, 0, none⟩]⟩,
  ⟨0x18, false, [(32, 16)], false, [⟨0, 16, .rc, 0, none⟩, ⟨16, 16, .rc, 0, none⟩]⟩,
  ⟨0x19, false, [(32, 16)], false, [⟨0, 16, .rc, 0, none⟩, ⟨16, 16, .rc, 0, none⟩]⟩,
  ⟨0x1A, false, [(32, 16)], false, [⟨0, 16, .rc, 0, none⟩]⟩]

/-- The words of STN (unit 0x40): spec/11_station_link.md R424. -/
def wordsSTN : List RegWord := [
  ⟨0x0, true, [], false, [⟨0, 2, .ro, 0, none⟩, ⟨2, 1, .ro, 0, none⟩, ⟨3, 1, .w1c, 0, none⟩, ⟨8, 4, .ro, 0, none⟩]⟩,
  ⟨0x1, true, [], false, [⟨0, 16, .ro, 0, none⟩, ⟨16, 6, .ro, 0, none⟩]⟩,
  ⟨0x2, true, [], false, [⟨0, 32, .ro, 0, none⟩]⟩,
  ⟨0x3, true, [], false, [⟨0, 32, .rc, 0, none⟩]⟩,
  ⟨0x4, true, [], false, [⟨0, 16, .rc, 0, none⟩, ⟨16, 16, .rc, 0, none⟩]⟩,
  ⟨0x5, true, [], false, [⟨0, 16, .rc, 0, none⟩, ⟨16, 16, .rc, 0, none⟩]⟩,
  ⟨0x6, true, [], false, [⟨0, 16, .rc, 0, none⟩, ⟨16, 16, .rc, 0, none⟩]⟩,
  ⟨0x7, true, [], false, [⟨0, 16, .rc, 0, none⟩, ⟨16, 16, .rc, 0, none⟩]⟩,
  ⟨0x8, true, [], false, [⟨0, 32, .ro, 0, none⟩]⟩,
  ⟨0x9, true, [], false, [⟨0, 32, .ro, 0, none⟩]⟩,
  ⟨0xA, true, [], false, [⟨0, 32, .ro, 0, none⟩]⟩,
  ⟨0x10, true, [], false, [⟨0, 1, .rw, 1, none⟩, ⟨1, 1, .rw, 0, none⟩, ⟨2, 1, .rw, 0, none⟩, ⟨4, 4, .rw, 4, some (0, 8)⟩, ⟨8, 4, .rw, 0, some (0, 6)⟩]⟩,
  ⟨0x11, true, [], false, [⟨0, 16, .rw, 0, none⟩, ⟨16, 1, .rw, 0, none⟩, ⟨24, 1, .cmd, 0, none⟩]⟩,
  ⟨0x12, true, [], false, [⟨0, 32, .rw, 0, none⟩]⟩,
  ⟨0x13, true, [], false, [⟨0, 32, .rw, 0, none⟩]⟩,
  ⟨0x14, true, [], false, [⟨0, 1, .ro, 0, none⟩, ⟨1, 1, .w1c, 0, none⟩, ⟨2, 1, .w1c, 0, none⟩, ⟨3, 1, .w1c, 0, none⟩, ⟨8, 8, .ro, 0, none⟩]⟩,
  ⟨0x15, true, [], false, [⟨0, 32, .ro, 0, none⟩]⟩,
  ⟨0x16, true, [], false, [⟨0, 32, .ro, 0, none⟩]⟩]

/-- The words of RIDGE (unit 0x48): spec/13_cascade_redundancy.md R503. -/
def wordsRIDGE : List RegWord := [
  ⟨0x0, false, [(1, 4)], false, [⟨0, 2, .ro, 0, none⟩, ⟨8, 8, .ro, 255, none⟩, ⟨16, 16, .ro, 0, none⟩]⟩,
  ⟨0x4, false, [(1, 4)], false, [⟨0, 16, .rc, 0, none⟩, ⟨16, 16, .rc, 0, none⟩]⟩,
  ⟨0x10, false, [], false, [⟨0, 6, .ro, 63, none⟩, ⟨6, 1, .ro, 0, none⟩, ⟨7, 1, .ro, 0, none⟩]⟩,
  ⟨0x11, false, [], false, [⟨0, 1, .ro, 0, none⟩, ⟨1, 1, .ro, 0, none⟩, ⟨2, 1, .ro, 0, none⟩, ⟨4, 6, .ro, 0, none⟩, ⟨16, 16, .ro, 0, none⟩]⟩,
  ⟨0x12, false, [], false, [⟨0, 16, .ro, 0, none⟩, ⟨16, 1, .ro, 0, none⟩]⟩,
  ⟨0x13, false, [], false, [⟨0, 32, .ro, 0, none⟩]⟩,
  ⟨0x20, false, [(1, 33)], false, [⟨0, 4, .ro, 0, none⟩, ⟨4, 2, .ro, 0, none⟩, ⟨6, 1, .ro, 0, none⟩, ⟨7, 1, .ro, 0, none⟩, ⟨16, 16, .ro, 0, none⟩]⟩,
  ⟨0x50, false, [], false, [⟨0, 16, .rc, 0, none⟩]⟩]

/-- The words of PAIR (unit 0x49): spec/13_cascade_redundancy.md R504. -/
def wordsPAIR : List RegWord := [
  ⟨0x0, false, [], false, [⟨0, 2, .ro, 0, none⟩, ⟨2, 1, .ro, 0, none⟩, ⟨3, 1, .ro, 0, none⟩, ⟨4, 1, .ro, 0, none⟩, ⟨5, 1, .ro, 0, none⟩, ⟨6, 1, .ro, 0, none⟩, ⟨8, 3, .ro, 0, none⟩, ⟨16, 16, .ro, 0, none⟩]⟩,
  ⟨0x1, false, [], false, [⟨0, 32, .ro, 0, none⟩]⟩,
  ⟨0x2, false, [], false, [⟨0, 32, .ro, 0, none⟩]⟩,
  ⟨0x3, false, [], false, [⟨0, 32, .ro, 0, none⟩]⟩,
  ⟨0x4, false, [], false, [⟨0, 32, .ro, 0, none⟩]⟩,
  ⟨0x5, false, [], false, [⟨0, 32, .ro, 0, none⟩]⟩,
  ⟨0x6, false, [], false, [⟨0, 16, .rc, 0, none⟩, ⟨16, 16, .rc, 0, none⟩]⟩,
  ⟨0x7, false, [], false, [⟨0, 16, .rc, 0, none⟩, ⟨16, 16, .rc, 0, none⟩]⟩,
  ⟨0x8, false, [], false, [⟨0, 16, .rc, 0, none⟩]⟩,
  ⟨0x9, false, [], false, [⟨0, 32, .ro, 0, none⟩]⟩,
  ⟨0xA, false, [], false, [⟨0, 32, .ro, 0, none⟩]⟩,
  ⟨0x10, false, [], true, [⟨0, 1, .rw, 0, none⟩, ⟨1, 3, .rw, 3, some (1, 7)⟩, ⟨4, 1, .rw, 1, none⟩, ⟨8, 4, .rw, 1, none⟩]⟩,
  ⟨0x100, false, [(1, 16)], false, [⟨0, 1, .ro, 0, none⟩, ⟨1, 1, .ro, 0, none⟩, ⟨2, 1, .ro, 0, none⟩, ⟨3, 1, .ro, 0, none⟩, ⟨16, 16, .rc, 0, none⟩]⟩]

/-- The words of THERM (unit 0x50): spec/14_thermal_calibration.md R528. -/
def wordsTHERM : List RegWord := [
  ⟨0x0, false, [], false, [⟨0, 3, .ro, 0, none⟩, ⟨3, 3, .ro, 0, none⟩, ⟨6, 1, .ro, 0, none⟩, ⟨7, 1, .ro, 0, none⟩, ⟨8, 5, .ro, 0, none⟩, ⟨16, 16, .ro, 0, none⟩]⟩,
  ⟨0x1, false, [], false, [⟨0, 16, .rw, 320, none⟩, ⟨16, 16, .rw, 800, none⟩]⟩,
  ⟨0x2, false, [], false, [⟨0, 16, .rw, 1200, none⟩, ⟨16, 16, .rw, 1440, none⟩]⟩,
  ⟨0x3, false, [], false, [⟨0, 16, .rw, 1680, none⟩, ⟨16, 16, .rw, 1888, none⟩]⟩,
  ⟨0x4, false, [], false, [⟨0, 8, .rw, 48, some (16, 255)⟩, ⟨8, 8, .rw, 15, some (5, 50)⟩, ⟨16, 16, .rw, 200, some (20, 5000)⟩]⟩,
  ⟨0x5, false, [], false, [⟨0, 16, .ro, 0, none⟩, ⟨16, 4, .ro, 0, none⟩, ⟨20, 4, .ro, 0, none⟩]⟩,
  ⟨0x10, false, [(1, 16)], false, [⟨0, 16, .ro, 0, none⟩, ⟨16, 16, .ro, 0, none⟩]⟩,
  ⟨0x20, false, [(1, 4)], false, [⟨0, 16, .rw, 1360, none⟩, ⟨16, 2, .rw, 0, some (0, 2)⟩]⟩,
  ⟨0x24, false, [(1, 4)], false, [⟨0, 16, .ro, 0, none⟩, ⟨16, 1, .ro, 0, none⟩]⟩]

/-- The words of CAL (unit 0x51): spec/14_thermal_calibration.md R529. -/
def wordsCAL : List RegWord := [
  ⟨0x0, false, [], false, [⟨0, 1, .rw, 1, none⟩, ⟨8, 8, .rw, 64, some (16, 255)⟩, ⟨16, 8, .rw, 8, some (2, 32)⟩]⟩,
  ⟨0x1, false, [], false, [⟨0, 4, .ro, 0, none⟩, ⟨8, 7, .ro, 0, none⟩]⟩,
  ⟨0x10, false, [(1, 5)], false, [⟨0, 8, .rw, 0, none⟩, ⟨8, 8, .rw, 0, none⟩, ⟨16, 8, .rw, 0, none⟩, ⟨24, 8, .rw, 0, none⟩]⟩,
  ⟨0x18, false, [(1, 5)], false, [⟨0, 4, .rw, 5, none⟩, ⟨4, 4, .rw, 3, none⟩]⟩,
  ⟨0x100, false, [(8, 84)], false, [⟨0, 6, .ro, 32, none⟩, ⟨8, 5, .ro, 16, none⟩, ⟨16, 4, .ro, 0, none⟩, ⟨20, 1, .ro, 0, none⟩, ⟨21, 1, .ro, 0, none⟩, ⟨22, 1, .ro, 0, none⟩]⟩,
  ⟨0x101, false, [(8, 84)], false, [⟨0, 6, .ro, 32, none⟩, ⟨8, 5, .ro, 16, none⟩]⟩,
  ⟨0x102, false, [(8, 84)], false, [⟨0, 32, .ro, 0, none⟩]⟩,
  ⟨0x103, false, [(8, 84)], false, [⟨0, 16, .ro, 0, none⟩, ⟨16, 16, .ro, 0, none⟩]⟩,
  ⟨0x104, false, [(8, 84)], false, [⟨0, 32, .ro, 0, none⟩]⟩,
  ⟨0x105, false, [(8, 84)], false, [⟨0, 32, .ro, 0, none⟩]⟩,
  ⟨0x106, false, [(8, 84)], false, [⟨0, 16, .ro, 0, none⟩]⟩]

/-- The words of LIGHT (unit 0x58): spec/15_bed_illumination.md R549, spec/15_bed_illumination.md R550. -/
def wordsLIGHT : List RegWord := [
  ⟨0x0, false, [], true, [⟨0, 16, .rw, 2500, some (1250, 65535)⟩]⟩,
  ⟨0x1, false, [], true, [⟨0, 24, .rw, 0, none⟩, ⟨24, 8, .rw, 10, none⟩]⟩,
  ⟨0x2, false, [], true, [⟨0, 16, .rw, 1120, none⟩, ⟨16, 8, .rw, 25, none⟩, ⟨24, 7, .rw, 20, some (1, 100)⟩]⟩,
  ⟨0x3, false, [], true, [⟨0, 3, .rw, 0, some (0, 4)⟩]⟩,
  ⟨0x10, false, [], false, [⟨0, 17, .ro, 65536, none⟩, ⟨17, 1, .ro, 0, none⟩]⟩,
  ⟨0x11, false, [], false, [⟨0, 16, .ro, 0, none⟩]⟩,
  ⟨0x100, false, [(16, 8)], true, [⟨0, 2, .rw, 0, none⟩, ⟨2, 1, .rw, 0, none⟩, ⟨3, 6, .rw, 0, none⟩, ⟨9, 1, .rw, 0, none⟩, ⟨10, 1, .rw, 1, none⟩, ⟨11, 1, .rw, 1, none⟩]⟩,
  ⟨0x101, false, [(16, 8)], true, [⟨0, 17, .rw, 0, some (0, 65536)⟩]⟩,
  ⟨0x102, false, [(16, 8)], true, [⟨0, 32, .rw, 0, none⟩]⟩,
  ⟨0x103, false, [(16, 8)], true, [⟨0, 16, .rw, 0, none⟩]⟩,
  ⟨0x104, false, [(16, 8)], true, [⟨0, 32, .rw, 0, none⟩]⟩,
  ⟨0x105, false, [(16, 8)], true, [⟨0, 24, .rw, 8, none⟩]⟩,
  ⟨0x106, false, [(16, 8)], true, [⟨0, 32, .rw, 0, none⟩]⟩,
  ⟨0x107, false, [(16, 8)], true, [⟨0, 16, .rw, 0, none⟩, ⟨16, 5, .rw, 16, some (1, 16)⟩]⟩,
  ⟨0x108, false, [(16, 8)], true, [⟨0, 12, .rw, 0, none⟩, ⟨16, 12, .rw, 0, none⟩, ⟨28, 4, .rw, 3, some (1, 15)⟩]⟩,
  ⟨0x109, false, [(16, 8)], false, [⟨0, 1, .ro, 0, none⟩, ⟨1, 1, .ro, 0, none⟩, ⟨2, 1, .ro, 0, none⟩, ⟨3, 4, .ro, 0, none⟩, ⟨7, 1, .ro, 0, none⟩, ⟨8, 1, .ro, 0, none⟩, ⟨9, 1, .ro, 0, none⟩, ⟨10, 1, .w1c, 0, none⟩, ⟨11, 1, .w1c, 0, none⟩, ⟨12, 1, .w1c, 0, none⟩]⟩,
  ⟨0x10A, false, [(16, 8)], false, [⟨0, 12, .ro, 0, none⟩, ⟨16, 12, .ro, 0, none⟩]⟩,
  ⟨0x10B, false, [(16, 8)], false, [⟨0, 16, .ro, 0, none⟩, ⟨16, 5, .ro, 0, none⟩]⟩,
  ⟨0x10C, false, [(16, 8)], false, [⟨0, 16, .rc, 0, none⟩, ⟨16, 16, .rc, 0, none⟩]⟩,
  ⟨0x10D, false, [(16, 8)], false, [⟨0, 16, .rc, 0, none⟩]⟩]

/-- The words of HUSK (unit 0x60): spec/16_husk_security.md R575. -/
def wordsHUSK : List RegWord := [
  ⟨0x0, false, [], false, [⟨0, 2, .ro, 0, none⟩, ⟨2, 1, .ro, 0, none⟩, ⟨3, 1, .ro, 0, none⟩, ⟨4, 1, .ro, 0, none⟩, ⟨5, 1, .w1c, 0, none⟩, ⟨6, 1, .ro, 0, none⟩, ⟨8, 7, .ro, 0, none⟩, ⟨16, 6, .ro, 0, none⟩]⟩,
  ⟨0x1, false, [], false, [⟨0, 32, .ro, 0, none⟩]⟩,
  ⟨0x2, false, [], false, [⟨0, 6, .w1c, 0, none⟩]⟩,
  ⟨0x3, false, [], false, [⟨0, 16, .ro, 0, none⟩, ⟨16, 16, .rc, 0, none⟩]⟩,
  ⟨0x4, false, [], false, [⟨0, 24, .ro, 0, none⟩]⟩,
  ⟨0x5, false, [], false, [⟨0, 32, .ro, 0, none⟩]⟩,
  ⟨0x6, false, [], false, [⟨0, 4, .ro, 0, none⟩]⟩,
  ⟨0x40, false, [(2, 16)], false, [⟨0, 3, .ro, 0, none⟩, ⟨3, 2, .ro, 0, none⟩, ⟨5, 1, .ro, 0, none⟩, ⟨6, 1, .ro, 0, none⟩]⟩,
  ⟨0x41, false, [(2, 16)], false, [⟨0, 32, .ro, 0, none⟩]⟩,
  ⟨0x101, false, [(1, 64)], false, [⟨0, 1, .ro, 0, none⟩, ⟨1, 1, .ro, 0, none⟩, ⟨8, 24, .ro, 0, none⟩]⟩]

/-- The words of ERR (unit 0x68): spec/17_faults_recovery.md R606. -/
def wordsERR : List RegWord := [
  ⟨0x0, false, [], false, [⟨0, 7, .ro, 0, none⟩]⟩,
  ⟨0x1, false, [], false, [⟨0, 16, .rc, 0, none⟩, ⟨16, 16, .rc, 0, none⟩]⟩,
  ⟨0x2, false, [], false, [⟨0, 32, .ro, 0, none⟩]⟩,
  ⟨0x3, false, [], false, [⟨0, 32, .ro, 0, none⟩]⟩,
  ⟨0x4, false, [], false, [⟨0, 16, .rc, 0, none⟩, ⟨16, 1, .w1c, 0, none⟩]⟩,
  ⟨0x8, false, [], false, [⟨0, 3, .rw, 2, none⟩, ⟨3, 5, .rw, 1, none⟩]⟩,
  ⟨0x9, false, [], false, [⟨0, 16, .rw, 0, none⟩, ⟨16, 1, .rw, 0, none⟩, ⟨17, 1, .rw, 0, none⟩, ⟨18, 4, .rw, 1, none⟩, ⟨22, 3, .rw, 1, some (0, 5)⟩]⟩,
  ⟨0xA, false, [], false, [⟨0, 32, .rw, 0, none⟩]⟩,
  ⟨0x10, false, [], false, [⟨0, 16, .rw, 10, some (2, 1000)⟩]⟩,
  ⟨0x11, false, [], false, [⟨0, 32, .rc, 0, none⟩]⟩,
  ⟨0x18, false, [], false, [⟨0, 16, .rw, 100, none⟩, ⟨16, 1, .rw, 1, none⟩]⟩,
  ⟨0x19, false, [], false, [⟨0, 1, .ro, 0, none⟩, ⟨1, 1, .ro, 0, none⟩, ⟨2, 1, .ro, 0, none⟩, ⟨3, 1, .w1c, 0, none⟩, ⟨4, 3, .ro, 0, none⟩]⟩,
  ⟨0x20, false, [], false, [⟨0, 16, .ro, 0, none⟩, ⟨16, 3, .ro, 0, none⟩, ⟨19, 1, .ro, 0, none⟩, ⟨24, 8, .ro, 0, none⟩]⟩,
  ⟨0x100, false, [(1, 64)], false, [⟨0, 16, .ro, 0, none⟩, ⟨16, 3, .ro, 0, none⟩, ⟨19, 1, .ro, 0, none⟩, ⟨24, 8, .ro, 0, none⟩]⟩,
  ⟨0x140, false, [(1, 16)], false, [⟨0, 16, .ro, 0, none⟩, ⟨16, 3, .ro, 0, none⟩, ⟨19, 1, .ro, 0, none⟩, ⟨24, 8, .ro, 0, none⟩]⟩,
  ⟨0x180, false, [(1, 128)], false, [⟨0, 16, .ro, 0, none⟩, ⟨16, 3, .ro, 0, none⟩, ⟨19, 1, .ro, 0, none⟩, ⟨24, 8, .ro, 0, none⟩]⟩]

/-- The words of unit number `u`; none where `u` is absent from R12. -/
def unitWords : Nat → List RegWord
  | 0x00 => wordsSYS
  | 0x01 => wordsHOSTIF
  | 0x02 => wordsCMD
  | 0x03 => wordsFAB
  | 0x04 => wordsMEM
  | 0x08 => wordsTIME
  | 0x09 => wordsNET
  | 0x10 => wordsSTREAM
  | 0x11 => wordsPACK
  | 0x18 => wordsSEQ
  | 0x20 => wordsLOOP
  | 0x21 => wordsTRACE
  | 0x28 => wordsPOWER
  | 0x29 => wordsLEDGER
  | 0x30 => wordsCOL
  | 0x38 => wordsAXIS
  | 0x39 => wordsFBK
  | 0x40 => wordsSTN
  | 0x48 => wordsRIDGE
  | 0x49 => wordsPAIR
  | 0x50 => wordsTHERM
  | 0x51 => wordsCAL
  | 0x58 => wordsLIGHT
  | 0x60 => wordsHUSK
  | 0x68 => wordsERR
  | _ => []

/-- The unit numbers of R12. -/
def unitNumbers : List Nat := [0x00, 0x01, 0x02, 0x03, 0x04, 0x08, 0x09, 0x10, 0x11, 0x18, 0x20, 0x21, 0x28, 0x29, 0x30, 0x38, 0x39, 0x40, 0x48, 0x49, 0x50, 0x51, 0x58, 0x60, 0x68]

/-- The per-channel units of R102. -/
def perChannelUnits : List Nat := [0x18, 0x20, 0x28, 0x40, 0x30]

/-! ## Names of the fields -/

namespace F

/-- SYS.VENDOR [15:0] (R1). -/
def SYS_VENDOR : Fld := ⟨wordAddr 0x00 0x0, 0, 16⟩
/-- SYS.PART [15:0] (R1). -/
def SYS_PART : Fld := ⟨wordAddr 0x00 0x1, 0, 16⟩
/-- SYS.PART.FAMILY [23:16] (R1). -/
def SYS_PART_FAMILY : Fld := ⟨wordAddr 0x00 0x1, 16, 8⟩
/-- SYS.SI_REV.STEPPING [7:0] (R1). -/
def SYS_SI_REV_STEPPING : Fld := ⟨wordAddr 0x00 0x2, 0, 8⟩
/-- SYS.SI_REV.MINOR [15:8] (R1). -/
def SYS_SI_REV_MINOR : Fld := ⟨wordAddr 0x00 0x2, 8, 8⟩
/-- SYS.SI_REV.MAJOR [23:16] (R1). -/
def SYS_SI_REV_MAJOR : Fld := ⟨wordAddr 0x00 0x2, 16, 8⟩
/-- SYS.FW_REV.BUILD [15:0] (R1). -/
def SYS_FW_REV_BUILD : Fld := ⟨wordAddr 0x00 0x3, 0, 16⟩
/-- SYS.FW_REV.MINOR [23:16] (R1). -/
def SYS_FW_REV_MINOR : Fld := ⟨wordAddr 0x00 0x3, 16, 8⟩
/-- SYS.FW_REV.MAJOR [31:24] (R1). -/
def SYS_FW_REV_MAJOR : Fld := ⟨wordAddr 0x00 0x3, 24, 8⟩
/-- SYS.DEV_STATE.STATE [2:0] (R26). -/
def SYS_DEV_STATE_STATE : Fld := ⟨wordAddr 0x00 0x10, 0, 3⟩
/-- SYS.DEV_STATE.CAUSE [7:4] (R26). -/
def SYS_DEV_STATE_CAUSE : Fld := ⟨wordAddr 0x00 0x10, 4, 4⟩
/-- SYS.DEV_STATE.GO_BUILD [8:8] (R26). -/
def SYS_DEV_STATE_GO_BUILD : Fld := ⟨wordAddr 0x00 0x10, 8, 1⟩
/-- SYS.DEV_STATE.DRAIN [9:9] (R26). -/
def SYS_DEV_STATE_DRAIN : Fld := ⟨wordAddr 0x00 0x10, 9, 1⟩
/-- SYS.DEV_STATE.STOP [10:10] (R26). -/
def SYS_DEV_STATE_STOP : Fld := ⟨wordAddr 0x00 0x10, 10, 1⟩
/-- SYS.DEV_STATE.RESUME [11:11] (R26). -/
def SYS_DEV_STATE_RESUME : Fld := ⟨wordAddr 0x00 0x10, 11, 1⟩
/-- SYS.DEV_STATE.EPOCH_LOW [31:16] (R26). -/
def SYS_DEV_STATE_EPOCH_LOW : Fld := ⟨wordAddr 0x00 0x10, 16, 16⟩
/-- SYS.STANDING.ESTOP [0:0] (R613). -/
def SYS_STANDING_ESTOP : Fld := ⟨wordAddr 0x00 0x11, 0, 1⟩
/-- SYS.STANDING.PWRFAIL [1:1] (R613). -/
def SYS_STANDING_PWRFAIL : Fld := ⟨wordAddr 0x00 0x11, 1, 1⟩
/-- SYS.STANDING.THERMAL [2:2] (R613). -/
def SYS_STANDING_THERMAL : Fld := ⟨wordAddr 0x00 0x11, 2, 1⟩
/-- SYS.STANDING.TRIP [3:3] (R613). -/
def SYS_STANDING_TRIP : Fld := ⟨wordAddr 0x00 0x11, 3, 1⟩
/-- SYS.STANDING.HUSK_STOP [4:4] (R613). -/
def SYS_STANDING_HUSK_STOP : Fld := ⟨wordAddr 0x00 0x11, 4, 1⟩
/-- SYS.STANDING.SENSORS [5:5] (R613). -/
def SYS_STANDING_SENSORS : Fld := ⟨wordAddr 0x00 0x11, 5, 1⟩
/-- SYS.STANDING.PLL [6:6] (R613). -/
def SYS_STANDING_PLL : Fld := ⟨wordAddr 0x00 0x11, 6, 1⟩
/-- SYS.STRAPS.POS [3:0] (R64). -/
def SYS_STRAPS_POS : Fld := ⟨wordAddr 0x00 0x20, 0, 4⟩
/-- SYS.STRAPS.ROLE [5:4] (R64). -/
def SYS_STRAPS_ROLE : Fld := ⟨wordAddr 0x00 0x20, 4, 2⟩
/-- SYS.STRAPS.BOOT [7:6] (R64). -/
def SYS_STRAPS_BOOT : Fld := ⟨wordAddr 0x00 0x20, 6, 2⟩
/-- SYS.STRAPS.POS_LIVE [19:16] (R64). -/
def SYS_STRAPS_POS_LIVE : Fld := ⟨wordAddr 0x00 0x20, 16, 4⟩
/-- SYS.STRAPS.ROLE_LIVE [21:20] (R64). -/
def SYS_STRAPS_ROLE_LIVE : Fld := ⟨wordAddr 0x00 0x20, 20, 2⟩
/-- SYS.STRAPS.BOOT_LIVE [23:22] (R64). -/
def SYS_STRAPS_BOOT_LIVE : Fld := ⟨wordAddr 0x00 0x20, 22, 2⟩
/-- SYS.STRAPS.MISMATCH [24:24] (R64). -/
def SYS_STRAPS_MISMATCH : Fld := ⟨wordAddr 0x00 0x20, 24, 1⟩
/-- SYS.BOOT_STAT.STEP [3:0] (R71). -/
def SYS_BOOT_STAT_STEP : Fld := ⟨wordAddr 0x00 0x21, 0, 4⟩
/-- SYS.BOOT_STAT.SLOT [5:4] (R71). -/
def SYS_BOOT_STAT_SLOT : Fld := ⟨wordAddr 0x00 0x21, 4, 2⟩
/-- SYS.BOOT_STAT.AUTH_FAIL_A [6:6] (R71). -/
def SYS_BOOT_STAT_AUTH_FAIL_A : Fld := ⟨wordAddr 0x00 0x21, 6, 1⟩
/-- SYS.BOOT_STAT.AUTH_FAIL_B [7:7] (R71). -/
def SYS_BOOT_STAT_AUTH_FAIL_B : Fld := ⟨wordAddr 0x00 0x21, 7, 1⟩
/-- SYS.BOOT_STAT.AUTH_FAIL_PCIE [8:8] (R71). -/
def SYS_BOOT_STAT_AUTH_FAIL_PCIE : Fld := ⟨wordAddr 0x00 0x21, 8, 1⟩
/-- SYS.BOOT_STAT.TRAIN_FAIL [9:9] (R71). -/
def SYS_BOOT_STAT_TRAIN_FAIL : Fld := ⟨wordAddr 0x00 0x21, 9, 1⟩
/-- SYS.BOOT_STAT.JOURNAL_BAD [10:10] (R71). -/
def SYS_BOOT_STAT_JOURNAL_BAD : Fld := ⟨wordAddr 0x00 0x21, 10, 1⟩
/-- SYS.BOOT_STAT.STRAP_BAD [11:11] (R71). -/
def SYS_BOOT_STAT_STRAP_BAD : Fld := ⟨wordAddr 0x00 0x21, 11, 1⟩
/-- SYS.BOOT_STAT.TIMEOUT [12:12] (R71). -/
def SYS_BOOT_STAT_TIMEOUT : Fld := ⟨wordAddr 0x00 0x21, 12, 1⟩
/-- SYS.BOOT_STAT.BOOT_MS [31:16] (R71). -/
def SYS_BOOT_STAT_BOOT_MS : Fld := ⟨wordAddr 0x00 0x21, 16, 16⟩
/-- SYS.RESET_CAUSE.POR [0:0] (R61). -/
def SYS_RESET_CAUSE_POR : Fld := ⟨wordAddr 0x00 0x22, 0, 1⟩
/-- SYS.RESET_CAUSE.SYSRST [1:1] (R61). -/
def SYS_RESET_CAUSE_SYSRST : Fld := ⟨wordAddr 0x00 0x22, 1, 1⟩
/-- SYS.RESET_CAUSE.PERST [2:2] (R61). -/
def SYS_RESET_CAUSE_PERST : Fld := ⟨wordAddr 0x00 0x22, 2, 1⟩
/-- SYS.RESET_CAUSE.UNIT [3:3] (R61). -/
def SYS_RESET_CAUSE_UNIT : Fld := ⟨wordAddr 0x00 0x22, 3, 1⟩
/-- SYS.RESET_CAUSE.THERMTRIP [4:4] (R61). -/
def SYS_RESET_CAUSE_THERMTRIP : Fld := ⟨wordAddr 0x00 0x22, 4, 1⟩
/-- SYS.RESET_CAUSE.PWRFAIL [5:5] (R61). -/
def SYS_RESET_CAUSE_PWRFAIL : Fld := ⟨wordAddr 0x00 0x22, 5, 1⟩
/-- SYS.RESET_CAUSE.JOURNAL_CUT [6:6] (R61). -/
def SYS_RESET_CAUSE_JOURNAL_CUT : Fld := ⟨wordAddr 0x00 0x22, 6, 1⟩
/-- HOSTIF.CRING_BASE_LO [31:12] (R89). -/
def HOSTIF_CRING_BASE_LO : Fld := ⟨wordAddr 0x01 0x0, 12, 20⟩
/-- HOSTIF.CRING_BASE_HI [31:0] (R89). -/
def HOSTIF_CRING_BASE_HI : Fld := ⟨wordAddr 0x01 0x1, 0, 32⟩
/-- HOSTIF.CRING_SIZE [4:0] (R89). -/
def HOSTIF_CRING_SIZE : Fld := ⟨wordAddr 0x01 0x2, 0, 5⟩
/-- HOSTIF.CRING_PROD [19:0] (R89). -/
def HOSTIF_CRING_PROD : Fld := ⟨wordAddr 0x01 0x3, 0, 20⟩
/-- HOSTIF.CRING_CONS [19:0] (R89). -/
def HOSTIF_CRING_CONS : Fld := ⟨wordAddr 0x01 0x4, 0, 20⟩
/-- HOSTIF.RRING_BASE_LO [31:12] (R89). -/
def HOSTIF_RRING_BASE_LO : Fld := ⟨wordAddr 0x01 0x5, 12, 20⟩
/-- HOSTIF.RRING_BASE_HI [31:0] (R89). -/
def HOSTIF_RRING_BASE_HI : Fld := ⟨wordAddr 0x01 0x6, 0, 32⟩
/-- HOSTIF.RRING_SIZE [4:0] (R89). -/
def HOSTIF_RRING_SIZE : Fld := ⟨wordAddr 0x01 0x7, 0, 5⟩
/-- HOSTIF.RRING_PROD [19:0] (R89). -/
def HOSTIF_RRING_PROD : Fld := ⟨wordAddr 0x01 0x8, 0, 20⟩
/-- HOSTIF.RRING_CONS [19:0] (R89). -/
def HOSTIF_RRING_CONS : Fld := ⟨wordAddr 0x01 0x9, 0, 20⟩
/-- HOSTIF.RING_CTRL.ENABLE [0:0] (R89). -/
def HOSTIF_RING_CTRL_ENABLE : Fld := ⟨wordAddr 0x01 0xA, 0, 1⟩
/-- HOSTIF.RING_CTRL.RESET [1:1] (R89). -/
def HOSTIF_RING_CTRL_RESET : Fld := ⟨wordAddr 0x01 0xA, 1, 1⟩
/-- HOSTIF.RING_CTRL.MOD_US [15:8] (R89). -/
def HOSTIF_RING_CTRL_MOD_US : Fld := ⟨wordAddr 0x01 0xA, 8, 8⟩
/-- HOSTIF.RING_CTRL.VECTOR [20:16] (R89). -/
def HOSTIF_RING_CTRL_VECTOR : Fld := ⟨wordAddr 0x01 0xA, 16, 5⟩
/-- HOSTIF.RING_STAT.RUNNING [0:0] (R89). -/
def HOSTIF_RING_STAT_RUNNING : Fld := ⟨wordAddr 0x01 0xB, 0, 1⟩
/-- HOSTIF.RING_STAT.PARSE_ERR [1:1] (R89). -/
def HOSTIF_RING_STAT_PARSE_ERR : Fld := ⟨wordAddr 0x01 0xB, 1, 1⟩
/-- HOSTIF.RING_STAT.FETCH_ERR [2:2] (R89). -/
def HOSTIF_RING_STAT_FETCH_ERR : Fld := ⟨wordAddr 0x01 0xB, 2, 1⟩
/-- HOSTIF.RING_STAT.WRITE_ERR [3:3] (R89). -/
def HOSTIF_RING_STAT_WRITE_ERR : Fld := ⟨wordAddr 0x01 0xB, 3, 1⟩
/-- HOSTIF.RING_STAT.CFG_ERR [4:4] (R89). -/
def HOSTIF_RING_STAT_CFG_ERR : Fld := ⟨wordAddr 0x01 0xB, 4, 1⟩
/-- HOSTIF.RING_STAT.HELD [16:8] (R89). -/
def HOSTIF_RING_STAT_HELD : Fld := ⟨wordAddr 0x01 0xB, 8, 9⟩
/-- HOSTIF.LOSS_LOG.DISCARDED [8:0] (R131). -/
def HOSTIF_LOSS_LOG_DISCARDED : Fld := ⟨wordAddr 0x01 0x10, 0, 9⟩
/-- HOSTIF.LOSS_LOG.UNREPLIED [24:16] (R131). -/
def HOSTIF_LOSS_LOG_UNREPLIED : Fld := ⟨wordAddr 0x01 0x10, 16, 9⟩
/-- HOSTIF.LOSS_LOG.VALID [31:31] (R131). -/
def HOSTIF_LOSS_LOG_VALID : Fld := ⟨wordAddr 0x01 0x10, 31, 1⟩
/-- CMD.EPOCH_LO [31:0] (R113). -/
def CMD_EPOCH_LO : Fld := ⟨wordAddr 0x02 0x0, 0, 32⟩
/-- CMD.EPOCH_HI [31:0] (R113). -/
def CMD_EPOCH_HI : Fld := ⟨wordAddr 0x02 0x1, 0, 32⟩
/-- CMD.PKT_TIMEOUT [15:0] (R113). -/
def CMD_PKT_TIMEOUT : Fld := ⟨wordAddr 0x02 0x8, 0, 16⟩
/-- CMD.CAIRN_TIMEOUT [15:0] (R113). -/
def CMD_CAIRN_TIMEOUT : Fld := ⟨wordAddr 0x02 0x9, 0, 16⟩
/-- CMD.BATCH_PCIE [12:0] (R113). -/
def CMD_BATCH_PCIE : Fld := ⟨wordAddr 0x02 0xC, 0, 13⟩
/-- CMD.BATCH_ETH0 [12:0] (R113). -/
def CMD_BATCH_ETH0 : Fld := ⟨wordAddr 0x02 0xD, 0, 13⟩
/-- CMD.BATCH_ETH1 [12:0] (R113). -/
def CMD_BATCH_ETH1 : Fld := ⟨wordAddr 0x02 0xE, 0, 13⟩
/-- CMD.FRAME_MARK [31:0] (R113). -/
def CMD_FRAME_MARK : Fld := ⟨wordAddr 0x02 0x10, 0, 32⟩
/-- CMD.COMMIT_STAT.SCHEDULED [4:0] (R113). -/
def CMD_COMMIT_STAT_SCHEDULED : Fld := ⟨wordAddr 0x02 0x11, 0, 5⟩
/-- FAB.WAIT_MAX [31:0] (R607). -/
def FAB_WAIT_MAX : Fld := ⟨wordAddr 0x03 0x0, 0, 32⟩
/-- FAB.WEIGHT [3:0] (R607). -/
def FAB_WEIGHT (i : Nat) : Fld := ⟨wordAddr 0x03 (0x100 + i), 0, 4⟩
/-- MEM.TIMEOUTS.COUNT [15:0] (R608). -/
def MEM_TIMEOUTS_COUNT : Fld := ⟨wordAddr 0x04 0x0, 0, 16⟩
/-- MEM.TIMEOUTS.RETRY_FAIL [31:16] (R608). -/
def MEM_TIMEOUTS_RETRY_FAIL : Fld := ⟨wordAddr 0x04 0x0, 16, 16⟩
/-- MEM.ECC.CORRECTED [15:0] (R608). -/
def MEM_ECC_CORRECTED : Fld := ⟨wordAddr 0x04 0x1, 0, 16⟩
/-- MEM.ECC.UNCORR [31:16] (R608). -/
def MEM_ECC_UNCORR : Fld := ⟨wordAddr 0x04 0x1, 16, 16⟩
/-- MEM.STAT.REFRESH [1:0] (R608). -/
def MEM_STAT_REFRESH : Fld := ⟨wordAddr 0x04 0x2, 0, 2⟩
/-- MEM.STAT.TRAINED [2:2] (R608). -/
def MEM_STAT_TRAINED : Fld := ⟨wordAddr 0x04 0x2, 2, 1⟩
/-- MEM.STAT.MRAM_BUSY [3:3] (R608). -/
def MEM_STAT_MRAM_BUSY : Fld := ⟨wordAddr 0x04 0x2, 3, 1⟩
/-- TIME.STATE [1:0] (R221). -/
def TIME_STATE : Fld := ⟨wordAddr 0x08 0x0, 0, 2⟩
/-- TIME.STATE.SOURCE [3:2] (R221). -/
def TIME_STATE_SOURCE : Fld := ⟨wordAddr 0x08 0x0, 2, 2⟩
/-- TIME.STATE.SLEWING [4:4] (R221). -/
def TIME_STATE_SLEWING : Fld := ⟨wordAddr 0x08 0x0, 4, 1⟩
/-- TIME.STATE.MASTER [5:5] (R221). -/
def TIME_STATE_MASTER : Fld := ⟨wordAddr 0x08 0x0, 5, 1⟩
/-- TIME.STATE.HOLD_CAUSE [8:6] (R221). -/
def TIME_STATE_HOLD_CAUSE : Fld := ⟨wordAddr 0x08 0x0, 6, 3⟩
/-- TIME.STATE.JUMP_REFUSED [9:9] (R221). -/
def TIME_STATE_JUMP_REFUSED : Fld := ⟨wordAddr 0x08 0x0, 9, 1⟩
/-- TIME.STATE.MISALIGN [10:10] (R221). -/
def TIME_STATE_MISALIGN : Fld := ⟨wordAddr 0x08 0x0, 10, 1⟩
/-- TIME.STATE.PORT_SWITCHED [11:11] (R221). -/
def TIME_STATE_PORT_SWITCHED : Fld := ⟨wordAddr 0x08 0x0, 11, 1⟩
/-- TIME.STATE.JUMP_SEEN [19:16] (R221). -/
def TIME_STATE_JUMP_SEEN : Fld := ⟨wordAddr 0x08 0x0, 16, 4⟩
/-- TIME.STATE.STEPS [31:24] (R221). -/
def TIME_STATE_STEPS : Fld := ⟨wordAddr 0x08 0x0, 24, 8⟩
/-- TIME.NOW_FRAC [31:0] (R221). -/
def TIME_NOW_FRAC : Fld := ⟨wordAddr 0x08 0x1, 0, 32⟩
/-- TIME.NOW_LO [31:0] (R221). -/
def TIME_NOW_LO : Fld := ⟨wordAddr 0x08 0x2, 0, 32⟩
/-- TIME.NOW_HI [31:0] (R221). -/
def TIME_NOW_HI : Fld := ⟨wordAddr 0x08 0x3, 0, 32⟩
/-- TIME.RATE.ADJ [31:0] (R221). -/
def TIME_RATE_ADJ : Fld := ⟨wordAddr 0x08 0x4, 0, 32⟩
/-- TIME.RATE_I [31:0] (R221). -/
def TIME_RATE_I : Fld := ⟨wordAddr 0x08 0x5, 0, 32⟩
/-- TIME.OFFSET [31:0] (R221). -/
def TIME_OFFSET : Fld := ⟨wordAddr 0x08 0x6, 0, 32⟩
/-- TIME.PATH_DELAY [31:0] (R221). -/
def TIME_PATH_DELAY : Fld := ⟨wordAddr 0x08 0x7, 0, 32⟩
/-- TIME.REFUSED_OFFSET [31:0] (R221). -/
def TIME_REFUSED_OFFSET : Fld := ⟨wordAddr 0x08 0x8, 0, 32⟩
/-- TIME.HOLDOVER_MS [31:0] (R221). -/
def TIME_HOLDOVER_MS : Fld := ⟨wordAddr 0x08 0x9, 0, 32⟩
/-- TIME.CFG.SOURCE [0:0] (R221). -/
def TIME_CFG_SOURCE : Fld := ⟨wordAddr 0x08 0x10, 0, 1⟩
/-- TIME.CFG.PTP_PORT [1:1] (R221). -/
def TIME_CFG_PTP_PORT : Fld := ⟨wordAddr 0x08 0x10, 1, 1⟩
/-- TIME.CFG.AUTO_PORT [2:2] (R221). -/
def TIME_CFG_AUTO_PORT : Fld := ⟨wordAddr 0x08 0x10, 2, 1⟩
/-- TIME.CFG.ONE_STEP [3:3] (R221). -/
def TIME_CFG_ONE_STEP : Fld := ⟨wordAddr 0x08 0x10, 3, 1⟩
/-- TIME.CFG.P2P [4:4] (R221). -/
def TIME_CFG_P2P : Fld := ⟨wordAddr 0x08 0x10, 4, 1⟩
/-- TIME.CFG.L2 [5:5] (R221). -/
def TIME_CFG_L2 : Fld := ⟨wordAddr 0x08 0x10, 5, 1⟩
/-- TIME.CFG.MASTER_EN [6:6] (R221). -/
def TIME_CFG_MASTER_EN : Fld := ⟨wordAddr 0x08 0x10, 6, 1⟩
/-- TIME.CFG.DOMAIN [22:16] (R221). -/
def TIME_CFG_DOMAIN : Fld := ⟨wordAddr 0x08 0x10, 16, 7⟩
/-- TIME.CFG.LOG_SYNC [27:24] (R221). -/
def TIME_CFG_LOG_SYNC : Fld := ⟨wordAddr 0x08 0x10, 24, 4⟩
/-- TIME.PTP_ID.PRIORITY1 [7:0] (R221). -/
def TIME_PTP_ID_PRIORITY1 : Fld := ⟨wordAddr 0x08 0x11, 0, 8⟩
/-- TIME.PTP_ID.PRIORITY2 [15:8] (R221). -/
def TIME_PTP_ID_PRIORITY2 : Fld := ⟨wordAddr 0x08 0x11, 8, 8⟩
/-- TIME.PTP_ID.CLOCK_CLASS [23:16] (R221). -/
def TIME_PTP_ID_CLOCK_CLASS : Fld := ⟨wordAddr 0x08 0x11, 16, 8⟩
/-- TIME.SERVO.ALPHA_SHIFT [3:0] (R221). -/
def TIME_SERVO_ALPHA_SHIFT : Fld := ⟨wordAddr 0x08 0x12, 0, 4⟩
/-- TIME.SERVO.BETA_SHIFT [7:4] (R221). -/
def TIME_SERVO_BETA_SHIFT : Fld := ⟨wordAddr 0x08 0x12, 4, 4⟩
/-- TIME.SERVO.RATE_MAX [25:16] (R221). -/
def TIME_SERVO_RATE_MAX : Fld := ⟨wordAddr 0x08 0x12, 16, 10⟩
/-- TIME.ASYM [31:0] (R221). -/
def TIME_ASYM : Fld := ⟨wordAddr 0x08 0x13, 0, 32⟩
/-- TIME.TS_CORR [31:0] (R221). -/
def TIME_TS_CORR (i : Nat) : Fld := ⟨wordAddr 0x08 (0x18 + i), 0, 32⟩
/-- TIME.JUMP_THRESH [19:0] (R221). -/
def TIME_JUMP_THRESH : Fld := ⟨wordAddr 0x08 0x40, 0, 20⟩
/-- TIME.JUMP_COUNT [3:0] (R221). -/
def TIME_JUMP_COUNT : Fld := ⟨wordAddr 0x08 0x41, 0, 4⟩
/-- TIME.SLEW_MAX [16:0] (R221). -/
def TIME_SLEW_MAX : Fld := ⟨wordAddr 0x08 0x42, 0, 17⟩
/-- TIME.MISALIGN_NS [7:0] (R221). -/
def TIME_MISALIGN_NS : Fld := ⟨wordAddr 0x08 0x43, 0, 8⟩
/-- TIME.TRIG_CTRL.MODE [1:0] (R227). -/
def TIME_TRIG_CTRL_MODE (i : Nat) : Fld := ⟨wordAddr 0x08 (0x100 + 0x8 * i), 0, 2⟩
/-- TIME.TRIG_CTRL.POL [2:2] (R227). -/
def TIME_TRIG_CTRL_POL (i : Nat) : Fld := ⟨wordAddr 0x08 (0x100 + 0x8 * i), 2, 1⟩
/-- TIME.TRIG_CTRL.TIED [3:3] (R227). -/
def TIME_TRIG_CTRL_TIED (i : Nat) : Fld := ⟨wordAddr 0x08 (0x100 + 0x8 * i), 3, 1⟩
/-- TIME.TRIG_CTRL.TIE_CH [9:4] (R227). -/
def TIME_TRIG_CTRL_TIE_CH (i : Nat) : Fld := ⟨wordAddr 0x08 (0x100 + 0x8 * i), 4, 6⟩
/-- TIME.TRIG_START_LO.START_LO [31:0] (R227). -/
def TIME_TRIG_START_LO (i : Nat) : Fld := ⟨wordAddr 0x08 (0x101 + 0x8 * i), 0, 32⟩
/-- TIME.TRIG_START_HI.START_HI [15:0] (R227). -/
def TIME_TRIG_START_HI (i : Nat) : Fld := ⟨wordAddr 0x08 (0x102 + 0x8 * i), 0, 16⟩
/-- TIME.TRIG_PERIOD_NS.PERIOD_NS [31:0] (R227). -/
def TIME_TRIG_PERIOD_NS (i : Nat) : Fld := ⟨wordAddr 0x08 (0x103 + 0x8 * i), 0, 32⟩
/-- TIME.TRIG_PERIOD_FRAC.PERIOD_FRAC [15:0] (R227). -/
def TIME_TRIG_PERIOD_FRAC (i : Nat) : Fld := ⟨wordAddr 0x08 (0x104 + 0x8 * i), 0, 16⟩
/-- TIME.TRIG_WIDTH.WIDTH [23:0] (R227). -/
def TIME_TRIG_WIDTH (i : Nat) : Fld := ⟨wordAddr 0x08 (0x105 + 0x8 * i), 0, 24⟩
/-- TIME.TRIG_COUNT.COUNT [31:0] (R227). -/
def TIME_TRIG_COUNT (i : Nat) : Fld := ⟨wordAddr 0x08 (0x106 + 0x8 * i), 0, 32⟩
/-- TIME.TRIG_STAT.ACTIVE [0:0] (R227). -/
def TIME_TRIG_STAT_ACTIVE (i : Nat) : Fld := ⟨wordAddr 0x08 (0x107 + 0x8 * i), 0, 1⟩
/-- TIME.TRIG_STAT.LATE [1:1] (R227). -/
def TIME_TRIG_STAT_LATE (i : Nat) : Fld := ⟨wordAddr 0x08 (0x107 + 0x8 * i), 1, 1⟩
/-- TIME.TRIG_STAT.SKIP [2:2] (R227). -/
def TIME_TRIG_STAT_SKIP (i : Nat) : Fld := ⟨wordAddr 0x08 (0x107 + 0x8 * i), 2, 1⟩
/-- TIME.TRIG_STAT.SKIPPED [31:16] (R227). -/
def TIME_TRIG_STAT_SKIPPED (i : Nat) : Fld := ⟨wordAddr 0x08 (0x107 + 0x8 * i), 16, 16⟩
/-- TIME.CAP_CFG.EDGE [1:0] (R231). -/
def TIME_CAP_CFG_EDGE (i : Nat) : Fld := ⟨wordAddr 0x08 (0x200 + 0x2 * i), 0, 2⟩
/-- TIME.CAP_STAT.DEPTH [4:0] (R231). -/
def TIME_CAP_STAT_DEPTH (i : Nat) : Fld := ⟨wordAddr 0x08 (0x201 + 0x2 * i), 0, 5⟩
/-- TIME.CAP_STAT.OVERFLOW [31:16] (R231). -/
def TIME_CAP_STAT_OVERFLOW (i : Nat) : Fld := ⟨wordAddr 0x08 (0x201 + 0x2 * i), 16, 16⟩
/-- NET.IPV4_ADDR0 [31:0] (R93). -/
def NET_IPV4_ADDR0 : Fld := ⟨wordAddr 0x09 0x10, 0, 32⟩
/-- NET.IPV4_ADDR1 [31:0] (R93). -/
def NET_IPV4_ADDR1 : Fld := ⟨wordAddr 0x09 0x11, 0, 32⟩
/-- NET.CMD_UDP.PORT [15:0] (R93). -/
def NET_CMD_UDP_PORT : Fld := ⟨wordAddr 0x09 0x12, 0, 16⟩
/-- NET.CMD_UDP.ENABLE0 [16:16] (R93). -/
def NET_CMD_UDP_ENABLE0 : Fld := ⟨wordAddr 0x09 0x12, 16, 1⟩
/-- NET.CMD_UDP.ENABLE1 [17:17] (R93). -/
def NET_CMD_UDP_ENABLE1 : Fld := ⟨wordAddr 0x09 0x12, 17, 1⟩
/-- NET.LOSS_LOG0.DISCARDED [8:0] (R131). -/
def NET_LOSS_LOG0_DISCARDED : Fld := ⟨wordAddr 0x09 0x18, 0, 9⟩
/-- NET.LOSS_LOG0.UNREPLIED [24:16] (R131). -/
def NET_LOSS_LOG0_UNREPLIED : Fld := ⟨wordAddr 0x09 0x18, 16, 9⟩
/-- NET.LOSS_LOG0.VALID [31:31] (R131). -/
def NET_LOSS_LOG0_VALID : Fld := ⟨wordAddr 0x09 0x18, 31, 1⟩
/-- NET.LOSS_LOG1.DISCARDED [8:0] (R131). -/
def NET_LOSS_LOG1_DISCARDED : Fld := ⟨wordAddr 0x09 0x19, 0, 9⟩
/-- NET.LOSS_LOG1.UNREPLIED [24:16] (R131). -/
def NET_LOSS_LOG1_UNREPLIED : Fld := ⟨wordAddr 0x09 0x19, 16, 9⟩
/-- NET.LOSS_LOG1.VALID [31:31] (R131). -/
def NET_LOSS_LOG1_VALID : Fld := ⟨wordAddr 0x09 0x19, 31, 1⟩
/-- STREAM.CONFIG.STAGE_KB [14:0] (R159). -/
def STREAM_CONFIG_STAGE_KB : Fld := ⟨wordAddr 0x10 0x0, 0, 15⟩
/-- STREAM.S_STAT.STATE [2:0] (R159). -/
def STREAM_S_STAT_STATE (i : Nat) : Fld := ⟨wordAddr 0x10 (0x100 + 0x8 * i), 0, 3⟩
/-- STREAM.S_STAT.STALL [3:3] (R159). -/
def STREAM_S_STAT_STALL (i : Nat) : Fld := ⟨wordAddr 0x10 (0x100 + 0x8 * i), 3, 1⟩
/-- STREAM.S_STAT.ENCRYPTED [4:4] (R159). -/
def STREAM_S_STAT_ENCRYPTED (i : Nat) : Fld := ⟨wordAddr 0x10 (0x100 + 0x8 * i), 4, 1⟩
/-- STREAM.S_STAT.COMPRESSED [5:5] (R159). -/
def STREAM_S_STAT_COMPRESSED (i : Nat) : Fld := ⟨wordAddr 0x10 (0x100 + 0x8 * i), 5, 1⟩
/-- STREAM.S_STAT.CONTEXT [15:8] (R159). -/
def STREAM_S_STAT_CONTEXT (i : Nat) : Fld := ⟨wordAddr 0x10 (0x100 + 0x8 * i), 8, 8⟩
/-- STREAM.S_STAT.DETAIL [31:16] (R159). -/
def STREAM_S_STAT_DETAIL (i : Nat) : Fld := ⟨wordAddr 0x10 (0x100 + 0x8 * i), 16, 16⟩
/-- STREAM.S_BYTES_LO [31:0] (R159). -/
def STREAM_S_BYTES_LO (i : Nat) : Fld := ⟨wordAddr 0x10 (0x101 + 0x8 * i), 0, 32⟩
/-- STREAM.S_BYTES_HI [31:0] (R159). -/
def STREAM_S_BYTES_HI (i : Nat) : Fld := ⟨wordAddr 0x10 (0x102 + 0x8 * i), 0, 32⟩
/-- STREAM.S_INBUF [20:0] (R159). -/
def STREAM_S_INBUF (i : Nat) : Fld := ⟨wordAddr 0x10 (0x103 + 0x8 * i), 0, 21⟩
/-- STREAM.S_CHUNK_LO [31:0] (R159). -/
def STREAM_S_CHUNK_LO (i : Nat) : Fld := ⟨wordAddr 0x10 (0x104 + 0x8 * i), 0, 32⟩
/-- STREAM.S_CHUNK_HI [31:0] (R159). -/
def STREAM_S_CHUNK_HI (i : Nat) : Fld := ⟨wordAddr 0x10 (0x105 + 0x8 * i), 0, 32⟩
/-- STREAM.S_LAYER_PARSED [31:0] (R159). -/
def STREAM_S_LAYER_PARSED (i : Nat) : Fld := ⟨wordAddr 0x10 (0x106 + 0x8 * i), 0, 32⟩
/-- STREAM.S_LAYER_EXEC [31:0] (R159). -/
def STREAM_S_LAYER_EXEC (i : Nat) : Fld := ⟨wordAddr 0x10 (0x107 + 0x8 * i), 0, 32⟩
/-- STREAM.CH_STAGE.HOLDER [7:0] (R159). -/
def STREAM_CH_STAGE_HOLDER (i : Nat) : Fld := ⟨wordAddr 0x10 (0xA00 + i), 0, 8⟩
/-- STREAM.CH_STAGE.HELD [8:8] (R159). -/
def STREAM_CH_STAGE_HELD (i : Nat) : Fld := ⟨wordAddr 0x10 (0xA00 + i), 8, 1⟩
/-- STREAM.CH_STAGE.BROKEN [9:9] (R159). -/
def STREAM_CH_STAGE_BROKEN (i : Nat) : Fld := ⟨wordAddr 0x10 (0xA00 + i), 9, 1⟩
/-- STREAM.CH_STAGE.STAGED_KB [31:16] (R159). -/
def STREAM_CH_STAGE_STAGED_KB (i : Nat) : Fld := ⟨wordAddr 0x10 (0xA00 + i), 16, 16⟩
/-- STREAM.CH_LATE.COUNT [31:0] (R159). -/
def STREAM_CH_LATE_COUNT (i : Nat) : Fld := ⟨wordAddr 0x10 (0xA40 + i), 0, 32⟩
/-- PACK.CONFIG.STREAM_ENG [2:0] (R191). -/
def PACK_CONFIG_STREAM_ENG : Fld := ⟨wordAddr 0x11 0x0, 0, 3⟩
/-- PACK.CONFIG.TEL_ENG [5:4] (R191). -/
def PACK_CONFIG_TEL_ENG : Fld := ⟨wordAddr 0x11 0x0, 4, 2⟩
/-- PACK.CONFIG.QUANTUM_KB [19:8] (R191). -/
def PACK_CONFIG_QUANTUM_KB : Fld := ⟨wordAddr 0x11 0x0, 8, 12⟩
/-- PACK.STAT.BUSY [5:0] (R191). -/
def PACK_STAT_BUSY : Fld := ⟨wordAddr 0x11 0x1, 0, 6⟩
/-- PACK.STAT.JOBS_RUNNING [10:8] (R191). -/
def PACK_STAT_JOBS_RUNNING : Fld := ⟨wordAddr 0x11 0x1, 8, 3⟩
/-- PACK.STAT.JOBS_QUEUED [25:16] (R191). -/
def PACK_STAT_JOBS_QUEUED : Fld := ⟨wordAddr 0x11 0x1, 16, 10⟩
/-- PACK.STAT.PERSISTENT [29:26] (R191). -/
def PACK_STAT_PERSISTENT : Fld := ⟨wordAddr 0x11 0x1, 26, 4⟩
/-- PACK.ENG_STAT.SLOT [7:0] (R191). -/
def PACK_ENG_STAT_SLOT (i : Nat) : Fld := ⟨wordAddr 0x11 (0x10 + i), 0, 8⟩
/-- PACK.ENG_STAT.ACTIVE [8:8] (R191). -/
def PACK_ENG_STAT_ACTIVE (i : Nat) : Fld := ⟨wordAddr 0x11 (0x10 + i), 8, 1⟩
/-- PACK.ENG_STAT.CLASS [10:9] (R191). -/
def PACK_ENG_STAT_CLASS (i : Nat) : Fld := ⟨wordAddr 0x11 (0x10 + i), 9, 2⟩
/-- PACK.ENG_STAT.SWITCHES [31:16] (R191). -/
def PACK_ENG_STAT_SWITCHES (i : Nat) : Fld := ⟨wordAddr 0x11 (0x10 + i), 16, 16⟩
/-- PACK.TEL_CFG.RESYNC [7:0] (R191). -/
def PACK_TEL_CFG_RESYNC : Fld := ⟨wordAddr 0x11 0x20, 0, 8⟩
/-- PACK.TEL_CFG.FIRST_SLOT [15:8] (R191). -/
def PACK_TEL_CFG_FIRST_SLOT : Fld := ⟨wordAddr 0x11 0x20, 8, 8⟩
/-- PACK.TEL_CFG.CHUNK_MAX [21:16] (R191). -/
def PACK_TEL_CFG_CHUNK_MAX : Fld := ⟨wordAddr 0x11 0x20, 16, 6⟩
/-- PACK.SLOT.STATE [1:0] (R191). -/
def PACK_SLOT_STATE (i : Nat) : Fld := ⟨wordAddr 0x11 (0x100 + i), 0, 2⟩
/-- PACK.SLOT.HELD [2:2] (R191). -/
def PACK_SLOT_HELD (i : Nat) : Fld := ⟨wordAddr 0x11 (0x100 + i), 2, 1⟩
/-- PACK.SLOT.HOLDER [4:3] (R191). -/
def PACK_SLOT_HOLDER (i : Nat) : Fld := ⟨wordAddr 0x11 (0x100 + i), 3, 2⟩
/-- PACK.SLOT.PERSIST [5:5] (R191). -/
def PACK_SLOT_PERSIST (i : Nat) : Fld := ⟨wordAddr 0x11 (0x100 + i), 5, 1⟩
/-- PACK.SLOT.JOURNAL_VALID [6:6] (R191). -/
def PACK_SLOT_JOURNAL_VALID (i : Nat) : Fld := ⟨wordAddr 0x11 (0x100 + i), 6, 1⟩
/-- PACK.SLOT.CLEAR_MODE [7:7] (R191). -/
def PACK_SLOT_CLEAR_MODE (i : Nat) : Fld := ⟨wordAddr 0x11 (0x100 + i), 7, 1⟩
/-- PACK.SLOT.SEALED [8:8] (R191). -/
def PACK_SLOT_SEALED (i : Nat) : Fld := ⟨wordAddr 0x11 (0x100 + i), 8, 1⟩
/-- PACK.SLOT.WIDTH [15:12] (R191). -/
def PACK_SLOT_WIDTH (i : Nat) : Fld := ⟨wordAddr 0x11 (0x100 + i), 12, 4⟩
/-- PACK.SLOT.ENTRIES [31:16] (R191). -/
def PACK_SLOT_ENTRIES (i : Nat) : Fld := ⟨wordAddr 0x11 (0x100 + i), 16, 16⟩
/-- SEQ.CH_STATE.STATE [2:0] (R31). -/
def SEQ_CH_STATE_STATE (c : Nat) : Fld := ⟨chanAddr 0x18 c 0x0, 0, 3⟩
/-- SEQ.CH_STATE.GATE [3:3] (R31). -/
def SEQ_CH_STATE_GATE (c : Nat) : Fld := ⟨chanAddr 0x18 c 0x0, 3, 1⟩
/-- SEQ.CH_STATE.ONLINE [8:8] (R31). -/
def SEQ_CH_STATE_ONLINE (c : Nat) : Fld := ⟨chanAddr 0x18 c 0x0, 8, 1⟩
/-- SEQ.CH_STATE.ARM [9:9] (R31). -/
def SEQ_CH_STATE_ARM (c : Nat) : Fld := ⟨chanAddr 0x18 c 0x0, 9, 1⟩
/-- SEQ.CH_STATE.DISARM [10:10] (R31). -/
def SEQ_CH_STATE_DISARM (c : Nat) : Fld := ⟨chanAddr 0x18 c 0x0, 10, 1⟩
/-- SEQ.CH_STATE.HOLD [11:11] (R31). -/
def SEQ_CH_STATE_HOLD (c : Nat) : Fld := ⟨chanAddr 0x18 c 0x0, 11, 1⟩
/-- SEQ.CH_STATE.RELEASE [12:12] (R31). -/
def SEQ_CH_STATE_RELEASE (c : Nat) : Fld := ⟨chanAddr 0x18 c 0x0, 12, 1⟩
/-- SEQ.CH_STATE.CLEAR [13:13] (R31). -/
def SEQ_CH_STATE_CLEAR (c : Nat) : Fld := ⟨chanAddr 0x18 c 0x0, 13, 1⟩
/-- SEQ.CH_STATE.OFF [14:14] (R31). -/
def SEQ_CH_STATE_OFF (c : Nat) : Fld := ⟨chanAddr 0x18 c 0x0, 14, 1⟩
/-- SEQ.CH_STATE.CAUSE [23:16] (R31). -/
def SEQ_CH_STATE_CAUSE (c : Nat) : Fld := ⟨chanAddr 0x18 c 0x0, 16, 8⟩
/-- SEQ.CH_STAT.ACTIVE [0:0] (R280). -/
def SEQ_CH_STAT_ACTIVE (c : Nat) : Fld := ⟨chanAddr 0x18 c 0x1, 0, 1⟩
/-- SEQ.CH_STAT.BLEND [1:1] (R280). -/
def SEQ_CH_STAT_BLEND (c : Nat) : Fld := ⟨chanAddr 0x18 c 0x1, 1, 1⟩
/-- SEQ.CH_STAT.STARVED [2:2] (R280). -/
def SEQ_CH_STAT_STARVED (c : Nat) : Fld := ⟨chanAddr 0x18 c 0x1, 2, 1⟩
/-- SEQ.CH_STAT.LAGGING [3:3] (R280). -/
def SEQ_CH_STAT_LAGGING (c : Nat) : Fld := ⟨chanAddr 0x18 c 0x1, 3, 1⟩
/-- SEQ.CH_STAT.HOLD_PENDING [4:4] (R280). -/
def SEQ_CH_STAT_HOLD_PENDING (c : Nat) : Fld := ⟨chanAddr 0x18 c 0x1, 4, 1⟩
/-- SEQ.CH_STAT.DEFERRED [5:5] (R280). -/
def SEQ_CH_STAT_DEFERRED (c : Nat) : Fld := ⟨chanAddr 0x18 c 0x1, 5, 1⟩
/-- SEQ.CH_STAT.PARKING [6:6] (R280). -/
def SEQ_CH_STAT_PARKING (c : Nat) : Fld := ⟨chanAddr 0x18 c 0x1, 6, 1⟩
/-- SEQ.CH_STAT.REC_TYPE [11:8] (R280). -/
def SEQ_CH_STAT_REC_TYPE (c : Nat) : Fld := ⟨chanAddr 0x18 c 0x1, 8, 4⟩
/-- SEQ.CH_STAT.QUEUE_DEPTH [26:16] (R280). -/
def SEQ_CH_STAT_QUEUE_DEPTH (c : Nat) : Fld := ⟨chanAddr 0x18 c 0x1, 16, 11⟩
/-- SEQ.LAG [31:0] (R280). -/
def SEQ_LAG (c : Nat) : Fld := ⟨chanAddr 0x18 c 0x2, 0, 32⟩
/-- SEQ.LAG_MAX [31:0] (R280). -/
def SEQ_LAG_MAX (c : Nat) : Fld := ⟨chanAddr 0x18 c 0x3, 0, 32⟩
/-- SEQ.EVENTS.LATE_STARTS [15:0] (R280). -/
def SEQ_EVENTS_LATE_STARTS (c : Nat) : Fld := ⟨chanAddr 0x18 c 0x4, 0, 16⟩
/-- SEQ.EVENTS.OVERRUNS [31:16] (R280). -/
def SEQ_EVENTS_OVERRUNS (c : Nat) : Fld := ⟨chanAddr 0x18 c 0x4, 16, 16⟩
/-- SEQ.CLAMPS.SPEED_CLAMPS [15:0] (R280). -/
def SEQ_CLAMPS_SPEED_CLAMPS (c : Nat) : Fld := ⟨chanAddr 0x18 c 0x5, 0, 16⟩
/-- SEQ.CLAMPS.STARVES [31:16] (R280). -/
def SEQ_CLAMPS_STARVES (c : Nat) : Fld := ⟨chanAddr 0x18 c 0x5, 16, 16⟩
/-- SEQ.REC_LO [31:0] (R280). -/
def SEQ_REC_LO (c : Nat) : Fld := ⟨chanAddr 0x18 c 0x6, 0, 32⟩
/-- SEQ.REC_HI [31:0] (R280). -/
def SEQ_REC_HI (c : Nat) : Fld := ⟨chanAddr 0x18 c 0x7, 0, 32⟩
/-- SEQ.LAYER [31:0] (R280). -/
def SEQ_LAYER (c : Nat) : Fld := ⟨chanAddr 0x18 c 0x8, 0, 32⟩
/-- SEQ.PROG_TAG [31:0] (R280). -/
def SEQ_PROG_TAG (c : Nat) : Fld := ⟨chanAddr 0x18 c 0x9, 0, 32⟩
/-- SEQ.BED_X [31:0] (R280). -/
def SEQ_BED_X (c : Nat) : Fld := ⟨chanAddr 0x18 c 0xA, 0, 32⟩
/-- SEQ.BED_Y [31:0] (R280). -/
def SEQ_BED_Y (c : Nat) : Fld := ⟨chanAddr 0x18 c 0xB, 0, 32⟩
/-- SEQ.BED_Z [31:0] (R280). -/
def SEQ_BED_Z (c : Nat) : Fld := ⟨chanAddr 0x18 c 0xC, 0, 32⟩
/-- SEQ.SLIP_LO [31:0] (R237). -/
def SEQ_SLIP_LO (c : Nat) : Fld := ⟨chanAddr 0x18 c 0x10, 0, 32⟩
/-- SEQ.SLIP_HI [31:0] (R237). -/
def SEQ_SLIP_HI (c : Nat) : Fld := ⟨chanAddr 0x18 c 0x11, 0, 32⟩
/-- SEQ.SLIP_HOLD_US [31:0] (R237). -/
def SEQ_SLIP_HOLD_US (c : Nat) : Fld := ⟨chanAddr 0x18 c 0x12, 0, 32⟩
/-- SEQ.SLIP_YIELD_US [31:0] (R237). -/
def SEQ_SLIP_YIELD_US (c : Nat) : Fld := ⟨chanAddr 0x18 c 0x13, 0, 32⟩
/-- SEQ.SLIP_FAULT_US [31:0] (R237). -/
def SEQ_SLIP_FAULT_US (c : Nat) : Fld := ⟨chanAddr 0x18 c 0x14, 0, 32⟩
/-- SEQ.ABSORB [30:0] (R237). -/
def SEQ_ABSORB (c : Nat) : Fld := ⟨chanAddr 0x18 c 0x15, 0, 31⟩
/-- SEQ.ABSORB_LAST [31:0] (R237). -/
def SEQ_ABSORB_LAST (c : Nat) : Fld := ⟨chanAddr 0x18 c 0x16, 0, 32⟩
/-- SEQ.ABSORB_STAT.PENDING [0:0] (R237). -/
def SEQ_ABSORB_STAT_PENDING (c : Nat) : Fld := ⟨chanAddr 0x18 c 0x17, 0, 1⟩
/-- SEQ.ABSORB_STAT.CLAMPED [1:1] (R237). -/
def SEQ_ABSORB_STAT_CLAMPED (c : Nat) : Fld := ⟨chanAddr 0x18 c 0x17, 1, 1⟩
/-- SEQ.VMAX [31:0] (R280). -/
def SEQ_VMAX (c : Nat) : Fld := ⟨chanAddr 0x18 c 0x20, 0, 32⟩
/-- SEQ.AMAX [31:0] (R280). -/
def SEQ_AMAX (c : Nat) : Fld := ⟨chanAddr 0x18 c 0x21, 0, 32⟩
/-- SEQ.JUMP_SPEED [31:0] (R280). -/
def SEQ_JUMP_SPEED (c : Nat) : Fld := ⟨chanAddr 0x18 c 0x22, 0, 32⟩
/-- SEQ.JUMP_AMAX [31:0] (R280). -/
def SEQ_JUMP_AMAX (c : Nat) : Fld := ⟨chanAddr 0x18 c 0x23, 0, 32⟩
/-- SEQ.ZVMAX [31:0] (R280). -/
def SEQ_ZVMAX (c : Nat) : Fld := ⟨chanAddr 0x18 c 0x24, 0, 32⟩
/-- SEQ.ZAMAX [31:0] (R280). -/
def SEQ_ZAMAX (c : Nat) : Fld := ⟨chanAddr 0x18 c 0x25, 0, 32⟩
/-- SEQ.SADDLE.SADDLE_DEF [15:0] (R280). -/
def SEQ_SADDLE_SADDLE_DEF (c : Nat) : Fld := ⟨chanAddr 0x18 c 0x26, 0, 16⟩
/-- SEQ.SADDLE.SADDLE_JUMP [31:16] (R280). -/
def SEQ_SADDLE_SADDLE_JUMP (c : Nat) : Fld := ⟨chanAddr 0x18 c 0x26, 16, 16⟩
/-- SEQ.TRACK.FLOOR [15:0] (R280). -/
def SEQ_TRACK_FLOOR (c : Nat) : Fld := ⟨chanAddr 0x18 c 0x27, 0, 16⟩
/-- SEQ.RUN_CFG.HOLD_AT [0:0] (R280). -/
def SEQ_RUN_CFG_HOLD_AT (c : Nat) : Fld := ⟨chanAddr 0x18 c 0x28, 0, 1⟩
/-- SEQ.RUN_CFG.LAG_LIMIT_US [31:8] (R280). -/
def SEQ_RUN_CFG_LAG_LIMIT_US (c : Nat) : Fld := ⟨chanAddr 0x18 c 0x28, 8, 24⟩
/-- SEQ.PARK_X [31:0] (R280). -/
def SEQ_PARK_X (c : Nat) : Fld := ⟨chanAddr 0x18 c 0x29, 0, 32⟩
/-- SEQ.PARK_Y [31:0] (R280). -/
def SEQ_PARK_Y (c : Nat) : Fld := ⟨chanAddr 0x18 c 0x2A, 0, 32⟩
/-- SEQ.PARK_Z [31:0] (R280). -/
def SEQ_PARK_Z (c : Nat) : Fld := ⟨chanAddr 0x18 c 0x2B, 0, 32⟩
/-- SEQ.XFORM_CTRL.TABLE [0:0] (R280). -/
def SEQ_XFORM_CTRL_TABLE (c : Nat) : Fld := ⟨chanAddr 0x18 c 0x30, 0, 1⟩
/-- SEQ.A11 [31:0] (R280). -/
def SEQ_A11 (c : Nat) : Fld := ⟨chanAddr 0x18 c 0x31, 0, 32⟩
/-- SEQ.A12 [31:0] (R280). -/
def SEQ_A12 (c : Nat) : Fld := ⟨chanAddr 0x18 c 0x32, 0, 32⟩
/-- SEQ.A21 [31:0] (R280). -/
def SEQ_A21 (c : Nat) : Fld := ⟨chanAddr 0x18 c 0x33, 0, 32⟩
/-- SEQ.A22 [31:0] (R280). -/
def SEQ_A22 (c : Nat) : Fld := ⟨chanAddr 0x18 c 0x34, 0, 32⟩
/-- SEQ.TX [31:0] (R280). -/
def SEQ_TX (c : Nat) : Fld := ⟨chanAddr 0x18 c 0x35, 0, 32⟩
/-- SEQ.TY [31:0] (R280). -/
def SEQ_TY (c : Nat) : Fld := ⟨chanAddr 0x18 c 0x36, 0, 32⟩
/-- SEQ.TZ [31:0] (R280). -/
def SEQ_TZ (c : Nat) : Fld := ⟨chanAddr 0x18 c 0x37, 0, 32⟩
/-- SEQ.PITCH [25:0] (R280). -/
def SEQ_PITCH (c : Nat) : Fld := ⟨chanAddr 0x18 c 0x38, 0, 26⟩
/-- SEQ.ZGAIN [31:0] (R280). -/
def SEQ_ZGAIN (c : Nat) : Fld := ⟨chanAddr 0x18 c 0x39, 0, 32⟩
/-- SEQ.TABLE_STAT.LOADED0 [0:0] (R280). -/
def SEQ_TABLE_STAT_LOADED0 (c : Nat) : Fld := ⟨chanAddr 0x18 c 0x40, 0, 1⟩
/-- SEQ.TABLE_STAT.LOADED1 [1:1] (R280). -/
def SEQ_TABLE_STAT_LOADED1 (c : Nat) : Fld := ⟨chanAddr 0x18 c 0x40, 1, 1⟩
/-- SEQ.TABLE_CRC0 [31:0] (R280). -/
def SEQ_TABLE_CRC0 (c : Nat) : Fld := ⟨chanAddr 0x18 c 0x41, 0, 32⟩
/-- SEQ.TABLE_CRC1 [31:0] (R280). -/
def SEQ_TABLE_CRC1 (c : Nat) : Fld := ⟨chanAddr 0x18 c 0x42, 0, 32⟩
/-- LOOP.CTRL.BANK_X [0:0] (R313). -/
def LOOP_CTRL_BANK_X (c : Nat) : Fld := ⟨chanAddr 0x20 c 0x0, 0, 1⟩
/-- LOOP.CTRL.BANK_Y [1:1] (R313). -/
def LOOP_CTRL_BANK_Y (c : Nat) : Fld := ⟨chanAddr 0x20 c 0x0, 1, 1⟩
/-- LOOP.CTRL.BANK_Z [2:2] (R313). -/
def LOOP_CTRL_BANK_Z (c : Nat) : Fld := ⟨chanAddr 0x20 c 0x0, 2, 1⟩
/-- LOOP.CTRL.FALLBACK [5:4] (R313). -/
def LOOP_CTRL_FALLBACK (c : Nat) : Fld := ⟨chanAddr 0x20 c 0x0, 4, 2⟩
/-- LOOP.CTRL.DETUNE_SHIFT [10:8] (R313). -/
def LOOP_CTRL_DETUNE_SHIFT (c : Nat) : Fld := ⟨chanAddr 0x20 c 0x0, 8, 3⟩
/-- LOOP.OSC.AMP [15:0] (R313). -/
def LOOP_OSC_AMP (c : Nat) : Fld := ⟨chanAddr 0x20 c 0x1, 0, 16⟩
/-- LOOP.OSC.COUNT [23:16] (R313). -/
def LOOP_OSC_COUNT (c : Nat) : Fld := ⟨chanAddr 0x20 c 0x1, 16, 8⟩
/-- LOOP.WIN.OSC_WIN [15:0] (R313). -/
def LOOP_WIN_OSC_WIN (c : Nat) : Fld := ⟨chanAddr 0x20 c 0x2, 0, 16⟩
/-- LOOP.WIN.SAT_FRAMES [31:16] (R313). -/
def LOOP_WIN_SAT_FRAMES (c : Nat) : Fld := ⟨chanAddr 0x20 c 0x2, 16, 16⟩
/-- LOOP.AX_STAT.SAT [0:0] (R313). -/
def LOOP_AX_STAT_SAT (c i : Nat) : Fld := ⟨chanAddr 0x20 c (0x10 + i), 0, 1⟩
/-- LOOP.AX_STAT.HELD [1:1] (R313). -/
def LOOP_AX_STAT_HELD (c i : Nat) : Fld := ⟨chanAddr 0x20 c (0x10 + i), 1, 1⟩
/-- LOOP.AX_STAT.BANK [2:2] (R313). -/
def LOOP_AX_STAT_BANK (c i : Nat) : Fld := ⟨chanAddr 0x20 c (0x10 + i), 2, 1⟩
/-- LOOP.AX_STAT.DETUNED [3:3] (R313). -/
def LOOP_AX_STAT_DETUNED (c i : Nat) : Fld := ⟨chanAddr 0x20 c (0x10 + i), 3, 1⟩
/-- LOOP.AX_STAT.ZERO [4:4] (R313). -/
def LOOP_AX_STAT_ZERO (c i : Nat) : Fld := ⟨chanAddr 0x20 c (0x10 + i), 4, 1⟩
/-- LOOP.AX_STAT.OSC_TRIP [5:5] (R313). -/
def LOOP_AX_STAT_OSC_TRIP (c i : Nat) : Fld := ⟨chanAddr 0x20 c (0x10 + i), 5, 1⟩
/-- LOOP.AX_STAT.SAT_TRIP [6:6] (R313). -/
def LOOP_AX_STAT_SAT_TRIP (c i : Nat) : Fld := ⟨chanAddr 0x20 c (0x10 + i), 6, 1⟩
/-- LOOP.AX_STAT.I_CLIPPED [7:7] (R313). -/
def LOOP_AX_STAT_I_CLIPPED (c i : Nat) : Fld := ⟨chanAddr 0x20 c (0x10 + i), 7, 1⟩
/-- LOOP.AX_STAT.CROSSINGS [15:8] (R313). -/
def LOOP_AX_STAT_CROSSINGS (c i : Nat) : Fld := ⟨chanAddr 0x20 c (0x10 + i), 8, 8⟩
/-- LOOP.AX_ERR.ERR [31:0] (R313). -/
def LOOP_AX_ERR (c i : Nat) : Fld := ⟨chanAddr 0x20 c (0x14 + i), 0, 32⟩
/-- LOOP.AX_INTEG.INTEG [31:0] (R313). -/
def LOOP_AX_INTEG (c i : Nat) : Fld := ⟨chanAddr 0x20 c (0x18 + i), 0, 32⟩
/-- LOOP.AX_OUT.CMD [15:0] (R313). -/
def LOOP_AX_OUT_CMD (c i : Nat) : Fld := ⟨chanAddr 0x20 c (0x1C + i), 0, 16⟩
/-- LOOP.AX_OUT.SAT_COUNT [31:16] (R313). -/
def LOOP_AX_OUT_SAT_COUNT (c i : Nat) : Fld := ⟨chanAddr 0x20 c (0x1C + i), 16, 16⟩
/-- LOOP.BANK_KP.KP [31:0] (R313). -/
def LOOP_BANK_KP (c i j : Nat) : Fld := ⟨chanAddr 0x20 c (0x40 + 0x40 * i + 0x20 * j), 0, 32⟩
/-- LOOP.BANK_KI.KI [31:0] (R313). -/
def LOOP_BANK_KI (c i j : Nat) : Fld := ⟨chanAddr 0x20 c (0x41 + 0x40 * i + 0x20 * j), 0, 32⟩
/-- LOOP.BANK_KD.KD [31:0] (R313). -/
def LOOP_BANK_KD (c i j : Nat) : Fld := ⟨chanAddr 0x20 c (0x42 + 0x40 * i + 0x20 * j), 0, 32⟩
/-- LOOP.BANK_DFILT.DFILT [16:0] (R313). -/
def LOOP_BANK_DFILT (c i j : Nat) : Fld := ⟨chanAddr 0x20 c (0x43 + 0x40 * i + 0x20 * j), 0, 17⟩
/-- LOOP.BANK_KV.KV [31:0] (R313). -/
def LOOP_BANK_KV (c i j : Nat) : Fld := ⟨chanAddr 0x20 c (0x44 + 0x40 * i + 0x20 * j), 0, 32⟩
/-- LOOP.BANK_KA.KA [31:0] (R313). -/
def LOOP_BANK_KA (c i j : Nat) : Fld := ⟨chanAddr 0x20 c (0x45 + 0x40 * i + 0x20 * j), 0, 32⟩
/-- LOOP.BANK_LIM.OFFSET [15:0] (R313). -/
def LOOP_BANK_LIM_OFFSET (c i j : Nat) : Fld := ⟨chanAddr 0x20 c (0x46 + 0x40 * i + 0x20 * j), 0, 16⟩
/-- LOOP.BANK_LIM.ILIM [30:16] (R313). -/
def LOOP_BANK_LIM_ILIM (c i j : Nat) : Fld := ⟨chanAddr 0x20 c (0x46 + 0x40 * i + 0x20 * j), 16, 15⟩
/-- LOOP.BANK_CLAMP.UMIN [15:0] (R313). -/
def LOOP_BANK_CLAMP_UMIN (c i j : Nat) : Fld := ⟨chanAddr 0x20 c (0x47 + 0x40 * i + 0x20 * j), 0, 16⟩
/-- LOOP.BANK_CLAMP.UMAX [31:16] (R313). -/
def LOOP_BANK_CLAMP_UMAX (c i j : Nat) : Fld := ⟨chanAddr 0x20 c (0x47 + 0x40 * i + 0x20 * j), 16, 16⟩
/-- TRACE.ENGINE_STAT.EVALS_LAST [8:0] (R315). -/
def TRACE_ENGINE_STAT_EVALS_LAST : Fld := ⟨wordAddr 0x21 0x0, 0, 9⟩
/-- TRACE.ENGINE_STAT.EVALS_MAX [24:16] (R315). -/
def TRACE_ENGINE_STAT_EVALS_MAX : Fld := ⟨wordAddr 0x21 0x0, 16, 9⟩
/-- TRACE.ECC.CORRECTED [15:0] (R315). -/
def TRACE_ECC_CORRECTED : Fld := ⟨wordAddr 0x21 0x1, 0, 16⟩
/-- TRACE.PROBE.NODE [7:0] (R315). -/
def TRACE_PROBE_NODE (i : Nat) : Fld := ⟨wordAddr 0x21 (0x10 + i), 0, 8⟩
/-- TRACE.PROBE.CHANNEL [13:8] (R315). -/
def TRACE_PROBE_CHANNEL (i : Nat) : Fld := ⟨wordAddr 0x21 (0x10 + i), 8, 6⟩
/-- TRACE.PROBE.AXIS [15:14] (R315). -/
def TRACE_PROBE_AXIS (i : Nat) : Fld := ⟨wordAddr 0x21 (0x10 + i), 14, 2⟩
/-- TRACE.PROBE.ENABLE [31:31] (R315). -/
def TRACE_PROBE_ENABLE (i : Nat) : Fld := ⟨wordAddr 0x21 (0x10 + i), 31, 1⟩
/-- TRACE.TCFG.MODE [1:0] (R315). -/
def TRACE_TCFG_MODE : Fld := ⟨wordAddr 0x21 0x20, 0, 2⟩
/-- TRACE.TCFG.PRE [31:16] (R315). -/
def TRACE_TCFG_PRE : Fld := ⟨wordAddr 0x21 0x20, 16, 16⟩
/-- TRACE.DECIM [15:0] (R315). -/
def TRACE_DECIM : Fld := ⟨wordAddr 0x21 0x21, 0, 16⟩
/-- TRACE.TRIG_TIME_LO [31:0] (R315). -/
def TRACE_TRIG_TIME_LO : Fld := ⟨wordAddr 0x21 0x22, 0, 32⟩
/-- TRACE.TRIG_TIME_HI [15:0] (R315). -/
def TRACE_TRIG_TIME_HI : Fld := ⟨wordAddr 0x21 0x23, 0, 16⟩
/-- TRACE.COND.PROBE [3:0] (R315). -/
def TRACE_COND_PROBE : Fld := ⟨wordAddr 0x21 0x24, 0, 4⟩
/-- TRACE.COND.OP [5:4] (R315). -/
def TRACE_COND_OP : Fld := ⟨wordAddr 0x21 0x24, 4, 2⟩
/-- TRACE.LEVEL [31:0] (R315). -/
def TRACE_LEVEL : Fld := ⟨wordAddr 0x21 0x25, 0, 32⟩
/-- TRACE.TSTAT.STATE [1:0] (R315). -/
def TRACE_TSTAT_STATE : Fld := ⟨wordAddr 0x21 0x30, 0, 2⟩
/-- TRACE.FIRST_LO [31:0] (R315). -/
def TRACE_FIRST_LO : Fld := ⟨wordAddr 0x21 0x31, 0, 32⟩
/-- TRACE.FIRST_HI [31:0] (R315). -/
def TRACE_FIRST_HI : Fld := ⟨wordAddr 0x21 0x32, 0, 32⟩
/-- TRACE.TRIG_INDEX [16:0] (R315). -/
def TRACE_TRIG_INDEX : Fld := ⟨wordAddr 0x21 0x33, 0, 17⟩
/-- TRACE.TCOUNT.COUNT [16:0] (R315). -/
def TRACE_TCOUNT : Fld := ⟨wordAddr 0x21 0x34, 0, 17⟩
/-- POWER.PCTRL.FF_EN [0:0] (R354). -/
def POWER_PCTRL_FF_EN (c : Nat) : Fld := ⟨chanAddr 0x28 c 0x0, 0, 1⟩
/-- POWER.PCTRL.LOOP_EN [1:1] (R354). -/
def POWER_PCTRL_LOOP_EN (c : Nat) : Fld := ⟨chanAddr 0x28 c 0x0, 1, 1⟩
/-- POWER.PCTRL.MON_EN [2:2] (R354). -/
def POWER_PCTRL_MON_EN (c : Nat) : Fld := ⟨chanAddr 0x28 c 0x0, 2, 1⟩
/-- POWER.PCTRL.REF_MODE [3:3] (R354). -/
def POWER_PCTRL_REF_MODE (c : Nat) : Fld := ⟨chanAddr 0x28 c 0x0, 3, 1⟩
/-- POWER.PCTRL.MEAS_SEL [5:4] (R354). -/
def POWER_PCTRL_MEAS_SEL (c : Nat) : Fld := ⟨chanAddr 0x28 c 0x0, 4, 2⟩
/-- POWER.PCTRL.BANK [6:6] (R354). -/
def POWER_PCTRL_BANK (c : Nat) : Fld := ⟨chanAddr 0x28 c 0x0, 6, 1⟩
/-- POWER.PCTRL.MON_ACT [9:8] (R354). -/
def POWER_PCTRL_MON_ACT (c : Nat) : Fld := ⟨chanAddr 0x28 c 0x0, 8, 2⟩
/-- POWER.P_RATED [15:0] (R354). -/
def POWER_P_RATED (c : Nat) : Fld := ⟨chanAddr 0x28 c 0x1, 0, 16⟩
/-- POWER.PMAX [15:0] (R354). -/
def POWER_PMAX (c : Nat) : Fld := ⟨chanAddr 0x28 c 0x2, 0, 16⟩
/-- POWER.DEP_SCALE [31:0] (R354). -/
def POWER_DEP_SCALE (c : Nat) : Fld := ⟨chanAddr 0x28 c 0x3, 0, 32⟩
/-- POWER.EM.EM_SET [15:0] (R354). -/
def POWER_EM_EM_SET (c : Nat) : Fld := ⟨chanAddr 0x28 c 0x4, 0, 16⟩
/-- POWER.EM.FREEZE_MAX [31:16] (R354). -/
def POWER_EM_FREEZE_MAX (c : Nat) : Fld := ⟨chanAddr 0x28 c 0x4, 16, 16⟩
/-- POWER.MON_WIN.EM_LO [15:0] (R354). -/
def POWER_MON_WIN_EM_LO (c : Nat) : Fld := ⟨chanAddr 0x28 c 0x5, 0, 16⟩
/-- POWER.MON_WIN.EM_HI [31:16] (R354). -/
def POWER_MON_WIN_EM_HI (c : Nat) : Fld := ⟨chanAddr 0x28 c 0x5, 16, 16⟩
/-- POWER.COUNTS.MON_COUNT [15:0] (R354). -/
def POWER_COUNTS_MON_COUNT (c : Nat) : Fld := ⟨chanAddr 0x28 c 0x6, 0, 16⟩
/-- POWER.COUNTS.SUM_FRAMES [31:16] (R354). -/
def POWER_COUNTS_SUM_FRAMES (c : Nat) : Fld := ⟨chanAddr 0x28 c 0x6, 16, 16⟩
/-- POWER.DARK.DARK1 [15:0] (R354). -/
def POWER_DARK_DARK1 (c : Nat) : Fld := ⟨chanAddr 0x28 c 0x7, 0, 16⟩
/-- POWER.DARK.DARK2 [31:16] (R354). -/
def POWER_DARK_DARK2 (c : Nat) : Fld := ⟨chanAddr 0x28 c 0x7, 16, 16⟩
/-- POWER.WEIGHT.W1 [15:0] (R354). -/
def POWER_WEIGHT_W1 (c : Nat) : Fld := ⟨chanAddr 0x28 c 0x8, 0, 16⟩
/-- POWER.WEIGHT.W2 [31:16] (R354). -/
def POWER_WEIGHT_W2 (c : Nat) : Fld := ⟨chanAddr 0x28 c 0x8, 16, 16⟩
/-- POWER.GATE_DLY.ON_DLY [8:0] (R354). -/
def POWER_GATE_DLY_ON_DLY (c i : Nat) : Fld := ⟨chanAddr 0x28 c (0x10 + i), 0, 9⟩
/-- POWER.GATE_DLY.OFF_DLY [24:16] (R354). -/
def POWER_GATE_DLY_OFF_DLY (c i : Nat) : Fld := ⟨chanAddr 0x28 c (0x10 + i), 16, 9⟩
/-- POWER.CURVE [15:0] (R354). -/
def POWER_CURVE (c i : Nat) : Fld := ⟨chanAddr 0x28 c (0x20 + i), 0, 16⟩
/-- POWER.P_STAT.FF_MATCH [0:0] (R354). -/
def POWER_P_STAT_FF_MATCH (c : Nat) : Fld := ⟨chanAddr 0x28 c 0x40, 0, 1⟩
/-- POWER.P_STAT.MEAS_VALID [1:1] (R354). -/
def POWER_P_STAT_MEAS_VALID (c : Nat) : Fld := ⟨chanAddr 0x28 c 0x40, 1, 1⟩
/-- POWER.P_STAT.FROZEN [2:2] (R354). -/
def POWER_P_STAT_FROZEN (c : Nat) : Fld := ⟨chanAddr 0x28 c 0x40, 2, 1⟩
/-- POWER.P_STAT.TRIM_SAT [3:3] (R354). -/
def POWER_P_STAT_TRIM_SAT (c : Nat) : Fld := ⟨chanAddr 0x28 c 0x40, 3, 1⟩
/-- POWER.P_STAT.OUTSIDE [4:4] (R354). -/
def POWER_P_STAT_OUTSIDE (c : Nat) : Fld := ⟨chanAddr 0x28 c 0x40, 4, 1⟩
/-- POWER.P_STAT.MON_TRIP [5:5] (R354). -/
def POWER_P_STAT_MON_TRIP (c : Nat) : Fld := ⟨chanAddr 0x28 c 0x40, 5, 1⟩
/-- POWER.P_STAT.MON_RUN [31:16] (R354). -/
def POWER_P_STAT_MON_RUN (c : Nat) : Fld := ⟨chanAddr 0x28 c 0x40, 16, 16⟩
/-- POWER.EM_LAST.M [15:0] (R354). -/
def POWER_EM_LAST_M (c : Nat) : Fld := ⟨chanAddr 0x28 c 0x41, 0, 16⟩
/-- POWER.EM_LAST.REF [31:16] (R354). -/
def POWER_EM_LAST_REF (c : Nat) : Fld := ⟨chanAddr 0x28 c 0x41, 16, 16⟩
/-- POWER.FF_LAST.G [15:0] (R354). -/
def POWER_FF_LAST_G (c : Nat) : Fld := ⟨chanAddr 0x28 c 0x42, 0, 16⟩
/-- POWER.FF_LAST.E [31:16] (R354). -/
def POWER_FF_LAST_E (c : Nat) : Fld := ⟨chanAddr 0x28 c 0x42, 16, 16⟩
/-- POWER.OUT_LAST.U0 [15:0] (R354). -/
def POWER_OUT_LAST_U0 (c : Nat) : Fld := ⟨chanAddr 0x28 c 0x43, 0, 16⟩
/-- POWER.OUT_LAST.U1 [31:16] (R354). -/
def POWER_OUT_LAST_U1 (c : Nat) : Fld := ⟨chanAddr 0x28 c 0x43, 16, 16⟩
/-- POWER.TRIM_LAST [15:0] (R354). -/
def POWER_TRIM_LAST (c : Nat) : Fld := ⟨chanAddr 0x28 c 0x44, 0, 16⟩
/-- POWER.INTEG [31:0] (R354). -/
def POWER_INTEG (c : Nat) : Fld := ⟨chanAddr 0x28 c 0x45, 0, 32⟩
/-- POWER.EVENTS.MISMATCH [15:0] (R354). -/
def POWER_EVENTS_MISMATCH (c : Nat) : Fld := ⟨chanAddr 0x28 c 0x46, 0, 16⟩
/-- POWER.EVENTS.MON_OUT [31:16] (R354). -/
def POWER_EVENTS_MON_OUT (c : Nat) : Fld := ⟨chanAddr 0x28 c 0x46, 16, 16⟩
/-- POWER.ENERGY_LO [31:0] (R354). -/
def POWER_ENERGY_LO (c : Nat) : Fld := ⟨chanAddr 0x28 c 0x47, 0, 32⟩
/-- POWER.ENERGY_HI [31:0] (R354). -/
def POWER_ENERGY_HI (c : Nat) : Fld := ⟨chanAddr 0x28 c 0x48, 0, 32⟩
/-- POWER.BANK_KP.KP [31:0] (R354). -/
def POWER_BANK_KP (c i : Nat) : Fld := ⟨chanAddr 0x28 c (0x80 + 0x10 * i), 0, 32⟩
/-- POWER.BANK_KI.KI [31:0] (R354). -/
def POWER_BANK_KI (c i : Nat) : Fld := ⟨chanAddr 0x28 c (0x81 + 0x10 * i), 0, 32⟩
/-- POWER.BANK_KD.KD [31:0] (R354). -/
def POWER_BANK_KD (c i : Nat) : Fld := ⟨chanAddr 0x28 c (0x82 + 0x10 * i), 0, 32⟩
/-- POWER.BANK_DFILT.DFILT [16:0] (R354). -/
def POWER_BANK_DFILT (c i : Nat) : Fld := ⟨chanAddr 0x28 c (0x83 + 0x10 * i), 0, 17⟩
/-- POWER.BANK_ILIM.ILIM [14:0] (R354). -/
def POWER_BANK_ILIM (c i : Nat) : Fld := ⟨chanAddr 0x28 c (0x84 + 0x10 * i), 0, 15⟩
/-- POWER.BANK_CLAMP.TMIN [15:0] (R354). -/
def POWER_BANK_CLAMP_TMIN (c i : Nat) : Fld := ⟨chanAddr 0x28 c (0x85 + 0x10 * i), 0, 16⟩
/-- POWER.BANK_CLAMP.TMAX [31:16] (R354). -/
def POWER_BANK_CLAMP_TMAX (c i : Nat) : Fld := ⟨chanAddr 0x28 c (0x85 + 0x10 * i), 16, 16⟩
/-- LEDGER.CFG.T_SHIFT [3:0] (R355). -/
def LEDGER_CFG_T_SHIFT : Fld := ⟨wordAddr 0x29 0x0, 0, 4⟩
/-- LEDGER.CFG.HALF [29:16] (R355). -/
def LEDGER_CFG_HALF : Fld := ⟨wordAddr 0x29 0x0, 16, 14⟩
/-- LEDGER.REGION.I0 [15:0] (R355). -/
def LEDGER_REGION_I0 : Fld := ⟨wordAddr 0x29 0x1, 0, 16⟩
/-- LEDGER.REGION.J0 [31:16] (R355). -/
def LEDGER_REGION_J0 : Fld := ⟨wordAddr 0x29 0x1, 16, 16⟩
/-- LEDGER.REGION_N.NX [15:0] (R355). -/
def LEDGER_REGION_N_NX : Fld := ⟨wordAddr 0x29 0x2, 0, 16⟩
/-- LEDGER.REGION_N.NY [31:16] (R355). -/
def LEDGER_REGION_N_NY : Fld := ⟨wordAddr 0x29 0x2, 16, 16⟩
/-- LEDGER.TEL_IP [31:0] (R355). -/
def LEDGER_TEL_IP : Fld := ⟨wordAddr 0x29 0x3, 0, 32⟩
/-- LEDGER.TEL_DEST.UDP [15:0] (R355). -/
def LEDGER_TEL_DEST_UDP : Fld := ⟨wordAddr 0x29 0x4, 0, 16⟩
/-- LEDGER.TEL_DEST.PORT [16:16] (R355). -/
def LEDGER_TEL_DEST_PORT : Fld := ⟨wordAddr 0x29 0x4, 16, 1⟩
/-- LEDGER.TEL_DEST.ENABLE [17:17] (R355). -/
def LEDGER_TEL_DEST_ENABLE : Fld := ⟨wordAddr 0x29 0x4, 17, 1⟩
/-- LEDGER.TEL_DEST.FEED [21:18] (R355). -/
def LEDGER_TEL_DEST_FEED : Fld := ⟨wordAddr 0x29 0x4, 18, 4⟩
/-- LEDGER.STAT.ACTIVE [0:0] (R355). -/
def LEDGER_STAT_ACTIVE : Fld := ⟨wordAddr 0x29 0x10, 0, 1⟩
/-- LEDGER.SATURATED [31:0] (R355). -/
def LEDGER_SATURATED : Fld := ⟨wordAddr 0x29 0x11, 0, 32⟩
/-- LEDGER.OUTSIDE [31:0] (R355). -/
def LEDGER_OUTSIDE : Fld := ⟨wordAddr 0x29 0x12, 0, 32⟩
/-- LEDGER.FOREIGN_DROPPED [31:0] (R355). -/
def LEDGER_FOREIGN_DROPPED : Fld := ⟨wordAddr 0x29 0x13, 0, 32⟩
/-- LEDGER.FOREIGN_LAST [15:0] (R355). -/
def LEDGER_FOREIGN_LAST : Fld := ⟨wordAddr 0x29 0x14, 0, 16⟩
/-- LEDGER.ECC_UNCORR [15:0] (R355). -/
def LEDGER_ECC_UNCORR : Fld := ⟨wordAddr 0x29 0x15, 0, 16⟩
/-- LEDGER.SCRUB_POS [27:0] (R355). -/
def LEDGER_SCRUB_POS : Fld := ⟨wordAddr 0x29 0x16, 0, 28⟩
/-- LEDGER.TEL_DROPPED [31:0] (R355). -/
def LEDGER_TEL_DROPPED : Fld := ⟨wordAddr 0x29 0x17, 0, 32⟩
/-- COL.CFG.ENABLE [0:0] (R387). -/
def COL_CFG_ENABLE : Fld := ⟨wordAddr 0x30 0x100, 0, 1⟩
/-- COL.CFG.EXCL_EN [1:1] (R387). -/
def COL_CFG_EXCL_EN : Fld := ⟨wordAddr 0x30 0x100, 1, 1⟩
/-- COL.CFG.LEE_EN [2:2] (R387). -/
def COL_CFG_LEE_EN : Fld := ⟨wordAddr 0x30 0x100, 2, 1⟩
/-- COL.CFG.YIELD_WARN [15:8] (R387). -/
def COL_CFG_YIELD_WARN : Fld := ⟨wordAddr 0x30 0x100, 8, 8⟩
/-- COL.CFG.GUARD [31:16] (R387). -/
def COL_CFG_GUARD : Fld := ⟨wordAddr 0x30 0x100, 16, 16⟩
/-- COL.POSITIONS [15:0] (R387). -/
def COL_POSITIONS : Fld := ⟨wordAddr 0x30 0x101, 0, 16⟩
/-- COL.LEE_DIR.UX [15:0] (R387). -/
def COL_LEE_DIR_UX : Fld := ⟨wordAddr 0x30 0x102, 0, 16⟩
/-- COL.LEE_DIR.UY [31:16] (R387). -/
def COL_LEE_DIR_UY : Fld := ⟨wordAddr 0x30 0x102, 16, 16⟩
/-- COL.LEE_LEN [23:0] (R387). -/
def COL_LEE_LEN : Fld := ⟨wordAddr 0x30 0x103, 0, 24⟩
/-- COL.LEE_SHAPE.W0 [15:0] (R387). -/
def COL_LEE_SHAPE_W0 : Fld := ⟨wordAddr 0x30 0x104, 0, 16⟩
/-- COL.LEE_SHAPE.TAN [31:16] (R387). -/
def COL_LEE_SHAPE_TAN : Fld := ⟨wordAddr 0x30 0x104, 16, 16⟩
/-- COL.CLEAR.CLEAR_TOL [15:0] (R387). -/
def COL_CLEAR_CLEAR_TOL : Fld := ⟨wordAddr 0x30 0x105, 0, 16⟩
/-- COL.CHK_LO [31:0] (R387). -/
def COL_CHK_LO : Fld := ⟨wordAddr 0x30 0x110, 0, 32⟩
/-- COL.CHK_HI [31:0] (R387). -/
def COL_CHK_HI : Fld := ⟨wordAddr 0x30 0x111, 0, 32⟩
/-- COL.CHK_PAIRS [16:0] (R387). -/
def COL_CHK_PAIRS : Fld := ⟨wordAddr 0x30 0x112, 0, 17⟩
/-- COL.CHK_CONFLICTS [16:0] (R387). -/
def COL_CHK_CONFLICTS : Fld := ⟨wordAddr 0x30 0x113, 0, 17⟩
/-- COL.MISS.MISSED [15:0] (R387). -/
def COL_MISS_MISSED (i : Nat) : Fld := ⟨wordAddr 0x30 (0x120 + i), 0, 16⟩
/-- COL.MISS.FILLS [31:16] (R387). -/
def COL_MISS_FILLS (i : Nat) : Fld := ⟨wordAddr 0x30 (0x120 + i), 16, 16⟩
/-- COL.XR.XMIN [15:0] (R388). -/
def COL_XR_XMIN (i : Nat) : Fld := ⟨wordAddr 0x30 (0x200 + 0x4 * i), 0, 16⟩
/-- COL.XR.XMAX [31:16] (R388). -/
def COL_XR_XMAX (i : Nat) : Fld := ⟨wordAddr 0x30 (0x200 + 0x4 * i), 16, 16⟩
/-- COL.YR.YMIN [15:0] (R388). -/
def COL_YR_YMIN (i : Nat) : Fld := ⟨wordAddr 0x30 (0x201 + 0x4 * i), 0, 16⟩
/-- COL.YR.YMAX [31:16] (R388). -/
def COL_YR_YMAX (i : Nat) : Fld := ⟨wordAddr 0x30 (0x201 + 0x4 * i), 16, 16⟩
/-- COL.ZP.POSMASK [15:0] (R388). -/
def COL_ZP_POSMASK (i : Nat) : Fld := ⟨wordAddr 0x30 (0x202 + 0x4 * i), 0, 16⟩
/-- COL.ZP.RADIUS [31:16] (R388). -/
def COL_ZP_RADIUS (i : Nat) : Fld := ⟨wordAddr 0x30 (0x202 + 0x4 * i), 16, 16⟩
/-- COL.ZC.ENABLE [0:0] (R388). -/
def COL_ZC_ENABLE (i : Nat) : Fld := ⟨wordAddr 0x30 (0x203 + 0x4 * i), 0, 1⟩
/-- COL.ZC.TABLE [2:1] (R388). -/
def COL_ZC_TABLE (i : Nat) : Fld := ⟨wordAddr 0x30 (0x203 + 0x4 * i), 1, 2⟩
/-- COL.C_STAT.YIELDING [0:0] (R386). -/
def COL_C_STAT_YIELDING (c : Nat) : Fld := ⟨chanAddr 0x30 c 0x0, 0, 1⟩
/-- COL.C_STAT.RESYNC [1:1] (R386). -/
def COL_C_STAT_RESYNC (c : Nat) : Fld := ⟨chanAddr 0x30 c 0x0, 1, 1⟩
/-- COL.C_STAT.LAST_LOSE [2:2] (R386). -/
def COL_C_STAT_LAST_LOSE (c : Nat) : Fld := ⟨chanAddr 0x30 c 0x0, 2, 1⟩
/-- COL.C_STAT.SUBST [3:3] (R386). -/
def COL_C_STAT_SUBST (c : Nat) : Fld := ⟨chanAddr 0x30 c 0x0, 3, 1⟩
/-- COL.C_STAT.LAST_RIVAL [17:8] (R386). -/
def COL_C_STAT_LAST_RIVAL (c : Nat) : Fld := ⟨chanAddr 0x30 c 0x0, 8, 10⟩
/-- COL.C_STAT.LAST_KIND [20:18] (R386). -/
def COL_C_STAT_LAST_KIND (c : Nat) : Fld := ⟨chanAddr 0x30 c 0x0, 18, 3⟩
/-- COL.LOSSES [31:0] (R386). -/
def COL_LOSSES (c : Nat) : Fld := ⟨chanAddr 0x30 c 0x1, 0, 32⟩
/-- COL.WINS [31:0] (R386). -/
def COL_WINS (c : Nat) : Fld := ⟨chanAddr 0x30 c 0x2, 0, 32⟩
/-- COL.RESYNCS [15:0] (R386). -/
def COL_RESYNCS (c : Nat) : Fld := ⟨chanAddr 0x30 c 0x3, 0, 16⟩
/-- COL.RESYNCS.SUBSTS [31:16] (R386). -/
def COL_RESYNCS_SUBSTS (c : Nat) : Fld := ⟨chanAddr 0x30 c 0x3, 16, 16⟩
/-- COL.LAST_W_LO [31:0] (R386). -/
def COL_LAST_W_LO (c : Nat) : Fld := ⟨chanAddr 0x30 c 0x4, 0, 32⟩
/-- COL.LAST_W_HI [31:0] (R386). -/
def COL_LAST_W_HI (c : Nat) : Fld := ⟨chanAddr 0x30 c 0x5, 0, 32⟩
/-- AXIS.ACFG.ENABLE [0:0] (R461). -/
def AXIS_ACFG_ENABLE (i : Nat) : Fld := ⟨wordAddr 0x38 (0x0 + 0x40 * i), 0, 1⟩
/-- AXIS.ACFG.DIR_INV [1:1] (R461). -/
def AXIS_ACFG_DIR_INV (i : Nat) : Fld := ⟨wordAddr 0x38 (0x0 + 0x40 * i), 1, 1⟩
/-- AXIS.ACFG.LIM_EN [2:2] (R461). -/
def AXIS_ACFG_LIM_EN (i : Nat) : Fld := ⟨wordAddr 0x38 (0x0 + 0x40 * i), 2, 1⟩
/-- AXIS.ACFG.LIMP_POL [3:3] (R461). -/
def AXIS_ACFG_LIMP_POL (i : Nat) : Fld := ⟨wordAddr 0x38 (0x0 + 0x40 * i), 3, 1⟩
/-- AXIS.ACFG.LIMN_POL [4:4] (R461). -/
def AXIS_ACFG_LIMN_POL (i : Nat) : Fld := ⟨wordAddr 0x38 (0x0 + 0x40 * i), 4, 1⟩
/-- AXIS.ACFG.HOME_POL [5:5] (R461). -/
def AXIS_ACFG_HOME_POL (i : Nat) : Fld := ⟨wordAddr 0x38 (0x0 + 0x40 * i), 5, 1⟩
/-- AXIS.ACFG.LIM_HARD [6:6] (R461). -/
def AXIS_ACFG_LIM_HARD (i : Nat) : Fld := ⟨wordAddr 0x38 (0x0 + 0x40 * i), 6, 1⟩
/-- AXIS.ACFG.STEP_W [15:8] (R461). -/
def AXIS_ACFG_STEP_W (i : Nat) : Fld := ⟨wordAddr 0x38 (0x0 + 0x40 * i), 8, 8⟩
/-- AXIS.ACFG.DIR_SETUP [23:16] (R461). -/
def AXIS_ACFG_DIR_SETUP (i : Nat) : Fld := ⟨wordAddr 0x38 (0x0 + 0x40 * i), 16, 8⟩
/-- AXIS.STOP_DEC [31:0] (R461). -/
def AXIS_STOP_DEC (i : Nat) : Fld := ⟨wordAddr 0x38 (0x1 + 0x40 * i), 0, 32⟩
/-- AXIS.LIM_DEC [31:0] (R461). -/
def AXIS_LIM_DEC (i : Nat) : Fld := ⟨wordAddr 0x38 (0x2 + 0x40 * i), 0, 32⟩
/-- AXIS.VCAP [31:0] (R461). -/
def AXIS_VCAP (i : Nat) : Fld := ⟨wordAddr 0x38 (0x3 + 0x40 * i), 0, 32⟩
/-- AXIS.RATIO [31:0] (R461). -/
def AXIS_RATIO (i : Nat) : Fld := ⟨wordAddr 0x38 (0x4 + 0x40 * i), 0, 32⟩
/-- AXIS.HOME_CFG.DIR [0:0] (R461). -/
def AXIS_HOME_CFG_DIR (i : Nat) : Fld := ⟨wordAddr 0x38 (0x5 + 0x40 * i), 0, 1⟩
/-- AXIS.HOME_CFG.USE_IDX [1:1] (R461). -/
def AXIS_HOME_CFG_USE_IDX (i : Nat) : Fld := ⟨wordAddr 0x38 (0x5 + 0x40 * i), 1, 1⟩
/-- AXIS.HOME_CFG.SRC_LIM [2:2] (R461). -/
def AXIS_HOME_CFG_SRC_LIM (i : Nat) : Fld := ⟨wordAddr 0x38 (0x5 + 0x40 * i), 2, 1⟩
/-- AXIS.HOME_CFG.HOME_STAB [31:16] (R461). -/
def AXIS_HOME_CFG_HOME_STAB (i : Nat) : Fld := ⟨wordAddr 0x38 (0x5 + 0x40 * i), 16, 16⟩
/-- AXIS.HOME_FAST [31:0] (R461). -/
def AXIS_HOME_FAST (i : Nat) : Fld := ⟨wordAddr 0x38 (0x6 + 0x40 * i), 0, 32⟩
/-- AXIS.HOME_SLOW [31:0] (R461). -/
def AXIS_HOME_SLOW (i : Nat) : Fld := ⟨wordAddr 0x38 (0x7 + 0x40 * i), 0, 32⟩
/-- AXIS.HOME_ACC [31:0] (R461). -/
def AXIS_HOME_ACC (i : Nat) : Fld := ⟨wordAddr 0x38 (0x8 + 0x40 * i), 0, 32⟩
/-- AXIS.HOME_POS [31:0] (R461). -/
def AXIS_HOME_POS (i : Nat) : Fld := ⟨wordAddr 0x38 (0x9 + 0x40 * i), 0, 32⟩
/-- AXIS.HOME_TRAVEL [31:0] (R461). -/
def AXIS_HOME_TRAVEL (i : Nat) : Fld := ⟨wordAddr 0x38 (0xA + 0x40 * i), 0, 32⟩
/-- AXIS.ASTAT.STATE [2:0] (R461). -/
def AXIS_ASTAT_STATE (i : Nat) : Fld := ⟨wordAddr 0x38 (0x10 + 0x40 * i), 0, 3⟩
/-- AXIS.ASTAT.HOMED [3:3] (R461). -/
def AXIS_ASTAT_HOMED (i : Nat) : Fld := ⟨wordAddr 0x38 (0x10 + 0x40 * i), 3, 1⟩
/-- AXIS.ASTAT.HOME_PHASE [6:4] (R461). -/
def AXIS_ASTAT_HOME_PHASE (i : Nat) : Fld := ⟨wordAddr 0x38 (0x10 + 0x40 * i), 4, 3⟩
/-- AXIS.ASTAT.QUEUE [12:8] (R461). -/
def AXIS_ASTAT_QUEUE (i : Nat) : Fld := ⟨wordAddr 0x38 (0x10 + 0x40 * i), 8, 5⟩
/-- AXIS.ASTAT.DECEL_KEPT [16:16] (R461). -/
def AXIS_ASTAT_DECEL_KEPT (i : Nat) : Fld := ⟨wordAddr 0x38 (0x10 + 0x40 * i), 16, 1⟩
/-- AXIS.ASTAT.LIMP_HIT [17:17] (R461). -/
def AXIS_ASTAT_LIMP_HIT (i : Nat) : Fld := ⟨wordAddr 0x38 (0x10 + 0x40 * i), 17, 1⟩
/-- AXIS.ASTAT.LIMN_HIT [18:18] (R461). -/
def AXIS_ASTAT_LIMN_HIT (i : Nat) : Fld := ⟨wordAddr 0x38 (0x10 + 0x40 * i), 18, 1⟩
/-- AXIS.ASTAT.HOME_FAULT [19:19] (R461). -/
def AXIS_ASTAT_HOME_FAULT (i : Nat) : Fld := ⟨wordAddr 0x38 (0x10 + 0x40 * i), 19, 1⟩
/-- AXIS.ASTAT.LATE [20:20] (R461). -/
def AXIS_ASTAT_LATE (i : Nat) : Fld := ⟨wordAddr 0x38 (0x10 + 0x40 * i), 20, 1⟩
/-- AXIS.ASTAT.STEP_CROWD [21:21] (R461). -/
def AXIS_ASTAT_STEP_CROWD (i : Nat) : Fld := ⟨wordAddr 0x38 (0x10 + 0x40 * i), 21, 1⟩
/-- AXIS.ASTAT.VCLAMP [22:22] (R461). -/
def AXIS_ASTAT_VCLAMP (i : Nat) : Fld := ⟨wordAddr 0x38 (0x10 + 0x40 * i), 22, 1⟩
/-- AXIS.ASTAT.CAUSE [31:24] (R461). -/
def AXIS_ASTAT_CAUSE (i : Nat) : Fld := ⟨wordAddr 0x38 (0x10 + 0x40 * i), 24, 8⟩
/-- AXIS.SETPOINT [31:0] (R461). -/
def AXIS_SETPOINT (i : Nat) : Fld := ⟨wordAddr 0x38 (0x11 + 0x40 * i), 0, 32⟩
/-- AXIS.VEL [31:0] (R461). -/
def AXIS_VEL (i : Nat) : Fld := ⟨wordAddr 0x38 (0x12 + 0x40 * i), 0, 32⟩
/-- AXIS.STEP_POS [31:0] (R461). -/
def AXIS_STEP_POS (i : Nat) : Fld := ⟨wordAddr 0x38 (0x13 + 0x40 * i), 0, 32⟩
/-- AXIS.HOME_LATCH [31:0] (R461). -/
def AXIS_HOME_LATCH (i : Nat) : Fld := ⟨wordAddr 0x38 (0x14 + 0x40 * i), 0, 32⟩
/-- AXIS.EVENTS.LATE_STARTS [15:0] (R461). -/
def AXIS_EVENTS_LATE_STARTS (i : Nat) : Fld := ⟨wordAddr 0x38 (0x15 + 0x40 * i), 0, 16⟩
/-- AXIS.EVENTS.FLUSHED [31:16] (R461). -/
def AXIS_EVENTS_FLUSHED (i : Nat) : Fld := ⟨wordAddr 0x38 (0x15 + 0x40 * i), 16, 16⟩
/-- AXIS.CHATTER [15:0] (R461). -/
def AXIS_CHATTER (i : Nat) : Fld := ⟨wordAddr 0x38 (0x16 + 0x40 * i), 0, 16⟩
/-- AXIS.LCTRL.CLOSED [0:0] (R314). -/
def AXIS_LCTRL_CLOSED (i : Nat) : Fld := ⟨wordAddr 0x38 (0x400 + 0x40 * i), 0, 1⟩
/-- AXIS.LCTRL.BANK [1:1] (R314). -/
def AXIS_LCTRL_BANK (i : Nat) : Fld := ⟨wordAddr 0x38 (0x400 + 0x40 * i), 1, 1⟩
/-- AXIS.LCTRL.PERIOD [25:16] (R314). -/
def AXIS_LCTRL_PERIOD (i : Nat) : Fld := ⟨wordAddr 0x38 (0x400 + 0x40 * i), 16, 10⟩
/-- AXIS.LPHASE.PHASE [9:0] (R314). -/
def AXIS_LPHASE (i : Nat) : Fld := ⟨wordAddr 0x38 (0x401 + 0x40 * i), 0, 10⟩
/-- AXIS.FE_LIMIT [31:0] (R314). -/
def AXIS_FE_LIMIT (i : Nat) : Fld := ⟨wordAddr 0x38 (0x402 + 0x40 * i), 0, 32⟩
/-- AXIS.FE_TIME [15:0] (R314). -/
def AXIS_FE_TIME (i : Nat) : Fld := ⟨wordAddr 0x38 (0x403 + 0x40 * i), 0, 16⟩
/-- AXIS.FE_HARD [31:0] (R314). -/
def AXIS_FE_HARD (i : Nat) : Fld := ⟨wordAddr 0x38 (0x404 + 0x40 * i), 0, 32⟩
/-- AXIS.BANK_KP.KP [31:0] (R314). -/
def AXIS_BANK_KP (i j : Nat) : Fld := ⟨wordAddr 0x38 (0x408 + 0x40 * i + 0x8 * j), 0, 32⟩
/-- AXIS.BANK_KI.KI [31:0] (R314). -/
def AXIS_BANK_KI (i j : Nat) : Fld := ⟨wordAddr 0x38 (0x409 + 0x40 * i + 0x8 * j), 0, 32⟩
/-- AXIS.BANK_KD.KD [31:0] (R314). -/
def AXIS_BANK_KD (i j : Nat) : Fld := ⟨wordAddr 0x38 (0x40A + 0x40 * i + 0x8 * j), 0, 32⟩
/-- AXIS.BANK_DFILT.DFILT [16:0] (R314). -/
def AXIS_BANK_DFILT (i j : Nat) : Fld := ⟨wordAddr 0x38 (0x40B + 0x40 * i + 0x8 * j), 0, 17⟩
/-- AXIS.BANK_KV.KV [31:0] (R314). -/
def AXIS_BANK_KV (i j : Nat) : Fld := ⟨wordAddr 0x38 (0x40C + 0x40 * i + 0x8 * j), 0, 32⟩
/-- AXIS.BANK_ILIM.ILIM [21:0] (R314). -/
def AXIS_BANK_ILIM (i j : Nat) : Fld := ⟨wordAddr 0x38 (0x40D + 0x40 * i + 0x8 * j), 0, 22⟩
/-- AXIS.BANK_UMAX.UMAX [21:0] (R314). -/
def AXIS_BANK_UMAX (i j : Nat) : Fld := ⟨wordAddr 0x38 (0x40E + 0x40 * i + 0x8 * j), 0, 22⟩
/-- AXIS.LSTAT.SAT [0:0] (R314). -/
def AXIS_LSTAT_SAT (i : Nat) : Fld := ⟨wordAddr 0x38 (0x420 + 0x40 * i), 0, 1⟩
/-- AXIS.LSTAT.HELD [1:1] (R314). -/
def AXIS_LSTAT_HELD (i : Nat) : Fld := ⟨wordAddr 0x38 (0x420 + 0x40 * i), 1, 1⟩
/-- AXIS.LSTAT.BANK [2:2] (R314). -/
def AXIS_LSTAT_BANK (i : Nat) : Fld := ⟨wordAddr 0x38 (0x420 + 0x40 * i), 2, 1⟩
/-- AXIS.LSTAT.FE_TRIP [3:3] (R314). -/
def AXIS_LSTAT_FE_TRIP (i : Nat) : Fld := ⟨wordAddr 0x38 (0x420 + 0x40 * i), 3, 1⟩
/-- AXIS.LSTAT.FE_HARD_TRIP [4:4] (R314). -/
def AXIS_LSTAT_FE_HARD_TRIP (i : Nat) : Fld := ⟨wordAddr 0x38 (0x420 + 0x40 * i), 4, 1⟩
/-- AXIS.LSTAT.I_CLIPPED [5:5] (R314). -/
def AXIS_LSTAT_I_CLIPPED (i : Nat) : Fld := ⟨wordAddr 0x38 (0x420 + 0x40 * i), 5, 1⟩
/-- AXIS.LSTAT.FE_COUNT [31:16] (R314). -/
def AXIS_LSTAT_FE_COUNT (i : Nat) : Fld := ⟨wordAddr 0x38 (0x420 + 0x40 * i), 16, 16⟩
/-- AXIS.FERR [31:0] (R314). -/
def AXIS_FERR (i : Nat) : Fld := ⟨wordAddr 0x38 (0x421 + 0x40 * i), 0, 32⟩
/-- AXIS.LINTEG.INTEG [31:0] (R314). -/
def AXIS_LINTEG (i : Nat) : Fld := ⟨wordAddr 0x38 (0x422 + 0x40 * i), 0, 32⟩
/-- AXIS.LCMD.CMD [31:0] (R314). -/
def AXIS_LCMD (i : Nat) : Fld := ⟨wordAddr 0x38 (0x423 + 0x40 * i), 0, 32⟩
/-- FBK.FCFG.SRC [1:0] (R460). -/
def FBK_FCFG_SRC (i : Nat) : Fld := ⟨wordAddr 0x39 (0x0 + 0x20 * i), 0, 2⟩
/-- FBK.FCFG.INV [2:2] (R460). -/
def FBK_FCFG_INV (i : Nat) : Fld := ⟨wordAddr 0x39 (0x0 + 0x20 * i), 2, 1⟩
/-- FBK.FCFG.IDX_FIX [3:3] (R460). -/
def FBK_FCFG_IDX_FIX (i : Nat) : Fld := ⟨wordAddr 0x39 (0x0 + 0x20 * i), 3, 1⟩
/-- FBK.FCFG.IDX_QUAL_EN [4:4] (R460). -/
def FBK_FCFG_IDX_QUAL_EN (i : Nat) : Fld := ⟨wordAddr 0x39 (0x0 + 0x20 * i), 4, 1⟩
/-- FBK.FCFG.IDX_QA [5:5] (R460). -/
def FBK_FCFG_IDX_QA (i : Nat) : Fld := ⟨wordAddr 0x39 (0x0 + 0x20 * i), 5, 1⟩
/-- FBK.FCFG.IDX_QB [6:6] (R460). -/
def FBK_FCFG_IDX_QB (i : Nat) : Fld := ⟨wordAddr 0x39 (0x0 + 0x20 * i), 6, 1⟩
/-- FBK.FCFG.FILT [11:8] (R460). -/
def FBK_FCFG_FILT (i : Nat) : Fld := ⟨wordAddr 0x39 (0x0 + 0x20 * i), 8, 4⟩
/-- FBK.FCFG.PROBE_EDGE [13:12] (R460). -/
def FBK_FCFG_PROBE_EDGE (i : Nat) : Fld := ⟨wordAddr 0x39 (0x0 + 0x20 * i), 12, 2⟩
/-- FBK.FCFG.LIM_FILT [23:16] (R460). -/
def FBK_FCFG_LIM_FILT (i : Nat) : Fld := ⟨wordAddr 0x39 (0x0 + 0x20 * i), 16, 8⟩
/-- FBK.IDX_PERIOD [31:0] (R460). -/
def FBK_IDX_PERIOD (i : Nat) : Fld := ⟨wordAddr 0x39 (0x1 + 0x20 * i), 0, 32⟩
/-- FBK.IDX_REF [31:0] (R460). -/
def FBK_IDX_REF (i : Nat) : Fld := ⟨wordAddr 0x39 (0x2 + 0x20 * i), 0, 32⟩
/-- FBK.IDX_TOL [15:0] (R460). -/
def FBK_IDX_TOL (i : Nat) : Fld := ⟨wordAddr 0x39 (0x3 + 0x20 * i), 0, 16⟩
/-- FBK.STILL_US [23:0] (R460). -/
def FBK_STILL_US (i : Nat) : Fld := ⟨wordAddr 0x39 (0x4 + 0x20 * i), 0, 24⟩
/-- FBK.SER_CFG.PROTO [1:0] (R460). -/
def FBK_SER_CFG_PROTO (i : Nat) : Fld := ⟨wordAddr 0x39 (0x5 + 0x20 * i), 0, 2⟩
/-- FBK.SER_CFG.BITS [7:2] (R460). -/
def FBK_SER_CFG_BITS (i : Nat) : Fld := ⟨wordAddr 0x39 (0x5 + 0x20 * i), 2, 6⟩
/-- FBK.SER_CFG.CLK_DIV [20:8] (R460). -/
def FBK_SER_CFG_CLK_DIV (i : Nat) : Fld := ⟨wordAddr 0x39 (0x5 + 0x20 * i), 8, 13⟩
/-- FBK.SER_CFG.TIMEOUT_US [28:21] (R460). -/
def FBK_SER_CFG_TIMEOUT_US (i : Nat) : Fld := ⟨wordAddr 0x39 (0x5 + 0x20 * i), 21, 8⟩
/-- FBK.SER_SCHED.PERIOD_US [15:0] (R460). -/
def FBK_SER_SCHED_PERIOD_US (i : Nat) : Fld := ⟨wordAddr 0x39 (0x6 + 0x20 * i), 0, 16⟩
/-- FBK.SER_SCHED.PHASE [31:16] (R460). -/
def FBK_SER_SCHED_PHASE (i : Nat) : Fld := ⟨wordAddr 0x39 (0x6 + 0x20 * i), 16, 16⟩
/-- FBK.POS [31:0] (R460). -/
def FBK_POS (i : Nat) : Fld := ⟨wordAddr 0x39 (0x10 + 0x20 * i), 0, 32⟩
/-- FBK.SPEED [31:0] (R460). -/
def FBK_SPEED (i : Nat) : Fld := ⟨wordAddr 0x39 (0x11 + 0x20 * i), 0, 32⟩
/-- FBK.FSTAT.HALL [2:0] (R460). -/
def FBK_FSTAT_HALL (i : Nat) : Fld := ⟨wordAddr 0x39 (0x12 + 0x20 * i), 0, 3⟩
/-- FBK.FSTAT.HALL_BAD [3:3] (R460). -/
def FBK_FSTAT_HALL_BAD (i : Nat) : Fld := ⟨wordAddr 0x39 (0x12 + 0x20 * i), 3, 1⟩
/-- FBK.FSTAT.SPD_REV [4:4] (R460). -/
def FBK_FSTAT_SPD_REV (i : Nat) : Fld := ⟨wordAddr 0x39 (0x12 + 0x20 * i), 4, 1⟩
/-- FBK.FSTAT.STILL [5:5] (R460). -/
def FBK_FSTAT_STILL (i : Nat) : Fld := ⟨wordAddr 0x39 (0x12 + 0x20 * i), 5, 1⟩
/-- FBK.FSTAT.PROBE_ARMED [6:6] (R460). -/
def FBK_FSTAT_PROBE_ARMED (i : Nat) : Fld := ⟨wordAddr 0x39 (0x12 + 0x20 * i), 6, 1⟩
/-- FBK.FSTAT.PROBE_HIT [7:7] (R460). -/
def FBK_FSTAT_PROBE_HIT (i : Nat) : Fld := ⟨wordAddr 0x39 (0x12 + 0x20 * i), 7, 1⟩
/-- FBK.FSTAT.PROBE_OVR [8:8] (R460). -/
def FBK_FSTAT_PROBE_OVR (i : Nat) : Fld := ⟨wordAddr 0x39 (0x12 + 0x20 * i), 8, 1⟩
/-- FBK.FSTAT.IDX_BAD [9:9] (R460). -/
def FBK_FSTAT_IDX_BAD (i : Nat) : Fld := ⟨wordAddr 0x39 (0x12 + 0x20 * i), 9, 1⟩
/-- FBK.FSTAT.IDX_FIXED [10:10] (R460). -/
def FBK_FSTAT_IDX_FIXED (i : Nat) : Fld := ⟨wordAddr 0x39 (0x12 + 0x20 * i), 10, 1⟩
/-- FBK.FSTAT.SER_FAIL [11:11] (R460). -/
def FBK_FSTAT_SER_FAIL (i : Nat) : Fld := ⟨wordAddr 0x39 (0x12 + 0x20 * i), 11, 1⟩
/-- FBK.FSTAT.LEVELS [22:16] (R460). -/
def FBK_FSTAT_LEVELS (i : Nat) : Fld := ⟨wordAddr 0x39 (0x12 + 0x20 * i), 16, 7⟩
/-- FBK.IDX_POS [31:0] (R460). -/
def FBK_IDX_POS (i : Nat) : Fld := ⟨wordAddr 0x39 (0x13 + 0x20 * i), 0, 32⟩
/-- FBK.IDX_DEV [31:0] (R460). -/
def FBK_IDX_DEV (i : Nat) : Fld := ⟨wordAddr 0x39 (0x14 + 0x20 * i), 0, 32⟩
/-- FBK.PROBE_POS [31:0] (R460). -/
def FBK_PROBE_POS (i : Nat) : Fld := ⟨wordAddr 0x39 (0x15 + 0x20 * i), 0, 32⟩
/-- FBK.PROBE_T_LO [31:0] (R460). -/
def FBK_PROBE_T_LO (i : Nat) : Fld := ⟨wordAddr 0x39 (0x16 + 0x20 * i), 0, 32⟩
/-- FBK.PROBE_T_HI [31:0] (R460). -/
def FBK_PROBE_T_HI (i : Nat) : Fld := ⟨wordAddr 0x39 (0x17 + 0x20 * i), 0, 32⟩
/-- FBK.ERR_A.QERR [15:0] (R460). -/
def FBK_ERR_A_QERR (i : Nat) : Fld := ⟨wordAddr 0x39 (0x18 + 0x20 * i), 0, 16⟩
/-- FBK.ERR_A.HALL_ERR [31:16] (R460). -/
def FBK_ERR_A_HALL_ERR (i : Nat) : Fld := ⟨wordAddr 0x39 (0x18 + 0x20 * i), 16, 16⟩
/-- FBK.ERR_B.SER_ERR [15:0] (R460). -/
def FBK_ERR_B_SER_ERR (i : Nat) : Fld := ⟨wordAddr 0x39 (0x19 + 0x20 * i), 0, 16⟩
/-- FBK.ERR_B.IDX_UNEXP [31:16] (R460). -/
def FBK_ERR_B_IDX_UNEXP (i : Nat) : Fld := ⟨wordAddr 0x39 (0x19 + 0x20 * i), 16, 16⟩
/-- FBK.PAIR.MISMATCH [15:0] (R460). -/
def FBK_PAIR_MISMATCH (i : Nat) : Fld := ⟨wordAddr 0x39 (0x1A + 0x20 * i), 0, 16⟩
/-- STN.LINK_STAT.STATE [1:0] (R424). -/
def STN_LINK_STAT_STATE (c : Nat) : Fld := ⟨chanAddr 0x40 c 0x0, 0, 2⟩
/-- STN.LINK_STAT.PORT [2:2] (R424). -/
def STN_LINK_STAT_PORT (c : Nat) : Fld := ⟨chanAddr 0x40 c 0x0, 2, 1⟩
/-- STN.LINK_STAT.ECHO_BAD [3:3] (R424). -/
def STN_LINK_STAT_ECHO_BAD (c : Nat) : Fld := ⟨chanAddr 0x40 c 0x0, 3, 1⟩
/-- STN.LINK_STAT.MISS_RUN [11:8] (R424). -/
def STN_LINK_STAT_MISS_RUN (c : Nat) : Fld := ⟨chanAddr 0x40 c 0x0, 8, 4⟩
/-- STN.DELAY.DELTA [15:0] (R424). -/
def STN_DELAY_DELTA (c : Nat) : Fld := ⟨chanAddr 0x40 c 0x1, 0, 16⟩
/-- STN.DELAY.TURN [21:16] (R424). -/
def STN_DELAY_TURN (c : Nat) : Fld := ⟨chanAddr 0x40 c 0x1, 16, 6⟩
/-- STN.ST_STATUS [31:0] (R424). -/
def STN_ST_STATUS (c : Nat) : Fld := ⟨chanAddr 0x40 c 0x2, 0, 32⟩
/-- STN.RX_GOOD [31:0] (R424). -/
def STN_RX_GOOD (c : Nat) : Fld := ⟨chanAddr 0x40 c 0x3, 0, 32⟩
/-- STN.RX_ERR.CRC [15:0] (R424). -/
def STN_RX_ERR_CRC (c : Nat) : Fld := ⟨chanAddr 0x40 c 0x4, 0, 16⟩
/-- STN.RX_ERR.CODE [31:16] (R424). -/
def STN_RX_ERR_CODE (c : Nat) : Fld := ⟨chanAddr 0x40 c 0x4, 16, 16⟩
/-- STN.RX_MISS.MISSED [15:0] (R424). -/
def STN_RX_MISS_MISSED (c : Nat) : Fld := ⟨chanAddr 0x40 c 0x5, 0, 16⟩
/-- STN.RX_MISS.FILLED [31:16] (R424). -/
def STN_RX_MISS_FILLED (c : Nat) : Fld := ⟨chanAddr 0x40 c 0x5, 16, 16⟩
/-- STN.RX_SEQ.SEQ_ERR [15:0] (R424). -/
def STN_RX_SEQ_SEQ_ERR (c : Nat) : Fld := ⟨chanAddr 0x40 c 0x6, 0, 16⟩
/-- STN.RX_SEQ.LATE [31:16] (R424). -/
def STN_RX_SEQ_LATE (c : Nat) : Fld := ⟨chanAddr 0x40 c 0x6, 16, 16⟩
/-- STN.ST_EVENTS.DIVERGE [15:0] (R424). -/
def STN_ST_EVENTS_DIVERGE (c : Nat) : Fld := ⟨chanAddr 0x40 c 0x7, 0, 16⟩
/-- STN.ST_EVENTS.ST_MISSED [31:16] (R424). -/
def STN_ST_EVENTS_ST_MISSED (c : Nat) : Fld := ⟨chanAddr 0x40 c 0x7, 16, 16⟩
/-- STN.ST_ID [31:0] (R424). -/
def STN_ST_ID (c : Nat) : Fld := ⟨chanAddr 0x40 c 0x8, 0, 32⟩
/-- STN.ST_REV [31:0] (R424). -/
def STN_ST_REV (c : Nat) : Fld := ⟨chanAddr 0x40 c 0x9, 0, 32⟩
/-- STN.ST_CAPS [31:0] (R424). -/
def STN_ST_CAPS (c : Nat) : Fld := ⟨chanAddr 0x40 c 0xA, 0, 32⟩
/-- STN.CFG.ENABLE [0:0] (R424). -/
def STN_CFG_ENABLE (c : Nat) : Fld := ⟨chanAddr 0x40 c 0x10, 0, 1⟩
/-- STN.CFG.TX_INV [1:1] (R424). -/
def STN_CFG_TX_INV (c : Nat) : Fld := ⟨chanAddr 0x40 c 0x10, 1, 1⟩
/-- STN.CFG.RX_INV [2:2] (R424). -/
def STN_CFG_RX_INV (c : Nat) : Fld := ⟨chanAddr 0x40 c 0x10, 2, 1⟩
/-- STN.CFG.SWING [7:4] (R424). -/
def STN_CFG_SWING (c : Nat) : Fld := ⟨chanAddr 0x40 c 0x10, 4, 4⟩
/-- STN.CFG.DEEMPH [11:8] (R424). -/
def STN_CFG_DEEMPH (c : Nat) : Fld := ⟨chanAddr 0x40 c 0x10, 8, 4⟩
/-- STN.SB_CTRL.ADDR [15:0] (R424). -/
def STN_SB_CTRL_ADDR (c : Nat) : Fld := ⟨chanAddr 0x40 c 0x11, 0, 16⟩
/-- STN.SB_CTRL.WRITE [16:16] (R424). -/
def STN_SB_CTRL_WRITE (c : Nat) : Fld := ⟨chanAddr 0x40 c 0x11, 16, 1⟩
/-- STN.SB_CTRL.GO [24:24] (R424). -/
def STN_SB_CTRL_GO (c : Nat) : Fld := ⟨chanAddr 0x40 c 0x11, 24, 1⟩
/-- STN.SB_DATA_LO [31:0] (R424). -/
def STN_SB_DATA_LO (c : Nat) : Fld := ⟨chanAddr 0x40 c 0x12, 0, 32⟩
/-- STN.SB_DATA_HI [31:0] (R424). -/
def STN_SB_DATA_HI (c : Nat) : Fld := ⟨chanAddr 0x40 c 0x13, 0, 32⟩
/-- STN.SB_STAT.BUSY [0:0] (R424). -/
def STN_SB_STAT_BUSY (c : Nat) : Fld := ⟨chanAddr 0x40 c 0x14, 0, 1⟩
/-- STN.SB_STAT.DONE [1:1] (R424). -/
def STN_SB_STAT_DONE (c : Nat) : Fld := ⟨chanAddr 0x40 c 0x14, 1, 1⟩
/-- STN.SB_STAT.NAK [2:2] (R424). -/
def STN_SB_STAT_NAK (c : Nat) : Fld := ⟨chanAddr 0x40 c 0x14, 2, 1⟩
/-- STN.SB_STAT.TIMEOUT [3:3] (R424). -/
def STN_SB_STAT_TIMEOUT (c : Nat) : Fld := ⟨chanAddr 0x40 c 0x14, 3, 1⟩
/-- STN.SB_STAT.REASON [15:8] (R424). -/
def STN_SB_STAT_REASON (c : Nat) : Fld := ⟨chanAddr 0x40 c 0x14, 8, 8⟩
/-- STN.SB_RESP_LO [31:0] (R424). -/
def STN_SB_RESP_LO (c : Nat) : Fld := ⟨chanAddr 0x40 c 0x15, 0, 32⟩
/-- STN.SB_RESP_HI [31:0] (R424). -/
def STN_SB_RESP_HI (c : Nat) : Fld := ⟨chanAddr 0x40 c 0x16, 0, 32⟩
/-- RIDGE.LINK_STAT.STATE [1:0] (R503). -/
def RIDGE_LINK_STAT_STATE (i : Nat) : Fld := ⟨wordAddr 0x48 (0x0 + i), 0, 2⟩
/-- RIDGE.LINK_STAT.PEER [15:8] (R503). -/
def RIDGE_LINK_STAT_PEER (i : Nat) : Fld := ⟨wordAddr 0x48 (0x0 + i), 8, 8⟩
/-- RIDGE.LINK_STAT.DELAY [31:16] (R503). -/
def RIDGE_LINK_STAT_DELAY (i : Nat) : Fld := ⟨wordAddr 0x48 (0x0 + i), 16, 16⟩
/-- RIDGE.LINK_ERR.BLOCK [15:0] (R503). -/
def RIDGE_LINK_ERR_BLOCK (i : Nat) : Fld := ⟨wordAddr 0x48 (0x4 + i), 0, 16⟩
/-- RIDGE.LINK_ERR.CRC [31:16] (R503). -/
def RIDGE_LINK_ERR_CRC (i : Nat) : Fld := ⟨wordAddr 0x48 (0x4 + i), 16, 16⟩
/-- RIDGE.NODE.INDEX [5:0] (R503). -/
def RIDGE_NODE_INDEX : Fld := ⟨wordAddr 0x48 0x10, 0, 6⟩
/-- RIDGE.NODE.SIDE [6:6] (R503). -/
def RIDGE_NODE_SIDE : Fld := ⟨wordAddr 0x48 0x10, 6, 1⟩
/-- RIDGE.NODE.EXCLUDED [7:7] (R503). -/
def RIDGE_NODE_EXCLUDED : Fld := ⟨wordAddr 0x48 0x10, 7, 1⟩
/-- RIDGE.CSTAT.CASCADE_UP [0:0] (R503). -/
def RIDGE_CSTAT_CASCADE_UP : Fld := ⟨wordAddr 0x48 0x11, 0, 1⟩
/-- RIDGE.CSTAT.RING_CLOSED [1:1] (R503). -/
def RIDGE_CSTAT_RING_CLOSED : Fld := ⟨wordAddr 0x48 0x11, 1, 1⟩
/-- RIDGE.CSTAT.SPLIT [2:2] (R503). -/
def RIDGE_CSTAT_SPLIT : Fld := ⟨wordAddr 0x48 0x11, 2, 1⟩
/-- RIDGE.CSTAT.NODES [9:4] (R503). -/
def RIDGE_CSTAT_NODES : Fld := ⟨wordAddr 0x48 0x11, 4, 6⟩
/-- RIDGE.CSTAT.MAP_DETAIL [31:16] (R503). -/
def RIDGE_CSTAT_MAP_DETAIL : Fld := ⟨wordAddr 0x48 0x11, 16, 16⟩
/-- RIDGE.PRESENT.POSITIONS [15:0] (R503). -/
def RIDGE_PRESENT_POSITIONS : Fld := ⟨wordAddr 0x48 0x12, 0, 16⟩
/-- RIDGE.PRESENT.REFEREE [16:16] (R503). -/
def RIDGE_PRESENT_REFEREE : Fld := ⟨wordAddr 0x48 0x12, 16, 1⟩
/-- RIDGE.MAP_EPOCH [31:0] (R503). -/
def RIDGE_MAP_EPOCH : Fld := ⟨wordAddr 0x48 0x13, 0, 32⟩
/-- RIDGE.MAP.POS [3:0] (R503). -/
def RIDGE_MAP_POS (i : Nat) : Fld := ⟨wordAddr 0x48 (0x20 + i), 0, 4⟩
/-- RIDGE.MAP.ROLE [5:4] (R503). -/
def RIDGE_MAP_ROLE (i : Nat) : Fld := ⟨wordAddr 0x48 (0x20 + i), 4, 2⟩
/-- RIDGE.MAP.SIDE [6:6] (R503). -/
def RIDGE_MAP_SIDE (i : Nat) : Fld := ⟨wordAddr 0x48 (0x20 + i), 6, 1⟩
/-- RIDGE.MAP.VALID [7:7] (R503). -/
def RIDGE_MAP_VALID (i : Nat) : Fld := ⟨wordAddr 0x48 (0x20 + i), 7, 1⟩
/-- RIDGE.MAP.SN_TAIL [31:16] (R503). -/
def RIDGE_MAP_SN_TAIL (i : Nat) : Fld := ⟨wordAddr 0x48 (0x20 + i), 16, 16⟩
/-- RIDGE.DIG_LATE [15:0] (R503). -/
def RIDGE_DIG_LATE : Fld := ⟨wordAddr 0x48 0x50, 0, 16⟩
/-- PAIR.PSTAT.ROLE [1:0] (R504). -/
def PAIR_PSTAT_ROLE : Fld := ⟨wordAddr 0x49 0x0, 0, 2⟩
/-- PAIR.PSTAT.SIDE [2:2] (R504). -/
def PAIR_PSTAT_SIDE : Fld := ⟨wordAddr 0x49 0x0, 2, 1⟩
/-- PAIR.PSTAT.PARTNER_LOST [3:3] (R504). -/
def PAIR_PSTAT_PARTNER_LOST : Fld := ⟨wordAddr 0x49 0x0, 3, 1⟩
/-- PAIR.PSTAT.DIVERGED [4:4] (R504). -/
def PAIR_PSTAT_DIVERGED : Fld := ⟨wordAddr 0x49 0x0, 4, 1⟩
/-- PAIR.PSTAT.REF_LOST [5:5] (R504). -/
def PAIR_PSTAT_REF_LOST : Fld := ⟨wordAddr 0x49 0x0, 5, 1⟩
/-- PAIR.PSTAT.LOCAL_STOP [6:6] (R504). -/
def PAIR_PSTAT_LOCAL_STOP : Fld := ⟨wordAddr 0x49 0x0, 6, 1⟩
/-- PAIR.PSTAT.JOIN_PHASE [10:8] (R504). -/
def PAIR_PSTAT_JOIN_PHASE : Fld := ⟨wordAddr 0x49 0x0, 8, 3⟩
/-- PAIR.PSTAT.CAUSE [31:16] (R504). -/
def PAIR_PSTAT_CAUSE : Fld := ⟨wordAddr 0x49 0x0, 16, 16⟩
/-- PAIR.PARTNER_SN_LO [31:0] (R504). -/
def PAIR_PARTNER_SN_LO : Fld := ⟨wordAddr 0x49 0x1, 0, 32⟩
/-- PAIR.PARTNER_SN_HI [31:0] (R504). -/
def PAIR_PARTNER_SN_HI : Fld := ⟨wordAddr 0x49 0x2, 0, 32⟩
/-- PAIR.VERDICT_NUM [31:0] (R504). -/
def PAIR_VERDICT_NUM : Fld := ⟨wordAddr 0x49 0x3, 0, 32⟩
/-- PAIR.VERDICT_AT_LO [31:0] (R504). -/
def PAIR_VERDICT_AT_LO : Fld := ⟨wordAddr 0x49 0x4, 0, 32⟩
/-- PAIR.VERDICT_AT_HI [31:0] (R504). -/
def PAIR_VERDICT_AT_HI : Fld := ⟨wordAddr 0x49 0x5, 0, 32⟩
/-- PAIR.FILL.FILLED [15:0] (R504). -/
def PAIR_FILL_FILLED : Fld := ⟨wordAddr 0x49 0x6, 0, 16⟩
/-- PAIR.FILL.LOST [31:16] (R504). -/
def PAIR_FILL_LOST : Fld := ⟨wordAddr 0x49 0x6, 16, 16⟩
/-- PAIR.EVENTS.DIVERGENCES [15:0] (R504). -/
def PAIR_EVENTS_DIVERGENCES : Fld := ⟨wordAddr 0x49 0x7, 0, 16⟩
/-- PAIR.EVENTS.LATE_VERDICTS [31:16] (R504). -/
def PAIR_EVENTS_LATE_VERDICTS : Fld := ⟨wordAddr 0x49 0x7, 16, 16⟩
/-- PAIR.HB.MISSED [15:0] (R504). -/
def PAIR_HB_MISSED : Fld := ⟨wordAddr 0x49 0x8, 0, 16⟩
/-- PAIR.JOIN_MB [31:0] (R504). -/
def PAIR_JOIN_MB : Fld := ⟨wordAddr 0x49 0x9, 0, 32⟩
/-- PAIR.STEP_GAP_US [31:0] (R504). -/
def PAIR_STEP_GAP_US : Fld := ⟨wordAddr 0x49 0xA, 0, 32⟩
/-- PAIR.CFG.REF_HOST [0:0] (R504). -/
def PAIR_CFG_REF_HOST : Fld := ⟨wordAddr 0x49 0x10, 0, 1⟩
/-- PAIR.CFG.HB_LOSS [3:1] (R504). -/
def PAIR_CFG_HB_LOSS : Fld := ⟨wordAddr 0x49 0x10, 1, 3⟩
/-- PAIR.CFG.AUTO_JOIN [4:4] (R504). -/
def PAIR_CFG_AUTO_JOIN : Fld := ⟨wordAddr 0x49 0x10, 4, 1⟩
/-- PAIR.CFG.HEALTH_MARGIN [11:8] (R504). -/
def PAIR_CFG_HEALTH_MARGIN : Fld := ⟨wordAddr 0x49 0x10, 8, 4⟩
/-- PAIR.REF_VIEW.SIDE0_HB [0:0] (R504). -/
def PAIR_REF_VIEW_SIDE0_HB (i : Nat) : Fld := ⟨wordAddr 0x49 (0x100 + i), 0, 1⟩
/-- PAIR.REF_VIEW.SIDE1_HB [1:1] (R504). -/
def PAIR_REF_VIEW_SIDE1_HB (i : Nat) : Fld := ⟨wordAddr 0x49 (0x100 + i), 1, 1⟩
/-- PAIR.REF_VIEW.KEEPER_SIDE [2:2] (R504). -/
def PAIR_REF_VIEW_KEEPER_SIDE (i : Nat) : Fld := ⟨wordAddr 0x49 (0x100 + i), 2, 1⟩
/-- PAIR.REF_VIEW.PAIRED [3:3] (R504). -/
def PAIR_REF_VIEW_PAIRED (i : Nat) : Fld := ⟨wordAddr 0x49 (0x100 + i), 3, 1⟩
/-- PAIR.REF_VIEW.VERDICTS [31:16] (R504). -/
def PAIR_REF_VIEW_VERDICTS (i : Nat) : Fld := ⟨wordAddr 0x49 (0x100 + i), 16, 16⟩
/-- THERM.TSTAT.BAND [2:0] (R528). -/
def THERM_TSTAT_BAND : Fld := ⟨wordAddr 0x50 0x0, 0, 3⟩
/-- THERM.TSTAT.POWER_BAND [5:3] (R528). -/
def THERM_TSTAT_POWER_BAND : Fld := ⟨wordAddr 0x50 0x0, 3, 3⟩
/-- THERM.TSTAT.SHUT_REQ [6:6] (R528). -/
def THERM_TSTAT_SHUT_REQ : Fld := ⟨wordAddr 0x50 0x0, 6, 1⟩
/-- THERM.TSTAT.CAUSE_CLEAR [7:7] (R528). -/
def THERM_TSTAT_CAUSE_CLEAR : Fld := ⟨wordAddr 0x50 0x0, 7, 1⟩
/-- THERM.TSTAT.VALID [12:8] (R528). -/
def THERM_TSTAT_VALID : Fld := ⟨wordAddr 0x50 0x0, 8, 5⟩
/-- THERM.TSTAT.HOT [31:16] (R528). -/
def THERM_TSTAT_HOT : Fld := ⟨wordAddr 0x50 0x0, 16, 16⟩
/-- THERM.BAND_T12.T1 [15:0] (R528). -/
def THERM_BAND_T12_T1 : Fld := ⟨wordAddr 0x50 0x1, 0, 16⟩
/-- THERM.BAND_T12.T2 [31:16] (R528). -/
def THERM_BAND_T12_T2 : Fld := ⟨wordAddr 0x50 0x1, 16, 16⟩
/-- THERM.BAND_T34.T3 [15:0] (R528). -/
def THERM_BAND_T34_T3 : Fld := ⟨wordAddr 0x50 0x2, 0, 16⟩
/-- THERM.BAND_T34.T4 [31:16] (R528). -/
def THERM_BAND_T34_T4 : Fld := ⟨wordAddr 0x50 0x2, 16, 16⟩
/-- THERM.SHUT.TSHUT [15:0] (R528). -/
def THERM_SHUT_TSHUT : Fld := ⟨wordAddr 0x50 0x3, 0, 16⟩
/-- THERM.SHUT.TCRIT [31:16] (R528). -/
def THERM_SHUT_TCRIT : Fld := ⟨wordAddr 0x50 0x3, 16, 16⟩
/-- THERM.HYST.BAND_HYST [7:0] (R528). -/
def THERM_HYST_BAND_HYST : Fld := ⟨wordAddr 0x50 0x4, 0, 8⟩
/-- THERM.HYST.SHUT_HYST [15:8] (R528). -/
def THERM_HYST_SHUT_HYST : Fld := ⟨wordAddr 0x50 0x4, 8, 8⟩
/-- THERM.HYST.SHUT_LIMIT [31:16] (R528). -/
def THERM_HYST_SHUT_LIMIT : Fld := ⟨wordAddr 0x50 0x4, 16, 16⟩
/-- THERM.FLAGS.FAILED [15:0] (R528). -/
def THERM_FLAGS_FAILED : Fld := ⟨wordAddr 0x50 0x5, 0, 16⟩
/-- THERM.FLAGS.TD_OPEN [19:16] (R528). -/
def THERM_FLAGS_TD_OPEN : Fld := ⟨wordAddr 0x50 0x5, 16, 4⟩
/-- THERM.FLAGS.TD_OVER [23:20] (R528). -/
def THERM_FLAGS_TD_OVER : Fld := ⟨wordAddr 0x50 0x5, 20, 4⟩
/-- THERM.SENSOR.RAW [15:0] (R528). -/
def THERM_SENSOR_RAW (i : Nat) : Fld := ⟨wordAddr 0x50 (0x10 + i), 0, 16⟩
/-- THERM.SENSOR.USED [31:16] (R528). -/
def THERM_SENSOR_USED (i : Nat) : Fld := ⟨wordAddr 0x50 (0x10 + i), 16, 16⟩
/-- THERM.TD_CFG.TD_LIMIT [15:0] (R528). -/
def THERM_TD_CFG_TD_LIMIT (i : Nat) : Fld := ⟨wordAddr 0x50 (0x20 + i), 0, 16⟩
/-- THERM.TD_CFG.ACT [17:16] (R528). -/
def THERM_TD_CFG_ACT (i : Nat) : Fld := ⟨wordAddr 0x50 (0x20 + i), 16, 2⟩
/-- THERM.TD_VAL.VALUE [15:0] (R528). -/
def THERM_TD_VAL_VALUE (i : Nat) : Fld := ⟨wordAddr 0x50 (0x24 + i), 0, 16⟩
/-- THERM.TD_VAL.OPEN [16:16] (R528). -/
def THERM_TD_VAL_OPEN (i : Nat) : Fld := ⟨wordAddr 0x50 (0x24 + i), 16, 1⟩
/-- CAL.CFG.ENABLE [0:0] (R529). -/
def CAL_CFG_ENABLE : Fld := ⟨wordAddr 0x51 0x0, 0, 1⟩
/-- CAL.CFG.CAL_DELTA [15:8] (R529). -/
def CAL_CFG_CAL_DELTA : Fld := ⟨wordAddr 0x51 0x0, 8, 8⟩
/-- CAL.CFG.EYE_MIN [23:16] (R529). -/
def CAL_CFG_EYE_MIN : Fld := ⟨wordAddr 0x51 0x0, 16, 8⟩
/-- CAL.STAT.RUNNING [3:0] (R529). -/
def CAL_STAT_RUNNING : Fld := ⟨wordAddr 0x51 0x1, 0, 4⟩
/-- CAL.STAT.QUEUED [14:8] (R529). -/
def CAL_STAT_QUEUED : Fld := ⟨wordAddr 0x51 0x1, 8, 7⟩
/-- CAL.MARGIN.STN_PH [7:0] (R529). -/
def CAL_MARGIN_STN_PH (i : Nat) : Fld := ⟨wordAddr 0x51 (0x10 + i), 0, 8⟩
/-- CAL.MARGIN.STN_TH [15:8] (R529). -/
def CAL_MARGIN_STN_TH (i : Nat) : Fld := ⟨wordAddr 0x51 (0x10 + i), 8, 8⟩
/-- CAL.MARGIN.RDG_PH [23:16] (R529). -/
def CAL_MARGIN_RDG_PH (i : Nat) : Fld := ⟨wordAddr 0x51 (0x10 + i), 16, 8⟩
/-- CAL.MARGIN.RDG_TH [31:24] (R529). -/
def CAL_MARGIN_RDG_TH (i : Nat) : Fld := ⟨wordAddr 0x51 (0x10 + i), 24, 8⟩
/-- CAL.PRESET.RDG [3:0] (R529). -/
def CAL_PRESET_RDG (i : Nat) : Fld := ⟨wordAddr 0x51 (0x18 + i), 0, 4⟩
/-- CAL.PRESET.ETH [7:4] (R529). -/
def CAL_PRESET_ETH (i : Nat) : Fld := ⟨wordAddr 0x51 (0x18 + i), 4, 4⟩
/-- CAL.T_STAT.PHASE [5:0] (R529). -/
def CAL_T_STAT_PHASE (i : Nat) : Fld := ⟨wordAddr 0x51 (0x100 + 0x8 * i), 0, 6⟩
/-- CAL.T_STAT.THRESH [12:8] (R529). -/
def CAL_T_STAT_THRESH (i : Nat) : Fld := ⟨wordAddr 0x51 (0x100 + 0x8 * i), 8, 5⟩
/-- CAL.T_STAT.SENSOR [19:16] (R529). -/
def CAL_T_STAT_SENSOR (i : Nat) : Fld := ⟨wordAddr 0x51 (0x100 + 0x8 * i), 16, 4⟩
/-- CAL.T_STAT.RUNNING [20:20] (R529). -/
def CAL_T_STAT_RUNNING (i : Nat) : Fld := ⟨wordAddr 0x51 (0x100 + 0x8 * i), 20, 1⟩
/-- CAL.T_STAT.WALKING [21:21] (R529). -/
def CAL_T_STAT_WALKING (i : Nat) : Fld := ⟨wordAddr 0x51 (0x100 + 0x8 * i), 21, 1⟩
/-- CAL.T_STAT.LAST_FAIL [22:22] (R529). -/
def CAL_T_STAT_LAST_FAIL (i : Nat) : Fld := ⟨wordAddr 0x51 (0x100 + 0x8 * i), 22, 1⟩
/-- CAL.T_TGT.PHASE [5:0] (R529). -/
def CAL_T_TGT_PHASE (i : Nat) : Fld := ⟨wordAddr 0x51 (0x101 + 0x8 * i), 0, 6⟩
/-- CAL.T_TGT.THRESH [12:8] (R529). -/
def CAL_T_TGT_THRESH (i : Nat) : Fld := ⟨wordAddr 0x51 (0x101 + 0x8 * i), 8, 5⟩
/-- CAL.RUNS [31:0] (R529). -/
def CAL_RUNS (i : Nat) : Fld := ⟨wordAddr 0x51 (0x102 + 0x8 * i), 0, 32⟩
/-- CAL.FAILS [15:0] (R529). -/
def CAL_FAILS (i : Nat) : Fld := ⟨wordAddr 0x51 (0x103 + 0x8 * i), 0, 16⟩
/-- CAL.FAILS.EYE [31:16] (R529). -/
def CAL_FAILS_EYE (i : Nat) : Fld := ⟨wordAddr 0x51 (0x103 + 0x8 * i), 16, 16⟩
/-- CAL.LAST_T_LO [31:0] (R529). -/
def CAL_LAST_T_LO (i : Nat) : Fld := ⟨wordAddr 0x51 (0x104 + 0x8 * i), 0, 32⟩
/-- CAL.LAST_T_HI [31:0] (R529). -/
def CAL_LAST_T_HI (i : Nat) : Fld := ⟨wordAddr 0x51 (0x105 + 0x8 * i), 0, 32⟩
/-- CAL.LAST_TEMP [15:0] (R529). -/
def CAL_LAST_TEMP (i : Nat) : Fld := ⟨wordAddr 0x51 (0x106 + 0x8 * i), 0, 16⟩
/-- LIGHT.CFG.PWM_PERIOD [15:0] (R549). -/
def LIGHT_CFG_PWM_PERIOD : Fld := ⟨wordAddr 0x58 0x0, 0, 16⟩
/-- LIGHT.EXPO.MASK [23:0] (R549). -/
def LIGHT_EXPO_MASK : Fld := ⟨wordAddr 0x58 0x1, 0, 24⟩
/-- LIGHT.EXPO.GUARD [31:24] (R549). -/
def LIGHT_EXPO_GUARD : Fld := ⟨wordAddr 0x58 0x1, 24, 8⟩
/-- LIGHT.DERATE.KNEE [15:0] (R549). -/
def LIGHT_DERATE_KNEE : Fld := ⟨wordAddr 0x58 0x2, 0, 16⟩
/-- LIGHT.DERATE.SLOPE [23:16] (R549). -/
def LIGHT_DERATE_SLOPE : Fld := ⟨wordAddr 0x58 0x2, 16, 8⟩
/-- LIGHT.DERATE.FLOOR [30:24] (R549). -/
def LIGHT_DERATE_FLOOR : Fld := ⟨wordAddr 0x58 0x2, 24, 7⟩
/-- LIGHT.DSRC.SRC [2:0] (R549). -/
def LIGHT_DSRC : Fld := ⟨wordAddr 0x58 0x3, 0, 3⟩
/-- LIGHT.DSTAT.FACTOR [16:0] (R549). -/
def LIGHT_DSTAT_FACTOR : Fld := ⟨wordAddr 0x58 0x10, 0, 17⟩
/-- LIGHT.DSTAT.DERATE_BAD [17:17] (R549). -/
def LIGHT_DSTAT_DERATE_BAD : Fld := ⟨wordAddr 0x58 0x10, 17, 1⟩
/-- LIGHT.DTEMP [15:0] (R549). -/
def LIGHT_DTEMP : Fld := ⟨wordAddr 0x58 0x11, 0, 16⟩
/-- LIGHT.STR_CTRL.MODE [1:0] (R550). -/
def LIGHT_STR_CTRL_MODE (i : Nat) : Fld := ⟨wordAddr 0x58 (0x100 + 0x10 * i), 0, 2⟩
/-- LIGHT.STR_CTRL.TIED [2:2] (R550). -/
def LIGHT_STR_CTRL_TIED (i : Nat) : Fld := ⟨wordAddr 0x58 (0x100 + 0x10 * i), 2, 1⟩
/-- LIGHT.STR_CTRL.TIE_CH [8:3] (R550). -/
def LIGHT_STR_CTRL_TIE_CH (i : Nat) : Fld := ⟨wordAddr 0x58 (0x100 + 0x10 * i), 3, 6⟩
/-- LIGHT.STR_CTRL.LAMP_ACT [9:9] (R550). -/
def LIGHT_STR_CTRL_LAMP_ACT (i : Nat) : Fld := ⟨wordAddr 0x58 (0x100 + 0x10 * i), 9, 1⟩
/-- LIGHT.STR_CTRL.DERATE_EN [10:10] (R550). -/
def LIGHT_STR_CTRL_DERATE_EN (i : Nat) : Fld := ⟨wordAddr 0x58 (0x100 + 0x10 * i), 10, 1⟩
/-- LIGHT.STR_CTRL.STRETCH_EN [11:11] (R550). -/
def LIGHT_STR_CTRL_STRETCH_EN (i : Nat) : Fld := ⟨wordAddr 0x58 (0x100 + 0x10 * i), 11, 1⟩
/-- LIGHT.STR_DUTY.DUTY [16:0] (R550). -/
def LIGHT_STR_DUTY (i : Nat) : Fld := ⟨wordAddr 0x58 (0x101 + 0x10 * i), 0, 17⟩
/-- LIGHT.STR_START_LO.START_LO [31:0] (R550). -/
def LIGHT_STR_START_LO (i : Nat) : Fld := ⟨wordAddr 0x58 (0x102 + 0x10 * i), 0, 32⟩
/-- LIGHT.STR_START_HI.START_HI [15:0] (R550). -/
def LIGHT_STR_START_HI (i : Nat) : Fld := ⟨wordAddr 0x58 (0x103 + 0x10 * i), 0, 16⟩
/-- LIGHT.STR_PERIOD_NS.PERIOD_NS [31:0] (R550). -/
def LIGHT_STR_PERIOD_NS (i : Nat) : Fld := ⟨wordAddr 0x58 (0x104 + 0x10 * i), 0, 32⟩
/-- LIGHT.STR_WIDTH.WIDTH [23:0] (R550). -/
def LIGHT_STR_WIDTH (i : Nat) : Fld := ⟨wordAddr 0x58 (0x105 + 0x10 * i), 0, 24⟩
/-- LIGHT.STR_COUNT.COUNT [31:0] (R550). -/
def LIGHT_STR_COUNT (i : Nat) : Fld := ⟨wordAddr 0x58 (0x106 + 0x10 * i), 0, 32⟩
/-- LIGHT.STR_LAMP.PATTERN [15:0] (R550). -/
def LIGHT_STR_LAMP_PATTERN (i : Nat) : Fld := ⟨wordAddr 0x58 (0x107 + 0x10 * i), 0, 16⟩
/-- LIGHT.STR_LAMP.LAMPS [20:16] (R550). -/
def LIGHT_STR_LAMP_LAMPS (i : Nat) : Fld := ⟨wordAddr 0x58 (0x107 + 0x10 * i), 16, 5⟩
/-- LIGHT.STR_SENSE.VF [11:0] (R550). -/
def LIGHT_STR_SENSE_VF (i : Nat) : Fld := ⟨wordAddr 0x58 (0x108 + 0x10 * i), 0, 12⟩
/-- LIGHT.STR_SENSE.V0 [27:16] (R550). -/
def LIGHT_STR_SENSE_V0 (i : Nat) : Fld := ⟨wordAddr 0x58 (0x108 + 0x10 * i), 16, 12⟩
/-- LIGHT.STR_SENSE.FAULT_CNT [31:28] (R550). -/
def LIGHT_STR_SENSE_FAULT_CNT (i : Nat) : Fld := ⟨wordAddr 0x58 (0x108 + 0x10 * i), 28, 4⟩
/-- LIGHT.S_STAT.ON [0:0] (R550). -/
def LIGHT_S_STAT_ON (i : Nat) : Fld := ⟨wordAddr 0x58 (0x109 + 0x10 * i), 0, 1⟩
/-- LIGHT.S_STAT.OPEN [1:1] (R550). -/
def LIGHT_S_STAT_OPEN (i : Nat) : Fld := ⟨wordAddr 0x58 (0x109 + 0x10 * i), 1, 1⟩
/-- LIGHT.S_STAT.SHORT [2:2] (R550). -/
def LIGHT_S_STAT_SHORT (i : Nat) : Fld := ⟨wordAddr 0x58 (0x109 + 0x10 * i), 2, 1⟩
/-- LIGHT.S_STAT.SHORTS [6:3] (R550). -/
def LIGHT_S_STAT_SHORTS (i : Nat) : Fld := ⟨wordAddr 0x58 (0x109 + 0x10 * i), 3, 4⟩
/-- LIGHT.S_STAT.OFF_FAULT [7:7] (R550). -/
def LIGHT_S_STAT_OFF_FAULT (i : Nat) : Fld := ⟨wordAddr 0x58 (0x109 + 0x10 * i), 7, 1⟩
/-- LIGHT.S_STAT.LOAD_PEND [8:8] (R550). -/
def LIGHT_S_STAT_LOAD_PEND (i : Nat) : Fld := ⟨wordAddr 0x58 (0x109 + 0x10 * i), 8, 1⟩
/-- LIGHT.S_STAT.STARVED [9:9] (R550). -/
def LIGHT_S_STAT_STARVED (i : Nat) : Fld := ⟨wordAddr 0x58 (0x109 + 0x10 * i), 9, 1⟩
/-- LIGHT.S_STAT.EXPO_HIT [10:10] (R550). -/
def LIGHT_S_STAT_EXPO_HIT (i : Nat) : Fld := ⟨wordAddr 0x58 (0x109 + 0x10 * i), 10, 1⟩
/-- LIGHT.S_STAT.LATE [11:11] (R550). -/
def LIGHT_S_STAT_LATE (i : Nat) : Fld := ⟨wordAddr 0x58 (0x109 + 0x10 * i), 11, 1⟩
/-- LIGHT.S_STAT.SKIP [12:12] (R550). -/
def LIGHT_S_STAT_SKIP (i : Nat) : Fld := ⟨wordAddr 0x58 (0x109 + 0x10 * i), 12, 1⟩
/-- LIGHT.STR_MEAS.LAST_V [11:0] (R550). -/
def LIGHT_STR_MEAS_LAST_V (i : Nat) : Fld := ⟨wordAddr 0x58 (0x10A + 0x10 * i), 0, 12⟩
/-- LIGHT.STR_MEAS.EXPECT [27:16] (R550). -/
def LIGHT_STR_MEAS_EXPECT (i : Nat) : Fld := ⟨wordAddr 0x58 (0x10A + 0x10 * i), 16, 12⟩
/-- LIGHT.STR_OUT.ON [15:0] (R550). -/
def LIGHT_STR_OUT_ON (i : Nat) : Fld := ⟨wordAddr 0x58 (0x10B + 0x10 * i), 0, 16⟩
/-- LIGHT.STR_OUT.N [20:16] (R550). -/
def LIGHT_STR_OUT_N (i : Nat) : Fld := ⟨wordAddr 0x58 (0x10B + 0x10 * i), 16, 5⟩
/-- LIGHT.STR_DIAG.STRETCHES [15:0] (R550). -/
def LIGHT_STR_DIAG_STRETCHES (i : Nat) : Fld := ⟨wordAddr 0x58 (0x10C + 0x10 * i), 0, 16⟩
/-- LIGHT.STR_DIAG.STRETCH_SKIPS [31:16] (R550). -/
def LIGHT_STR_DIAG_STRETCH_SKIPS (i : Nat) : Fld := ⟨wordAddr 0x58 (0x10C + 0x10 * i), 16, 16⟩
/-- LIGHT.STR_SKIPPED.SKIPPED [15:0] (R550). -/
def LIGHT_STR_SKIPPED (i : Nat) : Fld := ⟨wordAddr 0x58 (0x10D + 0x10 * i), 0, 16⟩
/-- HUSK.STAT.STATE [1:0] (R575). -/
def HUSK_STAT_STATE : Fld := ⟨wordAddr 0x60 0x0, 0, 2⟩
/-- HUSK.STAT.STOP [2:2] (R575). -/
def HUSK_STAT_STOP : Fld := ⟨wordAddr 0x60 0x0, 2, 1⟩
/-- HUSK.STAT.ZEROIZING [3:3] (R575). -/
def HUSK_STAT_ZEROIZING : Fld := ⟨wordAddr 0x60 0x0, 3, 1⟩
/-- HUSK.STAT.ZEROIZE_PENDING [4:4] (R575). -/
def HUSK_STAT_ZEROIZE_PENDING : Fld := ⟨wordAddr 0x60 0x0, 4, 1⟩
/-- HUSK.STAT.LOST [5:5] (R575). -/
def HUSK_STAT_LOST : Fld := ⟨wordAddr 0x60 0x0, 5, 1⟩
/-- HUSK.STAT.VBAT_LOW [6:6] (R575). -/
def HUSK_STAT_VBAT_LOW : Fld := ⟨wordAddr 0x60 0x0, 6, 1⟩
/-- HUSK.STAT.SLOTS_LOADED [14:8] (R575). -/
def HUSK_STAT_SLOTS_LOADED : Fld := ⟨wordAddr 0x60 0x0, 8, 7⟩
/-- HUSK.STAT.ASSERTED [21:16] (R575). -/
def HUSK_STAT_ASSERTED : Fld := ⟨wordAddr 0x60 0x0, 16, 6⟩
/-- HUSK.POLICY [31:0] (R575). -/
def HUSK_POLICY : Fld := ⟨wordAddr 0x60 0x1, 0, 32⟩
/-- HUSK.LATCHED [5:0] (R575). -/
def HUSK_LATCHED : Fld := ⟨wordAddr 0x60 0x2, 0, 6⟩
/-- HUSK.AUTH_FAILS.RUN [15:0] (R575). -/
def HUSK_AUTH_FAILS_RUN : Fld := ⟨wordAddr 0x60 0x3, 0, 16⟩
/-- HUSK.AUTH_FAILS.TOTAL [31:16] (R575). -/
def HUSK_AUTH_FAILS_TOTAL : Fld := ⟨wordAddr 0x60 0x3, 16, 16⟩
/-- HUSK.DK_KCV [23:0] (R575). -/
def HUSK_DK_KCV : Fld := ⟨wordAddr 0x60 0x4, 0, 24⟩
/-- HUSK.ISLAND_S [31:0] (R575). -/
def HUSK_ISLAND_S : Fld := ⟨wordAddr 0x60 0x5, 0, 32⟩
/-- HUSK.LOG_HEAD [3:0] (R575). -/
def HUSK_LOG_HEAD : Fld := ⟨wordAddr 0x60 0x6, 0, 4⟩
/-- HUSK.LOG_A.SOURCE [2:0] (R575). -/
def HUSK_LOG_A_SOURCE (i : Nat) : Fld := ⟨wordAddr 0x60 (0x40 + 0x2 * i), 0, 3⟩
/-- HUSK.LOG_A.ACTION [4:3] (R575). -/
def HUSK_LOG_A_ACTION (i : Nat) : Fld := ⟨wordAddr 0x60 (0x40 + 0x2 * i), 3, 2⟩
/-- HUSK.LOG_A.ON_BATTERY [5:5] (R575). -/
def HUSK_LOG_A_ON_BATTERY (i : Nat) : Fld := ⟨wordAddr 0x60 (0x40 + 0x2 * i), 5, 1⟩
/-- HUSK.LOG_A.VALID [6:6] (R575). -/
def HUSK_LOG_A_VALID (i : Nat) : Fld := ⟨wordAddr 0x60 (0x40 + 0x2 * i), 6, 1⟩
/-- HUSK.LOG_B [31:0] (R575). -/
def HUSK_LOG_B (i : Nat) : Fld := ⟨wordAddr 0x60 (0x41 + 0x2 * i), 0, 32⟩
/-- HUSK.SLOT.LOADED [0:0] (R575). -/
def HUSK_SLOT_LOADED (i : Nat) : Fld := ⟨wordAddr 0x60 (0x101 + i), 0, 1⟩
/-- HUSK.SLOT.IN_USE [1:1] (R575). -/
def HUSK_SLOT_IN_USE (i : Nat) : Fld := ⟨wordAddr 0x60 (0x101 + i), 1, 1⟩
/-- HUSK.SLOT.KCV [31:8] (R575). -/
def HUSK_SLOT_KCV (i : Nat) : Fld := ⟨wordAddr 0x60 (0x101 + i), 8, 24⟩
/-- ERR.QSTAT.DEPTH [6:0] (R606). -/
def ERR_QSTAT_DEPTH : Fld := ⟨wordAddr 0x68 0x0, 0, 7⟩
/-- ERR.DROPPED.LOW [15:0] (R606). -/
def ERR_DROPPED_LOW : Fld := ⟨wordAddr 0x68 0x1, 0, 16⟩
/-- ERR.DROPPED.HIGH [31:16] (R606). -/
def ERR_DROPPED_HIGH : Fld := ⟨wordAddr 0x68 0x1, 16, 16⟩
/-- ERR.LOG_NEXT [31:0] (R606). -/
def ERR_LOG_NEXT : Fld := ⟨wordAddr 0x68 0x2, 0, 32⟩
/-- ERR.LOG_OLDEST [31:0] (R606). -/
def ERR_LOG_OLDEST : Fld := ⟨wordAddr 0x68 0x3, 0, 32⟩
/-- ERR.LOG_STAT.RATE_DROPPED [15:0] (R606). -/
def ERR_LOG_STAT_RATE_DROPPED : Fld := ⟨wordAddr 0x68 0x4, 0, 16⟩
/-- ERR.LOG_STAT.LOG_FAIL [16:16] (R606). -/
def ERR_LOG_STAT_LOG_FAIL : Fld := ⟨wordAddr 0x68 0x4, 16, 1⟩
/-- ERR.CFG.IRQ_SEV [2:0] (R606). -/
def ERR_CFG_IRQ_SEV : Fld := ⟨wordAddr 0x68 0x8, 0, 3⟩
/-- ERR.CFG.VECTOR [7:3] (R606). -/
def ERR_CFG_VECTOR : Fld := ⟨wordAddr 0x68 0x8, 3, 5⟩
/-- ERR.TEL.UDP [15:0] (R606). -/
def ERR_TEL_UDP : Fld := ⟨wordAddr 0x68 0x9, 0, 16⟩
/-- ERR.TEL.PORT [16:16] (R606). -/
def ERR_TEL_PORT : Fld := ⟨wordAddr 0x68 0x9, 16, 1⟩
/-- ERR.TEL.ENABLE [17:17] (R606). -/
def ERR_TEL_ENABLE : Fld := ⟨wordAddr 0x68 0x9, 17, 1⟩
/-- ERR.TEL.FEED [21:18] (R606). -/
def ERR_TEL_FEED : Fld := ⟨wordAddr 0x68 0x9, 18, 4⟩
/-- ERR.TEL.TEL_SEV [24:22] (R606). -/
def ERR_TEL_TEL_SEV : Fld := ⟨wordAddr 0x68 0x9, 22, 3⟩
/-- ERR.TEL_IP [31:0] (R606). -/
def ERR_TEL_IP : Fld := ⟨wordAddr 0x68 0xA, 0, 32⟩
/-- ERR.WDOG.WDOG_MS [15:0] (R606). -/
def ERR_WDOG_WDOG_MS : Fld := ⟨wordAddr 0x68 0x10, 0, 16⟩
/-- ERR.RESTARTS [31:0] (R606). -/
def ERR_RESTARTS : Fld := ⟨wordAddr 0x68 0x11, 0, 32⟩
/-- ERR.CKPT_CFG.CKPT_MS [15:0] (R606). -/
def ERR_CKPT_CFG_CKPT_MS : Fld := ⟨wordAddr 0x68 0x18, 0, 16⟩
/-- ERR.CKPT_CFG.LAYER [16:16] (R606). -/
def ERR_CKPT_CFG_LAYER : Fld := ⟨wordAddr 0x68 0x18, 16, 1⟩
/-- ERR.JSTAT.RUN_VALID [0:0] (R606). -/
def ERR_JSTAT_RUN_VALID : Fld := ⟨wordAddr 0x68 0x19, 0, 1⟩
/-- ERR.JSTAT.BASE_VALID [1:1] (R606). -/
def ERR_JSTAT_BASE_VALID : Fld := ⟨wordAddr 0x68 0x19, 1, 1⟩
/-- ERR.JSTAT.WRITING [2:2] (R606). -/
def ERR_JSTAT_WRITING : Fld := ⟨wordAddr 0x68 0x19, 2, 1⟩
/-- ERR.JSTAT.WRITE_FAIL [3:3] (R606). -/
def ERR_JSTAT_WRITE_FAIL : Fld := ⟨wordAddr 0x68 0x19, 3, 1⟩
/-- ERR.JSTAT.REASON [6:4] (R606). -/
def ERR_JSTAT_REASON : Fld := ⟨wordAddr 0x68 0x19, 4, 3⟩
/-- ERR.OPEN_DEV.DETAIL [15:0] (R606). -/
def ERR_OPEN_DEV_DETAIL : Fld := ⟨wordAddr 0x68 0x20, 0, 16⟩
/-- ERR.OPEN_DEV.CLASS [18:16] (R606). -/
def ERR_OPEN_DEV_CLASS : Fld := ⟨wordAddr 0x68 0x20, 16, 3⟩
/-- ERR.OPEN_DEV.FAULT [19:19] (R606). -/
def ERR_OPEN_DEV_FAULT : Fld := ⟨wordAddr 0x68 0x20, 19, 1⟩
/-- ERR.OPEN_DEV.FOLLOWERS [31:24] (R606). -/
def ERR_OPEN_DEV_FOLLOWERS : Fld := ⟨wordAddr 0x68 0x20, 24, 8⟩
/-- ERR.OPEN_CH.DETAIL [15:0] (R606). -/
def ERR_OPEN_CH_DETAIL (i : Nat) : Fld := ⟨wordAddr 0x68 (0x100 + i), 0, 16⟩
/-- ERR.OPEN_CH.CLASS [18:16] (R606). -/
def ERR_OPEN_CH_CLASS (i : Nat) : Fld := ⟨wordAddr 0x68 (0x100 + i), 16, 3⟩
/-- ERR.OPEN_CH.FAULT [19:19] (R606). -/
def ERR_OPEN_CH_FAULT (i : Nat) : Fld := ⟨wordAddr 0x68 (0x100 + i), 19, 1⟩
/-- ERR.OPEN_CH.FOLLOWERS [31:24] (R606). -/
def ERR_OPEN_CH_FOLLOWERS (i : Nat) : Fld := ⟨wordAddr 0x68 (0x100 + i), 24, 8⟩
/-- ERR.OPEN_AX.DETAIL [15:0] (R606). -/
def ERR_OPEN_AX_DETAIL (i : Nat) : Fld := ⟨wordAddr 0x68 (0x140 + i), 0, 16⟩
/-- ERR.OPEN_AX.CLASS [18:16] (R606). -/
def ERR_OPEN_AX_CLASS (i : Nat) : Fld := ⟨wordAddr 0x68 (0x140 + i), 16, 3⟩
/-- ERR.OPEN_AX.FAULT [19:19] (R606). -/
def ERR_OPEN_AX_FAULT (i : Nat) : Fld := ⟨wordAddr 0x68 (0x140 + i), 19, 1⟩
/-- ERR.OPEN_AX.FOLLOWERS [31:24] (R606). -/
def ERR_OPEN_AX_FOLLOWERS (i : Nat) : Fld := ⟨wordAddr 0x68 (0x140 + i), 24, 8⟩
/-- ERR.OPEN_UNIT.DETAIL [15:0] (R606). -/
def ERR_OPEN_UNIT_DETAIL (i : Nat) : Fld := ⟨wordAddr 0x68 (0x180 + i), 0, 16⟩
/-- ERR.OPEN_UNIT.CLASS [18:16] (R606). -/
def ERR_OPEN_UNIT_CLASS (i : Nat) : Fld := ⟨wordAddr 0x68 (0x180 + i), 16, 3⟩
/-- ERR.OPEN_UNIT.FAULT [19:19] (R606). -/
def ERR_OPEN_UNIT_FAULT (i : Nat) : Fld := ⟨wordAddr 0x68 (0x180 + i), 19, 1⟩
/-- ERR.OPEN_UNIT.FOLLOWERS [31:24] (R606). -/
def ERR_OPEN_UNIT_FOLLOWERS (i : Nat) : Fld := ⟨wordAddr 0x68 (0x180 + i), 24, 8⟩

end F

end Sys2Proof.Machine
end

