-- ==== Sys2Proof/Machine/State.lean ====
section
/-!
DEFINITION. Sys2Proof/Machine/State.lean: what the block holds. Parameter words stand in `State.regs`, one home for every
register (the tables of Machine/RegTable.lean give their fields and reset values); everything else the
spec gives a unit (queues, buffers, histories, work in progress) stands in that unit's structure below.
Plain data throughout. `State.pending` is the queue of commands that wait, first in, first out.
-/
namespace Sys2Proof.Machine

/-- Ways a step can stop without a next state. No command of this block stops so: the spec describes every error as a reply,
an event or a status. The one constructor is kept for an impossible case and no meaning raises it. -/
inductive Fault where
  /-- Raised by no meaning of this model; safe. -/
  | none
deriving DecidableEq, Repr

/-- Commands to which the model gives no meaning. -/
inductive Refusal where
  /-- Answered by an arm of `exec` that has no meaning yet, with the row's mnemonic; safe. -/
  | notModelled (mnemonic : String)
deriving DecidableEq, Repr

/-! ## Packets, replies and outputs (spec/03) -/

/-- A reply (R80) with the path it goes to. -/
structure Reply where
  path : Path
  opcode : Byte
  tag : Byte
  status : Byte
  detail : Half
  flags : Byte
  epoch : Nat
  time : Nat
  results : List Word
deriving DecidableEq, Repr

/-- Where a datagram's sender is, and the sequence number it chose (R93 to R96). -/
structure Origin where
  mac : BitVec 48
  ip : Word
  udp : Half
  seq : Word
deriving DecidableEq, Repr

/-- What an accepted packet that has started is waiting for before it can be answered. -/
inductive Wait where
  /-- not started -/
  | unstarted
  /-- a read at the frame boundary of device time `q` µs (R114, R115) -/
  | read (q : Nat)
  /-- a SNAPSHOT at a named frame (R117); `cascade` for CASCADE = 1 -/
  | snapshot (f : Nat) (cascade : Bool)
  /-- a COMMIT scheduled for frame `f` (R109, R110) -/
  | commit (f : Nat)
  /-- a LEDGER_READ at the boundary of `q` µs (R347, R348) -/
  | ledgerRead (q : Nat)
  /-- a LEDGER_FILL at apply instant `h` (R349) -/
  | ledgerFill (h : Nat)
  /-- an axis opcode that acts at apply instant `f` (R458) -/
  | axisAt (f : Nat)
  /-- a JOURNAL_RESTORE at frame `f` (R602) -/
  | restore (f : Nat)
  /-- a PAIR_SWAP or PAIR_DROP at instant `v` (R497, R498) -/
  | pairAt (v : Nat)
  /-- a CAIRN (R123) -/
  | cairn
  /-- a PACK_JOB on a slot (R179) -/
  | job (slot : Nat)
  /-- a CTX_PERSIST that waits for its journal write (R178) -/
  | ctxJournal (slot : Nat)
  /-- a CTX_PERSIST that clears persistence once the journal write in hand has ended (R178) -/
  | ctxErase (slot : Nat)
  /-- a FORWARD sent with inner tag `inner` (R126 to R128) -/
  | forward (inner : Nat) (bcast : Bool)
  /-- a CAL_RUN of a target (R527) -/
  | calRun (target : Nat)
  /-- a LIGHT_MEASURE of a string (R548) -/
  | measure (string : Nat)
  /-- a CHECKPOINT that replies once checkpoint `n` is written (R605) -/
  | checkpoint (n : Nat)
  /-- a HUSK_ZEROIZE whose zeroization runs (R568, R573) -/
  | zeroize
  /-- a write that waits for the partner's acknowledgement number `n` (R483) -/
  | mirror (n : Nat)
  /-- a STREAM_FETCH of `n` bytes (R134) -/
  | fetch (stream n : Nat)
deriving DecidableEq, Repr

/-- A packet in flight: accepted on its path and not yet answered (R86, R88). -/
structure InFlight where
  path : Path
  tag : Byte
  opcode : Byte
  target : Word
  body : List Word
  order : Nat
  acceptClk : Nat
  /-- device time in ns at its acceptance -/
  acceptNs : Nat := 0
  startClk : Option Nat := none
  wait : Wait := .unstarted
  /-- its path was lost after it started: its reply is discarded (R130) -/
  orphan : Bool := false
  origin : Option Origin := none
  /-- of a packet on the ridge path: the tag that host software chose, and the summit's number of its FORWARD (R127) -/
  hostTag : Byte := 0
  summitId : Nat := 0
  /-- it is one of the copies of a broadcast (R128) -/
  bcast : Bool := false
  /-- of the summit's packet that goes to other devices: the inner tag assigned to it (R127) -/
  inner : Byte := 0
  /-- FLAGS at its acceptance (R85) -/
  acceptFlags : Byte := 0
  /-- of a SNAPSHOT: the positions in the ring map at its acceptance (R117) -/
  mapAt : List Nat := []
  /-- of a read: the words as its snapshot instant found them (R114) -/
  taken : Option (List Word) := none
  /-- FLAGS and epoch as they stood at the timestamp of the reply, where that lies before the reply is made (R85, R119) -/
  flagsAt : Option Byte := none
  epochAt : Option Nat := none
deriving DecidableEq, Repr

/-- A datagram sequence whose outcomes are kept (R96). -/
structure Kept where
  seq : Word
  replies : List Reply := []
deriving DecidableEq, Repr

/-- A source of datagrams on an Ethernet port (R95). -/
structure Source where
  port : Bool
  ip : Word
  udp : Half
  kept : List Kept := []
deriving DecidableEq, Repr

/-- CMD: acceptance order, packets in flight, staged batches, scheduled commits and the state epoch (spec/03). -/
structure CmdSt where
  /-- packets accepted so far: the next place in the acceptance order (R88) -/
  nextOrder : Nat := 0
  inflight : List InFlight := []
  batchPcie : List StagedWrite := []
  batchEth0 : List StagedWrite := []
  batchEth1 : List StagedWrite := []
  batchRidge : List StagedWrite := []
  /-- by frame, then in acceptance order (R19) -/
  scheduled : List Scheduled := []
  /-- the state epoch (R118) -/
  epoch : Nat := 0
  /-- RESET_UNIT of SYS has replied and the reset begins at this TIME clock (R100) -/
  sysResetAt : Option Nat := none
  /-- reports gathered for a cascade cairn, cascade snapshot or broadcast, by acceptance order: position, time or status word, words -/
  gathered : Tab (List (Nat × Nat × List Word)) := []
  /-- units reset whose further effects wait for a frame boundary: unit, boundary in µs (R611) -/
  unitResets : List (Nat × Nat) := []
deriving DecidableEq, Repr

/-- HOSTIF and NET: reply ring back-pressure, interrupt moderation, datagram sources and drop counts (R91 to R96). -/
structure HostSt where
  held : List Reply := []
  /-- the latest reply written to the reply ring, until its DMA can no longer time out (R593) -/
  written : Option Reply := none
  /-- TIME clock of the last reply interrupt (R89) -/
  lastIrq : Option Nat := none
  /-- a reply interrupt is withheld by moderation (R89) -/
  irqPending : Bool := false
  /-- PERST_N is asserted -/
  perst : Bool := false
  /-- the PCIe path is lost and has not returned (R130) -/
  pcieLost : Bool := false
  /-- the fetch stopped on PARSE_ERR or FETCH_ERR (R92) -/
  fetchStopped : Bool := false
  sources : List Source := []
  /-- datagrams dropped and counted in NET statistics, by port (R94, R95) -/
  dropped0 : Nat := 0
  dropped1 : Nat := 0
  /-- stale datagrams counted under detail 0x02D1 (R96) -/
  stale : Nat := 0
  /-- the port has PCS block lock, or has lost it for no more than 10 ms (R130) -/
  pcsLock0 : Bool := true
  pcsLock1 : Bool := true
deriving DecidableEq, Repr

/-! ## Errors and the journal (spec/17) -/

/-- Subject of a record (R580): kind 0 device, 1 unit, 2 scan channel, 3 machine axis, and its number. -/
structure Subject where
  kind : Nat
  num : Nat
deriving DecidableEq, Repr

/-- An error or event record (R580). -/
structure ErrRec where
  cls : Nat
  fault : Bool := false
  follows : Bool := false
  preempts : Bool := false
  unstepped : Bool := false
  subject : Subject
  detail : Nat
  number : Nat := 0
  time : Nat := 0
  clk : Nat := 0
  epoch : Nat := 0
  prev : Nat := 0
  origin : Nat := 0
  args : List Int := []
deriving DecidableEq, Repr

/-- ERR: records held for their release, the queue, the log and its rate window, open heads' clocks (R582 to R588). -/
structure ErrSt where
  held : List ErrRec := []
  queue : List ErrRec := []
  /-- the MRAM log, oldest first, at most 32,768 records (R586) -/
  log : List ErrRec := []
  /-- number of the next released record (R586) -/
  next : Nat := 0
  /-- TIME clock at which each open head was opened, by subject key -/
  headClk : Tab Nat := []
  /-- a drop episode of R585 is open -/
  dropEpisode : Bool := false
  /-- release times (ns) of the INFO and WARN records the log accepted in the latest 10 ms (R587) -/
  logTimes : List Nat := []
  /-- device time of the latest record kept out of the log, while a rate episode is open (R587) -/
  rateEpisode : Option Nat := none
  /-- restart times (TIME clocks) of the four firmware cores (R595) -/
  restartsAt : List (Nat × Nat) := []
  /-- cores that are being restarted (R595) -/
  coresDown : List Nat := []
  /-- telemetry bytes waiting for the feed, and the count lost (R590) -/
  telBuf : List Byte := []
  telLost : Nat := 0
  /-- open episodes: subject key × 65536 + detail to the device time (ns) of the latest occurrence (R429, R579) -/
  episodes : Tab Nat := []
deriving DecidableEq, Repr

/-- The MRAM journal and the checkpoint that is being written (R596 to R600). It survives every reset. -/
structure JournalSt where
  /-- the boot count of the header (R119) -/
  bootCount : Nat := 0
  /-- the next record number stored in the header (R586) -/
  nextNumber : Nat := 0
  /-- newest first; a write replaces the older copy (R596) -/
  runs : List RunImage := []
  bases : List BaseImage := []
  /-- journal images of persistent context slots, newest first (R173) -/
  contexts : Tab (List (List Byte)) := []
  /-- checkpoints that are being written, the first now (R598), with the BASE written beside them -/
  writing : List RunImage := []
  writingBase : Option BaseImage := none
  /-- a saved field changed since the newest complete BASE (R597) -/
  dirty : Bool := true
  nextRun : Nat := 1
  nextBase : Nat := 1
  /-- GO_BUILD or JOURNAL_RESTORE has been accepted since boot (R599) -/
  armed : Bool := false
  /-- the apply instant of the next PWRFAIL checkpoint (R53, R598) -/
  pwrfailDue : Bool := false
  /-- the journal's check failed at this boot (R68) -/
  bad : Bool := false
  /-- the instant by which the reason 3 checkpoint must be whole (R598) -/
  parkedAt : Option Nat := none
  /-- a layer has completed since the latest frame computation (R270, R598) -/
  layerDue : Bool := false
deriving DecidableEq, Repr

/-! ## SYS: fuses, boot, pins and the device state (spec/01, spec/02) -/

/-- A trigger of a device state transition with the apply instant at which it takes effect (R28, R29). -/
structure DevTrigger where
  at_ : Nat
  target : Nat
  cause : Nat
  request : Bool := false
deriving DecidableEq, Repr

/-- Boot progress and the latched state of the safety inputs (R46 to R72). -/
structure SysSt where
  /-- fused values (R1, R65, R99) -/
  serial : Nat := 0
  siRev : Nat := 0
  minRollback : Nat := 0
  keyDigest : Nat := 0
  /-- PORST_N or SYSRST_N is asserted -/
  porst : Bool := true
  sysrst : Bool := false
  /-- live strap levels: POS, ROLE, BOOT packed as in STRAPS bits [7:0] (R64) -/
  straps : Nat := 0
  /-- a live level has differed from the latch and the event was raised (R64, R579) -/
  strapMismatch : Bool := false
  /-- TIME clock of the release of PORST_N or SYSRST_N from which boot times count (R66) -/
  releaseClk : Nat := 0
  /-- TIME clock of the latest release of PORST_N, from which BOOT_MS counts (R71) -/
  porstClk : Nat := 0
  /-- allowance added to the latest end times by refused images, in TIME clocks (R67) -/
  bootExtra : Nat := 0
  /-- TIME clock at which step 2 began on the present source (R67) -/
  readStart : Nat := 0
  /-- the boot has ended with a failure (R67) -/
  bootFailed : Bool := false
  /-- boot step 1 has completed, so the ROM answers (R69) -/
  romUp : Bool := false
  /-- an image has been read and waits for its check -/
  image : Option FwImage := none
  /-- the image was accepted -/
  imageOk : Bool := false
  /-- training has completed -/
  trained : Bool := false
  /-- BAR2 is enabled (R70) -/
  bar2 : Bool := true
  /-- the PCIe window is being read (R70) -/
  windowStarted : Bool := false
  firmware : Bool := false
  /-- the main PLL is in lock; it has locked since PORST_N was released -/
  pll : Bool := false
  pllOnce : Bool := false
  /-- ESTOP is asserted and LASER_ENABLE asserted, after the release filter (R46, R47) -/
  estop : Bool := true
  laserEnable : Bool := false
  pwrfail : Bool := false
  /-- PWRFAIL_N has been asserted since the last reset (R61) -/
  pwrfailSeen : Bool := false
  /-- output levels: FAULT_N pulled low (R48), THERMTRIP_N pulled low (R49) -/
  faultLow : Bool := true
  thermtripLow : Bool := false
  /-- a TCRIT halt has occurred (R613) -/
  tcritHalt : Bool := false
  /-- READY has been entered since boot (R119) -/
  readyOnce : Bool := false
  /-- decided device transitions not yet in effect, in order: apply instant, state entered, CAUSE code (R29) -/
  next : List (Nat × Nat × Nat) := []
  triggers : List DevTrigger := []
  /-- accepted requests of R614 -/
  requests : List DevTrigger := []
  /-- apply instant of the latest entry to SAFE_STOP (R267) -/
  safeEntry : Option Nat := none
  /-- HALT follows the parked scanners at this apply instant (R598) -/
  haltAt : Option Nat := none
  /-- levels of ESTOP and of LASER_ENABLE deasserted in the latest sample that decides transitions (R484) -/
  estopSeen : Bool := true
  laserOffSeen : Bool := true
  /-- state left for SAFE_STOP (programs still to run out, R267) -/
  stoppedFrom : Nat := 0
  /-- the latest apply instant whose frame has been computed (R40) -/
  built : Nat := 0
deriving DecidableEq, Repr

/-! ## The state -/

/-- What the last command put on the device's outputs. -/
inductive Output where
  /-- a reply written to the reply ring or handed to a MAC (R80, R86) -/
  | reply (r : Reply)
  /-- an MSI-X interrupt (R89, R606) -/
  | interrupt (vector : Nat)
  /-- other outputs, named by row, with the numbers that describe them -/
  | signal (name : String) (args : List Int)
  /-- bytes handed to a MAC, a lane or a link, named by what they are -/
  | bytes (name : String) (args : List Int) (data : List Byte)
  /-- a MIRROR message to the partner with its sequence number (R154, R483) -/
  | mirror (number : Nat) (item : MirrorItem)
deriving DecidableEq, Repr

/-- Where a ridge message goes (R467): the whole ring, digests over H positions, one direction, the neighbour at a link, the partner, the device
that stands for a position, or the summit. -/
inductive RidgeTo where
  | all
  | digest
  | way (cw : Bool)
  | neighbour (link : Nat)
  | partner
  | position (p : Nat)
  | summit
deriving DecidableEq, Repr

/-- The state of the block. -/
structure State where
  /-- commands that wait, first in, first out -/
  pending : List Instr := []
  /-- parameter words that differ from their reset values, by parameter address (R102) -/
  regs : Tab Word := []
  /-- W1C bits set in the latest TIME clock in which the device set one: clock, parameter address, bits of the word (R8) -/
  marks : List (Nat × Nat × Nat) := []
  cmd : CmdSt := {}
  host : HostSt := {}
  sys : SysSt := {}
  err : ErrSt := {}
  journal : JournalSt := {}
  time : TimeSt := {}
  stream : StreamSt := {}
  pack : PackSt := {}
  seq : Tab SeqCh := []
  loop : LoopSt := {}
  trace : TraceSt := {}
  stn : Tab StnCh := []
  power : Tab PowCh := []
  ledger : LedgerSt := {}
  col : ColSt := {}
  axis : AxisSt := {}
  husk : HuskSt := {}
  ridge : RidgeSt := {}
  pair : PairSt := {}
  therm : ThermSt := {}
  cal : CalSt := {}
  light : LightSt := {}
  /-- what the last command put on the outputs -/
  out : List Output := []
deriving DecidableEq, Repr

/-- The block right after power-on reset: PORST_N asserted, every word at its reset value, nothing in progress. (DESIGN CHOICE, log entries 1, 14, 15.) -/
def State.reset : State := {}

end Sys2Proof.Machine
end

