-- ==== Sys2Proof/Machine/Ops.lean ====
section
/-!
DEFINITION. Sys2Proof/Machine/Ops.lean: the named operations over the state that every unit uses: finding and
accessing parameter words and fields, device time, the state epoch, raising an error with its automatic
action (spec/17 R577 to R583), the triggers of device and channel transitions, and answering a packet.
-/
namespace Sys2Proof.Machine

/-! ## Parameter words -/

/-- The unit, the channel (0 in a unit without channels) and the word within unit or block of an address (R102). -/
def splitAddr (a : Nat) : Nat × Nat × Nat :=
  let u := a / 65536 % 256
  let w := a % 65536
  if perChannelUnits.contains u then (u, w / 1024, w % 1024) else (u, 0, w)

/-- Whether offset `d` is a repetition of a word with the given strides and counts. -/
def dimHit : List (Nat × Nat) → Nat → Bool
  | [], d => d == 0
  | (st, n) :: t, d => (List.range n).any (fun i => decide (st * i ≤ d) && dimHit t (d - st * i))

/-- Whether a table entry covers word `w` of channel `c`'s block. In COL, words not repeated per channel stand in the block of
channel 0 (R387, R388). -/
def wordHit (c w : Nat) (r : RegWord) : Bool :=
  (r.perCh || c == 0) && decide (r.base ≤ w) && dimHit r.dims (w - r.base)

/-- The rank words of COL: pages 1 to 4, words 0x100 to 0x2FF, two 16-bit ranks to a word (R389). -/
def isRankWord (a : Nat) : Bool :=
  let (u, c, w) := splitAddr a
  u == 0x30 && decide (1 ≤ c) && decide (c ≤ 4) && decide (0x100 ≤ w) && decide (w < 0x300)

/-- The table entry of the rank words (R389). -/
def rankWord : RegWord := ⟨0x100, false, [(1, 512)], true, [⟨0, 16, .rw, 0, none⟩, ⟨16, 16, .rw, 0, none⟩]⟩

/-- The table entry of a parameter address, where one is defined. -/
def findWord (a : Nat) : Option RegWord :=
  let (u, c, w) := splitAddr a
  if isRankWord a then some rankWord else (unitWords u).find? (wordHit c w)

/-- The reset value that the fields of a table entry spell. -/
def fieldsReset (fs : List RegField) : Nat := fs.foldl (fun v f => withBits v f.lo f.width f.rst) 0

/-- Reset values that depend on the repetition: FAB.WEIGHT (R607), TIME.TS_CORR (R200), CAL.MARGIN.STN_PH (R529) and the rank
words (R389). -/
def specialReset (a : Nat) : Option Nat :=
  if a = wordAddr 0x03 0x110 then some 8
  else if a = wordAddr 0x03 0x121 then some 1
  else if a = wordAddr 0x08 0x18 then some 2516582
  else if a = wordAddr 0x08 0x19 then some (fieldOf 32 (-4026532))
  else if a = wordAddr 0x08 0x1A then some 2600468
  else if a = wordAddr 0x08 0x1B then some (fieldOf 32 (-4110418))
  else if a = wordAddr 0x51 0x13 then some (fieldOf 8 (-1))
  else if a = wordAddr 0x51 0x14 then some (fieldOf 8 (-2))
  else if isRankWord a then
    let i := (splitAddr a).2.2 - 0x100
    some (2 * i + (2 * i + 1) * 65536)
  else none

/-- The reset value of a parameter word; 0 where the address names none. -/
def resetWord (a : Nat) : Word :=
  match specialReset a with
  | some v => word v
  | none => match findWord a with
    | some r => word (fieldsReset r.fields)
    | none => 0

/-- The value of a parameter word. -/
def State.reg (s : State) (a : Nat) : Word := tabGet (resetWord a) s.regs a

/-- The state with a parameter word holding `v`. -/
def State.setReg (s : State) (a : Nat) (v : Word) : State := { s with regs := tabPut (resetWord a) s.regs a v }

/-- The value of a field. -/
def State.get (s : State) (f : Fld) : Nat := bitsOf (s.reg f.addr).toNat f.lo f.width

/-- The value of a field read as two's complement. -/
def State.getI (s : State) (f : Fld) : Int := signedOf f.width (s.get f)

/-- Whether a one-bit field is set. -/
def State.has (s : State) (f : Fld) : Bool := s.get f != 0

/-- The state with a field holding the low bits of `v`. -/
def State.put (s : State) (f : Fld) (v : Nat) : State :=
  s.setReg f.addr (word (withBits (s.reg f.addr).toNat f.lo f.width v))

/-- The state with a field holding an integer in two's complement (its low bits). -/
def State.putI (s : State) (f : Fld) (v : Int) : State := s.put f (fieldOf f.width v)

/-- The state with a field holding an integer saturated to the field's signed range. -/
def State.putSat (s : State) (f : Fld) (v : Int) : State :=
  s.putI f (clampI (-(2 ^ (f.width - 1) : Nat)) ((2 ^ (f.width - 1) : Nat) - 1) v)

/-- The device sets bits of a W1C field: a write that clears them in this TIME clock has no effect on them (R8). -/
def State.mark (s : State) (f : Fld) (bits : Nat := 1) : State :=
  { s.put f (s.get f ||| bits) with
    marks := (s.time.clk, f.addr, bits * 2 ^ f.lo) :: s.marks.filter (fun e => e.1 == s.time.clk) }

/-- The bits of a parameter word that the device set in this TIME clock (R8). -/
def State.marked (s : State) (a : Nat) : Word :=
  word ((s.marks.filter (fun e => e.1 == s.time.clk && e.2.1 == a)).foldl (fun m e => m ||| e.2.2) 0)

/-- The state with a one-bit field set or clear. -/
def State.putB (s : State) (f : Fld) (b : Bool) : State := s.put f (if b then 1 else 0)

/-- A counter field raised by `n`, saturating. -/
def State.count (s : State) (f : Fld) (n : Nat := 1) : State := s.put f (satN (2 ^ f.width - 1) (s.get f + n))

/-- A counter field raised by `n`, wrapping. -/
def State.wrapCount (s : State) (f : Fld) (n : Nat := 1) : State := s.put f (s.get f + n)

/-- A 64-bit value held in two words. -/
def State.get64 (s : State) (lo hi : Fld) : Nat := s.get lo + s.get hi * 2 ^ 32

/-- Two words holding a 64-bit value. -/
def State.put64 (s : State) (lo hi : Fld) (v : Nat) : State := (s.put lo v).put hi (v / 2 ^ 32)

/-- Every parameter word of a unit back at its reset value (R100). -/
def State.dropUnit (s : State) (u : Nat) : State :=
  { s with regs := s.regs.filter (fun e => e.1 / 65536 != u) }

/-! ## Per-channel state -/

/-- SEQ's part of channel `c`. -/
def State.sq (s : State) (c : Nat) : SeqCh := tabGet {} s.seq c

/-- The state with SEQ's part of channel `c` replaced. -/
def State.setSq (s : State) (c : Nat) (x : SeqCh) : State := { s with seq := tabPut {} s.seq c x }

/-! ## Outputs -/

/-- One more output of the present command. (DESIGN CHOICE, log entry 228.) -/
def State.emit (s : State) (o : Output) : State := { s with out := s.out ++ [o] }

/-! ## Device time (R192, R193, R196) -/

/-- Device time in whole ns. -/
def State.ns (s : State) : Nat := s.time.now / 2 ^ 32

/-- Device time in whole µs: the latest frame boundary passed (R38). -/
def State.us (s : State) : Nat := s.ns / 1000

/-- The limit of the rate word (R193). -/
def State.adjLimit (s : State) : Int :=
  roundHalfEven ((s.get F.TIME_SERVO_RATE_MAX : Int) * 17179869184) 1000000

/-- The amount that one TIME clock adds to device time, in 2^-32 ns (R193). -/
def State.clockStep (s : State) : Nat := (4 * 2 ^ 32 + s.getI F.TIME_RATE_ADJ).toNat

/-- Device time after `n` TIME clocks (R193). -/
def State.clocks (s : State) (n : Nat) : State :=
  { s with time := { s.time with now := (s.time.now + n * s.clockStep) % 2 ^ 96, clk := s.time.clk + n } }

/-- Device time at the first TIME clock at or after `t` ns; unchanged where that has passed, by the signed 64-bit difference (R38, R196). -/
def State.reach (s : State) (t : Nat) : State :=
  let d := t * 2 ^ 32 - s.time.now
  let n := (d + s.clockStep - 1) / s.clockStep
  if d = 0 ∨ 2 ^ 95 ≤ d then s else s.clocks n

/-- Device time at the TIME clock numbered `c`; unchanged where that has passed. (DEDUCED, log entry 191.) -/
def State.reachClk (s : State) (c : Nat) : State := s.clocks (c - s.time.clk)

/-- The first apply instant whose frame samples are not yet fixed (R29, R40). -/
def State.nextFix (s : State) : Nat := if s.ns % 1000 < 900 then s.us + 2 else s.us + 3

/-- DIFF48 of a launch time and a device time in ns (R196). -/
def diffTime (l t : Int) : Int := diff48 l t

/-- DUE(L, S, t) of R196. -/
def dueAt (l sl t : Int) : Bool := decide (diff48 (l + sl) t ≤ 0)

/-! ## The state epoch (R118) -/

/-- One committed change. -/
def State.bump (s : State) (n : Nat := 1) : State := { s with cmd := { s.cmd with epoch := (s.cmd.epoch + n) % 2 ^ 64 } }

/-! ## Device and channel states -/

/-- The device state (R26). -/
def State.dev (s : State) : Nat := s.get F.SYS_DEV_STATE_STATE

/-- The device state decided for apply instant `f` (R29). -/
def State.devAt (s : State) (f : Nat) : Nat :=
  (s.sys.next.filter (fun e => decide (e.1 ≤ f))).foldl (fun _ e => e.2.1) s.dev

/-- PORST_N or SYSRST_N holds the device in reset. -/
def State.inReset (s : State) : Bool := s.sys.porst || s.sys.sysrst

/-- The state of channel `c` (R31). -/
def State.ch (s : State) (c : Nat) : Nat := s.get (F.SEQ_CH_STATE_STATE c)

/-- The state of channel `c` decided for apply instant `f` (R34). -/
def State.chAt (s : State) (c f : Nat) : Nat :=
  ((s.sq c).next.filter (fun e => decide (e.1 ≤ f))).foldl (fun _ e => e.2.1) (s.ch c)

/-- The pair role: 0 ALONE, 1 KEEPER, 2 SHADOW, 3 CANDIDATE (R99, R504). -/
def State.pairRole (s : State) : Nat := s.get F.PAIR_PSTAT_ROLE

/-- The cascade role from the straps: 0 MEMBER, 1 SUMMIT, 2 REFEREE (R63, R99). -/
def State.cascadeRole (s : State) : Nat := s.get F.SYS_STRAPS_ROLE

/-- The device's cascade position: STRAP_POS, which is ignored on a referee (R63). -/
def State.position (s : State) : Nat := if s.cascadeRole = 2 then 0 else s.get F.SYS_STRAPS_POS

/-- The global number of a local channel (R63). -/
def State.globalChan (s : State) (c : Nat) : Nat := s.position * 64 + c

/-! ## Ridge messages on their way out (R466 to R469) -/

/-- A link is up (R464). (DEDUCED, log entry 128.) -/
def State.linkUp (s : State) (k : Nat) : Bool := s.get (F.RIDGE_LINK_STAT_STATE k) == 2

/-- The connection that link `k` belongs to is up: clockwise links 0 and 1, counterclockwise links 2 and 3 (R463, R464). -/
def State.connUp (s : State) (k : Nat) : Bool := s.linkUp (k / 2 * 2) || s.linkUp (k / 2 * 2 + 1)

/-- The priority of a message type (R467); none for a type that the table does not hold. -/
def ridgePriority (type : Nat) : Option Nat :=
  if [0x01, 0x03, 0x04, 0x05, 0x06, 0x07].contains type then some 1
  else if [0x10, 0x11, 0x12, 0x13, 0x14, 0x15].contains type then some 0
  else if [0x02, 0x20, 0x21].contains type then some 2
  else if type = 0x30 then some 3 else none

/-- The types whose payload the specification lays out (R364, R480, R485, R487, R490). -/
def laidOut (type : Nat) : Bool := [0x05, 0x06, 0x07, 0x10, 0x11, 0x13].contains type

/-- The 8-byte header of a ridge message with `len` payload bytes (R466). -/
def ridgeHeader (type prioDir src dst len reach : Nat) : List Byte :=
  leBytes 1 type ++ leBytes 1 prioDir ++ leBytes 1 src ++ leBytes 1 dst ++ leBytes 2 len ++ leBytes 1 reach ++ leBytes 1 0

/-- A whole ridge message: header, payload and CRC-32 over both (R466). -/
def ridgeBytes (type prioDir src dst reach : Nat) (payload : List Byte) : List Byte :=
  let b := ridgeHeader type prioDir src dst payload.length reach ++ payload
  b ++ leBytes 4 (crc32 b)

/-- The positions in the ring map, P of R468. -/
def State.mapCount (s : State) : Nat :=
  ((List.range 16).filter (fun p => s.ridge.map.any (fun (n : RingNode) => n.role != 2 && n.pos == p))).length

/-- REACH of a digest: H = ⌈(P − 1) / 2⌉ positions, and full reach in an open ring (R468, R469). -/
def State.digestReach (s : State) : Nat := if s.connUp 0 && s.connUp 2 then s.mapCount / 2 else 0xFF

/-- The node that stands for position `p`: of two devices the one whose heartbeat reports ALONE or KEEPER (R477). -/
def State.nodeOf (s : State) (p : Nat) : Option RingNode :=
  let ns := s.ridge.map.filter (fun (n : RingNode) => n.role != 2 && n.pos == p && !n.excluded)
  let leads := fun (n : RingNode) => s.ridge.seen.any (fun (h : HbSeen) => h.serial == n.serial && decide (h.pairRole ≤ 1))
  (ns.find? leads) <|> ns.head?

/-- The direction with fewer hops to node `n` of the map, clockwise when both are equal, or the only one that is open. (DESIGN CHOICE, log entry 193.) -/
def State.wayTo (s : State) (n : RingNode) : Bool :=
  let place := fun (serial : Nat) => s.ridge.map.findIdx (fun (m : RingNode) => m.serial == serial)
  let size := s.ridge.map.length
  let hops := (place n.serial + size - place s.sys.serial) % (if size = 0 then 1 else size)
  if !s.connUp 2 then true else if !s.connUp 0 then false else decide (2 * hops ≤ size)

/-- DST, REACH and the directions of a message (R467 to R469): those whose connection is up. (DESIGN CHOICE, log entry 193.) -/
def State.route (s : State) : RidgeTo → Nat × Nat × List Bool
  | .all => (0xFF, 0xFF, [true, false].filter (fun cw => s.connUp (if cw then 0 else 2)))
  | .digest => (0xFF, s.digestReach, [true, false].filter (fun cw => s.connUp (if cw then 0 else 2)))
  | .way cw => (0xFF, 0xFF, if s.connUp (if cw then 0 else 2) then [cw] else [])
  | .neighbour k => (0xFF, 1, [decide (k < 2)])
  | .partner =>
    let cw := !s.has F.PAIR_PSTAT_SIDE
    let me := s.ridge.map.find? (fun (n : RingNode) => n.serial == s.sys.serial)
    let other := s.ridge.map.find? (fun (n : RingNode) => n.serial != s.sys.serial && n.role != 2 && !n.excluded && some n.pos == me.map (fun m => m.pos))
    ((other.map (fun n => n.index)).getD 0xFF, 0, if s.connUp (if cw then 0 else 2) then [cw] else [])
  | .position p => match s.nodeOf p with
    | some n => (n.index, 0xFF, if s.connUp 0 || s.connUp 2 then [s.wayTo n] else [])
    | none => (0xFF, 0xFF, [])
  | .summit =>
    let p := (s.ridge.map.find? (fun (n : RingNode) => n.role == 1)).map (fun n => n.pos)
    match p.bind s.nodeOf with
    | some n => (n.index, 0xFF, if s.connUp 0 || s.connUp 2 then [s.wayTo n] else [])
    | none => (0xFF, 0xFF, [])

/-- One copy of a ridge message in one direction. Where the specification lays the payload out it stands in full; of another the header's
TYPE, PRIO_DIR, SRC, DST and REACH, with the link of a message of priority 2 or 3, which keeps to link 0 or 2 while that is up, and −1 for one that
takes whichever link can start it first (R466). -/
def State.ridgeCopy (s : State) (type dst reach : Nat) (cw : Bool) (o : Output) : Output :=
  let prio := (ridgePriority type).getD 3
  let first := if cw then 0 else 2
  let link : Int := if prio < 2 then -1 else if s.linkUp first then first else first + 1
  let prioDir := prio + (if cw then 0 else 4)
  match o with
  | .bytes _ _ data =>
    if laidOut type then .bytes "RIDGE" [link] (ridgeBytes type prioDir (s.get F.RIDGE_NODE_INDEX) dst reach data)
    else .signal "RIDGE" [link, type, prioDir, s.get F.RIDGE_NODE_INDEX, dst, reach]
  | _ => .signal "RIDGE" [link, type, prioDir, s.get F.RIDGE_NODE_INDEX, dst, reach]

/-- A message goes to the ridge ring: `o` says what it is, and a copy leaves in each direction of its route (R466). -/
def State.emitRidge (s : State) (type : Nat) (dest : RidgeTo) (o : Output) : State :=
  let (dst, reach, ways) := s.route dest
  (forEach ways (fun cw s => s.emit (s.ridgeCopy type dst reach cw o)) s).emit o

/-- What a keeper does goes to its partner; so does what an ALONE device does from the start of COPY of a join that it serves (R16, R494). -/
def State.passesOn (s : State) : Bool := s.pairRole == 1 || (s.pairRole == 0 && s.get F.PAIR_PSTAT_JOIN_PHASE != 0)

/-- A SHADOW takes what its keeper passes on, and so does a candidate from the start of COPY (R477, R494). -/
def State.followsPartner (s : State) : Bool := s.pairRole == 2 || (s.pairRole == 3 && s.get F.PAIR_PSTAT_JOIN_PHASE != 0)

/-! ## Errors and events (R577 to R583) -/

/-- The rank of R582. -/
def rankOf (cls : Nat) (fault : Bool) : Nat :=
  if cls ≤ 1 then cls else if cls = 2 then (if fault then 3 else 2) else cls + 1

/-- A number for each subject. -/
def Subject.key (x : Subject) : Nat := x.kind * 256 + x.num

/-- The OPEN word of a subject (R606). -/
def Subject.openAddr (x : Subject) : Nat :=
  wordAddr 0x68 (if x.kind = 0 then 0x20 else if x.kind = 1 then 0x180 + x.num else if x.kind = 2 then 0x100 + x.num else 0x140 + x.num)

/-- The head of a subject is open. -/
def State.headOpen (s : State) (x : Subject) : Bool := (s.reg x.openAddr) != 0

/-- Detail, class and fault mark of a subject's head. -/
def State.headOf (s : State) (x : Subject) : Nat × Nat × Bool :=
  let w := (s.reg x.openAddr).toNat
  (bitsOf w 0 16, bitsOf w 16 3, bitsOf w 19 1 == 1)

/-- The OPEN word of a head (R606). -/
def openWord (detail cls : Nat) (fault : Bool) (followers : Nat) : Word :=
  word (detail + cls * 2 ^ 16 + (if fault then 2 ^ 19 else 0) + satN 255 followers * 2 ^ 24)

/-- The head of a subject closes (R584). -/
def State.closeHead (s : State) (x : Subject) : State := s.setReg x.openAddr 0

/-- A record joins those held for their release, and the head of its subject is updated (R582, R583). Of records raised in one
TIME clock the highest-ranked becomes the head, and the others of that clock follow it. -/
def State.enterRecord (s : State) (r : ErrRec) : State :=
  let k := r.subject.key
  if s.headOpen r.subject then
    let (hd, hc, hf) := s.headOf r.subject
    let fol := bitsOf (s.reg r.subject.openAddr).toNat 24 8
    if rankOf r.cls r.fault ≤ rankOf hc hf then
      let s := s.setReg r.subject.openAddr (openWord hd hc hf (fol + 1))
      { s with err := { s.err with held := s.err.held ++ [{ r with follows := true, prev := hd }] } }
    else
      let sameClk := tabGet 0 s.err.headClk k == r.clk
      let old := s.err.held.find? (fun x => x.subject == r.subject && x.clk == r.clk && x.detail == hd && !x.follows)
      let r' := if sameClk then
          match old with
          | some o => { r with preempts := o.preempts, prev := o.prev }
          | none => { r with preempts := true, prev := hd }
        else { r with preempts := true, prev := hd }
      let same := fun (x : ErrRec) => x.subject == r.subject && x.clk == r.clk
      let n := (s.err.held.filter same).length
      let held := s.err.held.map (fun x => if same x then { x with follows := true, preempts := false, prev := r.detail } else x)
      let s := s.setReg r.subject.openAddr (openWord r.detail r.cls r.fault n)
      { s with err := { s.err with held := held ++ [r'], headClk := tabPut 0 s.err.headClk k r.clk } }
  else if r.cls ≤ 1 then { s with err := { s.err with held := s.err.held ++ [r] } }
  else
    let same := fun (x : ErrRec) => x.subject == r.subject && x.clk == r.clk
    let n := (s.err.held.filter same).length
    let held := s.err.held.map (fun x => if same x then { x with follows := true, prev := r.detail } else x)
    let s := s.setReg r.subject.openAddr (openWord r.detail r.cls r.fault n)
    { s with err := { s.err with held := held ++ [r], headClk := tabPut 0 s.err.headClk k r.clk } }

/-- The ORIGIN byte of a record (R580). -/
def State.originByte (s : State) : Nat := s.position + (if s.has F.PAIR_PSTAT_SIDE then 16 else 0)

/-- A device transition trigger joins those that wait for their apply instant (R29). -/
def State.addDevTrigger (s : State) (t : DevTrigger) : State :=
  { s with sys := { s.sys with triggers := s.sys.triggers ++ [t] } }

/-- A channel transition trigger joins those that wait for their apply instant (R35). -/
def State.addChTrigger (s : State) (c : Nat) (t : ChTrigger) : State :=
  let x := s.sq c
  s.setSq c { x with triggers := x.triggers ++ [t] }

/-- The state of stream `n` (R138). -/
def State.strmState (s : State) (n : Nat) : Nat := s.get (F.STREAM_S_STAT_STATE n)

/-- At least one stream is not FREE and every such stream is DONE or STOPPED (R138). -/
def State.streamsEnded (s : State) : Bool :=
  let st := (List.range 256).map s.strmState
  st.any (· != 0) && st.all (fun x => x == 0 || x == 3 || x == 4)

/-- The epoch at an entry to a device state: READY for the first time since boot sets it from the journal's boot count, every other
transition adds 1 (R118, R119). -/
def State.entryEpoch (s : State) (st : Nat) : State :=
  if st = 1 ∧ !s.sys.readyOnce then
    { s with cmd := { s.cmd with epoch := s.journal.bootCount * 2 ^ 40 % 2 ^ 64 }, sys := { s.sys with readyOnce := true } }
  else s.bump

/-- The device enters a state (R26, R28): STATE, CAUSE and EPOCH_LOW are recorded, with the epoch of the entry; READY closes the device's
head (R577) and releases FAULT_N, HALT pulls it low (R48) and ends the watch on an orderly stop (R518). A device that enters BUILD with
every stream ended passes on to DRAIN (R28, R138). -/
def State.enterDev (s : State) (st cause : Nat) : State :=
  let s := s.entryEpoch st
  let s := ((s.put F.SYS_DEV_STATE_STATE st).put F.SYS_DEV_STATE_CAUSE cause).put F.SYS_DEV_STATE_EPOCH_LOW s.cmd.epoch
  let s := if st = 1 then s.closeHead ⟨0, 0⟩ else s
  let s := if st = 2 ∧ s.streamsEnded then s.addDevTrigger { at_ := s.nextFix, target := 3, cause := 3 } else s
  let s := { s with therm := { s.therm with shutClk := if st = 5 then none else s.therm.shutClk } }
  { s with sys := { s.sys with
      faultLow := if st = 1 then false else if st = 5 then true else s.sys.faultLow
      safeEntry := if st = 4 then s.sys.safeEntry else none } }

/-- An INFO record of a transition displaced (R581). -/
def State.recordDisplaced (s : State) (x : Subject) (displaced entered : Nat) : State :=
  s.enterRecord { cls := 0, subject := x, detail := 0x6805, time := s.ns, clk := s.time.clk, epoch := s.cmd.epoch,
                  unstepped := s.get F.TIME_STATE == 0, origin := s.originByte, args := [displaced, entered] }

/-- HALT at once (R29): a decided transition to another state that is not yet in effect is displaced by it (R581). In HALT already,
only the record of R581 remains, which the caller raises. -/
def State.haltNow (s : State) : State :=
  if s.dev = 5 then s else
  let lost := s.sys.next.filter (fun e => e.2.1 != 5)
  let s := { s with sys := { s.sys with next := [] } }
  forEach lost (fun e s => s.recordDisplaced ⟨0, 0⟩ e.2.1 5) (s.enterDev 5 0xA)

/-- An error or event is raised: its record is made, and its automatic action applied (R577, R578): DEVICE asks for SAFE_STOP
with CAUSE 0x8, FATAL halts with CAUSE 0xA, and the fault mark takes a scan channel to FAULT (R34). -/
def State.raise (s : State) (cls : Nat) (fault : Bool) (x : Subject) (detail : Nat) (args : List Int := []) : State :=
  let s := s.enterRecord { cls := cls, fault := fault, subject := x, detail := detail, time := s.ns, clk := s.time.clk,
                           epoch := s.cmd.epoch, unstepped := s.get F.TIME_STATE == 0, origin := s.originByte, args := args }
  if cls = 5 then (if s.dev = 5 then s.recordDisplaced ⟨0, 0⟩ 5 5 else s.haltNow)
  else if cls = 4 then
    (if s.dev = 5 then s.recordDisplaced ⟨0, 0⟩ 4 5
     else if s.dev = 1 ∨ s.dev = 2 ∨ s.dev = 3 then s.addDevTrigger { at_ := s.nextFix, target := 4, cause := 8 } else s)
  else if cls = 2 ∧ fault ∧ x.kind = 2 then
    s.addChTrigger x.num { at_ := s.nextFix, target := 6, cause := detail }
  else s

/-- An INFO event. -/
def State.info (s : State) (x : Subject) (detail : Nat) (args : List Int := []) : State := s.raise 0 false x detail args

/-- A WARN event. -/
def State.warn (s : State) (x : Subject) (detail : Nat) (args : List Int := []) : State := s.raise 1 false x detail args

/-- A UNIT-class error of unit `u`. -/
def State.unitErr (s : State) (u detail : Nat) (args : List Int := []) : State := s.raise 3 false ⟨1, u⟩ detail args

/-- A DEVICE-class error. -/
def State.devErr (s : State) (detail : Nat) (args : List Int := []) : State := s.raise 4 false ⟨0, 0⟩ detail args

/-! ## Replies (R80 to R91) -/

/-- Reply flags as they stand now (R85), bits [31:24] of word 1. -/
def State.flags (s : State) : Byte :=
  BitVec.ofNat 8 ((if s.get F.TIME_STATE = 0 then 1 else 0)
    + (if s.get F.TIME_STATE = 2 ∨ s.time.summitState = 2 then 2 else 0)
    + (if s.has F.PAIR_PSTAT_DIVERGED then 4 else 0)
    + (if s.sys.firmware then 0 else 8))

/-- The words of a reply (R80). -/
def Reply.words (r : Reply) : List Word :=
  [word (r.opcode.toNat + r.tag.toNat * 2 ^ 8 + r.results.length * 2 ^ 16),
   word (r.status.toNat + r.detail.toNat * 2 ^ 8 + r.flags.toNat * 2 ^ 24)] ++ lowHigh r.epoch ++ lowHigh r.time ++ r.results

/-- Words of a ring of 2^n bytes (R89). -/
def ringWords (n : Nat) : Nat := 2 ^ n / 4

/-- Free words of the reply ring: one word is always left free (R90). -/
def State.ringSpace (s : State) : Nat :=
  let n := ringWords (s.get F.HOSTIF_RRING_SIZE)
  (s.get F.HOSTIF_RRING_CONS + n - s.get F.HOSTIF_RRING_PROD - 1) % n

/-- A reply interrupt, held back by moderation (R89). -/
def State.replyIrq (s : State) : State :=
  let m := s.get F.HOSTIF_RING_CTRL_MOD_US
  let ready := match s.host.lastIrq with
    | none => true
    | some c => decide (c + m * 250 ≤ s.time.clk)
  if m == 0 || ready then
    { s.emit (.interrupt (s.get F.HOSTIF_RING_CTRL_VECTOR)) with host := { s.host with lastIrq := some s.time.clk, irqPending := false } }
  else { s with host := { s.host with irqPending := true } }

/-- A reply written to the reply ring: the producer index moves and an interrupt is raised (R89). -/
def State.ringWrite (s : State) (r : Reply) : State :=
  let n := ringWords (s.get F.HOSTIF_RRING_SIZE)
  let s := { s with host := { s.host with written := some r } }
  ((s.emit (.reply r)).put F.HOSTIF_RRING_PROD ((s.get F.HOSTIF_RRING_PROD + r.words.length) % n)).replyIrq

/-- Whether the reply ring takes a reply now: it runs, no write has failed, and it has room (R90, R91, R593). -/
def State.ringTakes (s : State) (r : Reply) : Bool :=
  s.has F.HOSTIF_RING_CTRL_ENABLE && !s.has F.HOSTIF_RING_STAT_WRITE_ERR && decide (r.words.length ≤ s.ringSpace)

/-- A reply kept with the datagram that carried its packet (R96). -/
def keepReply (sources : List Source) (q : Origin) (r : Reply) : List Source :=
  sources.map (fun (x : Source) =>
    if x.port == (r.path == Path.eth1) && x.ip == q.ip && x.udp == q.udp then
      { x with kept := x.kept.map (fun (k : Kept) => if k.seq == q.seq then { k with replies := k.replies ++ [r] } else k) }
    else x)

/-- The state with a reply kept for retransmission, where its packet came in a datagram (R96). -/
def State.keep (s : State) (o : Option Origin) (r : Reply) : State :=
  match o with
  | some q => { s with host := { s.host with sources := keepReply s.host.sources q r } }
  | none => s

/-- The datagram of one reply: the 12-byte header of R94, then the reply's words. -/
def replyDatagram (seq : Word) (r : Reply) : List Byte :=
  leBytes 2 0x444C ++ leBytes 1 1 ++ leBytes 1 1 ++ leBytes 4 seq.toNat ++ leBytes 2 1 ++ leBytes 2 0 ++ bytesOfWords r.words

/-- A reply handed to a MAC; it goes to the source of the datagram that it answers (R93, R94). -/
def State.sendEth (s : State) (r : Reply) (o : Option Origin) : State :=
  let s := s.emit (.reply r)
  match o with
  | some q =>
    s.emit (.bytes "DATAGRAM" [if r.path = .eth1 then 1 else 0, q.mac.toNat, q.ip.toNat, q.udp.toNat] (replyDatagram q.seq r))
  | none => s

/-- A reply goes to its path: PCIe replies wait in the device while the ring lacks room (R91); on an Ethernet port the reply is sent
and kept with its datagram (R96). -/
def State.send (s : State) (r : Reply) (o : Option Origin) : State :=
  match r.path with
  | .pcie =>
    if s.host.held.isEmpty && s.ringTakes r then s.ringWrite r
    else
      let h := s.host.held ++ [r]
      { s with host := { s.host with held := h } }.put F.HOSTIF_RING_STAT_HELD h.length
  | _ => (s.keep o r).sendEth r o

/-- A reply made now; FLAGS and epoch are those of its timestamp (R85, R119). -/
def State.mkReply (s : State) (p : InFlight) (status : Byte) (detail : Nat) (res : List Word) (t : Nat) : Reply :=
  { path := p.path, opcode := p.opcode, tag := p.tag, status := status, detail := BitVec.ofNat 16 detail, flags := p.flagsAt.getD s.flags,
    epoch := p.epochAt.getD s.cmd.epoch, time := t, results := res }

/-- The loss log of a path: UNREPLIED, DISCARDED and VALID (R131). -/
def lossFlds : Path → Fld × Fld × Fld
  | .eth0 => (F.NET_LOSS_LOG0_UNREPLIED, F.NET_LOSS_LOG0_DISCARDED, F.NET_LOSS_LOG0_VALID)
  | .eth1 => (F.NET_LOSS_LOG1_UNREPLIED, F.NET_LOSS_LOG1_DISCARDED, F.NET_LOSS_LOG1_VALID)
  | _ => (F.HOSTIF_LOSS_LOG_UNREPLIED, F.HOSTIF_LOSS_LOG_DISCARDED, F.HOSTIF_LOSS_LOG_VALID)

/-- A packet leaves the list of packets in flight: its tag is free (R86). -/
def State.retire (s : State) (p : InFlight) : State :=
  { s with cmd := { s.cmd with inflight := s.cmd.inflight.filter (fun x => x.order != p.order) } }

/-- The reply to a packet of the ridge path goes back to the summit with the tag that host software chose (R127); the summit's own part of a
FORWARD is gathered at once. A device in SHADOW or CANDIDATE role and a referee run a broadcast and leave the reply to the position's ALONE or
KEEPER device (R128). -/
def State.answerRidge (s : State) (p : InFlight) (r : Reply) : State :=
  let r := { r with tag := p.hostTag }
  if 2 ≤ s.pairRole ∨ s.cascadeRole = 2 then s
  else if s.cascadeRole = 1 ∧ s.pairRole ≤ 1 then
    let e : Nat × Nat × List Word := (s.position, r.status.toNat + r.detail.toNat * 2 ^ 8 + 2 ^ 24, r.words)
    { s with cmd := { s.cmd with gathered := tabPut [] s.cmd.gathered p.summitId (tabGet [] s.cmd.gathered p.summitId ++ [e]) } }
  else s.emitRidge 0x21 .summit (.bytes "FORWARD_REPLY" [p.summitId, s.position] (bytesOfWords r.words))

/-- A packet is answered: its tag becomes free and its reply goes out. The reply of a packet whose path was lost is discarded and
counted, and kept for retransmission on an Ethernet port (R130). -/
def State.answerAt (s : State) (p : InFlight) (status : Byte) (detail : Nat) (res : List Word) (t : Nat) : State :=
  let r := s.mkReply p status detail res t
  let s := s.retire p
  if p.path = .ridge then s.answerRidge p r
  else if p.orphan then
    (s.count (lossFlds p.path).1).keep p.origin r
  else s.send r p.origin

/-- A packet answered with the present device time (R81). -/
def State.answer (s : State) (p : InFlight) (status : Byte) (detail : Nat) (res : List Word) : State :=
  s.answerAt p status detail res s.ns

/-- The first frame boundary after a packet's acceptance, in µs (R614). -/
def InFlight.boundary (p : InFlight) : Nat := p.acceptNs / 1000 + 1

/-- Outcome of running a packet: answered now, or waiting for a later row. -/
inductive Verdict where
  | done (res : List Word)
  | stopped (detail : Nat) (res : List Word)
  | bad (status : Byte) (detail : Nat)
  | later (w : Wait)
deriving DecidableEq, Repr

/-- REFUSED (R82). -/
def refused (detail : Nat) : Verdict := .bad 0x10 detail

/-- MALFORMED (R82). -/
def malformed (detail : Nat) : Verdict := .bad 0x20 detail

/-- BAD_OPCODE (R82). -/
def badOpcode (detail : Nat) : Verdict := .bad 0x21 detail

/-- BAD_ADDRESS (R82). -/
def badAddress (detail : Nat) : Verdict := .bad 0x22 detail

/-- The outputs of the last command are gone when the next one begins. -/
def State.begin (s : State) : State := { s with out := [] }

end Sys2Proof.Machine
end

