-- ==== Sys2Proof/Machine/Operands.lean ====
section
/-!
DEFINITION. Sys2Proof/Machine/Operands.lean: the operand forms of packets: header words (R79), parameter ranges and their checks
(R102, R103), the SET_PARAM body (R105), field ranges (R109), the write of one word by its access codes
(R7), and SNAPSHOT entries (R116).
-/
namespace Sys2Proof.Machine

/-- The word at an index of a body; 0 beyond its end. -/
def bodyWord (b : List Word) (i : Nat) : Nat := (b.getD i 0).toNat

/-- Words of a defined map that the tables call reserved: they are defined and read 0 (R103). -/
def reservedWord (a : Nat) : Bool :=
  let (u, c, w) := splitAddr a
  if u = 0x18 then w == 0x3A
  else if u = 0x20 then decide (0x40 ≤ w) && decide (w < 0x100)
  else if u = 0x28 then decide (0x80 ≤ w) && decide (w < 0xA0)
  else if u = 0x30 then decide (5 ≤ c) && decide (0x100 ≤ w)
  else if u = 0x38 then decide (w < 0x800)
  else if u = 0x51 then decide (0x100 ≤ w) && decide (w < 0x100 + 8 * 84)
  else if u = 0x58 then decide (0x100 ≤ w) && decide (w < 0x180)
  else false

/-- Whether an address names a defined word (R103). -/
def definedWord (a : Nat) : Bool := (findWord a).isSome || reservedWord a

/-- Detail U|low for the unit of an address (R83). -/
def unitDetail (a low : Nat) : Nat := a / 65536 % 256 * 256 + low

/-- The checks of R102 and R103 on a range of `n` words from `a`; none where it passes. -/
def rangeError (a n : Nat) : Option Verdict :=
  if 2 ^ 24 ≤ a then some (badAddress 0x0206)
  else if !unitNumbers.contains (a / 65536) then some (badAddress 0x0208)
  else
    let block := if perChannelUnits.contains (a / 65536) then 1024 else 65536
    if block < a % block + n then some (badAddress 0x0207)
    else if (List.range n).any (fun i => !definedWord (a + i)) then some (badAddress (unitDetail a 0xF3))
    else none

/-- The word writes that a SET_PARAM body spells (R105), or none where LENGTH is wrong for it (0x0202). -/
def setWrites (target : Nat) (body : List Word) : Option (List StagedWrite) :=
  let ctl := bodyWord body 0
  let vals := body.drop 1
  if ctl / 2 % 2 = 0 then
    if vals.isEmpty then none
    else some (vals.zipIdx.map (fun (v, i) => ⟨target + i, BitVec.allOnes 32, v⟩))
  else if vals.length % 2 = 1 ∨ vals.isEmpty then none
  else some ((List.range (vals.length / 2)).map (fun i => ⟨target + i, vals.getD (2 * i) 0, vals.getD (2 * i + 1) 0⟩))

/-- Whether a field takes writes that must lie in its range. -/
def RegField.writable (f : RegField) : Bool := f.acc == .rw || f.acc == .wo

/-- Rules that lie within one word beside the ranges of single fields: OSC.COUNT 0 or 3 to 255, FALLBACK not 3, UMIN below UMAX (R301, R313),
TMIN below TMAX and EM_LO not above EM_HI (R354), NX × NY (R330), LEE_DIR (R387), the serial phase below its period (R460), CKPT_MS 0
or 10 to 60,000 (R606), the width of a TRIG pulse (R225), the machine axis of a probe (R315), TSHUT and TCRIT (R528), the engines kept for streams and telemetry (R191). -/
def specialRange (a v : Nat) : Bool :=
  let (u, c, w) := splitAddr a
  let lo := signedOf 16 (bitsOf v 0 16)
  let hi := signedOf 16 (bitsOf v 16 16)
  if u = 0x08 then !(decide (0x100 ≤ w) && decide (w < 0x1C0) && w % 8 == 5) || decide (8 ≤ bitsOf v 0 24)
  else if u = 0x20 then
    (if w = 0 then bitsOf v 4 2 != 3
     else if w = 1 then let n := bitsOf v 16 8; n == 0 || decide (3 ≤ n)
     else if 0x40 ≤ w ∧ (w - 0x40) % 0x20 = 7 then decide (lo < hi)
     else true)
  else if u = 0x21 then !(decide (0x10 ≤ w) && decide (w < 0x20) && decide (0x30 ≤ bitsOf v 0 8) && decide (bitsOf v 0 8 ≤ 0x34))
    || decide (bitsOf v 8 6 < 16)
  else if u = 0x28 then
    (if w = 5 then decide (bitsOf v 0 16 ≤ bitsOf v 16 16)
     else if w = 0x85 ∨ w = 0x95 then decide (lo < hi)
     else true)
  else if u = 0x29 then w != 2 || decide (bitsOf v 0 16 * bitsOf v 16 16 ≤ 2 ^ 28)
  else if u = 0x30 then c != 0 || w != 0x102 || decide ((lo * lo + hi * hi - 2 ^ 28).natAbs ≤ 2 ^ 16)
  else if u = 0x39 then w % 0x20 != 6 || decide (bitsOf v 16 16 < bitsOf v 0 16)
  else if u = 0x11 then w != 0 || decide (bitsOf v 0 3 + bitsOf v 4 2 ≤ 6)
  else if u = 0x68 then
    (if w = 0x18 then let n := bitsOf v 0 16; n == 0 || (decide (10 ≤ n) && decide (n ≤ 60000)) else true)
  else if u = 0x50 then w != 3 || (decide (1360 ≤ lo) && decide (lo ≤ 1680) && decide (lo < hi) && decide (hi ≤ 1952))
  else true

/-- Whether a value for a whole word keeps every writable field of `r` that `mask` touches within its range (R109). -/
def fieldsInRange (r : RegWord) (a mask v : Nat) : Bool :=
  r.fields.all (fun f =>
    !(f.writable && bitsOf mask f.lo f.width != 0) ||
      match f.range with
      | none => true
      | some (lo, hi) =>
        let x : Int := if lo < 0 then signedOf f.width (bitsOf v f.lo f.width) else (bitsOf v f.lo f.width : Nat)
        decide (lo ≤ x) && decide (x ≤ hi)) && specialRange a v

/-- The bits of `mask` taken from `v`, the others from `old` (R105). -/
def mergeBits (old mask v : Word) : Word := (old &&& ~~~mask) ||| (v &&& mask)

/-- One field of a word after a write of `v` under `mask`, by its access code (R7). `fresh` holds the bits that the device set in the TIME
clock of the write: W1C bits among them remain set (R8). -/
def writeField (old mask v fresh : Word) (acc : Nat) (f : RegField) : Nat :=
  match f.acc with
  | .rw => withBits acc f.lo f.width (bitsOf (mergeBits old mask v).toNat f.lo f.width)
  | .w1c => withBits acc f.lo f.width (bitsOf (old &&& ~~~(mask &&& v &&& ~~~fresh)).toNat f.lo f.width)
  | _ => acc

/-- A stored word after a write of `v` under `mask`: RW fields take their bits, W1C bits written 1 clear unless they are fresh, RO, RC,
WO and CMD fields of the stored word are unchanged (R7, R8). -/
def writtenWord (r : RegWord) (old mask v fresh : Word) : Word := word (r.fields.foldl (writeField old mask v fresh) old.toNat)

/-- The state with one word written (R7). An address without a table entry is a reserved word, on which a write has no effect. -/
def State.writeWord (s : State) (w : StagedWrite) : State :=
  match findWord w.addr with
  | some r => s.setReg w.addr (writtenWord r (s.reg w.addr) w.mask w.value (s.marked w.addr))
  | none => s

/-- The mask of a word's fields with a given access code. -/
def accessMask (r : RegWord) (acc : Access) : Nat :=
  r.fields.foldl (fun m f => if f.acc = acc then withBits m f.lo f.width (2 ^ f.width - 1) else m) 0

/-- A CMD or WO field of word `a` written with a value: its bits under the mask, where any bit of the field is masked. -/
def writtenField (w : StagedWrite) (f : Fld) : Option Nat :=
  if w.addr = f.addr ∧ bitsOf w.mask.toNat f.lo f.width ≠ 0 then some (bitsOf (w.value &&& w.mask).toNat f.lo f.width) else none

/-- A list of writes with each word once: where a word is written more than once, later bits take the place of earlier ones (R108). (DEDUCED, log entry 70.) -/
def mergeWrites (ws : List StagedWrite) : List StagedWrite :=
  ws.foldl (fun acc w =>
    match acc.find? (fun x => x.addr == w.addr) with
    | none => acc ++ [w]
    | some x => acc.map (fun y => if y.addr = w.addr then { addr := w.addr, mask := x.mask ||| w.mask, value := mergeBits x.value w.mask w.value } else y)) []

/-- Whether a write starts the action of a CMD field (R7). -/
def starts (w : StagedWrite) (f : Fld) : Bool := writtenField w f == some 1

/-- The cascade words of R15 and R474: every COL word that is written at all, and TIME words 0x0040 to 0x0043; CFG of PAIR (R474). -/
def cascadeWord (a : Nat) : Bool :=
  let (u, _, w) := splitAddr a
  u == 0x30 || (u == 0x08 && decide (0x40 ≤ w) && decide (w ≤ 0x43)) || (u == 0x49 && w == 0x10)

/-- A word belongs to the BASE image (R597). -/
def savedWord (a : Nat) : Bool := a / 65536 != 0x60 && !(a / 65536 == 0x01 && decide (a % 65536 ≤ 0xA))

/-- The mask of the RW fields of a word. -/
def rwMask (a : Nat) : Nat := match findWord a with
  | some r => accessMask r .rw
  | none => 0

/-- Every RW field of the BASE image back at its reset value; cascade words only where asked (R597, R602). -/
def State.resetSaved (s : State) (cascade : Bool) : State :=
  forEach (s.regs.filter (fun e => savedWord e.1 && (cascade || !cascadeWord e.1)))
    (fun e s => s.setReg e.1 (mergeBits e.2 (word (rwMask e.1)) (resetWord e.1))) s

/-- The words with a batch applied, in the order staged (R108). The commit of a JOURNAL_RESTORE names only the words of its image that
differ from their reset values. -/
def State.applyWords (s : State) (b : Scheduled) : State :=
  let s := match b.whole with
    | some cascade => s.resetSaved cascade
    | none => s
  forEach b.writes (fun w s => s.writeWord w) s

/-- One SNAPSHOT entry: first address, words per channel, channels (R116). -/
structure SnapEntry where
  addr : Nat
  count : Nat
  chans : Nat
deriving DecidableEq, Repr

/-- The entries of a SNAPSHOT body from word `i` on. (DEDUCED, log entry 34.) -/
def snapEntries (b : List Word) (i n : Nat) : List SnapEntry :=
  (List.range n).map (fun j =>
    let w := bodyWord b (i + 2 * j + 1)
    ⟨bodyWord b (i + 2 * j), bitsOf w 0 11, bitsOf w 16 7⟩)

/-- The addresses that an entry reads, in channel order (R116). -/
def SnapEntry.addrs (e : SnapEntry) : List Nat :=
  (List.range e.chans).flatMap (fun c => (List.range e.count).map (fun i => e.addr + c * 1024 + i))

/-- The checks of R103 and R116 on one entry; none where it passes. (DEDUCED, log entry 44.) -/
def SnapEntry.error (e : SnapEntry) : Option Verdict :=
  if e.count = 0 ∨ 1024 < e.count ∨ e.chans = 0 ∨ 64 < e.chans then some (malformed 0x02F6)
  else match rangeError e.addr e.count with
    | some v => some v
    | none =>
      if perChannelUnits.contains (e.addr / 65536) then
        (if 64 < e.addr % 65536 / 1024 + e.chans then some (malformed 0x0204)
         else (List.range e.chans).findSome? (fun c => rangeError (e.addr + c * 1024) e.count))
      else if e.chans ≠ 1 then some (malformed 0x02F6) else none

/-- Most result words of a reply, less for the inner packet of a FORWARD (R80, R126). -/
def resultLimit (p : Path) : Nat := if p = .ridge then 4084 else 4090

end Sys2Proof.Machine
end

