-- ==== Sys2Proof/Machine/Motion.lean ====
section
/-!
DEFINITION. Sys2Proof/Machine/Motion.lean: motion profiles (spec/07 R249 to R251), interpolation (R253), the saddle test (R255), power
along the path (R258 to R260) and the field transform (R272 to R274). Lengths are in 2^-16 nm, speeds in
2^-32 nm/µs, accelerations in 2^-32 nm/µs², times in ns.
-/
namespace Sys2Proof.Machine

/-! ## Roots -/

/-- Bitwise integer square root: tries the bits of the root from `b - 1` down. -/
def isqrtFrom : Nat → Nat → Nat → Nat
  | 0, _, r => r
  | b + 1, n, r => if (r + 2 ^ b) * (r + 2 ^ b) ≤ n then isqrtFrom b n (r + 2 ^ b) else isqrtFrom b n r

/-- The largest integer whose square is at most `n`. -/
def isqrt (n : Nat) : Nat := isqrtFrom (Nat.log2 n / 2 + 1) n 0

/-- The smallest integer whose square is at least `n`. -/
def ceilSqrt (n : Nat) : Nat := let r := isqrt n; if r * r = n then r else r + 1

/-- The square root of `n` to the nearest integer (no half can occur). -/
def roundSqrt (n : Nat) : Nat := let r := isqrt n; if r * r + r < n then r + 1 else r

/-- The square root of `p / q` rounded half to even; 0 where `q` is 0. -/
def roundSqrtQ (p q : Nat) : Nat :=
  if q = 0 then 0 else
  let r := isqrt (p / q)
  let m := (2 * r + 1) * (2 * r + 1) * q
  if 4 * p < m then r else if m < 4 * p then r + 1 else if r % 2 = 0 then r else r + 1

/-- Quotient rounded up; 0 where the divisor is 0. -/
def ceilDiv (a b : Nat) : Nat := if b = 0 then 0 else (a + b - 1) / b

/-! ## Planning (R249, R250) -/

/-- The length of a displacement in 2^-16 nm, rounded half to even (R249). -/
def pathLength (dx dy dz : Int) : Nat :=
  roundSqrt ((dx * dx + dy * dy + dz * dz).toNat * 2 ^ 32)

/-- The words of R280 from which limits are set. -/
structure Limits where
  vmax : Nat
  amax : Nat
  jumpSpeed : Nat
  jumpAmax : Nat
  zvmax : Nat
  zamax : Nat
deriving DecidableEq, Repr

/-- The limit words of channel `c` (R280). -/
def State.limits (s : State) (c : Nat) : Limits :=
  ⟨s.get (F.SEQ_VMAX c), s.get (F.SEQ_AMAX c), s.get (F.SEQ_JUMP_SPEED c), s.get (F.SEQ_JUMP_AMAX c),
    s.get (F.SEQ_ZVMAX c), s.get (F.SEQ_ZAMAX c)⟩

/-- V and A of a motion record of type 1 (MARK) or 2 (JUMP) with length `len` and focus displacement `dz` (R250). -/
def recordLimits (w : Limits) (type speed len : Nat) (dz : Int) : Nat × Nat :=
  let sp := if type = 2 ∧ speed = 0 then w.jumpSpeed else speed
  let v := (if sp ≤ w.vmax then sp else w.vmax) * 2 ^ 32 / 1000
  let a := (if type = 1 then w.amax else w.jumpAmax) * 2 ^ 24
  let z := dz.natAbs
  if z = 0 then (v, a)
  else
    let vz := w.zvmax * 2 ^ 16 * len / (1000 * z)
    let az := w.zamax * 2 ^ 8 * len / z
    (if vz < v then vz else v, if az < a then az else a)

/-- The procedure PLAN of R249: n_a and n_c in µs, and V' and A' as R251 rounds them. -/
def planProfile (len v a : Nat) : Nat × Nat × Nat × Nat :=
  if len = 0 then (0, 0, 0, 0)
  else
    let l32 := len * 2 ^ 16
    let na0 := ceilDiv v a
    let (na, nc) :=
      if v * na0 ≤ l32 then (na0, ceilDiv l32 v - na0)
      else
        let x := ceilSqrt (ceilDiv l32 a)
        let y := ceilDiv l32 v
        (if x < y then y else x, 0)
    (na, nc, (roundHalfEven l32 (na + nc)).toNat, (roundHalfEven l32 ((na + nc) * na)).toNat)

/-- The path distance at profile clock `tau` ns, in 2^-16 nm (R251). -/
def pathDistance (p : Plan) (tau : Int) : Nat :=
  if tau ≤ 0 then 0
  else
    let t := tau.toNat
    if p.dur ≤ t then p.len
    else if t < p.na * 1000 then (roundHalfEven (p.a * t * t : Nat) (131072 * 1000000)).toNat
    else if t < (p.na + p.nc) * 1000 then
      (roundHalfEven (p.a * p.na * p.na * 1000 + 2 * p.v * (t - p.na * 1000) : Nat) (2000 * 65536)).toNat
    else
      (roundHalfEven ((p.len * (131072 * 1000000) : Nat) - (p.a * (p.dur - t) * (p.dur - t) : Nat) : Int) (131072 * 1000000)).toNat

/-- The path speed at profile clock `tau` ns, in 2^-32 / 1000 nm/µs (R251). -/
def pathSpeed (p : Plan) (tau : Int) : Nat :=
  if tau ≤ 0 then 0
  else
    let t := tau.toNat
    if p.dur ≤ t then 0
    else if t < p.na * 1000 then p.a * t
    else if t < (p.na + p.nc) * 1000 then p.v * 1000
    else p.a * (p.dur - t)

/-! ## Interpolation (R253) -/

/-- The contributions of a motion record at profile clock `tau` to X, Y and Z (R253). -/
def contribution (p : Plan) (tau : Int) : Int × Int × Int :=
  if (p.dur : Int) ≤ tau then (p.dx, p.dy, p.dz)
  else
    let n := pathDistance p tau
    let ax := p.dx.natAbs
    let ay := p.dy.natAbs
    let az := p.dz.natAbs
    let along := fun (d : Int) => d.sign * roundHalfEven (d.natAbs * n : Nat) p.len
    let other := fun (d c j : Int) => roundHalfEven (d * c * j.sign) j.natAbs
    if ay ≤ ax ∧ az ≤ ax then
      let c := along p.dx
      (c, other p.dy c p.dx, other p.dz c p.dx)
    else if az ≤ ay then
      let c := along p.dy
      (other p.dx c p.dy, c, other p.dz c p.dy)
    else
      let c := along p.dz
      (other p.dx c p.dz, other p.dy c p.dz, c)

/-- The dot product of two records' displacements. -/
def dotProduct (p q : Plan) : Int := p.dx * q.dx + p.dy * q.dy + p.dz * q.dz

/-- The depth of a saddle with overlap `o` ns is at most `tol` nm (R255), in exact integers. -/
def saddleHolds (p q : Plan) (o tol : Nat) : Bool :=
  let ll : Int := (p.len * q.len : Nat)
  let x := ((p.a * p.a + q.a * q.a : Nat) : Int) * ll - 2 * (p.a * q.a : Nat) * dotProduct p q * 2 ^ 32
  decide (((o * o * o * o : Nat) : Int) * x ≤ ((8000000 * tol * 2 ^ 32) ^ 2 : Nat) * ll)

/-! ## Power (R258 to R260) -/

/-- A power scaled by the tracking factor of R259 for path speed `num / den` of the record's cruise speed, squared. -/
def trackedPower (power floor num den : Nat) : Nat :=
  let x := roundSqrtQ (power * power * num) den
  let fl := if floor = 0xFFFF then power else (roundHalfEven (power * floor : Nat) 65536).toNat
  let x := if x < fl then fl else x
  if power < x then power else x

/-- The scheduled power of record `r` at profile clock `tau`; `speed2` is the squared combined path speed in an overlap, as a fraction
in the units of `pathSpeed` (R258, R259). -/
def recordPower (r : Seg) (p : Plan) (tau : Int) (speed2 : Option (Nat × Nat)) : Nat :=
  match r.type with
  | 1 =>
    if r.flags % 2 = 0 then r.p0
    else
      let (n, d) := match speed2 with
        | some x => x
        | none => (pathSpeed p tau * pathSpeed p tau, 1)
      trackedPower r.p0 p.floor n (d * (p.v * 1000) * (p.v * 1000))
  | 3 => r.p0
  | 4 => (roundHalfEven ((r.p0 : Int) * r.duration + ((r.p1 : Int) - r.p0) * tau) r.duration).toNat
  | _ => 0

/-- The squared magnitude of the sum of two velocity vectors, as a fraction in the units of `pathSpeed` (R256). -/
def combinedSpeed (p q : Plan) (tp tq : Int) : Nat × Nat :=
  let a := pathSpeed p tp
  let b := pathSpeed q tq
  let ll := p.len * q.len
  ((((a * a + b * b) * ll : Nat) + 2 * (a * b : Nat) * dotProduct p q * 2 ^ 32 : Int).toNat, ll)

/-! ## The field transform (R272 to R274) -/

/-- A value in a signed 32-bit field; outside it, a value that the specification leaves open. -/
def fit32 (x : Int) : Int :=
  if -(2 ^ 31 : Int) ≤ x ∧ x < 2 ^ 31 then x else (Config.outside32 x).toInt

/-- The affine stage (R272). -/
def State.affine (s : State) (c : Nat) (p : Int × Int × Int) : Int × Int × Int :=
  let (x, y, z) := p
  (roundHalfEven (s.getI (F.SEQ_A11 c) * x + s.getI (F.SEQ_A12 c) * y) (2 ^ 30) + s.getI (F.SEQ_TX c),
   roundHalfEven (s.getI (F.SEQ_A21 c) * x + s.getI (F.SEQ_A22 c) * y) (2 ^ 30) + s.getI (F.SEQ_TY c),
   z + s.getI (F.SEQ_TZ c))

/-- A bed point lies inside the field (R274). -/
def State.inField (s : State) (c : Nat) (p : Int × Int × Int) : Bool :=
  let (xf, yf, _) := s.affine c p
  let lim : Int := 32 * s.get (F.SEQ_PITCH c)
  decide (xf.natAbs ≤ lim) && decide (yf.natAbs ≤ lim)

/-- A grid node of the active buffer (R273, R275). -/
def State.gridNode (s : State) (c i j : Nat) : Int × Int × Int :=
  tabGet (0, 0, 0) (if s.get (F.SEQ_XFORM_CTRL_TABLE c) = 0 then (s.sq c).grid0 else (s.sq c).grid1) (65 * j + i)

/-- Cell and fraction of a field coordinate: i and fx in 2^-16 (R273). -/
def gridCell (pitch : Nat) (v : Int) : Nat × Int :=
  let u := v + 32 * pitch
  let i := (clampI 0 63 (u / pitch)).toNat
  (i, (u - i * pitch) * 65536 / pitch)

/-- Bilinear interpolation with one final rounding (R273). -/
def bilinear (fx fy a b c d : Int) : Int :=
  roundHalfEven ((65536 - fx) * (65536 - fy) * a + fx * (65536 - fy) * b + (65536 - fx) * fy * c + fx * fy * d) (2 ^ 32)

/-- The setpoints of a bed point in encoder counts (R272, R273). -/
def State.setpoints (s : State) (c : Nat) (p : Int × Int × Int) : Int × Int × Int :=
  let (xf, yf, zf) := s.affine c p
  let pitch := s.get (F.SEQ_PITCH c)
  let (i, fx) := gridCell pitch xf
  let (j, fy) := gridCell pitch yf
  let a := s.gridNode c i j
  let b := s.gridNode c (i + 1) j
  let d := s.gridNode c i (j + 1)
  let e := s.gridNode c (i + 1) (j + 1)
  (fit32 (bilinear fx fy a.1 b.1 d.1 e.1), fit32 (bilinear fx fy a.2.1 b.2.1 d.2.1 e.2.1),
   fit32 (bilinear fx fy a.2.2 b.2.2 d.2.2 e.2.2 + roundHalfEven (s.getI (F.SEQ_ZGAIN c) * zf) 65536))

end Sys2Proof.Machine
end

