-- ==== Sys2Proof/Machine/Flags.lean ====
section
/-!
DEFINITION. Sys2Proof/Machine/Flags.lean: the status bits that are computed from the state: standing causes (R613), the live straps
(R64) and the conditions on which requests and protective transitions depend (R28, R34).
-/
namespace Sys2Proof.Machine

/-- SYS.STANDING: the causes that stand now, bit by bit (R613). -/
def State.standing (s : State) : Nat :=
  (if s.sys.estop then 1 else 0)
  + (if s.sys.pwrfail then 2 else 0)
  + (if (s.has F.THERM_TSTAT_SHUT_REQ || s.sys.tcritHalt) && !s.has F.THERM_TSTAT_CAUSE_CLEAR then 4 else 0)
  + (if s.sys.thermtripLow then 8 else 0)
  + (if s.has F.HUSK_STAT_STOP then 16 else 0)
  + (if s.get F.THERM_TSTAT_VALID < 4 then 32 else 0)
  + (if s.sys.pll then 0 else 64)

/-- The time base is locked or in holdover (R198). -/
def State.timeReady (s : State) : Bool := s.get F.TIME_STATE != 0

/-- Whether R28 holds a transition from state `from_` for a trigger with CAUSE code `cause`. -/
def devTransition (from_ cause : Nat) : Option Nat :=
  match cause with
  | 0x1 => if from_ = 0 then some 1 else none
  | 0x2 => if from_ = 1 then some 2 else none
  | 0x3 => if from_ = 2 then some 3 else none
  | 0x4 => if from_ = 3 then some 1 else none
  | 0x5 => if from_ = 1 ∨ from_ = 2 ∨ from_ = 3 then some 4 else none
  | 0x6 => if from_ = 2 ∨ from_ = 3 then some 4 else none
  | 0x7 => if from_ = 1 ∨ from_ = 2 ∨ from_ = 3 then some 4 else none
  | 0x8 => if from_ = 1 ∨ from_ = 2 ∨ from_ = 3 then some 4 else none
  | 0x9 => if from_ = 4 then some 5 else none
  | 0xA => if from_ = 5 then none else some 5
  | 0xB => if from_ = 5 then some 1 else none
  | _ => none

/-- How restrictive a device state is as a target: HALT, SAFE_STOP, DRAIN, READY, BUILD (R29). -/
def devOrder (st : Nat) : Nat := match st with
  | 5 => 5 | 4 => 4 | 3 => 3 | 1 => 2 | 2 => 1 | _ => 0

/-- How protective a channel state is as a target: OFFLINE, FAULT, SAFE, HOLD, IDLE, ARMED, RUNNING (R35). -/
def chOrder (st : Nat) : Nat := match st with
  | 0 => 7 | 6 => 6 | 5 => 5 | 4 => 4 | 1 => 3 | 2 => 2 | 3 => 1 | _ => 0

/-- A program of channel `c` is queued: a staged block, or records in its look-ahead queue (R34). -/
def State.programQueued (s : State) (c : Nat) : Bool :=
  !(s.sq c).queue.isEmpty || !(tabGet [] s.stream.staging c).isEmpty

/-- The husk has stopped the lasers: 1 µs has passed since the alarm (R33, R567). -/
def State.huskHolds (s : State) : Bool := s.has F.HUSK_STAT_STOP && decide (s.husk.gateClk ≤ s.time.clk)

/-- The gate may be 1 as far as device, pins and husk allow (R33, R567). -/
def State.gateAllowed (s : State) (f : Nat) : Bool :=
  (s.devAt f == 2 || s.devAt f == 3) && s.sys.laserEnable && !s.sys.estop && !s.huskHolds

/-- The pair role in force for apply instant `f`: what a verdict, a swap, a drop or a join cairn has decided (R477). -/
def State.roleAt (s : State) (f : Nat) : Nat :=
  (s.pair.next.filter (fun e => decide (e.1 ≤ f))).foldl (fun _ e => e.2) s.pairRole

/-- The device acts as summit: strapped so, and ALONE or KEEPER (R470). -/
def State.isSummit (s : State) : Bool := s.cascadeRole == 1 && decide (s.pairRole ≤ 1)

/-- The device drives the outputs of R476, the axis pins among them: ALONE or KEEPER, and no referee (R445, R471, R476). (DEDUCED, log entry 238.) -/
def State.drivesOutputs (s : State) : Bool := decide (s.pairRole ≤ 1) && s.cascadeRole != 2

/-- The device is one of a lockstep pair. -/
def State.paired (s : State) : Bool := s.pairRole == 1 || s.pairRole == 2

/-- Divergence is found (R486): counted, and at its onset flagged and raised with its source (1 lock check, 2 station, 3 ledger, 4
admission, 5 write). (DEDUCED, log entry 150.) -/
def State.diverge (s : State) (source : Nat) : State :=
  if !s.paired then s
  else
    let s := s.count F.PAIR_EVENTS_DIVERGENCES
    if s.has F.PAIR_PSTAT_DIVERGED then s
    else ({ s with pair := { s.pair with divSrc := source } }.put F.PAIR_PSTAT_DIVERGED 1).unitErr 0x49 0x4920 [source]

end Sys2Proof.Machine
end

