-- ==== Sys2Proof/Machine/Trans.lean ====
section
/-!
DEFINITION. Sys2Proof/Machine/Trans.lean: device and channel state transitions (spec/01 R28, R29, R34, R35; spec/07 R263 to R267):
which are available, how the triggers of one apply instant are resolved, what a transition decided for an
apply instant does to a channel's plan and loops, and its taking effect when device time reaches it.
-/
namespace Sys2Proof.Machine

/-! ## Taking effect -/

/-- The channel enters a state (R31): STATE and CAUSE are recorded, the epoch rises by 1 (R118), and IDLE and OFFLINE close the
channel's head (R577). -/
def State.enterCh (s : State) (c st cause : Nat) : State :=
  let s := s.bump
  let s := (s.put (F.SEQ_CH_STATE_STATE c) st).put (F.SEQ_CH_STATE_CAUSE c) cause
  if st = 0 ∨ st = 1 then s.closeHead ⟨2, c⟩ else s

/-- The decided transitions of channel `c` take effect once device time has reached their apply instants. -/
def settleCh (c : Nat) (s : State) : State :=
  let due := (s.sq c).next.filter (fun e => decide (e.1 ≤ s.us))
  if due.isEmpty then s else
  let s := s.setSq c { s.sq c with next := (s.sq c).next.filter (fun e => !decide (e.1 ≤ s.us)) }
  forEach due (fun e s => s.enterCh c e.2.1 e.2.2) s

/-- The decided transitions of the device take effect once device time has reached their apply instants. -/
def settleDev (s : State) : State :=
  let due := s.sys.next.filter (fun e => decide (e.1 ≤ s.us))
  if due.isEmpty then s else
  let s := { s with sys := { s.sys with next := s.sys.next.filter (fun e => !decide (e.1 ≤ s.us)) } }
  forEach due (fun e s => s.enterDev e.2.1 e.2.2) s

/-- Every decided transition whose apply instant has been reached: the device first, then the channels in order (R118). -/
def State.settle (s : State) : State := forEach (List.range 64) settleCh (settleDev s)

/-! ## Channels -/

/-- The loops of channel `c` are initialized at their next evaluation (R288, R326). -/
def State.initLoops (s : State) (c : Nat) : State :=
  let start := fun (a : Nat) (t : Tab AxLoop) => tabPut {} t (3 * c + a) { tabGet {} t (3 * c + a) with init := true }
  { s with
    power := tabPut {} s.power c { tabGet {} s.power c with init := true }
    loop := { s.loop with ax := forEach [0, 1, 2] start s.loop.ax } }

/-- The active records of a channel are abandoned at their clocks (R266): each counts as completed, the plans of records that have
not started are discarded, and an INFO event carries the queue position of the first of them. (DEDUCED, log entry 92.) -/
def State.abandon (s : State) (c : Nat) : State :=
  let x := s.sq c
  let n := x.active.length
  let s := s.setSq c { x with
    active := []
    progDone := x.progDone + n
    prev := none
    prevEnd := none
    holdFrom := none
    queue := x.queue.map (fun (q : QRec) => { q with plan := none }) }
  if n = 0 then s
  else
    let done := s.get64 (F.SEQ_REC_LO c) (F.SEQ_REC_HI c)
    (s.put64 (F.SEQ_REC_LO c) (F.SEQ_REC_HI c) (done + n)).info ⟨2, c⟩ 0x1821 [(Config.queuePosition c s.time.clk).toNat]

/-- The lowest layer of stream `n` with an unfinished program (S_LAYER_EXEC, R159). -/
def State.showLayerExec (s : State) (n : Nat) : State :=
  let ls := (s.stream.programs.filter (fun (p : Program) => p.stream == n && !p.complete && !p.old)).map (fun p => p.layer)
  s.put (F.STREAM_S_LAYER_EXEC n) (ls.foldl min 0xFFFFFFFF)

/-- A broken program whose fault is still to come (R158): no flush has made it void (R271). -/
def Program.awaitsFault (p : Program) (c : Nat) : Bool := p.chan == c && p.broken.isSome && !p.faulted && !p.void

/-- CH_STAGE.BROKEN shows whether a broken program of channel `c` awaits its fault point (R159). -/
def State.showBroken (s : State) (c : Nat) : State :=
  s.putB (F.STREAM_CH_STAGE_BROKEN c) (s.stream.programs.any (fun (p : Program) => p.awaitsFault c))

/-- A broken program of the channel that has raised its fault counts as complete (R158). -/
def State.clearBroken (s : State) (c : Nat) : State :=
  let hit := fun (p : Program) => p.chan == c && p.faulted && !p.complete
  let done := s.stream.programs.filter hit
  let s := { s with stream := { s.stream with programs := s.stream.programs.map (fun (p : Program) =>
    if hit p then { p with complete := true, repS := (s.sq c).slip, repG := 0 } else p) } }
  forEach done (fun (p : Program) s => if p.old then s else s.showLayerExec p.stream) s

/-- The link state of channel `c`. -/
def State.link (s : State) (c : Nat) : StnCh := tabGet {} s.stn c

/-- The state with that link replaced. -/
def State.setLink (s : State) (c : Nat) (x : StnCh) : State := { s with stn := tabPut {} s.stn c x }

/-- A request joins the port's queue: the device's own requests come before the mailbox (R418). -/
def State.sbQueue (s : State) (c : Nat) (r : SbReq) : State :=
  let x := s.link c
  let own := x.queue.filter (fun (q : SbReq) => q.owner != 1)
  let host := x.queue.filter (fun (q : SbReq) => q.owner == 1)
  s.setLink c { x with queue := if r.owner = 1 then own ++ host ++ [r] else own ++ [r] ++ host }

/-- WRITE_AT of GATE_DLY of band `b` to the station of channel `c`, from apply instant `f` (R329, R416). (DEDUCED, log entry 208.) -/
def State.gateDelay (s : State) (c b f : Nat) : State :=
  s.sbQueue c { type := 3, addr := 0x11, owner := 2, hi := f % 2 ^ 32
                lo := s.get (F.POWER_GATE_DLY_ON_DLY c b) + s.get (F.POWER_GATE_DLY_OFF_DLY c b) * 65536 }

/-- The POWER band in force 200 µs ahead: the last one decided (R514). -/
def State.bandAhead (s : State) : Nat :=
  match s.therm.power.getLast? with
  | some e => e.2
  | none => s.get F.THERM_TSTAT_POWER_BAND

/-- What a transition decided for `f` does at its decision: leaving OFFLINE clears the counts since ONLINE (R237, R280, R354) and sends the
gate delays of the POWER band (R329), IDLE
from SAFE or FAULT initializes the loops (R288) and ends a broken program (R158), and leaving RUNNING or
HOLD for a lower state abandons the records (R266). -/
def State.decideCh (s : State) (c f target cause : Nat) (trip : Bool := false) : State :=
  let old := s.chAt c f
  let s := if (old = 3 ∨ old = 4) ∧ (target = 5 ∨ target = 6 ∨ target = 1 ∨ target = 0) then s.abandon c else s
  let s := if old = 0 ∧ target ≠ 0 then
      (((((s.put (F.SEQ_SLIP_HOLD_US c) 0).put (F.SEQ_SLIP_YIELD_US c) 0).put (F.SEQ_SLIP_FAULT_US c) 0).put64
        (F.SEQ_REC_LO c) (F.SEQ_REC_HI c) 0).put64 (F.POWER_ENERGY_LO c) (F.POWER_ENERGY_HI c) 0).initLoops c |>.gateDelay c s.bandAhead (f + 200)
    else s
  let s := if (old = 5 ∨ old = 6) ∧ target = 1 then (s.initLoops c).clearBroken c else s
  let x := s.sq c
  s.setSq c { x with
    next := x.next ++ [(f, target, cause)]
    tripped := if target = 5 then trip else false
    holdFrom := if target = 3 then x.holdFrom else none
    park := if target = 5 then x.park else none
    parked := if target = 5 then x.parked else false
    starved := if target = 3 then x.starved else false }

/-- The station link of channel `c` is in frame lock (R420). -/
def State.frameLock (s : State) (c : Nat) : Bool := s.get (F.STN_LINK_STAT_STATE c) == 3

/-- The cause of SAFE or FAULT is absent (R34): the device is not in SAFE_STOP, the station reports no amplifier or
laser fault (R405 bits [3:0] of its status word), and inbound frames are not being missed. -/
def State.causeAbsent (s : State) (c f : Nat) : Bool :=
  s.devAt f != 4 && s.get (F.STN_LINK_STAT_MISS_RUN c) < 3
    && bitsOf (s.get (F.STN_ST_STATUS c)) 0 4 == 0

/-- Whether R34 holds a request's transition for channel state `st`; a referee runs no channel (R471).
 ONLINE 8, ARM 9, DISARM 10, HOLD 11, RELEASE 12, CLEAR 13, OFF 14. -/
def State.requestOk (s : State) (c st f kind : Nat) : Bool :=
  match kind with
  | 8 => st == 0 && s.frameLock c && s.cascadeRole != 2
  | 9 => st == 1 && s.sys.laserEnable && s.programQueued c
  | 10 => st == 2 || st == 4
  | 11 => st == 3
  | 12 => st == 4
  | 13 => (st == 5 || st == 6) && s.causeAbsent c f
  | 14 => true
  | _ => false

/-- The state that a request asks for (R31). -/
def requestTarget (kind : Nat) : Nat := match kind with
  | 8 => 1 | 9 => 2 | 10 => 1 | 11 => 4 | 12 => 3 | 13 => 1 | _ => 0

/-- Whether R34 holds a trigger's transition from channel state `st`. -/
def triggerOk (st target : Nat) : Bool :=
  match target with
  | 0 => st != 0
  | 6 => st != 0 && st != 6
  | 5 => st == 1 || st == 2 || st == 3 || st == 4
  | 4 => st == 3
  | 3 => st == 2 || st == 4
  | 2 => st == 3 || st == 1
  | 1 => true
  | _ => false

/-- The triggers of channel `c` for apply instants up to `f` are resolved (R35): the first applicable target in the protective order
is decided. A request of R34 that no longer holds lapses (R263). Every other target, and every target that a more protective state
decided before has made unavailable, is recorded as displaced (R581). -/
def State.resolveCh (s : State) (c f : Nat) : State :=
  let x := s.sq c
  let due := x.triggers.filter (fun (t : ChTrigger) => decide (t.at_ ≤ f))
  if due.isEmpty then s else
  let s := s.setSq c { x with triggers := x.triggers.filter (fun (t : ChTrigger) => !decide (t.at_ ≤ f)) }
  let st := s.chAt c f
  let lapsed := due.filter (fun (t : ChTrigger) => t.kind != 0 && !s.requestOk c st f t.kind)
  let ok := due.filter (fun (t : ChTrigger) => triggerOk st t.target && (t.kind == 0 || s.requestOk c st f t.kind))
  let late := due.filter (fun (t : ChTrigger) => t.kind == 0 && !triggerOk st t.target)
  let s := forEach lapsed (fun (t : ChTrigger) s => s.info ⟨2, c⟩ 0x1803 [t.target]) s
  match ok.mergeSort (fun (a b : ChTrigger) => decide (chOrder b.target ≤ chOrder a.target)) with
  | [] =>
    let pending := (s.sq c).next.any (fun e => e.2.1 == st)
    forEach (late.filter (fun (t : ChTrigger) => pending && decide (chOrder t.target < chOrder st)))
      (fun (t : ChTrigger) s => s.recordDisplaced ⟨2, c⟩ t.target st) s
  | w :: rest =>
    let s := forEach ((rest ++ late).filter (fun (t : ChTrigger) => decide (chOrder t.target < chOrder w.target)))
      (fun (t : ChTrigger) s => s.recordDisplaced ⟨2, c⟩ t.target w.target) s
    s.decideCh c f w.target w.cause (ok.any (fun (t : ChTrigger) => t.target == w.target && t.trip))

/-! ## The device -/

/-- What a device transition decided for apply instant `f` does at its decision: SAFE_STOP notes its entry (R267). -/
def State.decideDev (s : State) (f target cause : Nat) : State :=
  { s with
    seq := if target = 4 then s.seq.map (fun e => (e.1, { e.2 with parked := false })) else s.seq
    sys := { s.sys with
      next := s.sys.next ++ [(f, target, cause)]
      stoppedFrom := s.dev
      safeEntry := if target = 4 then some f else s.sys.safeEntry
      haltAt := if target = 5 then none else s.sys.haltAt } }

/-- The triggers of the device for apply instants up to `f` are resolved (R29): the most restrictive available target is decided. Each
other target, and each that a more restrictive transition has made unavailable, is recorded as displaced (R581). -/
def State.resolveDev (s : State) (f : Nat) : State :=
  let due := s.sys.triggers.filter (fun (t : DevTrigger) => decide (t.at_ ≤ f))
  if due.isEmpty then s else
  let s := { s with sys := { s.sys with triggers := s.sys.triggers.filter (fun (t : DevTrigger) => !decide (t.at_ ≤ f)) } }
  let st := s.devAt f
  let ok := due.filter (fun (t : DevTrigger) => devTransition st t.cause == some t.target)
  let late := due.filter (fun (t : DevTrigger) => devTransition st t.cause != some t.target)
  let displace := fun (l : List DevTrigger) (entered : Nat) (s : State) =>
    forEach (l.filter (fun (t : DevTrigger) => decide (devOrder t.target < devOrder entered)))
      (fun (t : DevTrigger) s => s.recordDisplaced ⟨0, 0⟩ t.target entered) s
  match ok.mergeSort (fun (a b : DevTrigger) => decide (devOrder b.target ≤ devOrder a.target)) with
  | [] => displace late st s
  | w :: rest => (displace (rest ++ late) w.target s).decideDev f w.target w.cause

/-- A trigger of a device transition of R28, found now: it takes effect at the first apply instant not yet fixed (R29). It is kept where the
present state holds the transition, even where a decided one has made it unavailable: that is recorded when it is resolved. -/
def State.triggerDev (s : State) (target cause : Nat) : State :=
  if devTransition s.dev cause = some target ∨ devTransition (s.devAt s.nextFix) cause = some target then
    s.addDevTrigger { at_ := s.nextFix, target := target, cause := cause }
  else s

end Sys2Proof.Machine
end

