-- ==== Sys2Proof/Machine/Seq.lean ====
section
/-!
DEFINITION. Sys2Proof/Machine/Seq.lean: the sequencer (spec/07): planning (R242, R254 to R257), the start rules and lag (R243 to
R248), one channel's frame (R239, R262, R267), predictions (R240), slip and absorption (spec/06 R232, R235,
R236), layers and programs (R268 to R271), and the scan opcodes (R277 to R279).
-/
namespace Sys2Proof.Machine

/-! ## Parameters in force -/

/-- The state with every batch scheduled for a frame up to `f` in its words, by frame and then in acceptance order (R17, R19). -/
def State.inForce (s : State) (f : Nat) : State :=
  forEach (s.cmd.scheduled.filter (fun (b : Scheduled) => decide (b.f ≤ f))) (fun (b : Scheduled) s => s.applyWords b) s

/-! ## Records and programs -/

/-- LAUNCH is not a timed record (R149). -/
def Seg.timed (r : Seg) : Bool := r.type != 5

/-- MARK and JUMP. -/
def Seg.motion (r : Seg) : Bool := r.type == 1 || r.type == 2

/-- MARK, JUMP, DWELL and RAMP (R241). -/
def Seg.lasting (r : Seg) : Bool := decide (1 ≤ r.type) && decide (r.type ≤ 4)

/-- EXACT of a MARK or JUMP (R148). -/
def Seg.exact (r : Seg) : Bool := if r.type = 1 then r.flags / 2 % 2 == 1 else r.flags % 2 == 1

/-- The program that a record belongs to. -/
def Program.owns (p : Program) (c : Nat) (r : Seg) : Bool :=
  p.chan == c && p.stream == r.stream && p.layer == r.layer

/-- The programs with those that satisfy `q` changed by `f`. -/
def State.mapPrograms (s : State) (q : Program → Bool) (f : Program → Program) : State :=
  { s with stream := { s.stream with programs := s.stream.programs.map (fun p => if q p then f p else p) } }

/-- The layer is started at apply instant `f`: device time has reached its START, without slip (R268). -/
def State.layerStarted (s : State) (stream layer f : Nat) : Bool :=
  s.stream.layers.any (fun (l : Layer) => l.stream == stream && l.layer == layer && dueAt l.start 0 (f * 1000))

/-- When every program of a layer has completed, the device raises 0x1842 once with the largest S and the largest G (R270). -/
def State.layerComplete (s : State) (stream layer : Nat) : State :=
  match s.stream.layers.find? (fun (l : Layer) => l.stream == stream && l.layer == layer && !l.complete) with
  | none => s
  | some l =>
    let ps := s.stream.programs.filter (fun (p : Program) => p.stream == stream && p.layer == layer)
    if ps.length < l.programs || ps.any (fun (p : Program) => !p.complete) then s
    else
      let big := fun (f : Program → Int) => match ps with
        | [] => (0 : Int)
        | p :: t => t.foldl (fun m q => if m < f q then f q else m) (f p)
      let ls := s.stream.layers.map (fun (x : Layer) => if x.stream == stream && x.layer == layer then { x with complete := true } else x)
      let s := { s with stream := { s.stream with layers := ls }, journal := { s.journal with layerDue := true } }
      s.info ⟨0, 0⟩ 0x1842 [layer, big Program.repS, big Program.repG]

/-- A program completes with the slip and lag that its completion reports (R269, R270). -/
def State.completeProgram (s : State) (stream layer c : Nat) (slip lag : Int) : State :=
  let s := s.mapPrograms (fun p => p.chan == c && p.stream == stream && p.layer == layer && !p.complete)
    (fun p => { p with complete := true, repS := slip, repG := lag })
  (s.showLayerExec stream).layerComplete stream layer

/-- A cairn has launched (R151). Once a cairn of the layer with that IDENT has had SCOPE 1 and every program of the layer has launched one,
0x1844 is raised. Programs of an earlier opening of the stream are a layer of their own. -/
def State.layerCairn (s : State) (c : Nat) (r : Seg) (slip : Int) : State :=
  let old := (s.stream.programs.find? (fun (p : Program) => p.owns c r && !p.complete)).elim false Program.old
  let s := s.mapPrograms (fun p => p.owns c r && p.old == old) (fun p => { p with cairns := p.cairns ++ [(r.ident, r.launch, slip)] })
  let here := fun (l : Layer) => l.stream == r.stream && l.layer == r.layer && l.old == old
  let set := fun (g : Layer → Layer) (s : State) =>
    { s with stream := { s.stream with layers := s.stream.layers.map (fun (l : Layer) => if here l then g l else l) } }
  let s := if r.scope = 1 then set (fun l => { l with cairnsAsked := r.ident :: l.cairnsAsked }) s else s
  match s.stream.layers.find? here with
  | none => s
  | some l =>
    let ps := s.stream.programs.filter (fun (p : Program) => p.stream == r.stream && p.layer == r.layer && p.old == old)
    if !l.cairnsAsked.contains r.ident || l.cairnsDone.contains r.ident || decide (ps.length < l.programs)
        || ps.any (fun (p : Program) => !p.cairns.any (fun e => e.1 == r.ident)) then s
    else
      (set (fun l => { l with cairnsDone := l.cairnsDone ++ [r.ident] }) s).info ⟨0, 0⟩ 0x1844 [r.ident, r.layer, r.launch, slip]

/-! ## Planning (R242, R254, R255, R257) -/

/-- The duration of a DWELL or RAMP, or of a plan, in ns. (DEDUCED, log entries 79, 224.) -/
def planOf (lim : Limits) (w : State) (c : Nat) (start : Int × Int × Int) (prev : Option (Seg × Plan)) (r : Seg) : Plan :=
  let base : Plan :=
    if r.motion then
      let (dx, dy, dz) := (r.x - start.1, r.y - start.2.1, r.z - start.2.2)
      let len := pathLength dx dy dz
      let (v, a) := recordLimits lim r.type r.speed len dz
      let (na, nc, v', a') := planProfile len v a
      { na := na, nc := nc, dur := (2 * na + nc) * 1000, v := v', a := a', len := len, dx := dx, dy := dy, dz := dz,
        sx := start.1, sy := start.2.1, sz := start.2.2, floor := w.get (F.SEQ_TRACK_FLOOR c),
        outside := !(w.inField c start && w.inField c (r.x, r.y, r.z)) }
    else if r.lasting then { dur := r.duration, floor := w.get (F.SEQ_TRACK_FLOOR c) }
    else {}
  match prev with
  | none => base
  | some (pr, pp) =>
    let o := diff48 (pr.launch + pp.dur) r.launch
    if o ≤ 0 then { base with overlap := o }
    else
      let tol :=
        if r.type = 2 then w.get (F.SEQ_SADDLE_SADDLE_JUMP c)
        else if pr.saddle = 0xFFFF then w.get (F.SEQ_SADDLE_SADDLE_DEF c) else pr.saddle
      let ok := r.motion && pr.type == r.type && !pr.exact && pp.len != 0 && base.len != 0
        && decide (o ≤ pp.na * 1000) && decide (o ≤ base.na * 1000) && saddleHolds pp base o.toNat (10 * tol)
      { base with overlap := o, blend := ok, overrun := !ok }

/-- What planning carries from record to record: the previous timed record, the endpoint of the previous motion record, and the
MARK records whose SPEED exceeded VMAX. -/
structure Planning where
  prev : Option (Seg × Plan)
  start : Int × Int × Int
  clamps : Nat := 0

/-- Plan the timed records of a queue, in order, that fall due within 60 µs (R242). A record is not planned before the one in front
of it. (DEDUCED, log entry 77.) -/
def planQueue (lim : Limits) (w : State) (c f : Nat) (slip : Int) : Planning → List QRec → List QRec × Nat
  | st, [] => ([], st.clamps)
  | st, q :: rest =>
    if !q.seg.timed then
      let (l, n) := planQueue lim w c f slip st rest
      (q :: l, n)
    else match q.plan with
      | some p =>
        let st' : Planning := { st with prev := some (q.seg, p), start := if q.seg.motion then (q.seg.x, q.seg.y, q.seg.z) else st.start }
        let (l, n) := planQueue lim w c f slip st' rest
        (q :: l, n)
      | none =>
        if diff48 (q.seg.launch + slip) ((f : Int) * 1000 + 60000) ≤ 0 then
          let p := planOf lim w c st.start st.prev q.seg
          let st' : Planning :=
            { prev := some (q.seg, p)
              start := if q.seg.motion then (q.seg.x, q.seg.y, q.seg.z) else st.start
              clamps := st.clamps + (if q.seg.type = 1 ∧ lim.vmax < q.seg.speed then 1 else 0) }
          let (l, n) := planQueue lim w c f slip st' rest
          ({ q with plan := some p } :: l, n)
        else (q :: rest, st.clamps)

/-- The queue of a channel with what falls due planned, and the speed clamps found (R242, R250). -/
def SeqCh.planned (x : SeqCh) (w : State) (c f : Nat) (slip : Int) : SeqCh × Nat :=
  let (l, n) := planQueue (w.limits c) w c f slip
    { prev := x.prev.map (fun a => (a.seg, a.plan)), start := x.prevEnd.getD (x.bedX, x.bedY, x.bedZ) } x.queue
  ({ x with queue := l }, n)

/-- Planning of channel `c` at apply instant `f` with the slip S(f), under the words of `w` (R242). -/
def State.planFor (s w : State) (c f : Nat) (slip : Int) : State :=
  let (x, n) := (s.sq c).planned w c f slip
  (s.setSq c x).count (F.SEQ_CLAMPS_SPEED_CLAMPS c) n

/-! ## Starting records (R243 to R246) -/

/-- The lag of a record by every term of R244 but the last. -/
def lagBase (prev : Option Active) (r : Seg) (p : Plan) : Int :=
  match prev with
  | none => 0
  | some a =>
    let g := if p.blend then a.lag else diff48 (a.seg.launch + a.lag + a.plan.dur) r.launch
    if g < 0 then 0 else g

/-- What became of a channel within one apply instant's sample. -/
structure Attempt where
  x : SeqCh
  bed : Int × Int × Int
  p0 : Nat := 0
  p1 : Nat := 0
  /-- records started, in order, with their lags -/
  starts : List Active := []
  /-- records that completed and left the queue -/
  done : Nat := 0
  /-- detail of the fault at a start instant (R246, R274) -/
  fault : Option Nat := none
deriving DecidableEq, Repr

/-- The launch time of a record has been reached, whether it starts or faults at its start instant (R34, R246). -/
def Attempt.launches (a : Attempt) : Bool := !a.starts.isEmpty || a.fault.isSome

/-- Start records at apply instant `f`: at most `n` of them, none after one that changes the channel's state (R243 to R246, R265,
R269). `may` says whether the states allow a record to start; LAUNCH records go with the timed record after
them. (DEDUCED, log entries 75, 76, 78.) -/
def startRecords (may : Seg → Bool) (limit : Int) (f : Nat) (slip before : Int) :
    List QRec → Nat → List QRec → Attempt → Attempt
  | [], _, launches, a => { a with x := { a.x with queue := launches } }
  | q :: rest, n, launches, a =>
    let stop := { a with x := { a.x with queue := launches ++ q :: rest } }
    if !q.seg.timed then startRecords may limit f slip before rest n (launches ++ [q]) a
    else match q.plan with
      | none => stop
      | some p =>
        let g0 := lagBase a.x.prev q.seg p
        let tau := -(diff48 (q.seg.launch + slip + g0) (f * 1000))
        if n = 0 ∨ tau < 0 ∨ !may q.seg then stop
        else
          let waited := decide (0 ≤ -(diff48 (q.seg.launch + before + g0) (f * 1000 - 1000)))
          let g := if waited then g0 + tau else g0
          if limit < g then { stop with fault := some 0x1813 }
          else if p.outside then { stop with fault := some 0x1820 }
          else
            let r : Active := ⟨q.seg, p, g⟩
            let a' := { a with
              starts := a.starts ++ [r]
              done := a.done + launches.length
              x := { a.x with
                prev := some r
                prevEnd := if q.seg.motion then some (q.seg.x, q.seg.y, q.seg.z) else a.x.prevEnd
                active := a.x.active ++ [r] } }
            if q.seg.type = 7 ∨ q.seg.type = 8 then { a' with x := { a'.x with queue := rest } }
            else startRecords may limit f slip before rest (n - 1) [] a'

/-- The profile clock of a started record at apply instant `f` (R243). -/
def Active.clock (a : Active) (f : Nat) (slip : Int) : Int := -(diff48 (a.seg.launch + slip + a.lag) (f * 1000))

/-- The bed setpoint that a list of records gives at `f`: the start point of the first motion record and the contributions of all of
them; `rest` where there is none (R254, R256). -/
def bedOf (rest : Int × Int × Int) (acts : List Active) (f : Nat) (slip : Int) : Int × Int × Int :=
  match acts.filter (fun a => a.seg.motion) with
  | [] => rest
  | a :: t => (a :: t).foldl (fun b r =>
      let c := contribution r.plan (r.clock f slip)
      (b.1 + c.1, b.2.1 + c.2.1, b.2.2 + c.2.2)) (a.plan.sx, a.plan.sy, a.plan.sz)

/-- The scheduled power at `extra` ns after apply instant `f` (R258 to R261). -/
def powerOf (acts : List Active) (f : Nat) (slip extra : Int) : Nat :=
  match acts.filter (fun a => a.seg.lasting && decide (a.clock f slip + extra < a.plan.dur)) with
  | [] => 0
  | [a] => recordPower a.seg a.plan (a.clock f slip + extra) none
  | a :: b :: _ =>
    let ta := a.clock f slip + extra
    let tb := b.clock f slip + extra
    let run : Int := b.plan.overlap - (b.lag - a.lag)
    let v := if b.plan.blend then some (combinedSpeed a.plan b.plan ta tb) else none
    if 2 * tb < run then recordPower a.seg a.plan ta v else recordPower b.seg b.plan tb v

/-- One apply instant of a channel that is not deferred: records end, start and give the sample (R241, R243, R261). -/
def SeqCh.advance (x : SeqCh) (may : Seg → Bool) (limit : Int) (f : Nat) (slip before : Int) : Attempt :=
  let a := startRecords may limit f slip before x.queue 4 [] { x := x, bed := (x.bedX, x.bedY, x.bedZ) }
  let acts := a.x.active
  let bed := bedOf (x.bedX, x.bedY, x.bedZ) acts f slip
  let live := acts.filter (fun r => decide (r.clock f slip < r.plan.dur))
  { a with
    bed := bed
    p0 := powerOf live f slip 0
    p1 := powerOf live f slip 500
    done := a.done + (acts.length - live.length)
    x := { a.x with active := live, bedX := bed.1, bedY := bed.2.1, bedZ := bed.2.2 } }

/-! ## What the states allow -/

/-- Records may start on a channel in device state `d` decided for the instant: BUILD, or DRAIN for a layer already started (R27,
R268). -/
def State.mayStart (s : State) (d f : Nat) (r : Seg) : Bool :=
  d == 2 || (d == 3 && s.layerStarted r.stream r.layer f)

/-- The lag limit of a channel in ns (R246). -/
def State.lagLimit (s : State) (c : Nat) : Int := (s.get (F.SEQ_RUN_CFG_LAG_LIMIT_US c) : Int) * 1000

/-! ## Predictions (R240) -/

/-- Where a park move stands at `f` (R267). Its clock runs from the instant at which it began. -/
def parkBed (p : Active) (f : Nat) : Int × Int × Int :=
  let c := contribution p.plan (((f : Int) - p.seg.launch) * 1000)
  (p.plan.sx + c.1, p.plan.sy + c.2.1, p.plan.sz + c.2.2)

/-- Whether the channel awaits a launch after an attempt: LAYER_END brings it to ARMED, any other start to RUNNING (R34, R269). -/
def Attempt.armed (a : Attempt) (was : Bool) : Bool := match a.starts.getLast? with
  | some r => r.seg.type == 7
  | none => was

/-- Predicted samples of the instants from `f` on: bed point and MARK, `n` of them. Frames already decided to be deferred stand still
when `yields` lists them and the channel runs, or would begin to run at them (R375); no other frame is deferred, and nothing unplanned starts. -/
def predictFrom (may : Nat → Seg → Bool) (limit : Int) (running : Bool) (yields : List Nat) :
    Nat → Nat → Bool → Int → Int → SeqCh → List ((Int × Int × Int) × Bool)
  | 0, _, _, _, _, _ => []
  | n + 1, f, armed, slip, before, x =>
    let here := (x.bedX, x.bedY, x.bedZ)
    match x.park with
    | some p => (parkBed p f, false) :: predictFrom may limit running yields n (f + 1) armed slip slip x
    | none =>
      if !running then (here, false) :: predictFrom may limit running yields n (f + 1) armed slip slip x
      else
        let a := x.advance (may f) limit f slip before
        if yields.contains f && (!armed || !a.starts.isEmpty) then
          (here, false) :: predictFrom may limit running yields n (f + 1) false (slip + 1000) (slip + 1000) x
        else
          (a.bed, decide (a.p0 ≠ 0 ∨ a.p1 ≠ 0)) :: predictFrom may limit running yields n (f + 1) (a.armed armed) slip slip a.x

/-- The predictions delivered with the sample of apply instant `f` under its words `w`: bed points and MARK of f + 1 to f + `n` (R240). -/
def State.predict (s w : State) (c f n : Nat) (withYields : Bool := true) : List ((Int × Int × Int) × Bool) :=
  let x := s.sq c
  let st := s.chAt c f
  let d := s.devAt f
  predictFrom (fun g r => s.mayStart d g r) (w.lagLimit c) (st == 2 || st == 3 || st == 4)
    (if withYields && w.has F.COL_CFG_ENABLE && (st == 2 || st == 3) then x.yields else []) n (f + 1) (st == 2) x.slip x.slip x

/-! ## Slip and absorption (R232, R235, R236) -/

/-- S of channel `c` for apply instant `f` (R233); the latest one outside the instants kept. -/
def State.slipAt (s : State) (c f : Nat) : Int :=
  match (s.sq c).slips.find? (fun e => e.1 == f) with
  | some e => e.2
  | none => (s.sq c).slip

/-- A channel whose |S| reaches 2^46 ns raises 0x18A0 and goes to FAULT (R236). (DEDUCED, log entry 114.) -/
def State.slipCheck (s : State) (c : Nat) (old new : Int) : State :=
  if decide (old.natAbs < 2 ^ 46) && decide (2 ^ 46 ≤ new.natAbs) then s.raise 2 true ⟨2, c⟩ 0x18A0 else s

/-- The pending absorption of channel `c` is applied in S(f): reduced so that the next queued timed record still lies 50 µs ahead
(R235). -/
def State.absorb (s : State) (c f : Nat) : State :=
  let x := s.sq c
  let room : Option Int := (x.queue.find? (fun (q : QRec) => q.seg.timed)).map
    (fun (q : QRec) => let d := diff48 (q.seg.launch + x.slip) (f * 1000) - 50000; if d < 0 then 0 else d)
  let want : Int := x.absorbPending
  let amount := match room with
    | some r => if r < want then r else want
    | none => want
  let s := s.setSq c { x with slip := x.slip - amount, absorbPending := 0 }
  let s := (s.put (F.SEQ_ABSORB_LAST c) amount.toNat).put (F.SEQ_ABSORB_STAT_PENDING c) 0
  let s := if amount < want then s.mark (F.SEQ_ABSORB_STAT_CLAMPED c) else s
  s.slipCheck c x.slip (x.slip - amount)

/-- An amount written to ABSORB joins what is pending (R235). -/
def State.absorbWrite (s : State) (c n : Nat) : State :=
  let x := s.sq c
  (s.setSq c { x with absorbPending := x.absorbPending + n }).put (F.SEQ_ABSORB_STAT_PENDING c) 1

/-- The amounts that batches scheduled for frame `f` write to ABSORB of channel `c`. -/
def State.absorbScheduled (s : State) (c f : Nat) : List Nat :=
  (s.cmd.scheduled.filter (fun (b : Scheduled) => b.f == f)).flatMap (fun (b : Scheduled) =>
    (mergeWrites (b.writes.filter (fun w => w.addr == (F.SEQ_ABSORB c).addr))).filterMap (fun w => writtenField w (F.SEQ_ABSORB c)))

/-- The program of a channel that has begun and has not executed its LAYER_END (R32). -/
def SeqCh.unfinished (x : SeqCh) : Bool := x.running.isSome

/-! ## Committing an attempt -/

/-- One started record takes its effect on the channel's words and events (R248, R257, R151, R265, R269). -/
def State.started (s : State) (c f : Nat) (slip : Int) (a : Active) : State :=
  let g := satN 0xFFFFFFFF a.lag.toNat
  let s := s.put (F.SEQ_LAG c) g
  let s := if s.get (F.SEQ_LAG_MAX c) < g then s.put (F.SEQ_LAG_MAX c) g else s
  let late := decide (0 < a.lag)
  let s := if late then
      let s := s.count (F.SEQ_EVENTS_LATE_STARTS c)
      if (s.sq c).lateRun then s else s.warn ⟨2, c⟩ 0x1811 [a.lag]
    else s
  let s := s.setSq c { s.sq c with lateRun := late }
  let s := if a.plan.overrun then (s.count (F.SEQ_EVENTS_OVERRUNS c)).warn ⟨2, c⟩ 0x1812 else s
  let s := (s.put (F.SEQ_LAYER c) a.seg.layer).put (F.SEQ_PROG_TAG c) a.seg.tag
  let now := some (a.seg.stream, a.seg.layer, a.seg.tag)
  let y := s.sq c
  let s := s.setSq c { y with running := if a.seg.type = 7 then none else now, progDone := if y.running = now then y.progDone else 0 }
  match a.seg.type with
  | 6 => (s.info ⟨2, c⟩ 0x1843 [a.seg.ident, a.seg.launch, slip, a.seg.tag]).layerCairn c a.seg slip
  | 7 =>
    let s := s.info ⟨2, c⟩ 0x1841 [a.seg.layer, slip, a.lag, a.seg.tag]
    (s.decideCh c f 2 0).completeProgram a.seg.stream a.seg.layer c slip a.lag
  | 8 => s.decideCh c f 4 0
  | _ => s

/-- Records counted as completed (R241, R280). -/
def State.countDone (s : State) (c n : Nat) : State :=
  (s.setSq c { s.sq c with progDone := (s.sq c).progDone + n }).put64 (F.SEQ_REC_LO c) (F.SEQ_REC_HI c)
    (s.get64 (F.SEQ_REC_LO c) (F.SEQ_REC_HI c) + n)

/-- The sample built for `f` and its feed-forward (R239): p(f + 1) is predicted as if f + 1 were not deferred. (DEDUCED, log entries 81, 84.) -/
def State.buildSample (s w : State) (c f : Nat) (p0 p1 : Nat) (deferred : Bool) : State :=
  let x := s.sq c
  let bed := (x.bedX, x.bedY, x.bedZ)
  let here := w.setpoints c bed
  let next := w.setpoints c (match s.predict w c f 1 false with
    | e :: _ => e.1
    | [] => bed)
  let last := match x.samples.find? (fun (q : Sample) => q.f + 1 == f) with
    | some q => (q.xSet, q.ySet, q.zSet)
    | none => here
  let mark := decide (p0 ≠ 0 ∨ p1 ≠ 0)
  let smp : Sample :=
    { f := f, xSet := here.1, ySet := here.2.1, zSet := here.2.2
      xVff := fit32 (next.1 - last.1), yVff := fit32 (next.2.1 - last.2.1), zVff := fit32 (next.2.2 - last.2.2)
      xAff := fit32 (next.1 - 2 * here.1 + last.1), yAff := fit32 (next.2.1 - 2 * here.2.1 + last.2.1)
      zAff := fit32 (next.2.2 - 2 * here.2.2 + last.2.2)
      p0 := p0, p1 := p1, mark := mark, deferred := deferred, bedX := bed.1, bedY := bed.2.1, bedZ := bed.2.2, slip := x.slip }
  let marked := match x.samples.find? (fun (q : Sample) => q.f + 1 == f) with
    | some q => q.mark
    | none => false
  s.setSq c { x with
    samples := (smp :: x.samples).take 12
    built := f
    markRun := if mark && !marked then f else x.markRun }

/-- A frame that gives no movement: S grows by 1 µs where a cause defers it, counted under that cause: 0 fault, 1 hold, 2 yield
(R232, R237). -/
def State.stand (s w : State) (c f : Nat) (cause : Option Nat) : State :=
  let x := s.sq c
  match cause with
  | none => s.buildSample w c f 0 0 false
  | some k =>
    let s := s.setSq c { x with slip := x.slip + 1000 }
    let s := s.wrapCount (if k = 0 then F.SEQ_SLIP_FAULT_US c else if k = 1 then F.SEQ_SLIP_HOLD_US c else F.SEQ_SLIP_YIELD_US c)
    (s.slipCheck c x.slip (x.slip + 1000)).buildSample w c f 0 0 true

/-! ## Parking (R267) -/

/-- The park move of channel `c` begins at apply instant `f`: an EXACT JUMP from the bed setpoint to the park point under the jump
limits; a park point outside the field faults the channel instead (R274). (DEDUCED, log entry 80.) -/
def State.startPark (s w : State) (c f : Nat) : State :=
  let x := s.sq c
  let at_ := (w.getI (F.SEQ_PARK_X c), w.getI (F.SEQ_PARK_Y c), w.getI (F.SEQ_PARK_Z c))
  let seg : Seg := { type := 2, flags := 1, launch := f, x := at_.1, y := at_.2.1, z := at_.2.2 }
  if !w.inField c at_ then s.raise 2 true ⟨2, c⟩ 0x1820
  else
    let p := planOf (w.limits c) w c (x.bedX, x.bedY, x.bedZ) none seg
    s.setSq c { x with
      park := some ⟨seg, p, 0⟩, parked := false, prev := none, prevEnd := none
      queue := x.queue.map (fun (q : QRec) => { q with plan := none }) }

/-- The park move's position at `f`; it ends when its clock reaches its duration. -/
def State.runPark (s : State) (c f : Nat) : State :=
  let x := s.sq c
  match x.park with
  | none => s
  | some p =>
    let b := parkBed p f
    let x := { x with bedX := b.1, bedY := b.2.1, bedZ := b.2.2 }
    if p.plan.dur ≤ (f - p.seg.launch) * 1000 then s.setSq c { x with park := none, parked := true } else s.setSq c x

/-- In SAFE_STOP a channel that is in SAFE starts its park move, once (R267). -/
def State.beginPark (s w : State) (c f : Nat) : State :=
  let x := s.sq c
  if s.devAt f != 4 || s.chAt c f != 5 || x.parked || x.park.isSome then s else s.startPark w c f

/-- Records of channel `c` that end at `f` complete, and none starts (R241, R267). -/
def State.endRecords (s : State) (c f : Nat) : State :=
  let x := s.sq c
  let a := x.advance (fun _ => false) 0 f x.slip x.slip
  (s.setSq c a.x).countDone c a.done

/-- Apply instant `f` lies 50 µs or more after the entry to SAFE_STOP (R267). -/
def State.safeDeadline (s : State) (f : Nat) : Bool := match s.sys.safeEntry with
  | some e => decide (e + 50 ≤ f)
  | none => false

/-- A trigger to SAFE for apply instant `f`. -/
def State.askSafe (s : State) (c f : Nat) : State := s.addChTrigger c { at_ := f, target := 5, cause := 0 }

/-- SAFE_STOP takes channel `c` to SAFE at `f`: at once where it is not RUNNING, else at the end of its active duration record or 50 µs
after the device entry (R34, R267). -/
def State.safeDue (s : State) (c f : Nat) : State :=
  let st := s.chAt c f
  if s.devAt f ≠ 4 ∨ f ≤ (s.sq c).built then s
  else if st = 1 ∨ st = 2 ∨ st = 4 ∨ (st = 3 ∧ s.safeDeadline f) then s.askSafe c f
  else if st ≠ 3 then s
  else
    let t := if (s.sq c).yields.contains f then s else s.endRecords c f
    if (t.sq c).active.any (fun r => r.seg.lasting) then s else t.askSafe c f

/-- SAFE_STOP_50US_DEADLINE: every channel still RUNNING enters SAFE (R267). -/
def State.safeStopDeadline (s : State) (f : Nat) : State :=
  if s.devAt f ≠ 4 ∨ !s.safeDeadline f then s
  else forEach (List.range 64) (fun c s => if s.chAt c f = 3 ∧ (s.sq c).built < f then s.askSafe c f else s) s

/-! ## One channel's frame (R239, R262) -/

/-- What a running, undeferred channel would do at `f`. -/
def State.attempt (s w : State) (c f : Nat) : Attempt :=
  let x := s.sq c
  (x.advance (fun r => s.mayStart (s.devAt f) f r) (w.lagLimit c) f x.slip x.slipBefore)

/-- A pending amount is due in S(f): the channel is OFFLINE, IDLE or ARMED in the state decided for `f` (R235). -/
def State.absorbDue (s w : State) (c f : Nat) : Bool :=
  let st := s.chAt c f
  s.has (F.SEQ_ABSORB_STAT_PENDING c)
    && (st == 0 || st == 1 || (st == 2 && !((s.planFor w c f (s.sq c).slip).attempt w c f).launches))

/-- A running channel's undeferred frame takes effect (R241, R243 to R248, R265). -/
def State.takeAttempt (s w : State) (c f : Nat) (a : Attempt) : State :=
  let x := s.sq c
  let s := s.setSq c a.x
  let s := if s.chAt c f = 2 ∧ a.launches then s.decideCh c f 3 0 else s
  let s := forEach a.starts (fun r s => s.started c f x.slip r) s
  let s := s.countDone c a.done
  let s := match a.fault with
    | some d => s.raise 2 true ⟨2, c⟩ d
    | none => s
  let y := s.sq c
  let dry := s.chAt c f == 3 && y.unfinished && y.active.isEmpty && !y.queue.any (fun (q : QRec) => q.seg.timed)
  let s := if dry && !y.starved then (s.count (F.SEQ_CLAMPS_STARVES c)).warn ⟨2, c⟩ 0x1810 else s
  let s := s.setSq c { s.sq c with starved := dry }
  if a.starts.any (fun r => r.seg.type == 8) then s.stand w c f (some 1) else s.buildSample w c f a.p0 a.p1 false

/-- The frame of an ARMED or RUNNING channel. A frame in a yield range, or one whose sample COL does not find clear (`clear`, R379), is
deferred where the channel is RUNNING, or becomes RUNNING at it: nothing of the attempt takes place (R34, R375, R380). -/
def State.runFrame (s w : State) (c f : Nat) (clear yield_ : Bool) : State :=
  let x := s.sq c
  let t := s.planFor w c f x.slip
  let a := t.attempt w c f
  let go := s.chAt c f == 2 && a.launches
  if (s.chAt c f = 3 ∨ go) ∧ (yield_ ∨ ((a.p0 ≠ 0 ∨ a.p1 ≠ 0) ∧ !clear)) then
    let s := s.planFor w c f (x.slip + 1000)
    (if go then s.decideCh c f 3 0 else s).stand w c f (some 2)
  else t.takeAttempt w c f a

/-- LAYER_END has taken the channel to ARMED at `f`: a pending amount is applied in S(f) (R235, R269). -/
def State.absorbAfter (s w : State) (c f : Nat) : State :=
  if s.chAt c f ≠ 2 ∨ !s.has (F.SEQ_ABSORB_STAT_PENDING c) then s
  else
    let s := s.absorb c f
    let x := s.sq c
    (s.setSq c { x with samples := x.samples.map (fun (q : Sample) => if q.f = f then { q with slip := x.slip } else q) }).planFor w c f x.slip

/-- S of the apply instant before `f`. -/
def SeqCh.slipLast (x : SeqCh) (f : Nat) : Int := match x.slips with
  | e :: _ => if e.1 + 1 = f then e.2 else x.slip
  | [] => x.slip

/-- One channel's frame sample for apply instant `f` (R239), with COL's verdict `clear` on the tentative sample. An OFFLINE channel has none;
its records are planned and its slip is kept all the same (R232, R242). -/
def State.chanFrame (s w : State) (c f : Nat) (clear : Bool) : State :=
  let s := forEach (s.absorbScheduled c f) (fun n s => s.absorbWrite c n) s
  let s := s.setSq c { s.sq c with slipBefore := (s.sq c).slipLast f }
  let s := if s.absorbDue w c f then s.absorb c f else s
  let s := s.beginPark w c f
  let yield_ := w.has F.COL_CFG_ENABLE && (s.sq c).yields.contains f
  let s := s.setSq c { s.sq c with yields := (s.sq c).yields.filter (fun g => decide (f < g)) }
  let sl := (s.sq c).slip
  let st := s.chAt c f
  let s :=
    if st = 0 then
      let s := s.planFor w c f sl
      s.setSq c { s.sq c with built := f, samples := [] }
    else if st = 5 ∨ st = 6 then
      let s := s.runPark c f
      s.stand w c f (if (s.sq c).unfinished then some 0 else none)
    else if st = 4 then (s.planFor w c f (sl + 1000)).stand w c f (some 1)
    else if st = 3 then (s.runFrame w c f clear yield_).absorbAfter w c f
    else if st = 2 then s.runFrame w c f clear yield_
    else (s.planFor w c f sl).stand w c f none
  s.setSq c { s.sq c with
    slips := ((f, (s.sq c).slip) :: (s.sq c).slips).take 12
    progress := ((f, s.get (F.SEQ_LAYER c), s.get (F.SEQ_PROG_TAG c), (s.sq c).progDone) :: (s.sq c).progress).take 4 }

/-- HOLD_AT 1: at the first apply instant at or after q + 20 at which no duration record is active and no record starts, the channel
holds (R264). -/
def State.holdAtRest (s : State) (c f : Nat) : State :=
  let x := s.sq c
  let w := s.inForce f
  match x.holdFrom with
  | none => s
  | some h =>
    if f < h ∨ f ≤ x.built ∨ s.chAt c f ≠ 3 then s
    else
      let (y, _) := x.planned w c f x.slip
      let a := y.advance (fun r => s.mayStart (s.devAt f) f r) (w.lagLimit c) f x.slip (x.slipLast f)
      if a.starts.isEmpty && !x.active.any (fun r => r.seg.lasting) then
        (s.setSq c { x with holdFrom := none }).addChTrigger c { at_ := f, target := 4, cause := 0 }
      else s

/-- Every channel that is neither OFFLINE nor in FAULT has completed its park move at the frame sample of `f` (R267). -/
def State.allParked (s : State) (f : Nat) : Bool :=
  (List.range 64).all (fun c => let st := s.chAt c f; st == 0 || st == 6 || (st == 5 && (s.sq c).parked))

/-! ## Opcodes (R277 to R279) -/

/-- TARGET of a scan opcode names a channel and no other bit is set but those of `extra` (R277). -/
def scanTarget (p : InFlight) (extra : Nat) : Bool := p.target.toNat / 64 * 64 == p.target.toNat &&& extra

/-- The blocks staged for channel `c`. -/
def State.staged (s : State) (c : Nat) : List Staged := tabGet [] s.stream.staging c

/-- The state with the staging area of channel `c` replaced; STAGED_KB follows (R159). (DESIGN CHOICE, log entry 185.) -/
def State.setStaged (s : State) (c : Nat) (l : List Staged) : State :=
  let kb := (l.foldl (fun n (g : Staged) => n + g.bytes) 0 + 1023) / 1024
  ({ s with stream := { s.stream with staging := tabPut [] s.stream.staging c l } }).put (F.STREAM_CH_STAGE_STAGED_KB c) (satN 0xFFFF kb)

/-- Records discarded from the queue and the staging area of channel `c`: those of the programs that `hit` names, by stream and layer. Each
is void from here on and counts as complete, with the slip in force (R270, R271). -/
def State.flush (s : State) (c : Nat) (hit : Nat × Nat → Bool) (touched : List (Nat × Nat)) : State :=
  let x := s.sq c
  let out := fun (q : Seg) => hit (q.stream, q.layer)
  let s := s.setSq c { x with
    queue := (x.queue.filter (fun (q : QRec) => !out q.seg)).map (fun (q : QRec) => { q with plan := none })
    running := x.running.filter (fun e => !touched.contains (e.1, e.2.1)) }
  let s := s.setStaged c (((s.staged c).map (fun (g : Staged) => { g with records := g.records.filter (fun q => !out q) })).filter
    (fun (g : Staged) => !g.records.isEmpty))
  let s := s.mapPrograms (fun q => q.chan == c && touched.contains (q.stream, q.layer)) (fun q => { q with void := true })
  let s := s.showBroken c
  forEach touched (fun e s => s.completeProgram e.1 e.2 c (s.slipAt c s.us) 0) s

/-- SCAN_FLUSH (R271). A program that has run out of records and not executed its LAYER_END is the program next to run where no record is
left (R28), and SCOPE 1 discards what is still to come of it. (DEDUCED, log entry 82.) -/
def opScanFlush (p : InFlight) (s : State) : State × Verdict :=
  let b := bodyWord p.body 0
  let c := p.target.toNat % 64
  if p.body.length ≠ 1 then (s, malformed 0x0202)
  else if !scanTarget p 0 ∨ 1 < b then (s, malformed 0x18F6)
  else if s.ch c = 3 ∨ s.ch c = 4 then (s, refused 0x18F5)
  else
    let x := s.sq c
    let segs := (x.queue.map (fun (q : QRec) => q.seg) ++ (s.staged c).flatMap (fun (g : Staged) => g.records)).map
      (fun (q : Seg) => (q.stream, q.layer))
    let begun := x.running.toList.map (fun e => (e.1, e.2.1))
    match segs ++ begun with
    | [] => (s, .done [0])
    | r :: _ =>
      let hit := fun (q : Nat × Nat) => b == 1 || q == r
      (s.flush c hit (((segs ++ begun).filter hit).dedup), .done [word (segs.filter hit).length])

/-- The bytes of a grid buffer's nodes in node order (R275). -/
def gridBytes (g : Tab (Int × Int × Int)) : List Byte :=
  (List.range 4225).flatMap (fun n =>
    let v := tabGet (0, 0, 0) g n
    leBytes 4 (fieldOf 32 v.1) ++ leBytes 4 (fieldOf 32 v.2.1) ++ leBytes 4 (fieldOf 32 v.2.2))

/-- The buffer is named by XFORM_CTRL.TABLE in force, or will be by a scheduled commit (R275). -/
def State.gridInUse (s : State) (c buf : Nat) : Bool :=
  s.get (F.SEQ_XFORM_CTRL_TABLE c) == buf ||
    s.cmd.scheduled.any (fun (b : Scheduled) => (s.inForce b.f).get (F.SEQ_XFORM_CTRL_TABLE c) == buf)

/-- SCAN_TABLE_LOAD (R275, R278). -/
def opScanTableLoad (p : InFlight) (s : State) : State × Verdict :=
  let w0 := bodyWord p.body 0
  let c := p.target.toNat % 64
  let buf := p.target.toNat / 256 % 2
  let first := bitsOf w0 0 13
  let n := bitsOf w0 16 13
  if !scanTarget p 0x100 then (s, malformed 0x18F6)
  else if n = 0 ∨ 1364 < n ∨ 4224 < first + n - 1 ∨ p.body.length ≠ 1 + 3 * n then (s, malformed 0x1830)
  else if w0 ≠ first + n * 65536 then (s, malformed 0x18F6)
  else if s.gridInUse c buf then (s, refused 0x1831)
  else
    let x := s.sq c
    let node := fun (i : Nat) => let at_ := fun (k : Nat) => (p.body.getD (1 + 3 * i + k) 0).toInt
      (at_ 0, at_ 1, at_ 2)
    let load := fun (g : Tab (Int × Int × Int)) => forEach (List.range n) (fun i g => tabPut (0, 0, 0) g (first + i) (node i)) g
    if buf = 0 then
      let g := load x.grid0
      (((s.setSq c { x with grid0 := g }).put (F.SEQ_TABLE_STAT_LOADED0 c) 1).put (F.SEQ_TABLE_CRC0 c) (crc32 (gridBytes g)), .done [])
    else
      let g := load x.grid1
      (((s.setSq c { x with grid1 := g }).put (F.SEQ_TABLE_STAT_LOADED1 c) 1).put (F.SEQ_TABLE_CRC1 c) (crc32 (gridBytes g)), .done [])

/-- The four words that SCAN_PLAN reports for a record (R279). -/
def planWords (r : Seg) (p : Option Plan) : List Word :=
  match p with
  | none => [word r.type, 0, 0, 0]
  | some p =>
    [word (r.type + 256 + (if p.blend then 512 else 0) + (if p.overrun then 1024 else 0)), word p.na,
     word (if r.type = 3 ∨ r.type = 4 then p.dur else p.nc), word (fieldOf 32 p.overlap)]

/-- SCAN_PLAN (R279). -/
def opScanPlan (p : InFlight) (s : State) : State × Verdict :=
  let b := bodyWord p.body 0
  let x := s.sq (p.target.toNat % 64)
  if p.body.length ≠ 1 then (s, malformed 0x0202)
  else if !scanTarget p 0 ∨ b = 0 ∨ 64 < b then (s, malformed 0x18F6)
  else
    let all := x.active.map (fun a => planWords a.seg (some a.plan))
      ++ (x.queue.filter (fun (q : QRec) => q.seg.timed)).map (fun (q : QRec) => planWords q.seg q.plan)
    (s, .done (all.take b).flatten)

end Sys2Proof.Machine
end

