-- ==== Sys2Proof/Machine/Loop.lean ====
section
/-!
DEFINITION. Sys2Proof/Machine/Loop.lean: the loop law (spec/08 R289 to R292), the scanner axis evaluation with its states,
fallbacks and detectors (R286 to R288, R297 to R302), and the supervision trips (R300).
-/
namespace Sys2Proof.Machine

/-! ## The law (R289 to R291) -/

/-- What a loop carries from evaluation to evaluation. -/
structure LoopCore where
  ePrev : Int
  d : Int
  i : Int
  init : Bool
deriving DecidableEq, Repr

/-- Coefficients of one evaluation: raw words, limits in command units. -/
structure Gains where
  kp : Nat
  ki : Nat
  kd : Nat
  dfilt : Nat
  offset : Int
  ilim : Nat
  umin : Int
  umax : Int
deriving DecidableEq, Repr

/-- The result of one evaluation. -/
structure LawOut where
  core : LoopCore
  p : Int
  dTerm : Int
  u : Int
  cmd : Int
  sat : Bool
  clipped : Bool
deriving DecidableEq, Repr

/-- sat31 of R289. -/
def sat31 (x : Int) : Int := clampI (-(2 ^ 31 - 1)) (2 ^ 31 - 1) x

/-- EVAL_AXIS of R289: `e` is the error of a valid position, none for a held evaluation (R287); `ff` the feed-forward term in its
unit. An uninitialized loop starts from its first valid error (R288). -/
def loopLaw (x : LoopCore) (g : Gains) (e : Option Int) (ff : Int) (integrate : Bool := true) : LawOut :=
  let x : LoopCore := if x.init then
      match e with
      | some v => { ePrev := sat31 v, d := 0, i := 0, init := false }
      | none => { ePrev := 0, d := 0, i := 0, init := true }
    else x
  let err : Int := match e with
    | some v => sat31 v
    | none => x.ePrev
  let d : Int := match e with
    | some _ => roundHalfEven (x.d * 65536 + ((err - x.ePrev) * 65536 - x.d) * g.dfilt) 65536
    | none => x.d
  let lim : Int := g.ilim * 65536
  let i := clampI (-lim) lim x.i
  let p := g.kp * err
  let dt := roundHalfEven (g.kd * d) 65536
  let rest := p + dt + ff + g.offset * 65536
  let v := rest + i
  let inc := roundHalfEven (g.ki * err) 256
  let go := e.isSome && integrate && !(decide (g.umax * 65536 < v) && decide (0 < inc))
    && !(decide (v < g.umin * 65536) && decide (inc < 0))
  let i' := if go then clampI (-lim) lim (i + inc) else i
  let u := rest + i'
  { core := { ePrev := err, d := d, i := i', init := x.init }
    p := p, dTerm := dt, u := u
    cmd := clampI g.umin g.umax (roundHalfEven u 65536)
    sat := decide (g.umax * 65536 < u) || decide (u < g.umin * 65536)
    clipped := decide (i ≠ x.i) }

/-! ## Scanner axes -/

/-- The loop of axis `a` of channel `c`. -/
def State.ax (s : State) (c a : Nat) : AxLoop := tabGet {} s.loop.ax (3 * c + a)

/-- The state with that loop replaced. -/
def State.setAx (s : State) (c a : Nat) (x : AxLoop) : State :=
  { s with loop := { s.loop with ax := tabPut {} s.loop.ax (3 * c + a) x } }

/-- The bank that CTRL names for an axis (R294). -/
def State.axBank (s : State) (c a : Nat) : Nat :=
  if a = 0 then s.get (F.LOOP_CTRL_BANK_X c) else if a = 1 then s.get (F.LOOP_CTRL_BANK_Y c) else s.get (F.LOOP_CTRL_BANK_Z c)

/-- The coefficients of a bank (R313). -/
def State.axGains (s : State) (c a b : Nat) : Gains :=
  { kp := s.get (F.LOOP_BANK_KP c a b), ki := s.get (F.LOOP_BANK_KI c a b), kd := s.get (F.LOOP_BANK_KD c a b)
    dfilt := s.get (F.LOOP_BANK_DFILT c a b), offset := s.getI (F.LOOP_BANK_LIM_OFFSET c a b)
    ilim := s.get (F.LOOP_BANK_LIM_ILIM c a b), umin := s.getI (F.LOOP_BANK_CLAMP_UMIN c a b)
    umax := s.getI (F.LOOP_BANK_CLAMP_UMAX c a b) }

/-- The inbound frame of sample instant `k`, received directly or by mirror fill (R286). -/
def State.inbound (s : State) (c k : Nat) : Option InFrame :=
  match (s.link c).last with
  | some fr => if fr.k = k then some fr else none
  | none => none

/-- The position of an axis in an inbound frame, where the station marks it valid (R404, R405, R412). -/
def InFrame.position (fr : InFrame) (a : Nat) : Option Int :=
  if bitsOf fr.status (4 + a) 1 = 1 then none
  else some (if a = 0 then fr.x else if a = 1 then fr.y else fr.z)

/-- Setpoint and feed-forward of an axis in a frame sample (R239). -/
def Sample.axis (q : Sample) (a : Nat) : Int × Int × Int :=
  if a = 0 then (q.xSet, q.xVff, q.xAff) else if a = 1 then (q.ySet, q.yVff, q.yAff) else (q.zSet, q.zVff, q.zAff)

/-- The output of an axis forced to 0 (R297, R301). -/
def State.axZero (s : State) (c a : Nat) (x : AxLoop) : State :=
  let s := s.setAx c a x
  let s := ((s.put (F.LOOP_AX_STAT_SAT c a) 0).put (F.LOOP_AX_STAT_HELD c a) 0).put (F.LOOP_AX_STAT_DETUNED c a) 0
  ((s.put (F.LOOP_AX_STAT_ZERO c a) 1).put (F.LOOP_AX_OUT_CMD c a) 0).putI (F.LOOP_AX_INTEG c a) x.i

/-- The oscillation detector after an evaluation that was not held (R298): classes, crossings, and whether it trips. (DEDUCED, log entry 87.) -/
def oscillation (x : AxLoop) (f : Nat) (e : Int) (amp count win : Nat) : AxLoop × Bool :=
  let keep := x.crossings.filter (fun t => decide (f - t < win))
  let cls : Int := if (amp : Int) ≤ e then 1 else if e ≤ -(amp : Int) then -1 else x.cls
  let crossed := decide (cls ≠ 0 ∧ x.cls ≠ 0 ∧ cls ≠ x.cls)
  let list := (if crossed then f :: keep else keep).take 255
  if count ≠ 0 ∧ count ≤ list.length then ({ x with cls := 0, crossings := [] }, true)
  else ({ x with cls := cls, crossings := list }, false)

/-- One scanner axis evaluated for apply instant `f` (R286 to R292, R297 to R299, R301). In SAFE the feedback is invalid at the third
held evaluation in a row, and while the latest accepted status word marks the position invalid (R579); a zero-current period
ends with a valid evaluation. (DEDUCED, log entry 85.) -/
def State.axEval (s w : State) (c f : Nat) (q : Sample) (a : Nat) : State :=
  let st := s.chAt c f
  let x := s.ax c a
  let (set_, vff, aff) := q.axis a
  let moved := fun (x : AxLoop) (init : Bool) =>
    { x with ret2 := if init then set_ else x.ret1, ret1 := set_ }
  let fr := s.inbound c (f - 2)
  let pos := match fr with
    | some r => r.position a
    | none => none
  let marked : Bool := match (s.link c).last with
    | some r => (r.position a).isNone
    | none => false
  let fallback : Option Nat := if st = 5 ∧ (s.sq c).tripped then some (w.get (F.LOOP_CTRL_FALLBACK c)) else none
  if st = 6 ∨ fallback = some 0 then
    s.axZero c a (moved { x with i := 0, zero := false, satRun := 0, detuned := false } false)
  else if st = 5 ∧ pos.isNone ∧ (marked ∨ 2 ≤ x.heldRun ∨ x.zero) then
    let s := if x.zero then s else s.warn ⟨2, c⟩ 0x2013
    s.axZero c a (moved { x with i := 0, zero := true, init := true, heldRun := x.heldRun + 1, satRun := 0, detuned := false } false)
  else
    let b := w.axBank c a
    let x := if b = x.bank then x else { x with cls := 0, crossings := [], bank := b }
    let k := w.get (F.LOOP_CTRL_DETUNE_SHIFT c)
    let g := w.axGains c a b
    let detuned := fallback == some 1
    let g := if detuned then { g with kp := g.kp / 2 ^ k, ki := g.ki / 2 ^ k, kd := g.kd / 2 ^ k } else g
    let ff := if detuned then 0 else
      roundHalfEven (w.get (F.LOOP_BANK_KV c a b) * vff + 2 * w.get (F.LOOP_BANK_KA c a b) * aff) 2
    let starting := x.init && pos.isSome
    let r := if starting then set_ else x.ret2
    let x := if starting then { x with cls := 0, crossings := [] } else x
    let o := loopLaw ⟨x.ePrev, x.d, x.i, x.init⟩ g (pos.map (fun y => r - y)) ff (!detuned)
    let x := { x with
      ePrev := o.core.ePrev, d := o.core.d, i := o.core.i, init := o.core.init, zero := false, detuned := detuned
      held := pos.isNone, heldRun := if pos.isNone then x.heldRun + 1 else 0
      r := r, y := pos.getD x.y, p := o.p, dTerm := o.dTerm, ff := ff, u := o.u }
    let (x, osc) := if pos.isSome then
        oscillation x f o.core.ePrev (w.get (F.LOOP_OSC_AMP c)) (w.get (F.LOOP_OSC_COUNT c)) (w.get (F.LOOP_WIN_OSC_WIN c))
      else (x, false)
    let run := if o.sat then x.satRun + 1 else 0
    let frames := w.get (F.LOOP_WIN_SAT_FRAMES c)
    let sat := decide (frames ≠ 0 ∧ frames ≤ run)
    let x := { x with satRun := if sat then 0 else run, oscTrip := osc, satTrip := sat }
    let s := s.setAx c a (if starting then { moved x true with ret2 := set_ } else moved x false)
    let s := ((s.putB (F.LOOP_AX_STAT_SAT c a) o.sat).putB (F.LOOP_AX_STAT_HELD c a) pos.isNone).put (F.LOOP_AX_STAT_BANK c a) b
    let s := ((s.putB (F.LOOP_AX_STAT_DETUNED c a) detuned).put (F.LOOP_AX_STAT_ZERO c a) 0).put
      (F.LOOP_AX_STAT_CROSSINGS c a) (satN 255 x.crossings.length)
    let s := if o.clipped then s.mark (F.LOOP_AX_STAT_I_CLIPPED c a) else s
    let s := (s.putI (F.LOOP_AX_ERR c a) x.ePrev).putI (F.LOOP_AX_INTEG c a) x.i
    let s := s.putI (F.LOOP_AX_OUT_CMD c a) o.cmd
    let s := if osc || sat then { s with loop := { s.loop with tripSeen := true } } else s
    if o.sat then s.count (F.LOOP_AX_OUT_SAT_COUNT c a) else s

/-- A further trip under fallback 1 or 2 gives the channel up: 0x2012 marked as fault (R302). (DEDUCED, log entry 86.) -/
def State.fallbackTrip (s w : State) (c f : Nat) : State :=
  let hit := [0, 1, 2].any (fun a => (s.ax c a).oscTrip || (s.ax c a).satTrip)
  if hit && s.chAt c f == 5 && (s.sq c).tripped && w.get (F.LOOP_CTRL_FALLBACK c) != 0 then
    let s := forEach [0, 1, 2] (fun a s =>
      let x := s.ax c a
      let s := if x.oscTrip then s.mark (F.LOOP_AX_STAT_OSC_TRIP c a) else s
      let s := if x.satTrip then s.mark (F.LOOP_AX_STAT_SAT_TRIP c a) else s
      s.setAx c a { x with oscTrip := false, satTrip := false }) s
    { s with loop := { s.loop with tripSeen := true } }.raise 2 true ⟨2, c⟩ 0x2012
  else s

/-- The loops of a channel in OFFLINE: no evaluation is saturated, held or detuned (R297, R299, R301). -/
def State.loopsOff (s : State) (c : Nat) : State :=
  forEach [0, 1, 2] (fun a s =>
    let x := s.ax c a
    if x.satRun = 0 ∧ x.heldRun = 0 ∧ !x.zero ∧ !x.detuned then s
    else ((s.setAx c a { x with satRun := 0, heldRun := 0, zero := false, detuned := false }).put (F.LOOP_AX_STAT_DETUNED c a) 0).put
      (F.LOOP_AX_STAT_ZERO c a) 0) s

/-- The three scanner axes of channel `c` in the window of frame f - 2 (R282, R297). In HALT and BOOT no loop is evaluated for
output. -/
def State.loopChannel (s w : State) (c f : Nat) : State :=
  let st := s.chAt c f
  let d := s.devAt f
  if st = 0 then s.loopsOff c
  else match (s.sq c).samples.find? (fun (q : Sample) => q.f == f) with
    | none => s
    | some q =>
      if d = 0 ∨ d = 5 then
        forEach [0, 1, 2] (fun a s =>
          let x := s.ax c a
          s.axZero c a { x with ret2 := x.ret1, ret1 := (q.axis a).1, satRun := 0, detuned := false }) s
      else
        (forEach [0, 1, 2] (fun a s => s.axEval w c f q a) s).fallbackTrip w c f

/-! ## Supervision trips (R300, R301) -/

/-- A trip found in the evaluation for apply instant `f`: the trip bits are set on the axes, one error is raised for the channel, and
it enters SAFE at f + 1. In SAFE by another cause the channel counts as tripped from then on. -/
def State.supervisionTrip (s : State) (c : Nat) (osc : Bool) : State :=
  let anyOsc := [0, 1, 2].any (fun a => (s.ax c a).oscTrip)
  let anySat := [0, 1, 2].any (fun a => (s.ax c a).satTrip)
  if !(if osc then anyOsc else anySat && !anyOsc) then s
  else
    let s := forEach [0, 1, 2] (fun a s =>
      let x := s.ax c a
      let s := if x.oscTrip then s.mark (F.LOOP_AX_STAT_OSC_TRIP c a) else s
      let s := if x.satTrip then s.mark (F.LOOP_AX_STAT_SAT_TRIP c a) else s
      s.setAx c a { x with oscTrip := false, satTrip := false }) s
    let detail := if anyOsc then 0x2010 else 0x2011
    let f := (s.sq c).built
    let s := s.raise 2 false ⟨2, c⟩ detail
    if s.chAt c f = 5 then s.setSq c { s.sq c with tripped := true }
    else s.addChTrigger c { at_ := f + 1, target := 5, cause := detail, trip := true }

end Sys2Proof.Machine
end

