-- ==== Sys2Proof/Machine/Fbk.lean ====
section
/-!
DEFINITION. Sys2Proof/Machine/Fbk.lean: feedback of the machine axes (spec/12 R426 to R442): quadrature, hall and serial counting,
index, probe and home latches, speed, and the feedback sample.
-/
namespace Sys2Proof.Machine

/-! ## Episodes (R429, R579) -/

/-- The key of an episode. -/
def episodeKey (x : Subject) (detail : Nat) : Nat := x.key * 65536 + detail

/-- An episode of an event is open now: its latest occurrence lies less than 1,000 µs back (R429). -/
def State.episodeOpen (s : State) (x : Subject) (detail : Nat) : Bool :=
  s.err.episodes.any (fun e => e.1 == episodeKey x detail && decide (s.ns < e.2 + 1000000))

/-- An occurrence of an event that is raised once per episode, as class `cls` (R429). -/
def State.episode (s : State) (cls : Nat) (x : Subject) (detail : Nat) (args : List Int := []) : State :=
  let fresh := !s.episodeOpen x detail
  let e := s.err.episodes.filter (fun e => e.1 != episodeKey x detail)
  let s := { s with err := { s.err with episodes := tabInsert (episodeKey x detail) s.ns e } }
  if fresh then s.raise cls false x detail args else s

/-- The episodes whose last occurrence lies 1,000 µs back have ended (R429). -/
def State.endEpisodes (s : State) : State :=
  { s with err := { s.err with episodes := s.err.episodes.filter (fun e => decide (s.ns < e.2 + 1000000)) } }

/-! ## Access -/

/-- FBK's part of axis `a`. -/
def State.fb (s : State) (a : Nat) : FbkCh := tabGet {} s.axis.fbk a

/-- The state with FBK's part of axis `a` replaced. -/
def State.setFb (s : State) (a : Nat) (x : FbkCh) : State := { s with axis := { s.axis with fbk := tabPut {} s.axis.fbk a x } }

/-- AXIS's part of axis `a`. -/
def State.mx (s : State) (a : Nat) : MaAxis := tabGet {} s.axis.ax a

/-- The state with AXIS's part of axis `a` replaced. -/
def State.setMx (s : State) (a : Nat) (x : MaAxis) : State := { s with axis := { s.axis with ax := tabPut {} s.axis.ax a x } }

/-- The loop of machine axis `a`. -/
def State.ma (s : State) (a : Nat) : MaLoop := tabGet {} s.loop.ma a

/-- The state with the loop of machine axis `a` replaced. -/
def State.setMa (s : State) (a : Nat) (x : MaLoop) : State := { s with loop := { s.loop with ma := tabPut {} s.loop.ma a x } }

/-- The machine axis as a subject (R580). -/
def axisSubject (a : Nat) : Subject := ⟨3, a⟩

/-! ## Counting (R430 to R434, R440, R441) -/

/-- The sense of a change from one pair of quadrature levels to another (R430): 1, -1, or 0 where both lines changed or neither. -/
def quadSense (a b a' b' : Bool) : Int :=
  let place := fun (x y : Bool) => if x then (if y then 2 else 1) else (if y then 3 else 0)
  let d := (place a' b' + 4 - place a b) % 4
  if d = 1 then 1 else if d = 3 then -1 else 0

/-- The place of a valid hall state in the order 1, 3, 2, 6, 4, 5 (R434). -/
def hallPlace (h : Nat) : Nat := match h with
  | 1 => 0 | 3 => 1 | 2 => 2 | 6 => 3 | 4 => 4 | _ => 5

/-- The sense of a change between two valid hall states: 1, -1, or 0 where they are not adjacent (R434). -/
def hallSense (h h' : Nat) : Int :=
  let d := (hallPlace h' + 6 - hallPlace h) % 6
  if d = 1 then 1 else if d = 5 then -1 else 0

/-- SPEED of a period in ns: ±10⁹ / period, saturating at ±(2³¹ − 1) (R440). (DEDUCED, log entry 125.) -/
def speedOf (sense : Int) (period : Nat) : Int :=
  sense * (if period = 0 then 2 ^ 31 - 1 else satN (2 ^ 31 - 1) (1000000000 / period) : Nat)

/-- The counter of axis `a` moved by `n`, with wrap (R439). -/
def State.addPos (s : State) (a : Nat) (n : Int) : State := s.putI (F.FBK_POS a) (s.get (F.FBK_POS a) + n)

/-- One counted change in direction `d` before INV (R430, R434), with the speed it gives (R440) and its reversal (R441). -/
def State.countEdge (s : State) (a : Nat) (d : Int) : State :=
  let d := if s.has (F.FBK_FCFG_INV a) then -d else d
  let x := s.fb a
  let period := match x.lastEdge with
    | some t => s.ns - t
    | none => 0
  let s := s.addPos a d
  let s := if x.lastEdge.isSome then s.putI (F.FBK_SPEED a) (speedOf d period) else s
  let s := s.put (F.FBK_FSTAT_STILL a) 0
  s.setFb a { x with
    lastEdge := some s.ns
    period := period
    sense := d
    reversed := x.reversed || decide (x.sense ≠ 0 ∧ x.sense ≠ d) }

/-- The levels word of axis `a` (FSTAT.LEVELS, R460). -/
def State.showLevels (s : State) (a : Nat) : State :=
  let x := s.fb a
  let bit := fun (b : Bool) (n : Nat) => if b then n else 0
  s.put (F.FBK_FSTAT_LEVELS a)
    (bit x.a 1 + bit x.b 2 + bit x.idx 4 + bit x.sLimp 8 + bit x.sLimn 16 + bit x.sHome 32 + bit x.probe 64)

/-- Accepted changes of A and B in one TIME clock (R430, R431). -/
def State.quadChange (s : State) (a : Nat) (la lb : Bool) : State :=
  let x := s.fb a
  let s := s.setFb a { x with a := la, b := lb }
  let s :=
    if s.get (F.FBK_FCFG_SRC a) ≠ 1 then s
    else if x.a ≠ la ∧ x.b ≠ lb then (s.count (F.FBK_ERR_A_QERR a)).episode 1 (axisSubject a) 0x3901
    else
      let d := quadSense x.a x.b la lb
      if d = 0 then s else s.countEdge a d
  s.showLevels a

/-- An accepted change of the hall state (R434). -/
def State.hallChange (s : State) (a h : Nat) : State :=
  let x := s.fb a
  if s.get (F.FBK_FCFG_SRC a) ≠ 2 then s
  else
    let s := s.put (F.FBK_FSTAT_HALL a) h
    if h = 0 ∨ h = 7 then
      ((s.put (F.FBK_FSTAT_HALL_BAD a) 1).count (F.FBK_ERR_A_HALL_ERR a)).episode 1 (axisSubject a) 0x3902
    else
      let s := s.put (F.FBK_FSTAT_HALL_BAD a) 0
      let s := s.setFb a { x with hall := h }
      if x.hall = 0 ∨ x.hall = h then s
      else
        let d := hallSense x.hall h
        if d ≠ 0 then s.countEdge a d
        else (s.count (F.FBK_ERR_A_HALL_ERR a)).episode 1 (axisSubject a) 0x3903

/-- dev of R433: the offset of an index from its expected place; two positions are compared by DIFF32 (R439). -/
def indexDev (c ref period : Nat) : Int :=
  if period = 0 then 0
  else
    let m := diff32 c ref % (period : Int)
    if 2 * m < period then m else m - period

/-- The counter before a correction by IDX_FIX of this TIME clock, which acts from the next one on (R433). -/
def State.unfixed (s : State) (a : Nat) : Nat :=
  match (s.fb a).fix with
  | some (t, d) => if t = s.ns then fieldOf 32 ((s.get (F.FBK_POS a) : Int) + d) else s.get (F.FBK_POS a)
  | none => s.get (F.FBK_POS a)

/-- The counter value before any count of this TIME clock (R432, R442), whichever of the two was told first. -/
def State.posBefore (s : State) (a : Nat) : Nat :=
  let x := s.fb a
  if x.lastEdge = some s.ns then fieldOf 32 ((s.unfixed a : Int) - x.sense) else s.unfixed a

/-- The filtered IDX rises (R432, R433). (DESIGN CHOICE, log entry 235.) -/
def State.indexEvent (s : State) (a : Nat) : State :=
  let x := s.fb a
  let s := s.setFb a { x with idx := true }
  let s := s.showLevels a
  if s.has (F.FBK_FCFG_IDX_QUAL_EN a) && (x.a != s.has (F.FBK_FCFG_IDX_QA a) || x.b != s.has (F.FBK_FCFG_IDX_QB a)) then s
  else
    let c := s.posBefore a
    let s := (s.put (F.FBK_IDX_POS a) c).setFb a { s.fb a with index := some c, indexAt := s.ns }
    let per := s.get (F.FBK_IDX_PERIOD a)
    let dev := indexDev c (s.get (F.FBK_IDX_REF a)) per
    if per = 0 ∨ dev.natAbs ≤ s.get (F.FBK_IDX_TOL a) then s
    else
      let s := ((s.putI (F.FBK_IDX_DEV a) dev).mark (F.FBK_FSTAT_IDX_BAD a)).count (F.FBK_ERR_B_IDX_UNEXP a)
      let s := s.episode 1 (axisSubject a) 0x3904 [dev]
      if s.has (F.FBK_FCFG_IDX_FIX a) then
        (((s.addPos a (-dev)).setFb a { s.fb a with fix := some (s.ns, dev) }).mark (F.FBK_FSTAT_IDX_FIXED a)).info (axisSubject a) 0x3905 [dev]
      else s

/-! ## Probe and home (R442) -/

/-- An accepted edge of AX_PROBE to `level`: the first that matches after arming latches, later ones set PROBE_OVR. (DEDUCED, log entries 215, 236.) -/
def State.probeEdge (s : State) (a : Nat) (level : Bool) : State :=
  let x := s.fb a
  let s := (s.setFb a { x with probe := level }).showLevels a
  let e := s.get (F.FBK_FCFG_PROBE_EDGE a)
  let fits := if level then e == 1 || e == 3 else e == 2 || e == 3
  let armed := match x.armAt with
    | some f => decide (f ≤ s.us)
    | none => false
  if !fits then s
  else if armed then
    let c := s.posBefore a
    let s := (((s.put (F.FBK_PROBE_POS a) c).put64 (F.FBK_PROBE_T_LO a) (F.FBK_PROBE_T_HI a) s.ns).mark
      (F.FBK_FSTAT_PROBE_HIT a)).put (F.FBK_FSTAT_PROBE_ARMED a) 0
    s.setFb a { s.fb a with armAt := none, probeHit := true, hitSinceArm := true, probeAt := some (c, s.ns) }
  else if x.hitSinceArm then s.mark (F.FBK_FSTAT_PROBE_OVR a)
  else s

/-- An accepted edge of AX_HOME to `level`: latched, the latest of them travels in the sample. -/
def State.homeEdgeAt (s : State) (a : Nat) (level : Bool) : State :=
  let x := s.fb a
  s.setFb a { x with home := level, homeEdge := some (s.posBefore a, s.ns, level) }

/-! ## Serial sensors (R435 to R438) -/

/-- The bits of a field, most significant first. -/
def bitsMsb (w v : Nat) : List Bool := (List.range w).map (fun i => v / 2 ^ (w - 1 - i) % 2 == 1)

/-- The CRC-6 of BiSS-C over bits, polynomial x⁶ + x + 1, sent inverted (R435). -/
def crc6 (bs : List Bool) : Nat :=
  let r := bs.foldl (fun (c : Nat) b =>
    let top := (c / 32 % 2 == 1) != b
    let c := c * 2 % 64
    if top then c ^^^ 3 else c) 0
  r ^^^ 63

/-- The number that a Gray code word spells (R435). -/
def grayToBinary (w v : Nat) : Nat :=
  ((bitsMsb w v).foldl (fun (st : Nat × Bool) b => let x := st.2 != b; (st.1 * 2 + (if x then 1 else 0), x)) (0, false)).1

/-- The frame in progress is missing, and the next start is skipped (R438). -/
def State.serialMissing (s : State) (a : Nat) : State :=
  let x := s.fb a
  if x.busy.isNone then s
  else
    let s := s.setFb a { x with busy := none, skip := true, missing := x.missing + 1 }
    ((s.count (F.FBK_ERR_B_SER_ERR a)).put (F.FBK_FSTAT_SER_FAIL a) 1).episode 1 (axisSubject a) 0x3907

/-- Whether microsecond `t` starts a serial frame of axis `a` (R436). -/
def State.serialDue (s : State) (a t : Nat) : Bool :=
  s.get (F.FBK_FCFG_SRC a) == 3 && t % s.get (F.FBK_SER_SCHED_PERIOD_US a) == s.get (F.FBK_SER_SCHED_PHASE a)

/-- A scheduled start (R436, R438, R445). -/
def State.serialStart (s : State) (a t : Nat) : State :=
  if !s.serialDue a t then s
  else
    let s := if (s.fb a).busy.isSome then s.serialMissing a else s
    let x := s.fb a
    if x.skip then s.setFb a { x with skip := false }
    else
      let s := s.setFb a { x with busy := some t }
      if s.drivesOutputs then
        s.emit (.signal "AX_MA" [a, t, s.get (F.FBK_SER_CFG_PROTO a), s.get (F.FBK_SER_CFG_BITS a), s.get (F.FBK_SER_CFG_CLK_DIV a),
          s.get (F.FBK_SER_CFG_TIMEOUT_US a)])
      else s

/-- Whether a frame's check holds: for BiSS-C the CRC-6 over position, nE and nW, and nE = 1; an SSI frame has none (R435, R438). -/
def State.serialOk (s : State) (a code : Nat) (nE nW : Bool) (crc : Nat) : Bool :=
  s.get (F.FBK_SER_CFG_PROTO a) != 0
    || (nE && crc == crc6 (bitsMsb (s.get (F.FBK_SER_CFG_BITS a)) code ++ [nE, nW]))

/-- The frame in progress completes with the position field `code` (R436 to R438). -/
def State.serialComplete (s : State) (a code : Nat) (nE nW : Bool) (crc : Nat) : State :=
  let x := s.fb a
  match x.busy with
  | none => s
  | some t =>
    if s.get (F.FBK_FCFG_SRC a) ≠ 3 then s.setFb a { x with busy := none }
    else if !s.serialOk a code nE nW crc then s.serialMissing a
    else
      let n := s.get (F.FBK_SER_CFG_BITS a)
      let v := if s.get (F.FBK_SER_CFG_PROTO a) = 2 then grayToBinary n code else code % 2 ^ n
      let s := s.put (F.FBK_FSTAT_SER_FAIL a) 0
      let y := { x with busy := none, missing := 0, reading := some (v, t), fresh := true }
      match x.reading with
      | none => (s.putI (F.FBK_POS a) (v + x.offset)).setFb a y
      | some (v0, t0) =>
        let d := signedOf n (fieldOf n ((v : Int) - v0))
        let s := (s.addPos a d).setFb a y
        s.putI (F.FBK_SPEED a) (clampI (-(2 ^ 31 - 1)) (2 ^ 31 - 1) (Int.tdiv (d * 1000000) (if t ≤ t0 then 1 else t - t0)))

/-! ## The sample (R426, R428, R440) -/

/-- A level in samples: it changes when `n` consecutive samples have shown the new one (R428). (DEDUCED, log entry 118.) -/
def limitFilter (n : Nat) (level shown : Bool) (run : Nat) : Bool × Nat :=
  if level = shown then (shown, 0) else if n ≤ run + 1 then (level, 0) else (shown, run + 1)

/-- No change has been counted for STILL_US (R440). -/
def State.stillCheck (s : State) (a : Nat) : State :=
  let src := s.get (F.FBK_FCFG_SRC a)
  if src ≠ 1 ∧ src ≠ 2 then s
  else
    match (s.fb a).lastEdge with
    | none => s
    | some t =>
      if t + s.get (F.FBK_STILL_US a) * 1000 ≤ s.ns then
        (s.put (F.FBK_SPEED a) 0).put (F.FBK_FSTAT_STILL a) 1
      else if (s.fb a).period < s.ns - t ∧ (s.fb a).period ≠ 0 then s.putI (F.FBK_SPEED a) (speedOf (s.fb a).sense (s.ns - t))
      else s

/-- A change of SRC starts the feedback of the axis anew and clears HOMED (R437, R457). -/
def State.sourceCheck (s : State) (a : Nat) : State :=
  let x := s.fb a
  let src := s.get (F.FBK_FCFG_SRC a)
  if x.src = src then s
  else
    let s := s.setFb a { x with src := src, reading := none, busy := none, skip := false, missing := 0, lastEdge := none, period := 0, sense := 0, hall := 0 }
    let y := s.mx a
    (s.setMx a { y with homed := false, frames := y.frames.map (fun (g : AxFrame) => { g with homed := false }) }).put (F.AXIS_ASTAT_HOMED a) 0

/-- A position change that homing or AXIS_SET_POS decided reaches the counter, or the serial offset (R437, R457). -/
def State.shiftPos (s : State) (a t : Nat) : State :=
  let x := s.fb a
  let due := (x.shifts.filter (fun e => decide (e.1 ≤ t))).map (fun e => e.2)
  let d := due.foldl (fun m e => m + e) (0 : Int)
  if due.isEmpty then s
  else (s.addPos a d).setFb a { x with
    shifts := x.shifts.filter (fun e => !decide (e.1 ≤ t))
    offset := if s.get (F.FBK_FCFG_SRC a) = 3 then x.offset + d else x.offset }

/-- The device's own sample of axis `a` at boundary `t` (R426): `lim` gives the accepted levels of LIMP and LIMN where they are known
to have changed. -/
def State.ownSample (s : State) (a t : Nat) (lim : Option (Bool × Bool)) : State × FbkSample :=
  let s := (((s.sourceCheck a).shiftPos a t).stillCheck a)
  let x := s.fb a
  let x := match lim with
    | some (p, n) => { x with limp := p, limn := n }
    | none => x
  let n := s.get (F.FBK_FCFG_LIM_FILT a)
  let (lp, rp) := limitFilter n x.limp x.sLimp x.runLimp
  let (ln, rn) := limitFilter n x.limn x.sLimn x.runLimn
  let (lh, rh) := limitFilter n x.home x.sHome x.runHome
  let smp : FbkSample :=
    { pos := s.unfixed a, fresh := x.fresh, limp := lp, limn := ln, home := lh
      homeEdge := x.homeEdge, index := x.index, probe := x.probeHit
      speed := s.getI (F.FBK_SPEED a), hall := s.get (F.FBK_FSTAT_HALL a), idx := x.idx, probeLevel := x.probe
      indexAt := if x.index.isSome then x.indexAt else 0, probeAt := if x.probeHit then x.probeAt else none
      reading := if x.fresh then x.reading.map (fun r => r.1) else none }
  let s := s.put (F.FBK_FSTAT_SPD_REV a) (if x.reversed then 1 else 0)
  let s := s.setFb a { x with
    sLimp := lp, sLimn := ln, sHome := lh, runLimp := rp, runLimn := rn, runHome := rh
    reversed := false, index := none, probeHit := false, homeEdge := none, fresh := false }
  let s := match (s.fb a).armAt with
    | some f => if f ≤ t then s.put (F.FBK_FSTAT_PROBE_ARMED a) 1 else s
    | none => s
  (s.showLevels a, smp)

/-- What a sample holds, in the order of R426, as a keeper sends it (R427). -/
def FbkSample.words (q : FbkSample) : List Int :=
  let bit := fun (b : Bool) => if b then (1 : Int) else 0
  let opt := fun (o : Option Nat) => match o with
    | some n => [1, (n : Int)]
    | none => [0]
  [(q.pos : Int), q.speed, (q.hall : Int), bit q.limp, bit q.limn, bit q.home, bit q.probeLevel, bit q.idx]
    ++ opt q.index ++ (if q.index.isSome then [(q.indexAt : Int)] else [])
    ++ (match q.probeAt with
      | some (c, t) => [1, (c : Int), (t : Int)]
      | none => [bit q.probe])
    ++ (match q.homeEdge with
      | some (c, t, l) => [1, (c : Int), (t : Int), bit l]
      | none => [0])
    ++ [bit q.fresh] ++ opt q.reading

/-- A sample joins those that decisions use; a position change decided for a later instant counts for it too, so that the loop sees no
change of error (R457). -/
def State.keepSample (s : State) (a t : Nat) (smp : FbkSample) : State :=
  let x := s.fb a
  let d := (x.shifts.filter (fun e => decide (t < e.1))).foldl (fun m e => m + e.2) (0 : Int)
  let smp := { smp with pos := fieldOf 32 (smp.pos + d) }
  s.setFb a { x with 
    samples := ((t, smp) :: x.samples.filter (fun e => e.1 != t)).take 4
    freshAt := ((if smp.fresh then [t] else []) ++ x.freshAt.filter (fun u => u != t)).take 2 }

/-- A position change by `d` is decided for apply instant `f` (R457): the counter takes it at the sample of f, and the retained samples
are read as if it had been there. -/
def FbkCh.shifted (x : FbkCh) (f : Nat) (d : Int) : FbkCh :=
  { x with
    shifts := x.shifts ++ [(f, d)]
    samples := x.samples.map (fun e => (e.1, { e.2 with pos := fieldOf 32 (e.2.pos + d) })) }

/-- The sample on which the decision for apply instant `f` is made: that of f - 2, else the latest one without its events (R426). -/
def FbkCh.sampleFor (x : FbkCh) (f : Nat) : FbkSample :=
  match x.samples.find? (fun e => e.1 + 2 == f) with
  | some e => e.2
  | none => match x.samples with
    | e :: _ => { e.2 with fresh := false, homeEdge := none, index := none, probe := false, probeAt := none, reading := none }
    | [] => {}

end Sys2Proof.Machine
end

