-- ==== Sys2Proof/Machine/Axis.lean ====
section
/-!
DEFINITION. Sys2Proof/Machine/Axis.lean: the machine axes (spec/12 R443 to R459): the move generator, moves and their queue, limits,
ramps, homing, step output, the axis opcodes, and the machine axis loops (spec/08 R303 to R306).
-/
namespace Sys2Proof.Machine

/-! ## The generator (R448) -/

/-- 2³⁶: the fraction of positions, velocities and accelerations (R448). -/
def q36 : Int := 2 ^ 36

/-- STOPDIST of R448. -/
def stopDist (w d : Int) : Int :=
  let k := if d = 0 then 0 else (w + d - 1) / d
  (k - 1) * w - d * ((k - 1) * k / 2)

/-- The largest x of [lo, hi] with x + STOPDIST(x, D) ≤ rem, or lo if none, by halving the interval. -/
def genSearch (d rem : Int) : Nat → Int → Int → Int
  | 0, lo, _ => lo
  | n + 1, lo, hi =>
    if hi ≤ lo then lo
    else
      let m := (lo + hi + 1) / 2
      if m + stopDist m d ≤ rem then genSearch d rem n m hi else genSearch d rem n lo (m - 1)

/-- One step of GEN of R448 for the remaining travel `rem`: the new velocity. -/
def genStep (v rem a d vmax : Int) : Int :=
  let s : Int := if 0 < rem then 1 else if rem < 0 then -1 else if 0 < v then 1 else if v < 0 then -1 else 0
  let w := s * v
  if w < 0 then s * (if w + d < 0 then w + d else 0)
  else
    let low := if w - d < 0 then 0 else w - d
    let top := if vmax < w - d then w - d else vmax
    let hi := if w + a < top then w + a else top
    s * genSearch d rem.natAbs 80 low hi

/-- One step of a ramp to rest (R450). -/
def rampStep (v d : Int) : Int :=
  if 0 ≤ v then (if v < d then 0 else v - d) else (if -v < d then 0 else v + d)

/-- One step towards direction `dir` at speed `vmax`, without a target (R454). -/
def cruiseStep (v dir a d vmax : Int) : Int :=
  let w := dir * v
  if w < 0 then dir * (if w + d < 0 then w + d else 0)
  else
    let top := if vmax < w - d then w - d else vmax
    dir * (if w + a < top then w + a else top)

/-- The loop of axis `a` is closed (R303). -/
def State.axClosed (w : State) (a : Nat) : Bool := w.has (F.AXIS_LCTRL_CLOSED a)

/-- The velocity limit of a motion: its own, VCAP, and on an open-loop axis the step limit of R444; and whether it was clamped. -/
def State.axVelocity (w : State) (a vmax : Nat) : Int × Bool :=
  let m : Int := vmax * 4096
  let cap : Int := w.get (F.AXIS_VCAP a) * 4096
  let sw : Int := w.get (F.AXIS_ACFG_STEP_W a)
  let step : Int := if 125 * q36 < 4 * q36 * sw then 125 * q36 / sw else 4 * q36
  let lim := if w.axClosed a then cap else if step < cap then step else cap
  if lim < m then (lim, true) else (m, false)

/-- The deceleration in force: within a ramp the larger of the old and the new one, which is then kept (R450). -/
def MaAxis.decel (x : MaAxis) (d : Nat) : Nat × Bool :=
  match x.ramp with
  | some r => if d < r then (r, true) else (d, false)
  | none => (d, false)

/-- Motion by the velocity `v'` (R448), with the ramp bookkeeping of R450: DECEL_KEPT once a ramp that kept the larger deceleration
ends. -/
def State.axStep (s : State) (a : Nat) (v' : Int) (d : Nat) (kept : Bool) : State :=
  let x := s.mx a
  let slower := decide (v'.natAbs < x.v.natAbs)
  let kept := x.kept || kept
  let ended := !slower || decide (v' = 0)
  let s := s.setMx a { x with p := x.p + v', v := v', ramp := if ended then none else some d, kept := if ended then false else kept }
  if ended && kept then (s.mark (F.AXIS_ASTAT_DECEL_KEPT a)).info (axisSubject a) 0x3813 else s

/-! ## Transitions (R447) -/

/-- The axis comes to rest at once in state `st` with the low byte of a detail as its cause. -/
def MaAxis.rest (x : MaAxis) (st cause : Nat) : MaAxis :=
  { x with state := st, phase := 0, cause := cause, v := 0, active := false, probed := false, ramp := none, kept := false
           byStop := false, byLimit := false, byHome := false }

/-- The queue is flushed, and FLUSHED counts the moves (R451, R452, R461). -/
def State.axFlush (s : State) (a : Nat) : State :=
  let x := s.mx a
  let s := s.count (F.AXIS_EVENTS_FLUSHED a) x.queue.length
  s.setMx a { x with queue := [] }

/-- The axis comes to rest at once: a ramp that kept the larger deceleration ends there (R450). -/
def State.endRamp (s : State) (a : Nat) : State :=
  let x := s.mx a
  if x.kept then ((s.setMx a { x with kept := false, ramp := none }).mark (F.AXIS_ASTAT_DECEL_KEPT a)).info (axisSubject a) 0x3813 else s

/-- The axis enters FAULT from apply instant `f`: the generator stops, the queue is flushed, CMD := 0 and I := 0 (R306, R438, R453). What
was decided for the instants before it stands. -/
def State.axFault (s : State) (a f cause : Nat) : State :=
  let s := (s.axFlush a).endRamp a
  let x := s.mx a
  if x.state = 0 then s
  else
    let s := s.setMx a { x.rest 5 cause with
      homed := if x.phase = 0 then x.homed else false
      cmds := ((f, (0 : Int)) :: x.cmds.filter (fun e => decide (e.1 < f))).take 4
      frames := x.frames.map (fun (g : AxFrame) => if g.f < f then g else
        { g with state := 5, phase := 0, cause := cause, v := 0, queue := 0, homed := if x.phase = 0 then g.homed else false }) }
    let s := s.setMa a { s.ma a with stopped := true, i := 0, cmd := 0 }
    (s.put (F.AXIS_LCMD a) 0).put (F.AXIS_LINTEG a) 0

/-- Start a ramp to rest for one more cause; homing ends as failed (R447, R452, R456). -/
def MaAxis.ramping (x : MaAxis) (cause : Nat) : MaAxis :=
  { x with
    state := 3, cause := cause, active := false, probed := false
    homed := if x.phase = 0 then x.homed else false
    phase := 0 }

/-- The loop of the axis is initialized (R288, R447, R453). -/
def State.initMa (s : State) (a : Nat) : State := s.setMa a { s.ma a with init := true, stopped := false, feTrip := false }

/-- The position from which an axis starts when it is enabled or cleared, in counts (R447, R453). -/
def State.measured (s : State) (a f : Nat) : Int := signedOf 32 ((s.fb a).sampleFor f).pos

/-- A commit of ACFG.ENABLE acts at `f` (R447): `w` holds the words in force at f. -/
def State.axEnable (s w : State) (a f : Nat) : State :=
  let x := s.mx a
  let on := w.has (F.AXIS_ACFG_ENABLE a)
  if on && x.state == 0 then
    let p := s.measured a f * q36
    (s.setMx a { x.rest 1 0 with cmds := [], p := p, q := if w.axClosed a then x.q else p, lastTarget := none }).initMa a
  else if !on && x.state != 0 then
    let s := (s.axFlush a).endRamp a
    let y := s.mx a
    s.setMx a { y.rest 0 0 with homed := if y.phase = 0 then y.homed else false }
  else s

/-! ## Limits (R451, R456) -/

/-- The limits that a sample shows asserted, LIMP and LIMN, in force (R451). -/
def State.limits_ (w : State) (a : Nat) (q : FbkSample) : Bool × Bool :=
  if w.has (F.AXIS_ACFG_LIM_EN a) then
    (q.limp != w.has (F.AXIS_ACFG_LIMP_POL a), q.limn != w.has (F.AXIS_ACFG_LIMN_POL a))
  else (false, false)

/-- A limit stop: flags, flush and the error 0x3810 (R451). -/
def State.limitStop (s w : State) (a : Nat) (pos neg : Bool) : State :=
  let s := s.axFlush a
  let s := if pos then s.mark (F.AXIS_ASTAT_LIMP_HIT a) else s
  let s := if neg then s.mark (F.AXIS_ASTAT_LIMN_HIT a) else s
  let s := s.raise 2 false (axisSubject a) 0x3810
  let x := s.mx a
  if w.has (F.AXIS_ACFG_LIM_HARD a) ∨ x.v = 0 then
    let s := s.endRamp a
    s.setMx a ((s.mx a).rest 1 0x10)
  else s.setMx a { x.ramping 0x10 with byLimit := true }

/-- The home input of R454: AX_HOME with HOME_POL, or the limit on the side of HOME_DIR. (DEDUCED, log entry 119.) -/
def State.homeInput (w : State) (a : Nat) (q : FbkSample) : Bool :=
  if w.has (F.AXIS_HOME_CFG_SRC_LIM a) then
    (if w.has (F.AXIS_HOME_CFG_DIR a) then q.limp != w.has (F.AXIS_ACFG_LIMP_POL a) else q.limn != w.has (F.AXIS_ACFG_LIMN_POL a))
  else q.home != w.has (F.AXIS_ACFG_HOME_POL a)

/-- The limits of a sample act on a moving axis (R451, R456). -/
def State.axLimits (s w : State) (a : Nat) (q : FbkSample) : State :=
  let x := s.mx a
  let (lp, ln) := w.limits_ a q
  let dir := if x.v ≠ 0 then x.v else x.target * q36 - x.p
  let home := x.state == 4
  let src := home && w.has (F.AXIS_HOME_CFG_SRC_LIM a)
  let up := w.has (F.AXIS_HOME_CFG_DIR a)
  let hitP := lp && decide (0 < (if home then x.v else dir)) && !(src && up)
  let hitN := ln && decide ((if home then x.v else dir) < 0) && !(src && !up)
  if !(hitP || hitN) then s
  else if x.state = 2 ∧ x.active then s.limitStop w a hitP hitN
  else if x.state = 3 ∧ !x.byLimit then s.limitStop w a hitP hitN
  else if home then
    let s := (s.raise 2 false (axisSubject a) 0x3811).mark (F.AXIS_ASTAT_HOME_FAULT a)
    s.setMx a { x.ramping 0x11 with byLimit := true }
  else s

/-! ## Moves (R449) -/

/-- The slip of a tied move at apply instant `f` (R233, R449). -/
def State.tieSlip (s : State) (m : Move) (f : Nat) : Int :=
  if m.tied then s.slipAt m.tie f else 0

/-- A move starts at `f`, or blends into the active one (R449). -/
def State.moveBegin (s : State) (a f : Nat) (m : Move) : State :=
  let x := s.mx a
  let prev := match x.lastTarget with
    | some t => t
    | none => roundHalfEven x.p (2 ^ 36)
  let t := if m.relative then prev + signedOf 32 m.target else prev + diff32 m.target prev
  let s := s.setMx a { x with
    queue := x.queue.drop 1, state := 2, cause := if x.state = 2 then x.cause else 0
    active := true, probed := false, probeStop := m.probeStop
    target := t, lastTarget := some t, vm := m.vmax, am := m.acc, dm := m.dec }
  if dueAt m.launch (s.tieSlip m (f - 1)) ((f : Int) * 1000 - 1000) then
    ((s.count (F.AXIS_EVENTS_LATE_STARTS a)).mark (F.AXIS_ASTAT_LATE a)).episode 1 (axisSubject a) 0x3814
  else s

/-- The move at the front of the queue starts when it is due and nothing stands before it; towards an asserted limit it stops the
axis instead (R449, R451). -/
def State.moveStart (s w : State) (a f : Nat) (q : FbkSample) : State :=
  let x := s.mx a
  match x.queue with
  | [] => s
  | m :: _ =>
    if !dueAt m.launch (s.tieSlip m f) ((f : Int) * 1000) then s
    else if x.active && !m.blend then s
    else
      let s' := s.moveBegin a f m
      let y := s'.mx a
      let (lp, ln) := w.limits_ a q
      let d := y.target * q36 - y.p
      if (lp && ln) || (lp && decide (0 < d)) || (ln && decide (d < 0)) then s.limitStop w a lp ln
      else s'

/-- GEN for a MOVING axis (R448): moves start, end and follow one another. `n` bounds the moves that end within one instant. (DEDUCED, log entry 121.) -/
def State.axMoving (s w : State) (a f : Nat) (q : FbkSample) : Nat → State
  | 0 => s
  | n + 1 =>
    let s := s.moveStart w a f q
    let x := s.mx a
    if x.state ≠ 2 then s
    else if !x.active then (if x.queue.isEmpty then s.setMx a { x.rest 1 0 with lastTarget := x.lastTarget } else s)
    else
      let probed := x.probed || (x.probeStop && q.probe)
      let rem := x.target * q36 - x.p
      if (rem = 0 ∨ probed) ∧ x.v = 0 then
        (s.setMx a { x with active := false, probed := false }).axMoving w a f { q with probe := false } n
      else
        let (d, kept) := x.decel x.dm
        let s := s.setMx a { x with probed := probed }
        if probed then s.axStep a (rampStep x.v d) d kept
        else
          let (v, clamped) := w.axVelocity a x.vm
          (if clamped then s.mark (F.AXIS_ASTAT_VCLAMP a) else s).axStep a (genStep x.v rem x.am d v) d kept

/-- The deceleration of a STOPPING axis: the largest among its causes (R447, R450). -/
def State.stopDecel (w : State) (a : Nat) (x : MaAxis) : Nat :=
  let best := fun (m : Nat) (on : Bool) (d : Nat) => if on && decide (m < d) then d else m
  best (best (best 0 x.byStop (w.get (F.AXIS_STOP_DEC a))) x.byLimit (w.get (F.AXIS_LIM_DEC a))) x.byHome (w.get (F.AXIS_HOME_ACC a))

/-- One instant of a STOPPING axis (R447, R450). (DEDUCED, log entry 122.) -/
def State.axStopping (s w : State) (a : Nat) : State :=
  let x := s.mx a
  if x.v = 0 then s.setMx a (x.rest 1 x.cause)
  else
    let (d, kept) := x.decel (w.stopDecel a x)
    s.axStep a (rampStep x.v d) d kept

/-! ## Homing (R454 to R457) -/

/-- The home input of sample `t` is followed: the sample of its latest change, edges undone within HOME_STAB, and the counter value of
the edge (R455). -/
def State.followHome (s w : State) (a t : Nat) (q : FbkSample) : State :=
  let x := s.mx a
  let level := w.homeInput a q
  if level = x.homeLevel then s
  else
    let awaited := if x.phase = 2 then some true else if x.phase = 3 then some false else none
    let undone := awaited == some x.homeLevel && decide (t < x.homeSince + w.get (F.AXIS_HOME_CFG_HOME_STAB a))
    let s := if undone then s.count (F.AXIS_CHATTER a) else s
    let pos := match q.homeEdge with
      | some (p, _, _) => if w.has (F.AXIS_HOME_CFG_SRC_LIM a) then q.pos else p
      | none => match (s.fb a).samples.findSome? (fun e => if e.1 ≤ t then e.2.homeEdge else none) with
        | some (p, _, _) => if w.has (F.AXIS_HOME_CFG_SRC_LIM a) then q.pos else p
        | none => q.pos
    s.setMx a { x with homeLevel := level, homeSince := t, edgePos := pos, accepted := none }

/-- The level of the home input is accepted at sample `t` once it has stood HOME_STAB µs (R455). -/
def State.acceptHome (s w : State) (a t : Nat) : State :=
  let x := s.mx a
  let awaited := if x.phase = 2 then some true else if x.phase = 3 then some false else none
  if awaited = some x.homeLevel ∧ x.accepted = none ∧ x.homeSince + w.get (F.AXIS_HOME_CFG_HOME_STAB a) ≤ t then
    let s := s.setMx a { x with
      accepted := some x.homeLevel
      homeLatch := if x.phase = 3 then x.edgePos else x.homeLatch }
    if x.phase = 3 then s.putI (F.AXIS_HOME_LATCH a) x.edgePos else s
  else s

/-- A phase of homing with its published number. -/
def State.toPhase (s : State) (a n : Nat) : State := s.setMx a { s.mx a with phase := n, accepted := none }

/-- Homing completes at rest: Δ is applied at `f`, HOMED is set, and the axis is IDLE (R457). -/
def State.homeDone (s w : State) (a f : Nat) : State :=
  let x := s.mx a
  let l := match x.indexLatch with
    | some p => p
    | none => x.homeLatch
  let d := diff32 (w.getI (F.AXIS_HOME_POS a)) (signedOf 32 l)
  let b := s.fb a
  let s := s.setFb a (b.shifted f d)
  let x := { x.rest 1 0 with homed := true, p := x.p + d * q36, lastTarget := none }
  s.setMx a { x with frames := x.frames ++ [{ f := f, state := 1, phase := 0, homed := true, cause := 0, p := x.p, v := 0, queue := x.queue.length, shift := d }] }

/-- One instant of a HOMING axis (R454). -/
def State.axHoming (s w : State) (a f : Nat) (q : FbkSample) : State :=
  let x := s.mx a
  let up : Int := if w.has (F.AXIS_HOME_CFG_DIR a) then 1 else -1
  let acc := w.get (F.AXIS_HOME_ACC a)
  let s := if x.phase = 1 ∧ w.homeInput a q then s.toPhase a 2
    else if x.phase = 2 ∧ x.v = 0 ∧ x.accepted = some true then s.toPhase a 3
    else if x.phase = 3 ∧ x.accepted = some false then s.toPhase a (if w.has (F.AXIS_HOME_CFG_USE_IDX a) then 4 else 5)
    else if x.phase = 4 ∧ q.index.isSome then (s.setMx a { x with indexLatch := q.index }).toPhase a 5
    else s
  let x := s.mx a
  if x.phase = 5 ∧ x.v = 0 then s.homeDone w a f
  else
    let (d, kept) := x.decel acc
    let run := fun (dir : Int) (speed : Nat) =>
      let (v, clamped) := w.axVelocity a speed
      let s := if clamped then s.mark (F.AXIS_ASTAT_VCLAMP a) else s
      s.axStep a (cruiseStep x.v dir acc d v) d kept
    let s :=
      if x.phase = 1 then run up (w.get (F.AXIS_HOME_FAST a))
      else if x.phase = 3 ∨ x.phase = 4 then run (-up) (w.get (F.AXIS_HOME_SLOW a))
      else s.axStep a (rampStep x.v d) d kept
    let y := s.mx a
    let travel := w.get (F.AXIS_HOME_TRAVEL a)
    if travel ≠ 0 ∧ (travel : Int) * q36 < (y.p - y.homeStart).natAbs then
      let s := (s.raise 2 false (axisSubject a) 0x3812).mark (F.AXIS_ASTAT_HOME_FAULT a)
      s.setMx a { y.ramping 0x12 with byHome := true }
    else s

/-! ## One apply instant (R426) -/

/-- SAFE_STOP and HALT act on the axes at `f` (R452). In HALT no loop is evaluated, and no step rate stays in force. (DEDUCED, log entry 214.) -/
def State.axSafety (s : State) (a f : Nat) : State :=
  let x := s.mx a
  let d := s.devAt f
  if d = 4 then
    let n := x.queue.length
    let s := if n = 0 then s else (s.axFlush a).info (axisSubject a) 0x3816 [n]
    let y := s.mx a
    if y.state = 4 ∨ (y.state = 2 ∧ y.v ≠ 0) then s.setMx a { y.ramping 0 with byStop := true }
    else if y.state = 2 then s.setMx a (y.rest 1 0)
    else s
  else if d = 5 then
    let s := if x.queue.isEmpty then s else (s.axFlush a).info (axisSubject a) 0x3816 [x.queue.length]
    let s := s.endRamp a
    let y := s.mx a
    let still := match y.cmds with
      | e :: _ => e.2 == 0
      | [] => true
    let s := if still then s else
      (s.setMx a { y with cmds := ((f, (0 : Int)) :: y.cmds).take 4 }).put (F.AXIS_LCMD a) 0
    let y := s.mx a
    if y.state = 2 ∨ y.state = 3 ∨ y.state = 4 then s.setMx a { y.rest 1 0 with homed := if y.phase = 0 then y.homed else false } else s
  else s

/-- The decision of axis `a` for apply instant `f`, from the sample of f - 2 (R426). -/
def State.axisDecide (s : State) (a f : Nat) : State :=
  if f ≤ (s.mx a).built then s else
  let w := s.inForce f
  let q := (s.fb a).sampleFor f
  let s := s.axEnable w a f
  let s := s.setMx a { s.mx a with built := f }
  if (s.mx a).state = 0 then s
  else
    let s := s.axSafety a f
    let s := (s.followHome w a (f - 2) q).acceptHome w a (f - 2)
    let s := s.axLimits w a q
    let s := if (s.mx a).state = 1 ∧ !(s.mx a).queue.isEmpty then s.moveStart w a f q else s
    let s := match (s.mx a).state with
      | 2 => s.axMoving w a f q 18
      | 3 => s.axStopping w a
      | 4 => s.axHoming w a f q
      | _ => s
    s

/-- The decided frame of an axis waits for its apply instant. -/
def State.axisPost (s : State) (a f : Nat) : State :=
  let x := s.mx a
  if x.frames.any (fun (g : AxFrame) => g.f == f) then s
  else s.setMx a { x with frames := x.frames ++ [{ f := f, state := x.state, phase := x.phase, homed := x.homed, cause := x.cause,
                                                   p := x.p, v := x.v, queue := x.queue.length }] }

/-- Every axis decided for apply instant `f`; an instant already decided is left alone. -/
def State.axesAdvance (s : State) (f : Nat) : State :=
  forEach (List.range 16) (fun a s =>
    if (s.mx a).built < f ∧ ((s.mx a).state ≠ 0 ∨ s.has (F.AXIS_ACFG_ENABLE a) ∨ (s.inForce f).has (F.AXIS_ACFG_ENABLE a)) then
      (s.axisDecide a f).axisPost a f
    else s) s

/-! ## Step output (R443 to R445) -/

/-- The clocks at which the steps of one microsecond fall, after R443 and R444: from the sense, DIR_SETUP where the sense changed,
STEP_W and the clock of the step before; and whether one was delayed by its predecessor. -/
def stepClocks (q0 q1 : Int) (setup stepW : Nat) : List Int → Option Int → List Int × Option Int × Bool
  | [], last => ([], last, false)
  | n :: t, last =>
    let d := q1 - q0
    let raw := if d = 0 then 0 else -((-(250 * (n * q36 - q0) * d.sign)) / (d.natAbs : Int))
    let at_ := if raw < setup then (setup : Int) else raw
    let (c, crowd) := match last with
      | some l => if at_ < l + 2 * stepW then (l + 2 * stepW, true) else (at_, false)
      | none => (at_, false)
    let (rest, l, more) := stepClocks q0 q1 setup stepW t (some c)
    (c :: rest, l, crowd || more)

/-- The step output of axis `a` for the microsecond that begins at apply instant `f`, while the accumulator moves to `q1` (R443). (DEDUCED, log entry 120.) -/
def State.stepOut (s : State) (a : Nat) (q1 : Int) : State :=
  let x := s.mx a
  let n0 := x.q / q36
  let n1 := q1 / q36
  let steps : List Int := if n0 < n1 then (List.range (n1 - n0).toNat).map (fun (i : Nat) => n0 + 1 + i)
    else (List.range (n0 - n1).toNat).map (fun (i : Nat) => n0 - i)
  let sense := (q1 - x.q).sign
  let turn := decide (sense ≠ 0 ∧ x.dir ≠ 0 ∧ sense ≠ x.dir)
  let last := x.lastStep.map (fun l => l - 250)
  let (clocks, l, crowd) := stepClocks x.q q1 (if turn then s.get (F.AXIS_ACFG_DIR_SETUP a) else 0) (s.get (F.AXIS_ACFG_STEP_W a)) steps last
  let s := s.setMx a { x with
    q := q1, dir := if sense = 0 then x.dir else sense
    lastStep := match l with
      | some c => if c < -100000 then none else some c
      | none => none }
  let s := s.putI (F.AXIS_STEP_POS a) (s.get (F.AXIS_STEP_POS a) + (n1 - n0))
  let s := if crowd then (s.mark (F.AXIS_ASTAT_STEP_CROWD a)).episode 1 (axisSubject a) 0x3815 else s
  if (!steps.isEmpty || turn) && s.drivesOutputs then
    s.emit (.signal "AX_STEP" ((a : Int) :: (if s.has (F.AXIS_ACFG_DIR_INV a) then -sense else sense) :: clocks))
  else s

/-- Axis `a` at apply instant `f`: its words take what was decided, and its steps are emitted (R443, R446, R461). -/
def State.axisApply (s : State) (a f : Nat) : State :=
  let x := s.mx a
  let due := x.frames.filter (fun (g : AxFrame) => decide (g.f ≤ f))
  let shift := due.foldl (fun m (g : AxFrame) => m + g.shift) (0 : Int)
  let s := s.setMx a { x with frames := x.frames.filter (fun (g : AxFrame) => !decide (g.f ≤ f)) }
  match due.getLast? with
  | none => s
  | some g =>
    let s := ((((s.put (F.AXIS_ASTAT_STATE a) g.state).put (F.AXIS_ASTAT_HOMED a) (if g.homed then 1 else 0)).put
      (F.AXIS_ASTAT_HOME_PHASE a) g.phase).put (F.AXIS_ASTAT_QUEUE a) g.queue).put (F.AXIS_ASTAT_CAUSE a) g.cause
    let s := (s.putI (F.AXIS_SETPOINT a) (roundHalfEven g.p (2 ^ 36))).putSat (F.AXIS_VEL a) (roundHalfEven g.v 4096)
    let s := if shift = 0 then s else
      (s.setMx a { s.mx a with q := (s.mx a).q + shift * q36 }).putI (F.AXIS_STEP_POS a) (s.get (F.AXIS_STEP_POS a) + shift)
    let y := s.mx a
    let q1 : Int :=
      if g.state = 0 ∨ g.state = 5 then y.q
      else if s.axClosed a then
        let cmd := if s.devAt f = 5 then 0 else match y.cmds.find? (fun e => decide (e.1 ≤ f)) with
          | some e => e.2
          | none => 0
        y.q + roundHalfEven (cmd * 2 ^ 36) 1000000
      else g.p
    s.stepOut a q1

/-! ## The loops (R303 to R306) -/

/-- The coefficients of a machine axis bank (R314). -/
def State.maGains (w : State) (a b : Nat) : Gains :=
  { kp := w.get (F.AXIS_BANK_KP a b), ki := w.get (F.AXIS_BANK_KI a b), kd := w.get (F.AXIS_BANK_KD a b)
    dfilt := w.get (F.AXIS_BANK_DFILT a b), offset := 0, ilim := w.get (F.AXIS_BANK_ILIM a b)
    umin := -(w.get (F.AXIS_BANK_UMAX a b)), umax := w.get (F.AXIS_BANK_UMAX a b) }

/-- Machine axis `a` is evaluated for apply instant `f` (R303). -/
def State.maDue (s w : State) (a f : Nat) : Bool :=
  w.axClosed a && f % w.get (F.AXIS_LCTRL_PERIOD a) == w.get (F.AXIS_LPHASE a) && (s.mx a).state != 0 && (s.mx a).state != 5
    && s.devAt f != 5 && !(s.ma a).stopped

/-- What a following-error trip does in the evaluation for `f` that finds it: CMD := 0, I := 0 and the axis in FAULT (R306, R453). -/
def State.feTrip (s : State) (a f : Nat) (hard : Bool) : State :=
  { s with loop := { s.loop with tripSeen := true } }.axFault a f (if hard then 0x21 else 0x20)

/-- The flag and the error of a following-error trip (R306). -/
def State.feError (s : State) (a : Nat) (hard : Bool) : State :=
  let s := if hard then s.mark (F.AXIS_LSTAT_FE_HARD_TRIP a) else s.mark (F.AXIS_LSTAT_FE_TRIP a)
  (s.setMa a { s.ma a with feTrip := false }).raise 2 false (axisSubject a) (if hard then 0x2021 else 0x2020)

/-- One evaluation of a closed machine axis (R303 to R305, with R287 and R288 read per evaluation). (DEDUCED, log entry 126.) -/
def State.maEval (s w : State) (a f : Nat) : State :=
  let q := (s.fb a).sampleFor f
  let x := s.mx a
  let m := s.ma a
  let b := w.get (F.AXIS_LCTRL_BANK a)
  let y := signedOf 32 q.pos
  let r := y + diff32 (roundHalfEven x.p (2 ^ 36)) y
  let src := s.get (F.FBK_FCFG_SRC a)
  let valid := src == 1 || src == 2 || (src == 3 && ((s.fb a).freshAt.any (fun t => decide (m.lastEval ≤ t) && decide (t + 2 ≤ f))))
  let e := if valid then some (r - y) else none
  let vff := roundHalfEven (x.v * 1000000 * (w.get (F.AXIS_RATIO a) : Int)) (2 ^ 52)
  let o := loopLaw { ePrev := m.ePrev, d := m.d, i := m.i, init := m.init } (w.maGains a b) e (w.get (F.AXIS_BANK_KV a b) * vff)
  let s := s.setMa a { m with
    ePrev := o.core.ePrev, d := o.core.d, i := o.core.i, init := o.core.init, bank := b, cmd := o.cmd, r := r, y := y, lastEval := f - 1 }
  let s := s.setMx a { s.mx a with cmds := ((f, o.cmd) :: x.cmds).take 4 }
  let s := ((s.putB (F.AXIS_LSTAT_SAT a) o.sat).putB (F.AXIS_LSTAT_HELD a) (!valid)).put (F.AXIS_LSTAT_BANK a) b
  let s := if o.clipped then s.mark (F.AXIS_LSTAT_I_CLIPPED a) else s
  let s := ((s.putSat (F.AXIS_FERR a) o.core.ePrev).putI (F.AXIS_LINTEG a) (roundHalfEven o.core.i 65536)).putI (F.AXIS_LCMD a) o.cmd
  let mag := o.core.ePrev.natAbs
  let n := if w.get (F.AXIS_FE_LIMIT a) < mag then s.get (F.AXIS_LSTAT_FE_COUNT a) + 1 else 0
  let s := s.put (F.AXIS_LSTAT_FE_COUNT a) (satN 65535 n)
  let hard := w.get (F.AXIS_FE_HARD a)
  if hard ≠ 0 ∧ hard < mag then (s.feTrip a f true).feError a true
  else if w.get (F.AXIS_FE_TIME a) ≠ 0 ∧ w.get (F.AXIS_FE_TIME a) ≤ n then
    let s := s.feTrip a f false
    s.setMa a { s.ma a with feTrip := true }
  else s

/-- The machine axis loops of apply instant `f`; the number of evaluations (R283). -/
def State.maLoops (s w : State) (f : Nat) : State × Nat :=
  (List.range 16).foldl (fun (st : State × Nat) a =>
    if st.1.maDue w a f then (st.1.maEval w a f, st.2 + 1) else st) (s, 0)

/-! ## Opcodes (R458, R459) -/

/-- TARGET of an axis opcode: the axis, other bits 0. -/
def axisTarget (p : InFlight) : Option Nat := if p.target.toNat < 16 then some p.target.toNat else none

/-- A request of an axis opcode waits for apply instant q + 20 (R263, R447). -/
def State.axisRequest (s : State) (p : InFlight) (a : Nat) (r : AxisReq) : State :=
  let x := s.mx a
  s.setMx a { x with reqs := x.reqs ++ [(p.boundary + 20, r)] }

/-- Moves on their way to the queue. -/
def MaAxis.coming (x : MaAxis) : Nat :=
  x.reqs.foldl (fun n e => match e.2 with
    | .moves ms => n + ms.length
    | _ => n) 0

/-- A move of an AXIS_MOVE body (R459). -/
def moveAt (b : List Word) (i : Nat) : Move :=
  let w := fun (k : Nat) => bodyWord b (1 + 7 * i + k)
  { blend := w 0 % 2 == 1, relative := w 0 / 2 % 2 == 1, probeStop := w 0 / 4 % 2 == 1, tied := w 0 / 8 % 2 == 1
    tie := w 0 / 16 % 64, target := w 1, launch := w 2 + w 3 * 2 ^ 32, vmax := w 4, acc := w 5, dec := w 6 }

/-- AXIS_MOVE (R459). -/
def opAxisMove (p : InFlight) (s : State) : State × Verdict :=
  match axisTarget p with
  | none => (s, malformed 0x38F6)
  | some a =>
    let n := bodyWord p.body 0
    if n = 0 ∨ 16 < n then (s, malformed 0x3803)
    else if p.body.length ≠ 1 + 7 * n then (s, malformed 0x0202)
    else
      let ms := (List.range n).map (moveAt p.body)
      let odd := (List.range n).any (fun i => decide (1024 ≤ bodyWord p.body (1 + 7 * i)) || decide (65536 ≤ bodyWord p.body (1 + 7 * i + 3)))
      if odd then (s, malformed 0x38F6)
      else if ms.any (fun m => m.vmax == 0 || m.acc == 0 || m.dec == 0) then (s, malformed 0x3803)
      else
        let st := s.get (F.AXIS_ASTAT_STATE a)
        if (st ≠ 1 ∧ st ≠ 2) ∨ s.dev = 4 ∨ s.dev = 5 then (s, refused 0x38F5)
        else
          let x := s.mx a
          let room := 16 - x.queue.length - x.coming
          let k := if n ≤ room then n else room
          let s := if k = 0 then s else s.axisRequest p a (.moves (ms.take k))
          if n ≤ room then (s, .done [word n]) else (s, .stopped 0x3802 [word k])

/-- AXIS_STOP (R458): the reply comes when it acts, with the number of moves flushed. -/
def opAxisStop (p : InFlight) (s : State) : State × Verdict :=
  match axisTarget p with
  | none => (s, malformed 0x38F6)
  | some a =>
    if p.body.length ≠ 1 then (s, malformed 0x0202)
    else if 1 < bodyWord p.body 0 then (s, malformed 0x38F6)
    else (s.axisRequest p a (.stop (bodyWord p.body 0 == 1)), .later (.axisAt (p.boundary + 20)))

/-- AXIS_HOME (R454). -/
def opAxisHome (p : InFlight) (s : State) : State × Verdict :=
  match axisTarget p with
  | none => (s, malformed 0x38F6)
  | some a =>
    if p.body ≠ [] then (s, malformed 0x0202)
    else if s.get (F.AXIS_ASTAT_STATE a) ≠ 1 ∨ s.dev = 4 ∨ s.dev = 5 then (s, refused 0x38F5)
    else (s.axisRequest p a .home, .done [])

/-- AXIS_CLEAR (R453). (DEDUCED, log entry 123.) -/
def opAxisClear (p : InFlight) (s : State) : State × Verdict :=
  match axisTarget p with
  | none => (s, malformed 0x38F6)
  | some a => if p.body ≠ [] then (s, malformed 0x0202) else (s.axisRequest p a .clear, .done [])

/-- AXIS_SET_POS (R457). (DEDUCED, log entry 124.) -/
def opAxisSetPos (p : InFlight) (s : State) : State × Verdict :=
  match axisTarget p with
  | none => (s, malformed 0x38F6)
  | some a =>
    if p.body.length ≠ 1 then (s, malformed 0x0202)
    else if 1 < s.get (F.AXIS_ASTAT_STATE a) then (s, refused 0x38F5)
    else (s.axisRequest p a (.setPos (signedOf 32 (bodyWord p.body 0))), .done [])

/-- PROBE_ARM (R442). -/
def opProbeArm (p : InFlight) (s : State) : State × Verdict :=
  match axisTarget p with
  | none => (s, malformed 0x38F6)
  | some a => if p.body ≠ [] then (s, malformed 0x0202) else (s.axisRequest p a .probeArm, .done [])

/-- AXIS_STOP is answered with the moves it flushed. -/
def State.answerStop (s : State) (a f n : Nat) : State :=
  match s.cmd.inflight.find? (fun (p : InFlight) => p.opcode == 0x69 && p.target.toNat == a && p.wait == .axisAt f) with
  | some p => s.answer p 0 0 [word n]
  | none => s

/-- One request acts at apply instant `f` (R442, R447, R449, R453, R454, R457). One whose transition R447 no longer allows has no effect. -/
def State.axisAct (s : State) (a f : Nat) (r : AxisReq) : State :=
  let x := s.mx a
  let b := s.fb a
  match r with
  | .moves ms =>
    if (x.state = 1 ∨ x.state = 2) ∧ s.devAt f ≠ 4 ∧ s.devAt f ≠ 5 then s.setMx a { x with queue := x.queue ++ ms }
    else s.count (F.AXIS_EVENTS_FLUSHED a) ms.length
  | .stop hard =>
    let n := x.queue.length
    let s := s.axFlush a
    let y := s.mx a
    let s :=
      if y.state = 2 ∨ y.state = 3 ∨ y.state = 4 then
        (if hard ∨ y.v = 0 then (s.endRamp a).setMx a { y.rest 1 0 with homed := if y.phase = 0 then y.homed else false }
         else s.setMx a { y.ramping 0 with byStop := true })
      else s
    s.answerStop a f n
  | .home =>
    if x.state = 1 ∧ s.devAt f ≠ 4 ∧ s.devAt f ≠ 5 then
      s.setMx a { x with
        state := 4, phase := 1, homed := false, cause := 0, homeStart := x.p, accepted := none, indexLatch := none }
    else s
  | .clear =>
    if x.state = 5 then
      (s.setMx a { x.rest 1 0 with p := s.measured a f * q36, lastTarget := none }).initMa a
    else s
  | .setPos v =>
    if x.state = 0 ∨ x.state = 1 then
      let here := if s.get (F.FBK_FCFG_SRC a) = 0 then roundHalfEven x.p (2 ^ 36) else signedOf 32 (s.get (F.FBK_POS a))
      let d := diff32 v here
      let s := s.setFb a (b.shifted f d)
      s.setMx a { x with
        p := x.p + d * q36
        lastTarget := none
        frames := x.frames ++ [{ f := f, state := x.state, phase := 0, homed := x.homed, cause := x.cause, p := x.p + d * q36, v := 0, queue := x.queue.length, shift := d }] }
    else s
  | .probeArm => s.setFb a { b with armAt := match b.armAt with
      | some t => some (min t f)
      | none => some f }

/-- The requests of axis `a` accepted for apply instants up to `f` act (R447, R458). -/
def State.axisRequestAct (s : State) (a f : Nat) : State :=
  let x := s.mx a
  let due := x.reqs.filter (fun e => decide (e.1 ≤ f))
  let s := s.setMx a { x with reqs := x.reqs.filter (fun e => !decide (e.1 ≤ f)) }
  forEach due (fun e s => s.axisAct a e.1 e.2) s

/-! ## The boundary (R426, R427) -/

/-- Device time reaches boundary `k`: samples are formed, the words of apply instant `k` are taken and its steps emitted. A keeper sends
its samples; a shadow's own samples serve until the keeper's arrive (R427). `lines` gives the accepted levels of
LIMP and LIMN of the axes on which they have changed. -/
def State.axesBoundary (s : State) (k : Nat) (lines : List (Nat × Bool × Bool)) : State :=
  let form := fun (a : Nat) (st : State × List FbkSample) =>
    let lim := (lines.find? (fun e => e.1 == a)).map (fun e => e.2)
    let (s, q) := st.1.ownSample a k lim
    (s.keepSample a k q, st.2 ++ [q])
  let (s, qs) := forEach (List.range 16) form (s, [])
  let s := { s with axis := { s.axis with waiting := if s.pairRole = 2 then some k else none } }
  let s := if s.passesOn then s.emitRidge 0x12 .partner (.signal "FBK_SAMPLE" ((k : Int) :: qs.flatMap FbkSample.words)) else s
  let s := s.axesAdvance k
  forEach (List.range 16) (fun a s => s.axisApply a k) s

/-- The keeper's samples of `t` arrive at a shadow in time and replace its own (R427). -/
def State.keeperSamples (s : State) (t : Nat) (qs : List FbkSample) : State :=
  let s := forEach ((List.range 16).zip qs) (fun e s => s.keepSample e.1 t e.2) s
  { s with axis := { s.axis with waiting := none } }

/-- The keeper's samples of `t` have not arrived by t + 900 ns: the own ones serve, and the miss is counted (R427). -/
def State.keeperMissed (s : State) (t : Nat) : State :=
  if s.axis.waiting = some t then
    let s := { s with axis := { s.axis with waiting := none } }
    let s := forEach (List.range 16) (fun a s => s.count (F.FBK_PAIR_MISMATCH a)) s
    s.episode 1 ⟨1, 0x39⟩ 0x3910
  else s

/-- Four consecutive missing readings: the error 0x3906, and the axis enters FAULT (R438). (DEDUCED, log entry 213.) -/
def State.serialLost (s : State) (a : Nat) : State :=
  if (s.fb a).missing < 4 ∨ (s.mx a).state = 5 then s
  else (s.axFault a ((s.mx a).built + 1) 0x06).raise 2 true (axisSubject a) 0x3906

end Sys2Proof.Machine
end

