-- ==== Sys2Proof/Machine/Ledger.lean ====
section
/-!
DEFINITION. Sys2Proof/Machine/Ledger.lean: the heat ledger (spec/09 R330 to R349): cells and ticks, decay, deposits own and foreign,
the scrub, the look-ahead read, fills and reads by the host.
-/
namespace Sys2Proof.Machine

/-! ## Decay (R331, R333) -/

/-- Bitwise root of degree 256: tries the bits of the root from `b - 1` down. -/
def root256From : Nat → Nat → Nat → Nat
  | 0, _, r => r
  | b + 1, n, r => if (r + 2 ^ b) ^ 256 ≤ n then root256From b n (r + 2 ^ b) else root256From b n r

/-- T[j] of R333: 65,536 × 2^(-j/256), rounded to the nearest integer. -/
def decayRom (j : Nat) : Nat :=
  let n := 2 ^ (4096 - j)
  let r := root256From 17 n 0
  if (2 * r + 1) ^ 256 < 2 ^ 256 * n then r + 1 else r

/-- DECAY(E, a) of R333. -/
def decay (half e a : Nat) : Nat :=
  if half = 0 then 0 else
  let q := a / half
  let j := 256 * (a % half) / half
  if 17 ≤ q then 0 else (roundHalfEven (e * decayRom j : Nat) (2 ^ (16 + q))).toNat

/-- tick(h) (R331). -/
def tickOf (g : LedgerCfg) (h : Nat) : Nat := h / 2 ^ g.tShift % 65536

/-- SDIFF16 (R331). -/
def sdiff16 (a b : Nat) : Int := signedOf 16 (fieldOf 16 ((a : Int) - b))

/-! ## Cells (R330, R331, R339) -/

/-- Scrub visits per apply instant (R339). -/
def scrubRate (g : LedgerCfg) : Nat := ceilDiv (g.nx * g.ny) (2 ^ (14 + g.tShift))

/-- The apply instant of scrub visit `v`, from the runs of consecutive instants (R339). -/
def visitInstant (k v : Nat) : List (Nat × Nat) → Nat
  | [] => 0
  | (h, v0) :: t => if v0 ≤ v then h + (v - v0) / k else visitInstant k v t

/-- The stamp of a cell that is not listed: the tick of its latest scrub visit, or of the emptying (R332, R339). -/
def LedgerSt.restStamp (l : LedgerSt) (n : Nat) : Nat :=
  let size := l.cfg.nx * l.cfg.ny
  let k := scrubRate l.cfg
  if size = 0 ∨ k = 0 ∨ l.visits ≤ n then tickOf l.cfg l.clearedAt
  else tickOf l.cfg (visitInstant k (n + (l.visits - 1 - n) / size * size) l.runs)

/-- E and STAMP of the cell with index `n` in row order. -/
def LedgerSt.cell (l : LedgerSt) (n : Nat) : Nat × Nat :=
  match l.cells.find? (fun e => e.1 == n) with
  | some e => e.2
  | none => (0, l.restStamp n)

/-- The index of cell (i, j), where the region in force holds it (R330). -/
def LedgerSt.index (l : LedgerSt) (i j : Int) : Option Nat :=
  let x := i - l.cfg.i0
  let y := j - l.cfg.j0
  if l.active && decide (0 ≤ x) && decide (0 ≤ y) && decide (x < l.cfg.nx) && decide (y < l.cfg.ny)
  then some (y.toNat * l.cfg.nx + x.toNat) else none

/-- The cell under a bed point (R330). -/
def cellOf (x y : Int) : Int × Int := (x / 100000, y / 100000)

/-- A changed cell joins the history of instant `h`, with its value before (R348). -/
def LedgerSt.note (l : LedgerSt) (h n : Nat) : LedgerSt :=
  let e := (n, l.cell n)
  match l.undo with
  | (h', es) :: t => if h' = h then { l with undo := (h', e :: es) :: t } else { l with undo := ((h, [e]) :: l.undo).take 32 }
  | [] => { l with undo := [(h, [e])] }

/-- The ledger with a cell set by an operation of instant `h`. -/
def LedgerSt.setCell (l : LedgerSt) (h n : Nat) (v : Nat × Nat) : LedgerSt :=
  let l := l.note h n
  { l with cells := tabInsert n v (tabDrop l.cells n) }

/-- ADD of R334: the cell after a deposit, and whether it saturated. -/
def addEnergy (g : LedgerCfg) (cell : Nat × Nat) (h de : Nat) : (Nat × Nat) × Bool :=
  let a := sdiff16 (tickOf g h) cell.2
  if 0 ≤ a then
    let e := decay g.half cell.1 a.toNat + de
    ((satN 65535 e, tickOf g h), decide (65535 < e))
  else
    let e := cell.1 + decay g.half de (-a).toNat
    ((satN 65535 e, cell.2), decide (65535 < e))

/-- A deposit of instant `at_` entered with the operations of instant `h` into cell index `n` (R334). -/
def State.deposit (s : State) (h at_ n de : Nat) : State :=
  let (v, sat) := addEnergy s.ledger.cfg (s.ledger.cell n) at_ de
  let s := { s with ledger := s.ledger.setCell h n v }
  if sat then s.count F.LEDGER_SATURATED else s

/-! ## Configuration (R332, R346) -/

/-- The configuration that the words give. -/
def State.ledgerWords (s : State) : LedgerCfg :=
  { tShift := s.get F.LEDGER_CFG_T_SHIFT, half := s.get F.LEDGER_CFG_HALF, i0 := s.getI F.LEDGER_REGION_I0
    j0 := s.getI F.LEDGER_REGION_J0, nx := s.get F.LEDGER_REGION_N_NX, ny := s.get F.LEDGER_REGION_N_NY }

/-- The ledger emptied at instant `h` under a configuration: every cell E = 0 with the tick of `h`, the scrub at cell 0; a
configuration of more than 256 visits per frame takes no region and raises 0x2930 (R332). -/
def State.emptyLedger (s : State) (g : LedgerCfg) (h : Nat) : State :=
  let fits := decide (scrubRate g ≤ 256)
  let act := fits && g.nx != 0 && g.ny != 0
  let l := s.ledger
  let s := { s with ledger := { l with
    cfg := g, active := act, cells := [], clearedAt := h, runs := [], visits := 0, undo := []
    past := { h := h, cfg := l.cfg, active := l.active, cells := l.cells, clearedAt := l.clearedAt, runs := l.runs, visits := l.visits
              undo := l.undo } :: l.past.filter (fun p => decide (h < p.h + 28)) } }
  let s := (s.putB F.LEDGER_STAT_ACTIVE act).put F.LEDGER_SCRUB_POS 0
  if fits then s else s.unitErr 0x29 0x2930

/-- A change of CFG, REGION or REGION_N by the words in force for `h` empties the ledger (R332). -/
def State.ledgerConfig (s w : State) (h : Nat) : State :=
  if s.ledger.cfg = w.ledgerWords then s else s.emptyLedger w.ledgerWords h

/-! ## Foreign deposits (R336, R337) -/

/-- A sub-deposit: its beam, instant, cell index and energy. -/
structure SubDep where
  pos : Nat
  chan : Nat
  t : Nat
  cell : Nat
  e : Nat
deriving DecidableEq, Repr

/-- The sub-deposits of one beam with zero energies dropped, those of one cell combined at the latest of their instants (R337);
sub-deposits outside the region are gone. -/
def subDeposits (l : LedgerSt) (b : Foreign) : List SubDep :=
  let part := fun (n : Nat) => if n = 9 then b.energy - 9 * (b.energy / 10) else b.energy / 10
  let pt := fun (p q : Int) (n : Nat) => p + roundHalfEven ((q - p) * (n + 1)) 10
  let raw := (List.range 10).filterMap (fun n =>
    if part n = 0 then none
    else
      let (i, j) := cellOf (pt b.x0 b.x1 n) (pt b.y0 b.y1 n)
      (l.index i j).map (fun c => (⟨b.pos, b.chan, b.d - 9 + n, c, part n⟩ : SubDep)))
  raw.foldl (fun acc x =>
    match acc.find? (fun (y : SubDep) => y.cell == x.cell) with
    | some y => acc.map (fun (z : SubDep) => if z.cell = y.cell then { z with t := x.t, e := z.e + x.e } else z)
    | none => acc ++ [x]) []

/-- The order of R337: position, channel, instant. -/
def subBefore (a b : SubDep) : Bool :=
  decide (a.pos < b.pos) || (a.pos == b.pos && (decide (a.chan < b.chan) || (a.chan == b.chan && decide (a.t ≤ b.t))))

/-- The foreign sub-deposits of the period ending at d are entered with the operations of d + 19, at most 512 (R336, R337). -/
def State.foreignDeposits (s : State) (h : Nat) : State :=
  if h % 10 ≠ 9 ∨ h < 19 then s
  else
    let d := h - 19
    let beams := s.ledger.foreign.filter (fun b => b.d == d)
    let s := { s with ledger := { s.ledger with foreign := s.ledger.foreign.filter (fun b => decide (d < b.d)) } }
    let all := (beams.flatMap (subDeposits s.ledger)).mergeSort subBefore
    let drops := all.length - 512
    let s := forEach (all.take 512) (fun x s => s.deposit h x.t x.cell x.e) s
    let s := s.put F.LEDGER_FOREIGN_LAST (satN 512 all.length)
    if drops = 0 then s else (s.count F.LEDGER_FOREIGN_DROPPED drops).warn ⟨1, 0x29⟩ 0x2910 [drops]

/-! ## Fills and the scrub (R338, R339, R349) -/

/-- The indices of a rectangle's cells that lie in the region. -/
def LedgerSt.rectangle (l : LedgerSt) (i0 j0 : Int) (w h : Nat) : List Nat :=
  (List.range h).flatMap (fun (y : Nat) => (List.range w).filterMap (fun (x : Nat) => l.index (i0 + x) (j0 + y)))

/-- The fills that take effect at `h` (R349). -/
def State.fillsAt (s : State) (h : Nat) : State :=
  let due := s.ledger.fills.filter (fun f => f.h == h && !f.done)
  let s := forEach due (fun f s =>
    let set_ := fun (n : Nat) (l : LedgerSt) => l.setCell h n (f.energy, tickOf l.cfg h)
    { s with ledger := forEach (s.ledger.rectangle f.i0 f.j0 f.w f.hh) set_ s.ledger }) s
  { s with ledger := { s.ledger with fills := s.ledger.fills.map (fun f => if f.h = h then { f with done := true } else f) } }

/-- LEDGER_FILL_APPLY: the fills of `h` have taken effect, and each is answered with the boundary of `h` (R349). -/
def State.fillsReply (s : State) (h : Nat) : State :=
  let s := s.fillsAt h
  let s := { s with ledger := { s.ledger with fills := s.ledger.fills.filter (fun (x : Fill) => x.h != h) } }
  forEach (s.cmd.inflight.filter (fun (p : InFlight) => p.wait == .ledgerFill h)) (fun (p : InFlight) s => s.answerAt p 0 0 [] (h * 1000)) s

/-- One scrub visit of a listed cell (R339): decayed and stamped, and listed no more once it holds no energy. -/
def LedgerSt.scrubCell (l : LedgerSt) (h n : Nat) : LedgerSt :=
  match l.cells.find? (fun e => e.1 == n) with
  | none => l
  | some (_, e, st) =>
    let l := l.note h n
    let a := sdiff16 (tickOf l.cfg h) st
    let e' := if 0 < a then decay l.cfg.half e a.toNat else e
    if e' = 0 then { l with cells := tabDrop l.cells n } else { l with cells := tabInsert n (e', tickOf l.cfg h) (tabDrop l.cells n) }

/-- The scrub visits of instant `h`: k consecutive cells from where the scrubber stopped (R339). -/
def State.scrub (s : State) (h : Nat) : State :=
  let l := s.ledger
  if !l.active then s
  else
    let k := scrubRate l.cfg
    let size := l.cfg.nx * l.cfg.ny
    let start := l.visits % size
    let hit := (l.cells.map (fun e => e.1)).filter (fun n => decide ((n + size - start) % size < k))
    let runs := if l.visits ≠ 0 ∧ l.latest + 1 = h then l.runs else (h, l.visits) :: l.runs.take 8
    let l := forEach hit (fun n l => l.scrubCell h n) l
    { s with ledger := { l with visits := l.visits + k, runs := runs } }.put F.LEDGER_SCRUB_POS ((l.visits + k) % size)

/-- What follows the own deposits among the operations of instant `h`, in the order of R338. -/
def State.ledgerOps (s : State) (h : Nat) : State :=
  let s := ((s.foreignDeposits h).fillsAt h).scrub h
  { s with ledger := { s.ledger with latest := h, undo := s.ledger.undo.filter (fun e => decide (h < e.1 + 28)),
                                        past := s.ledger.past.filter (fun p => decide (h < p.h + 28)) } }

/-- An uncorrectable line: its 4 × 4 cells read as cold (R344, R345). `n` names a cell of the line. -/
def State.ledgerEcc (s : State) (h n : Nat) : State :=
  let l := s.ledger
  if !l.active ∨ l.cfg.nx = 0 then s
  else
    let x := n % l.cfg.nx / 4 * 4
    let y := n / l.cfg.nx / 4 * 4
    let cells := l.rectangle (l.cfg.i0 + x) (l.cfg.j0 + y) 4 4
    let s := { s with ledger := forEach cells (fun n l => l.setCell h n (0, tickOf l.cfg h)) l }
    ((s.count F.LEDGER_ECC_UNCORR).unitErr 0x29 0x29E0 [l.cfg.i0 + x, l.cfg.j0 + y]).diverge 3

/-! ## Reads (R340, R348) -/

/-- The decayed energy that a cell shows at instant `h` (R340). -/
def LedgerSt.energyAt (l : LedgerSt) (v : Nat × Nat) (h : Nat) : Nat :=
  let a := sdiff16 (tickOf l.cfg h) v.2
  if 0 ≤ a then decay l.cfg.half v.1 a.toNat else v.1

/-- POWER's part of channel `c`. -/
def State.pow (s : State) (c : Nat) : PowCh := tabGet {} s.power c

/-- The state with POWER's part of channel `c` replaced. -/
def State.setPow (s : State) (c : Nat) (x : PowCh) : State := { s with power := tabPut {} s.power c x }

/-- The look-ahead read of channel `c` for apply instant f + 20, made against the ledger after the operations up to f - 1, at the
bed point that SEQ predicts with the sample for f (R340). (DEDUCED, log entry 96.) -/
def State.lookAhead (s w : State) (c f : Nat) : State :=
  let x := s.sq c
  let p := match (s.predict w c f 20).getLast? with
    | some e => e.1
    | none => (x.bedX, x.bedY, x.bedZ)
  let (i, j) := cellOf p.1 p.2.1
  let n := s.ledger.index i j
  let e := match n with
    | some m => s.ledger.energyAt (s.ledger.cell m) (f + 20)
    | none => 0
  let y := s.pow c
  let s := s.setPow c { y with
    reads := (y.reads.filter (fun r => decide (f ≤ r.f + 2) && r.f != f + 20)) ++ [⟨f + 20, n, i, j, e⟩] }
  if n.isNone then s.count F.LEDGER_OUTSIDE else s

/-- The cell as it stood after the operations of instants up to `h` (R348). -/
def LedgerSt.cellBefore (l : LedgerSt) (h n : Nat) : Nat × Nat :=
  (l.undo.filter (fun e => decide (h < e.1))).foldl
    (fun v e => match (e.2.reverse).find? (fun x => x.1 == n) with
      | some x => x.2
      | none => v) (l.cell n)

/-- The ledger whose cells the operations of instants up to `h` had changed last: the one before every later emptying (R348). -/
def LedgerSt.asOf (l : LedgerSt) (h : Nat) : LedgerSt :=
  match (l.past.takeWhile (fun p => decide (h < p.h))).getLast? with
  | none => l
  | some p => { l with cfg := p.cfg, active := p.active, cells := p.cells, clearedAt := p.clearedAt, runs := p.runs, visits := p.visits
                       undo := p.undo }

/-- Two 16-bit values to a word, the first in bits [15:0]. -/
def pairWords : List Nat → List Word
  | [] => []
  | [a] => [word a]
  | a :: b :: t => word (a + b * 65536) :: pairWords t

/-- The result of LEDGER_READ for snapshot instant `q` (R348). -/
def State.ledgerReadWords (s : State) (q : Nat) (b : List Word) : List Word :=
  let w0 := bodyWord b 0
  let w1 := bodyWord b 1
  let i0 := signedOf 16 (bitsOf w0 0 16)
  let j0 := signedOf 16 (bitsOf w0 16 16)
  let w := bitsOf w1 0 16
  let h := bitsOf w1 16 16
  let l := s.ledger.asOf (q - 21)
  let val := fun (i j : Int) => match l.index i j with
    | some n => l.energyAt (l.cellBefore (q - 21) n) q
    | none => 0
  lowHigh q ++ pairWords ((List.range h).flatMap (fun (y : Nat) => (List.range w).map (fun (x : Nat) => val (i0 + x) (j0 + y))))

/-- LEDGER_READ (R347, R348): answered at the next frame boundary. -/
def opLedgerRead (p : InFlight) (s : State) : State × Verdict :=
  let w1 := bodyWord p.body 1
  let n := bitsOf w1 0 16 * bitsOf w1 16 16
  if p.body.length ≠ 2 then (s, malformed 0x0202)
  else if p.target ≠ 0 then (s, malformed 0x29F6)
  else if n = 0 ∨ 8176 < n then (s, malformed 0x2901)
  else if resultLimit p.path < 2 + (n + 1) / 2 then (s, malformed 0x0204)
  else (s, .later (.ledgerRead (s.us + 1)))

/-- LEDGER_FILL (R347, R349). (DEDUCED, log entry 97.) -/
def opLedgerFill (p : InFlight) (s : State) : State × Verdict :=
  let h := dword (p.body.getD 0 0) (p.body.getD 1 0)
  let w2 := bodyWord p.body 2
  let w3 := bodyWord p.body 3
  let w4 := bodyWord p.body 4
  let n := bitsOf w3 0 16 * bitsOf w3 16 16
  if p.body.length ≠ 5 then (s, malformed 0x0202)
  else if p.target ≠ 0 ∨ 65536 ≤ w4 then (s, malformed 0x29F6)
  else if n = 0 ∨ 16384 < n then (s, malformed 0x2903)
  else if frameLead h p.acceptNs < 50000 ∨ 10000000000 < frameLead h p.acceptNs then (s, refused 0x2902)
  else
    let fill : Fill :=
      { h := h, i0 := signedOf 16 (bitsOf w2 0 16), j0 := signedOf 16 (bitsOf w2 16 16), w := bitsOf w3 0 16
        hh := bitsOf w3 16 16, energy := w4, order := p.order }
    let s := { s with ledger := { s.ledger with fills := s.ledger.fills ++ [fill] } }
    if s.ns < h * 1000 then (s, .later (.ledgerFill h))
    else
      let s := s.fillsAt h
      ({ s with ledger := { s.ledger with fills := s.ledger.fills.filter (fun (x : Fill) => x.h != h) } }, .done [])

end Sys2Proof.Machine
end

