-- ==== Sys2Proof/Machine/Power.lean ====
section
/-!
DEFINITION. Sys2Proof/Machine/Power.lean: the power path of one frame (spec/09 R317 to R320), the melt-pool measurement and loop
(R321 to R328), the gain (R341, R342) and the telemetry summaries (R350 to R352).
-/
namespace Sys2Proof.Machine

/-! ## Measurement (R321 to R323) -/

/-- A band's value: the mean of its four samples less the dark offset (R321). -/
def bandValue (xs : List Nat) (dark : Nat) : Nat := (roundHalfEven (xs.sum : Nat) 4 - dark).toNat

/-- m of R322 from the band values; the two-colour ratio at b2 = 0 is a free value, which is reported and never used. -/
def measureOf (sel w1 w2 b1 b2 : Nat) : Nat :=
  match sel with
  | 0 => b1
  | 1 => b2
  | 2 => satN 65535 (roundHalfEven (w1 * b1 + w2 * b2 : Nat) 32768).toNat
  | _ => if b2 = 0 then (Config.ratioByZero b1).toNat else satN 65535 (roundHalfEven (32768 * b1 : Nat) b2).toNat

/-- Whether any sample is the clipped value (R323, R406). -/
def clipped (xs : List Nat) : Bool := xs.any (fun x => x == 0xFFFF)

/-- The evaluation of instant `f` lit both sub-slots (R323). -/
def PowCh.litAt (x : PowCh) (f : Nat) : Bool := x.evals.any (fun e => e.f == f && e.lit)

/-- b1, b2, m and validity for apply instant `f` (R321 to R323); the latest m where inbound frame f - 2 is missing. -/
def State.measure (s w : State) (c f : Nat) : Nat × Nat × Nat × Bool :=
  let x := s.pow c
  match s.inbound c (f - 2) with
  | none => (x.b1, x.b2, x.m, false)
  | some fr =>
    let sel := w.get (F.POWER_PCTRL_MEAS_SEL c)
    let b1 := bandValue fr.b1 (w.get (F.POWER_DARK_DARK1 c))
    let b2 := bandValue fr.b2 (w.get (F.POWER_DARK_DARK2 c))
    let m := measureOf sel (w.get (F.POWER_WEIGHT_W1 c)) (w.get (F.POWER_WEIGHT_W2 c)) b1 b2
    let clip := (sel != 1 && clipped fr.b1) || (sel != 0 && clipped fr.b2)
    (b1, b2, m, x.litAt (f - 3) && x.litAt (f - 4) && !clip && (sel != 3 || decide (0 < b2)) && bitsOf fr.status 7 1 == 0)

/-! ## The gain (R341, R342) -/

/-- The gain of an energy on a channel's preheat curve (R342). -/
def State.curveGain (w : State) (c e : Nat) : Nat :=
  let k := satN 15 (e / 4096)
  let x := e - 4096 * k
  let g0 : Int := w.get (F.POWER_CURVE c k)
  let g1 : Int := w.get (F.POWER_CURVE c (k + 1))
  (roundHalfEven (g0 * 4096 + (g1 - g0) * x) 4096).toNat

/-- The ledger gain for `f`: of the read whose cell is that of the sample, else the last that matched (R341). A failed prediction counts whether or not the gain is used. (DEDUCED, log entry 210.) -/
def State.gainFor (s w : State) (c f : Nat) (q : Sample) : State × Nat :=
  let x := s.pow c
  let ff := w.has (F.POWER_PCTRL_FF_EN c)
  let rd := x.reads.find? (fun r => r.f == f)
  let hit := match rd with
    | some r => decide ((r.ci, r.cj) = cellOf q.bedX q.bedY)
    | none => false
  let e := match rd with
    | some r => r.energy
    | none => x.eRead
  let out := match rd with
    | some r => r.cell.isNone
    | none => false
  let good := if hit then w.curveGain c e else x.goodGain
  let s := s.setPow c { x with goodGain := good, eRead := e, matched := hit, outside := out }
  let s := if !hit then s.count (F.POWER_EVENTS_MISMATCH c) else s
  (s, if ff then good else 32768)

/-! ## The melt-pool loop (R324 to R326) -/

/-- The coefficients of the bank in force (R327, R354). -/
def State.meltGains (w : State) (c : Nat) : Gains :=
  let b := w.get (F.POWER_PCTRL_BANK c)
  { kp := w.get (F.POWER_BANK_KP c b), ki := w.get (F.POWER_BANK_KI c b), kd := w.get (F.POWER_BANK_KD c b)
    dfilt := w.get (F.POWER_BANK_DFILT c b), offset := 0, ilim := w.get (F.POWER_BANK_ILIM c b)
    umin := w.getI (F.POWER_BANK_CLAMP_TMIN c b), umax := w.getI (F.POWER_BANK_CLAMP_TMAX c b) }

/-- MELT_LOOP: the trim T for a valid measurement, or a held evaluation (R324, R326). -/
def State.meltLoop (s w : State) (c r m : Nat) (valid : Bool) : State × Int :=
  let x := s.pow c
  let freeze := w.get (F.POWER_EM_FREEZE_MAX c)
  let init := x.init || (valid && decide (freeze ≤ x.heldRun))
  let g := w.meltGains c
  let o := loopLaw ⟨x.ePrev, x.d, x.i, init⟩ g (if valid then some ((r : Int) - m) else none) 0
  let run := if valid then 0 else x.heldRun + 1
  let on := w.has (F.POWER_PCTRL_LOOP_EN c)
  let t := if on then o.cmd else 0
  let s := s.setPow c { x with
    ePrev := o.core.ePrev, d := o.core.d, i := if on then o.core.i else 0, init := o.core.init, heldRun := run, held := !valid, e := o.core.ePrev }
  let s := s.putB (F.POWER_P_STAT_FROZEN c) (!valid && decide (freeze ≤ run))
  (s.putB (F.POWER_P_STAT_TRIM_SAT c) (t == g.umin || t == g.umax), t)

/-! ## The emission monitor (R328) -/

/-- A valid measurement against the monitor's window (R328). (DEDUCED, log entry 88.) -/
def State.monitor (s w : State) (c m : Nat) : State :=
  let x := s.pow c
  if m < w.get (F.POWER_MON_WIN_EM_LO c) ∨ w.get (F.POWER_MON_WIN_EM_HI c) < m then
    ((s.setPow c { x with monOutside := true }).count (F.POWER_P_STAT_MON_RUN c)).count (F.POWER_EVENTS_MON_OUT c)
  else (s.setPow c { x with monActed := false }).put (F.POWER_P_STAT_MON_RUN c) 0

/-- MON_RUN has reached MON_COUNT: the action of MON_ACT, once for the episode (R328). -/
def State.monitorTrip (s : State) (c : Nat) : State :=
  let f := (s.sq c).built
  let w := s.inForce f
  let x := s.pow c
  if x.monActed || !w.has (F.POWER_PCTRL_MON_EN c)
      || decide (s.get (F.POWER_P_STAT_MON_RUN c) < w.get (F.POWER_COUNTS_MON_COUNT c)) then s
  else
    let s := s.setPow c { x with monActed := true }
    match w.get (F.POWER_PCTRL_MON_ACT c) with
    | 1 => s.warn ⟨2, c⟩ 0x2801
    | 2 => ((s.mark (F.POWER_P_STAT_MON_TRIP c)).raise 2 false ⟨2, c⟩ 0x2802).addChTrigger c
        { at_ := f + 1, target := 5, cause := 0x2802 }
    | _ => s

/-! ## Summaries (R350 to R352) -/

/-- The 32 bytes of a summary record (R350). -/
def Summary.bytes (x : Summary) (s : State) (c f flags : Nat) : List Byte :=
  let mean := fun (a : Int) (n : Nat) => roundHalfEven a n
  leBytes 1 1 ++ leBytes 1 c ++ leBytes 1 s.position ++ leBytes 1 flags ++ leBytes 8 f ++ leBytes 2 x.frames ++ leBytes 2 x.valid
    ++ leBytes 2 (mean x.emSum x.valid).toNat ++ leBytes 2 x.emMin ++ leBytes 2 x.emMax
    ++ leBytes 2 (fieldOf 16 (mean x.trimSum x.frames)) ++ leBytes 2 (mean x.gSum x.frames).toNat
    ++ leBytes 2 (satN 65535 x.monOut) ++ leBytes 4 (satN 0xFFFFFFFF x.energy)

/-- A gap record: the fields beside KIND, END and the number of records lost are 0 (R350). -/
def gapRecord (lostAt lost : Nat) : List Byte :=
  leBytes 1 2 ++ leBytes 3 0 ++ leBytes 8 lostAt ++ leBytes 16 0 ++ leBytes 4 lost

/-- A summary record enters the 64 KB buffer; at a full buffer it is dropped and counted. A partner that is not the keeper discards it (R352). -/
def State.storeSummary (s : State) (f : Nat) (bytes : List Byte) : State :=
  if 2 ≤ s.pairRole then s else
  let l := s.ledger
  let need := if l.lost = 0 then 1 else 2
  if 2048 < l.records.length + need then
    let first := l.lost == 0
    let s := { s with ledger := { l with lost := l.lost + 1, lostAt := if first then f else l.lostAt } }
    let s := s.count F.LEDGER_TEL_DROPPED
    if first then s.warn ⟨1, 0x29⟩ 0x2920 else s
  else
    let add := if l.lost = 0 then [bytes] else [gapRecord l.lostAt l.lost, bytes]
    { s with ledger := { l with records := l.records ++ add, lost := 0 } }

/-- The period of channel `c` closes at `f`; one without marking frames emits nothing (R351). -/
def State.closeSummary (s w : State) (c f : Nat) (layerEnd change : Bool) : State :=
  let x := s.pow c
  let flags := (if layerEnd then 1 else 0) + (if change then 2 else 0)
    + (if w.has (F.POWER_PCTRL_LOOP_EN c) then 4 else 0) + (if w.has (F.POWER_PCTRL_MON_EN c) then 8 else 0)
  let b := x.summ.bytes s c f flags
  let s' := s.setPow c { x with summ := {} }
  if x.summ.frames = 0 then s' else s'.storeSummary f b

/-- One evaluation joins the channel's summary, and the period closes where R351 says. (DEDUCED, log entry 211.) -/
def State.summarize (s w : State) (c f : Nat) (mark valid : Bool) : State :=
  let n := w.get (F.POWER_COUNTS_SUM_FRAMES c)
  let x := s.pow c
  let st := s.chAt c f
  let left := x.lastState == 3 && st != 3
  let s := s.setPow c { x with lastState := st }
  if n = 0 then s.setPow c { s.pow c with summ := {} }
  else
    let y := s.pow c
    let z := y.summ
    let z' : Summary := if mark then
      { frames := z.frames + 1, valid := z.valid + (if valid then 1 else 0)
        emSum := z.emSum + (if valid then y.m else 0)
        emMin := if valid then (if z.valid = 0 ∨ y.m < z.emMin then y.m else z.emMin) else z.emMin
        emMax := if valid ∧ z.emMax < y.m then y.m else z.emMax
        trimSum := z.trimSum + y.t, gSum := z.gSum + y.g
        monOut := z.monOut + (if valid && y.monOutside && w.has (F.POWER_PCTRL_MON_EN c) then 1 else 0)
        energy := z.energy + y.de } else z
    let s := s.setPow c { y with summ := z' }
    if n ≤ z'.frames then s.closeSummary w c f false false
    else if left then s.closeSummary w c f (st == 2) (st != 2)
    else s

/-! ## POWER_EVAL (R317 to R320, R335) -/

/-- The gate of R33 for a sample. (DEDUCED, log entry 83.) -/
def State.gateFor (s : State) (c f : Nat) (q : Sample) : Bool :=
  s.chAt c f == 3 && s.gateAllowed f && q.mark && !q.deferred

/-- The own deposit of channel `c` for `f` (R335). (DEDUCED, log entry 212.) -/
def State.ownDeposit (s w : State) (c f : Nat) (q : Sample) (u : Nat) : State × Nat :=
  let de := (roundHalfEven (w.get (F.POWER_DEP_SCALE c) * u : Nat) (2 ^ 33)).toNat
  if de = 0 then (s, 0)
  else
    let (i, j) := cellOf q.bedX q.bedY
    match s.ledger.index i j with
    | some n => (s.deposit f f n de, de)
    | none => ((s.setPow c { s.pow c with outside := true }).count F.LEDGER_OUTSIDE, de)

/-- POWER_EVAL of channel `c` for apply instant `f`. -/
def State.powerEval (s w : State) (c f : Nat) : State :=
  let st := s.chAt c f
  if st = 0 then
    let s := if (s.pow c).lastState = 3 then s.closeSummary w c f false true else s
    s.setPow c { s.pow c with evals := (s.pow c).evals.filter (fun e => decide (f < e.f + 24)), reads := [], goodGain := 32768, lastState := 0, held := false, e := 0, monOutside := false, valid := false, t := 0, de := 0, gate := false, u0 := 0, u1 := 0 }
  else match (s.sq c).samples.find? (fun (q : Sample) => q.f == f) with
    | none => s
    | some q =>
      let (s, g) := s.gainFor w c f q
      let p1 := fun (p : Nat) => satN 65535 (roundHalfEven (p * g : Nat) 32768).toNat
      let (a, b) := (p1 q.p0, p1 q.p1)
      let (b1, b2, m, ok) := s.measure w c f
      let em := w.get (F.POWER_EM_EM_SET c)
      let ref := if w.has (F.POWER_PCTRL_REF_MODE c) then (roundHalfEven (em * (a + b) : Nat) 65536).toNat else em
      let r := match (s.pow c).evals.find? (fun e => e.f + 3 == f) with
        | some e => e.ref
        | none => ref
      let idle := s.devAt f == 0 || s.devAt f == 5
      let (s, t) :=
        if st = 5 ∨ st = 6 then (s.setPow c { s.pow c with i := 0, held := false, e := 0 }, (0 : Int))
        else if idle then (s.setPow c { s.pow c with held := false, e := 0 }, 0)
        else s.meltLoop w c r m (ok && st == 3)
      let gate := s.gateFor c f q && !idle
      let u := fun (p : Nat) => if gate then
          let v := (roundHalfEven ((p : Int) * (32768 + t)) 32768).toNat
          satN (w.get (F.POWER_PMAX c)) v
        else 0
      let (u0, u1) := (u a, u b)
      let x := s.pow c
      let s := s.setPow c { x with
        g := g, p1 := a, b1 := b1, b2 := b2, m := m, r := r, t := t, valid := ok, gate := gate, u0 := u0, u1 := u1 }
      let (s, de) := if st = 3 then s.ownDeposit w c f q (u0 + u1) else (s, 0)
      let x := s.pow c
      let s := s.setPow c { x with
        de := de, monOutside := false, evals := (⟨f, gate && u0 != 0 && u1 != 0, ref, de⟩ :: x.evals).take 24 }
      let s := if ok && st == 3 && w.has (F.POWER_PCTRL_MON_EN c) then s.monitor w c m else s
      let s := s.put64 (F.POWER_ENERGY_LO c) (F.POWER_ENERGY_HI c) (s.get64 (F.POWER_ENERGY_LO c) (F.POWER_ENERGY_HI c) + de)
      let x := s.pow c
      let s := ((s.putB (F.POWER_P_STAT_FF_MATCH c) x.matched).putB (F.POWER_P_STAT_MEAS_VALID c) ok).putB
        (F.POWER_P_STAT_OUTSIDE c) x.outside
      let s := ((s.put (F.POWER_EM_LAST_M c) m).put (F.POWER_EM_LAST_REF c) r).put (F.POWER_FF_LAST_G c) g
      let s := ((s.put (F.POWER_FF_LAST_E c) x.eRead).put (F.POWER_OUT_LAST_U0 c) u0).put (F.POWER_OUT_LAST_U1 c) u1
      let s := (s.putI (F.POWER_TRIM_LAST c) t).putI (F.POWER_INTEG c) x.i
      s.summarize w c f q.mark ok

/-- The sum of a channel's own deposits over apply instants `a` to `b` (R336, R365). -/
def State.energyOver (s : State) (c a b : Nat) : Nat :=
  (((s.pow c).evals.filter (fun e => decide (a ≤ e.f) && decide (e.f ≤ b))).map (fun e => e.de)).sum

end Sys2Proof.Machine
end

