-- ==== Sys2Proof/Machine/Trace.lean ====
section
/-!
DEFINITION. Sys2Proof/Machine/Trace.lean: the trace unit (spec/08 R307 to R312, spec/09 R353): nodes, sampling, the trigger and the
trace opcodes.
-/
namespace Sys2Proof.Machine

/-! ## Nodes (R307, R353) -/

/-- A value saturated to signed 32 bits (R307). -/
def sat32 (x : Int) : Int := clampI (-(2 ^ 31)) (2 ^ 31 - 1) x

/-- Bits of a flag word. -/
def flagBits (bs : List Bool) : Int := (bs.zipIdx.map (fun (b, i) => if b then (2 ^ i : Int) else 0)).foldl (fun m e => m + e) 0

/-- A scanner axis node (R307). -/
def State.axisNode (s : State) (c a n : Nat) : Int :=
  let x := s.ax c a
  match n with
  | 0x01 => x.r
  | 0x02 => x.y
  | 0x03 => x.ePrev
  | 0x04 => x.d
  | 0x05 => x.p
  | 0x06 => x.i
  | 0x07 => x.dTerm
  | 0x08 => x.ff
  | 0x09 => x.u
  | 0x0A => s.getI (F.LOOP_AX_OUT_CMD c a)
  | 0x0B => flagBits [s.has (F.LOOP_AX_STAT_SAT c a), s.has (F.LOOP_AX_STAT_HELD c a), s.has (F.LOOP_AX_STAT_BANK c a),
      s.has (F.LOOP_AX_STAT_DETUNED c a), s.has (F.LOOP_AX_STAT_ZERO c a)]
  | _ => 0

/-- A sequencer node of apply instant `f` (R307). -/
def State.seqNode (s : State) (c a f n : Nat) : Int :=
  match (s.sq c).samples.find? (fun (q : Sample) => q.f == f) with
  | none => 0
  | some q =>
    match n with
    | 0x10 => if a = 0 then q.bedX else if a = 1 then q.bedY else q.bedZ
    | 0x11 => q.p0
    | 0x12 => q.p1
    | _ => signedOf 32 (fieldOf 32 q.slip)

/-- A power or ledger node (R353). -/
def State.powerNode (s : State) (c n : Nat) : Int :=
  let x := s.pow c
  match n with
  | 0x20 => x.g
  | 0x21 => x.eRead
  | 0x22 => x.p1
  | 0x23 => x.b1
  | 0x24 => x.b2
  | 0x25 => x.m
  | 0x26 => x.r
  | 0x27 => x.e
  | 0x28 => x.i
  | 0x29 => x.t
  | 0x2A => x.u0
  | 0x2B => x.u1
  | 0x2C => x.de
  | 0x2D => flagBits [x.matched, x.valid, x.gate, x.held, x.outside, x.monOutside]
  | _ => 0

/-- A machine axis node: its most recent evaluation (R307, R308). -/
def State.maNode (s : State) (a n : Nat) : Int :=
  let x := s.ma a
  match n with
  | 0x30 => x.r
  | 0x31 => x.y
  | 0x32 => x.ePrev
  | 0x33 => roundHalfEven x.i 65536
  | 0x34 => x.cmd
  | _ => 0

/-- The sample of probe `p` for apply instant `f`; 0 where it is not enabled or its node is not listed (R307). (DEDUCED, log entry 127.) -/
def State.probeSample (s : State) (f p : Nat) : Int :=
  let n := s.get (F.TRACE_PROBE_NODE p)
  let c := s.get (F.TRACE_PROBE_CHANNEL p)
  let a := s.get (F.TRACE_PROBE_AXIS p)
  if !s.has (F.TRACE_PROBE_ENABLE p) then 0
  else sat32 (if n < 0x10 then s.axisNode c a n
    else if n ≤ 0x13 then s.seqNode c a f n
    else if 0x20 ≤ n ∧ n ≤ 0x2F then s.powerNode c n
    else s.maNode (c % 16) n)

/-! ## Sampling (R308 to R310) -/

/-- The condition of TCFG.MODE on the sampled instant `f` (R309). -/
def State.traceHit (s : State) (f : Nat) (row : List Int) : Bool :=
  let level := s.getI F.TRACE_LEVEL
  let v := row.getD (s.get F.TRACE_COND_PROBE) 0
  match s.get F.TRACE_TCFG_MODE with
  | 0 => true
  | 1 => decide (diff48 (s.get F.TRACE_TRIG_TIME_LO + s.get F.TRACE_TRIG_TIME_HI * 2 ^ 32 : Nat) (f * 1000) ≤ 0)
  | 2 =>
    (match s.get F.TRACE_COND_OP with
      | 0 => (match s.trace.lastCond with
        | some l => decide (l < level) && decide (level ≤ v)
        | none => false)
      | 1 => (match s.trace.lastCond with
        | some l => decide (level < l) && decide (v ≤ level)
        | none => false)
      | _ => decide (level ≤ (v.natAbs : Int)))
  | _ => s.loop.tripSeen

/-- COUNT and FIRST show the samples stored (R315). -/
def State.showTrace (s : State) : State :=
  (s.put F.TRACE_TCOUNT s.trace.rows.length).put64 F.TRACE_FIRST_LO F.TRACE_FIRST_HI s.trace.first

/-- One sample of every enabled probe for apply instant `f`, tested for the trigger while armed (R308 to R310). -/
def State.traceSample (s : State) (f : Nat) : State :=
  let st := s.get F.TRACE_TSTAT_STATE
  let d := s.get F.TRACE_DECIM
  if (st ≠ 1 ∧ st ≠ 2) ∨ f % d ≠ 0 then s
  else
    let t := s.trace
    let row := (List.range 16).map (s.probeSample f)
    let all := t.rows ++ [row]
    let first := if t.rows.isEmpty then f else t.first
    if st = 2 then
      if t.left = 0 then s
      else { s with trace := { t with rows := all, left := t.left - 1 } }.showTrace
    else
      let cond := some (row.getD (s.get F.TRACE_COND_PROBE) 0)
      let pre := s.get F.TRACE_TCFG_PRE
      if t.force || s.traceHit f row then
        let s := { s with trace := { t with rows := all, first := first, decim := d, lastCond := cond, force := false, left := 65535 - pre } }
        ((s.put F.TRACE_TSTAT_STATE 2).put F.TRACE_TRIG_INDEX t.rows.length).showTrace
      else
        let gone := all.length - pre
        { s with trace := { t with rows := all.drop gone, first := first + gone * d, decim := d, lastCond := cond } }.showTrace

/-- The last post-trigger sample is stored: DONE (R310). -/
def State.traceDone (s : State) : State :=
  if s.get F.TRACE_TSTAT_STATE = 2 ∧ s.trace.left = 0 then s.put F.TRACE_TSTAT_STATE 3 else s

/-! ## Opcodes (R311, R312) -/

/-- TRACE_ARM: empties all buffers and enters ARMED (R311). -/
def opTraceArm (p : InFlight) (s : State) : State × Verdict :=
  if p.target ≠ 0 then (s, malformed 0x21F6)
  else if p.body ≠ [] then (s, malformed 0x0202)
  else if s.get F.TRACE_TSTAT_STATE = 1 ∨ s.get F.TRACE_TSTAT_STATE = 2 then (s, refused 0x21F5)
  else ((({ s with trace := {} }.put F.TRACE_TSTAT_STATE 1).put F.TRACE_TRIG_INDEX 0).showTrace, .done [])

/-- TRACE_STOP: DONE from ARMED or TRIGGERED, with the samples stored (R310, R311). -/
def opTraceStop (p : InFlight) (s : State) : State × Verdict :=
  if p.target ≠ 0 then (s, malformed 0x21F6)
  else if p.body ≠ [] then (s, malformed 0x0202)
  else if s.get F.TRACE_TSTAT_STATE = 1 ∨ s.get F.TRACE_TSTAT_STATE = 2 then (s.put F.TRACE_TSTAT_STATE 3, .done [])
  else (s, .done [])

/-- TRACE_FORCE: triggers at the next sampled instant (R311). -/
def opTraceForce (p : InFlight) (s : State) : State × Verdict :=
  if p.target ≠ 0 then (s, malformed 0x21F6)
  else if p.body ≠ [] then (s, malformed 0x0202)
  else if s.get F.TRACE_TSTAT_STATE ≠ 1 then (s, refused 0x21F5)
  else ({ s with trace := { s.trace with force := true } }, .done [])

/-- The checks of TRACE_READ (R312). -/
def traceReadError (p : InFlight) (s : State) : Option Verdict :=
  let n := bodyWord p.body 1
  if 16 ≤ p.target.toNat then some (malformed 0x21F6)
  else if p.body.length ≠ 2 then some (malformed 0x0202)
  else if n = 0 ∨ 4088 < n then some (malformed 0x21F6)
  else if s.trace.rows.length < bodyWord p.body 0 + n then some (malformed 0x2101)
  else none

/-- The result words of TRACE_READ: the apply instant of the first sample and the samples as they stand (R312). -/
def State.traceReadWords (s : State) (p : InFlight) : List Word :=
  let i := bodyWord p.body 0
  let rows := (s.trace.rows.drop i).take (bodyWord p.body 1)
  lowHigh (s.trace.first + i * s.trace.decim) ++ rows.map (fun r => word (fieldOf 32 (r.getD (p.target.toNat % 16) 0)))

end Sys2Proof.Machine
end

