-- ==== Sys2Proof/Machine/Col.lean ====
section
/-!
DEFINITION. Sys2Proof/Machine/Col.lean: col zones and the lee interlock (spec/10): digests (R363 to R369), the conflict test in exact
arithmetic (R370, R371), the yield rule (R372 to R378), clearance and resync (R379, R380), and COL_READ
(R384).
-/
namespace Sys2Proof.Machine

/-! ## Exact geometry -/

/-- Whether √a + √b is at least n / d, decided exactly (d > 0). -/
def rootsAtLeast (a b : Nat) (n : Int) (d : Nat) : Bool :=
  if n ≤ 0 then true
  else
    let r := n * n - ((a + b) * d * d : Nat)
    decide (r ≤ 0) || decide (r * r ≤ (4 * a * b * d * d * d * d : Nat))

/-- The squared distance of a point from a segment, as a fraction: `v` runs from the segment's start to the point, `c` along it. -/
def segDist2 (v c : Int × Int) : Nat × Nat :=
  let l := c.1 * c.1 + c.2 * c.2
  let t := v.1 * c.1 + v.2 * c.2
  let cr := v.1 * c.2 - v.2 * c.1
  if t ≤ 0 then ((v.1 * v.1 + v.2 * v.2).toNat, 1)
  else if l ≤ t then (((v.1 - c.1) * (v.1 - c.1) + (v.2 - c.2) * (v.2 - c.2)).toNat, 1)
  else ((cr * cr).toNat, l.toNat)

/-- The z component of a cross product. -/
def cross (a b : Int × Int) : Int := a.1 * b.2 - a.2 * b.1

/-- Two segments cross at an inner point of both. -/
def segmentsCross (p c q e : Int × Int) : Bool :=
  let w := (q.1 - p.1, q.2 - p.2)
  let s1 := (cross c w).sign
  let s2 := (cross c (w.1 + e.1, w.2 + e.2)).sign
  let s3 := (cross e (-w.1, -w.2)).sign
  let s4 := (cross e (c.1 - w.1, c.2 - w.2)).sign
  decide (s1 * s2 < 0) && decide (s3 * s4 < 0)

/-- The least distance between two segments is below `r` (SEGDIST of R370). -/
def segsNearer (p c q e : Int × Int) (r : Nat) : Bool :=
  let near := fun (v w : Int × Int) => let (n, d) := segDist2 v w; decide (n < r * r * d)
  segmentsCross p c q e && decide (0 < r)
    || near (q.1 - p.1, q.2 - p.2) c || near (q.1 + e.1 - p.1, q.2 + e.2 - p.2) c
    || near (p.1 - q.1, p.2 - q.2) e || near (p.1 + c.1 - q.1, p.2 + c.2 - q.2) e

/-! ## Digests (R363 to R367) -/

/-- Micrometres of a bed coordinate (R365). -/
def toUm (x : Int) : Int := roundHalfEven x 1000

/-- RHO of R366 from the predicted points of a window and its chord, all in µm. -/
def corridor (pts : List (Int × Int)) (p c : Int × Int) : Nat :=
  let dmax := pts.foldl (fun (m : Nat × Nat) x =>
    let d := segDist2 (x.1 - p.1, x.2 - p.2) c
    if m.1 * d.2 < d.1 * m.2 then d else m) (0, 1)
  let smax := (pts.zip (pts.drop 1)).foldl (fun (m : Nat) (e : (Int × Int) × (Int × Int)) =>
    let l := ((e.2.1 - e.1.1) * (e.2.1 - e.1.1) + (e.2.2 - e.1.2) * (e.2.2 - e.1.2)).toNat
    if m < l then l else m) 0
  -- least n with D_max + S_max / 2 ≤ 4 n - 1
  let fits := fun (n : Nat) =>
    let k : Int := 4 * (n : Int) - 1
    let q := dmax.2
    -- (√(D) + √(S / 4)) ≤ k with D = dmax.1 / q
    let sum4 : Int := (4 * dmax.1 + smax * q : Nat)
    let r := 4 * q * k * k - sum4
    decide (0 ≤ k) && decide (0 ≤ r) && decide ((16 * dmax.1 * smax * q : Nat) ≤ (r * r : Int))
  ((List.range 256).find? fits).getD 255

/-- The entry of channel `c` in the digest of period `d`, where it has one (R364, R365). -/
def State.colEntry (s w : State) (c d : Nat) : Option ColEntry :=
  let x := s.sq c
  let pr := s.predict w c d 60
  let at_ := fun (k : Nat) => (pr.getD (k - d - 1) ((0, 0, 0), false))
  let w0 := d + 50
  let bits := (List.range 10).foldl (fun m k => if (at_ (w0 + 1 + k)).2 then m + 2 ^ k else m) 0
  let e := s.energyOver c (d - 9) d
  if bits = 0 ∧ e = 0 then none
  else
    let um := fun (k : Nat) => (toUm (at_ k).1.1, toUm (at_ k).1.2.1)
    let p := um w0
    let q := um (w0 + 10)
    let cc := (q.1 - p.1, q.2 - p.2)
    let first := ((List.range 10).find? (fun k => (at_ (w0 + 1 + k)).2)).map (fun k => w0 + 1 + k)
    let start : Int := match first with
      | none => 0
      | some g =>
        let back := ((List.range (g - d - 1)).find? (fun i => !(at_ (g - 1 - i)).2)).map (fun i => g - i)
        let run := match back with
          | some r => r
          | none => if ((x.samples.find? (fun (q : Sample) => q.f == d)).map (fun q => q.mark)).getD false then x.markRun else d + 1
        (w0 : Int) - run
    let here := x.samples.find? (fun (q : Sample) => q.f == d)
    let hx := (here.map (fun q => q.bedX)).getD x.bedX
    let hy := (here.map (fun q => q.bedY)).getD x.bedY
    let ago := x.samples.find? (fun (q : Sample) => q.f + 10 == d)
    let ax := (ago.map (fun q => q.bedX)).getD hx
    let ay := (ago.map (fun q => q.bedY)).getD hy
    some { ch := c, rho := corridor ((List.range 11).map (fun k => um (w0 + k))) p cc
           mark := bits, x0 := p.1, y0 := p.2, dx := cc.1, dy := cc.2
           start := if 2 ^ 23 - 1 < start then 2 ^ 23 - 1 else start
           energy := satN (2 ^ 24 - 1) e, px := toUm hx - p.1, py := toUm hy - p.2
           qx := toUm hx - toUm ax, qy := toUm hy - toUm ay }

/-- The bytes of an entry (R365). -/
def ColEntry.bytes (e : ColEntry) : List Byte :=
  leBytes 1 (e.ch + (if e.mark ≠ 0 then 64 else 0) + (if e.energy ≠ 0 then 128 else 0)) ++ leBytes 1 e.rho ++ leBytes 2 e.mark
    ++ leBytes 4 (fieldOf 32 e.x0) ++ leBytes 4 (fieldOf 32 e.y0) ++ leBytes 2 (fieldOf 16 e.dx) ++ leBytes 2 (fieldOf 16 e.dy)
    ++ leBytes 3 (fieldOf 24 e.start) ++ leBytes 1 0 ++ leBytes 3 e.energy ++ leBytes 1 0
    ++ leBytes 2 (fieldOf 16 e.px) ++ leBytes 2 (fieldOf 16 e.py) ++ leBytes 2 (fieldOf 16 e.qx) ++ leBytes 2 (fieldOf 16 e.qy)

/-- The bytes of a digest (R364). -/
def Digest.bytes (g : Digest) : List Byte :=
  let head := leBytes 1 (g.pos + (if g.keeper then 16 else 0) + (if g.holdover then 32 else 0)) ++ leBytes 1 g.entries.length
    ++ leBytes 2 0 ++ leBytes 8 g.d
  let body := g.entries.flatMap ColEntry.bytes
  head ++ leBytes 4 (crc32 (head ++ body)) ++ body

/-- An entry read from 32 bytes. -/
def entryOf (b : List Byte) : ColEntry :=
  { ch := leAt b 0 1 % 64, rho := leAt b 1 1, mark := leAt b 2 2 % 1024
    x0 := signedOf 32 (leAt b 4 4), y0 := signedOf 32 (leAt b 8 4), dx := signedOf 16 (leAt b 12 2), dy := signedOf 16 (leAt b 14 2)
    start := signedOf 24 (leAt b 16 3), energy := leAt b 20 3, px := signedOf 16 (leAt b 24 2), py := signedOf 16 (leAt b 26 2)
    qx := signedOf 16 (leAt b 28 2), qy := signedOf 16 (leAt b 30 2) }

/-- A digest read from bytes; none where its length or its CRC is wrong (R364). -/
def digestOf (b : List Byte) : Option Digest :=
  let n := leAt b 1 1
  if b.length ≠ 16 + 32 * n ∨ 64 < n ∨ crc32 (b.take 12 ++ b.drop 16) ≠ leAt b 12 4 then none
  else some
    { pos := leAt b 0 1 % 16, keeper := bitsOf (leAt b 0 1) 4 1 == 1, holdover := bitsOf (leAt b 0 1) 5 1 == 1, d := leAt b 4 8
      entries := (List.range n).map (fun i => entryOf ((b.drop (16 + 32 * i)).take 32)) }

/-- The device builds digests: above BOOT, not CANDIDATE and not a referee, and CFG.ENABLE (R367, R381). -/
def State.buildsDigest (s w : State) : Bool :=
  w.has F.COL_CFG_ENABLE && s.dev != 0 && s.pairRole != 3 && s.cascadeRole != 2

/-- COL words as `w` holds them are kept for the checks of period `d` (R374). -/
def State.keepColWords (s w : State) (d : Nat) : State :=
  if d % 10 ≠ 0 then s
  else
    let ws := w.regs.filter (fun (e : Nat × Word) => e.1 / 65536 == 0x30)
    { s with col := { s.col with words := ((d, ws) :: s.col.words).take 4 } }

/-- The state with COL words as they were in force for apply instant `d` (R374). (DEDUCED, log entry 93.) -/
def State.atPeriod (s : State) (d : Nat) : State :=
  match s.col.words.find? (fun (e : Nat × Tab Word) => e.1 == d) with
  | some (_, ws) =>
    { s with regs := s.regs.filter (fun (e : Nat × Word) => decide (e.1 / 65536 < 0x30)) ++ ws
        ++ s.regs.filter (fun (e : Nat × Word) => decide (0x30 < e.1 / 65536)) }
  | none => s.inForce d

/-- DIGEST_BUILD: the own digest of period `d`, from the sample for d and its predictions (R364). -/
def State.digestBuild (s w : State) (d : Nat) : State :=
  if d % 10 ≠ 0 ∨ !s.buildsDigest w then s
  else
    let g : Digest := { pos := s.position, keeper := s.pairRole == 1, holdover := s.get F.TIME_STATE == 2, d := d
                        entries := (List.range 64).filterMap (fun c => s.colEntry w c d) }
    { s with col := { s.col with own := (g :: s.col.own).take 8 } }

/-- The device sends the digest of period `d` (R367, R477, R500, R567). -/
def State.sendsDigest (s : State) (d : Nat) : Bool :=
  s.buildsDigest s && s.get F.TIME_STATE != 0 && decide (s.roleAt d ≤ 1) && !s.has F.PAIR_PSTAT_LOCAL_STOP

/-- The own digest of a period. -/
def State.ownDigest (s : State) (d : Nat) : Option Digest := s.col.own.find? (fun g => g.d == d)

/-- The digest of a position that the checker holds for period `d` (R368). -/
def State.heldDigest (s : State) (q d : Nat) : Option Digest :=
  if q = s.position then s.ownDigest d else s.col.got.find? (fun g => g.pos == q && g.d == d)

/-- An accepted digest joins those held, and its energies go to the ledger for d + 19 (R336, R368). It ends the position's episode of
absence, and that of digests from outside POSITIONS. (DEDUCED, log entry 216.) -/
def State.acceptDigest (s : State) (g : Digest) : State :=
  let beams := (g.entries.filter (fun e => e.energy != 0)).map (fun e =>
    let x := e.x0 + e.px
    let y := e.y0 + e.py
    ({ d := g.d, pos := g.pos, chan := e.ch, energy := e.energy, x0 := (x - e.qx) * 1000, y0 := (y - e.qy) * 1000
       x1 := x * 1000, y1 := y * 1000 } : Foreign))
  { s with
    col := { s.col with got := (g :: s.col.got).take 128, absent := s.col.absent.filter (fun q => q != g.pos),
                          outside := s.col.outside.filter (fun q => q != g.pos) }
    ledger := { s.ledger with foreign := s.ledger.foreign ++ beams } }

/-- DIGEST_RX: a digest arrives from the ring (R368). -/
def State.digestRx (s : State) (b : List Byte) : State :=
  match digestOf b with
  | none => s
  | some g =>
    if bitsOf ((s.atPeriod g.d).get F.COL_POSITIONS) g.pos 1 = 0 ∧ g.pos ≠ s.position then
      let s' := { s with col := { s.col with discarded := s.col.discarded + 1, outside := g.pos :: s.col.outside } }
      if s.col.outside.contains g.pos then { s with col := { s.col with discarded := s.col.discarded + 1 } }
      else s'.warn ⟨1, 0x30⟩ 0x3020 [g.pos]
    else if g.pos ≠ s.position ∧ (g.d + 8) * 1000 < s.ns then s.count F.RIDGE_DIG_LATE
    else if g.pos = s.position ∨ g.d % 10 ≠ 0 ∨ s.ns + 2000 < g.d * 1000
        ∨ (s.heldDigest g.pos g.d).isSome ∨ s.dev = 0 then s
    else s.acceptDigest g

/-- DIGEST_FILL: a request of the partner is answered from the accepted copies, or by a report of absence; the answer with the partner's
accepted copy counts by d + 9 µs (R369). (DEDUCED, log entry 95.) -/
def State.digestFill (s : State) : DigestFill → State
  | .request d ps => forEach ps (fun p s => s.emitRidge 0x14 .partner (match s.heldDigest p d with
      | some g => .bytes "DIGEST_FILL" [d, p] g.bytes
      | none => .signal "DIGEST_ABSENT" [d, p])) s
  | .absent _ _ => s
  | .answer b => match digestOf b with
  | none => s
  | some g =>
    if bitsOf ((s.atPeriod g.d).get F.COL_POSITIONS) g.pos 1 = 0 ∨ g.pos = s.position ∨ (g.d + 9) * 1000 < s.ns
        ∨ (s.heldDigest g.pos g.d).isSome then s
    else (s.acceptDigest { g with filled := true }).count (F.COL_MISS_FILLS g.pos)

/-- The positions whose digest of period `d` is expected and not held (R376). -/
def State.missingDigests (s : State) (d : Nat) : List Nat :=
  let ps := (s.atPeriod d).get F.COL_POSITIONS
  (List.range 16).filter (fun q => q != s.position && bitsOf ps q 1 == 1 && (s.heldDigest q d).isNone)

/-- The absences of period `d` are counted once, with one WARN for each position's episode (R376). -/
def State.countAbsences (s : State) (d : Nat) : State :=
  if s.col.countedFor == some d || !s.buildsDigest (s.atPeriod d) then s
  else
    let s := { s with col := { s.col with countedFor := some d } }
    forEach (s.missingDigests d) (fun q s =>
      let s := s.count (F.COL_MISS_MISSED q)
      if s.col.absent.contains q then s
      else { s with col := { s.col with absent := q :: s.col.absent } }.warn ⟨1, 0x30⟩ 0x3010 [q]) s

/-! ## The conflict test (R360, R370, R372) -/

/-- A zone of R359 as the words give it. -/
structure Zone where
  xmin : Int
  xmax : Int
  ymin : Int
  ymax : Int
  mask : Nat
  radius : Nat
  table : Nat
deriving DecidableEq, Repr

/-- The enabled zones in rising order. -/
def State.zones (s : State) : List Zone :=
  ((List.range 128).filter (fun z => s.has (F.COL_ZC_ENABLE z))).map (fun z =>
    ⟨s.getI (F.COL_XR_XMIN z), s.getI (F.COL_XR_XMAX z), s.getI (F.COL_YR_YMIN z), s.getI (F.COL_YR_YMAX z),
      s.get (F.COL_ZP_POSMASK z), s.get (F.COL_ZP_RADIUS z), s.get (F.COL_ZC_TABLE z)⟩)

/-- The box of an entry shares a cell with a zone (R360). -/
def Zone.meets (z : Zone) (guard : Nat) (e : ColEntry) : Bool :=
  let g : Int := 4 * e.rho + guard
  let lo := fun (a d : Int) => (if d < 0 then a + d else a) - g
  let hi := fun (a d : Int) => (if d < 0 then a else a + d) + g
  decide (lo e.x0 e.dx / 100 ≤ z.xmax) && decide (z.xmin ≤ hi e.x0 e.dx / 100)
    && decide (lo e.y0 e.dy / 100 ≤ z.ymax) && decide (z.ymin ≤ hi e.y0 e.dy / 100)

/-- The pair zone of two entries at two positions (R360). -/
def pairZone (zs : List Zone) (guard p q : Nat) (a b : ColEntry) : Option Zone :=
  zs.find? (fun z => bitsOf z.mask p 1 == 1 && bitsOf z.mask q 1 == 1 && z.meets guard a && z.meets guard b)

/-- The lee words (R387). -/
structure Lee where
  ux : Int
  uy : Int
  len : Nat
  w0 : Nat
  tan : Nat
deriving DecidableEq, Repr

/-- IN_LEE(s, v, m) of R370. -/
def inLee (g : Lee) (s v : ColEntry) (m : Nat) : Bool :=
  let a := (s.dx * s.dx + s.dy * s.dy).toNat
  let b := (v.dx * v.dx + v.dy * v.dy).toNat
  (List.range 5).any (fun i => (List.range 5).any (fun j =>
    let x := 4 * (v.x0 - s.x0) + v.dx * j - s.dx * i
    let y := 4 * (v.y0 - s.y0) + v.dy * j - s.dy * i
    let along := x * g.ux + y * g.uy
    let perp : Int := ((x * g.uy - y * g.ux).natAbs : Nat)
    let ahead := if along < 0 then 0 else along
    rootsAtLeast a b (8 * (-along - m * 65536)) 65536
      && rootsAtLeast a b (8 * (along - (g.len + m) * 65536)) 65536
      && rootsAtLeast a b (8 * (perp * 16384 - (g.w0 + m) * 65536 * 16384 - g.tan * ahead)) (65536 * 16384)))

/-- TEST(a, b) of R370: 0 NONE, 1 EXCL, 2 LEE_IN, 3 LEE_OUT. -/
def conflict (excl lee : Bool) (g : Lee) (guard : Nat) (z : Zone) (a b : ColEntry) : Nat :=
  let m := 4 * (a.rho + b.rho) + guard
  if excl && segsNearer (a.x0, a.y0) (a.dx, a.dy) (b.x0, b.y0) (b.dx, b.dy) (z.radius + m) then 1
  else if lee && inLee g b a m then 2
  else if lee && inLee g a b m then 3
  else 0

/-- RANK of a table and a global channel (R362, R389). -/
def State.rank (s : State) (t g : Nat) : Nat :=
  bitsOf (s.reg (wordAddr 0x30 ((1 + t) * 0x400 + 0x100 + g / 2))).toNat (16 * (g % 2)) 16

/-- Whether `a` (global channel ga) loses against `b` (R372). -/
def State.loses (s : State) (t : Nat) (a b : ColEntry) (ga gb : Nat) : Bool :=
  if a.start ≠ b.start then decide (a.start < b.start)
  else
    let ra := s.rank t ga
    let rb := s.rank t gb
    if ra ≠ rb then decide (ra < rb) else decide (ga < gb)

/-- PAIR_CHECKS_START: every own entry of period `d` against every other entry, on the words in force for d (R370 to R374, R383). (DEDUCED, log entry 89.) -/
def State.pairChecks (s : State) (d : Nat) : State :=
  let w := s.atPeriod d
  match s.ownDigest d with
  | none => s
  | some own =>
    let zs := w.zones
    let guard := w.get F.COL_CFG_GUARD
    let g : Lee := ⟨w.getI F.COL_LEE_DIR_UX, w.getI F.COL_LEE_DIR_UY, w.get F.COL_LEE_LEN, w.get F.COL_LEE_SHAPE_W0, w.get F.COL_LEE_SHAPE_TAN⟩
    let all := (List.range 16).flatMap (fun q => match s.heldDigest q d with
      | some x => x.entries.map (fun e => (q, e))
      | none => [])
    let pos := s.position
    let look := fun (a : ColEntry) => all.filterMap (fun (e : Nat × ColEntry) =>
      let (q, b) := e
      if a.mark = 0 ∨ b.mark = 0 ∨ (q = pos ∧ b.ch = a.ch) then none
      else (pairZone zs guard pos q a b).map (fun z =>
        (q * 64 + b.ch, conflict (w.has F.COL_CFG_EXCL_EN) (w.has F.COL_CFG_LEE_EN) g guard z a b,
          w.loses z.table a b (pos * 64 + a.ch) (q * 64 + b.ch))))
    let rows := own.entries.map (fun a => (a, look a))
    let found := rows.map (fun (e : ColEntry × List (Nat × Nat × Bool)) =>
      let hits := e.2.filter (fun x => x.2.1 != 0)
      let lost := hits.find? (fun x => x.2.2)
      ({ ch := e.1.ch, kind := (lost.map (fun x => x.2.1)).getD 0, rival := (lost.map (fun x => x.1)).getD 0
         wins := (hits.filter (fun x => !x.2.2)).length } : Finding))
    let pairs := (rows.map (fun (e : ColEntry × List (Nat × Nat × Bool)) => e.2.length)).sum
    let hits := (rows.map (fun (e : ColEntry × List (Nat × Nat × Bool)) => (e.2.filter (fun x => x.2.1 != 0)).length)).sum
    { s with col := { s.col with checked := some (d, found), counted := (pairs, hits) } }

/-! ## Verdicts (R373 to R378) -/

/-- The verdict LOSE for channel `c` in window `w`, with its kind and rival: the deferral of R375 and the words of R386. (DEDUCED, log entry 94.) -/
def State.loseWindow (s : State) (w : Nat) (e : ColEntry) (kind rival : Nat) : State :=
  let c := e.ch
  let j := ((List.range 10).find? (fun k => bitsOf e.mark k 1 == 1)).getD 0 + 1
  let x := s.sq c
  let add := ((List.range (21 - j)).map (fun i => 10 * w + j + i)).filter (fun f => decide (x.built < f) && !x.yields.contains f)
  let s := s.setSq c { x with yields := x.yields ++ add }
  let s := (((s.count (F.COL_LOSSES c)).put (F.COL_C_STAT_LAST_LOSE c) 1).put (F.COL_C_STAT_LAST_KIND c) kind).putB
    (F.COL_C_STAT_SUBST c) (kind == 4)
  let s := if kind = 1 ∨ kind = 2 ∨ kind = 3 then s.put (F.COL_C_STAT_LAST_RIVAL c) rival else s
  let s := if kind = 4 then s.count (F.COL_RESYNCS_SUBSTS c) else s
  let s := s.put64 (F.COL_LAST_W_LO c) (F.COL_LAST_W_HI c) (10 * w)
  { s with col := { s.col with
      yields := tabPut [] s.col.yields c ((tabGet [] s.col.yields c).filter (fun e => decide (x.built < e.2)) ++ [(10 * w + j, 10 * w + 20)]),
      loseRun := tabPut 0 s.col.loseRun c (tabGet 0 s.col.loseRun c + 1) } }

/-- VERDICT_FIX: at d + 16 µs the verdicts of the window are fixed (R373 to R378). (DEDUCED, log entry 91.) -/
def State.verdictFix (s : State) (d : Nat) : State :=
  let f := s.atPeriod d
  match s.ownDigest d with
  | none => if f.has F.COL_CFG_ENABLE then s else { s with col := { s.col with loseRun := [], warned := [] } }
  | some own =>
    if !f.has F.COL_CFG_ENABLE then s
    else
      let w := (d + 50) / 10
      let s := s.countAbsences d
      let res := match s.col.checked with
        | some (k, l) => if k = d then some l else none
        | none => none
      let marked := own.entries.filter (fun e => e.mark != 0)
      let s := if res.isNone then s.devErr 0x30E0
        else ((s.put64 F.COL_CHK_LO F.COL_CHK_HI d).put F.COL_CHK_PAIRS s.col.counted.1).put F.COL_CHK_CONFLICTS s.col.counted.2
      let gone := s.missingDigests d
      let zs := f.zones
      let guard := f.get F.COL_CFG_GUARD
      let subst := fun (e : ColEntry) => gone.any (fun q =>
        zs.any (fun z => bitsOf z.mask q 1 == 1 && bitsOf z.mask s.position 1 == 1 && z.meets guard e))
      let s := forEach (List.range 64) (fun c s =>
        match marked.find? (fun e => e.ch == c) with
        | none => { s with col := { s.col with
            loseRun := tabPut 0 s.col.loseRun c 0, warned := s.col.warned.filter (fun x => x != c) } }
        | some e =>
          let fd := match res with
            | some l => (l.find? (fun (x : Finding) => x.ch == c)).getD { ch := c }
            | none => { ch := c, kind := 5 }
          let s := s.count (F.COL_WINS c) fd.wins
          let kind := if fd.kind ≠ 0 then fd.kind else if subst e then 4 else 0
          let v : WindowVerdict := { w := w, ch := c, lose := kind != 0 }
          let s := { s with col := { s.col with verdicts := (v :: s.col.verdicts).take 512 } }
          if kind = 0 then
            { s.put (F.COL_C_STAT_LAST_LOSE c) 0 with col := { s.col with
                loseRun := tabPut 0 s.col.loseRun c 0, warned := s.col.warned.filter (fun x => x != c) } }
          else s.loseWindow w e kind fd.rival) s
      { s with col := { s.col with checked := none } }

/-- YIELD_WARN: a channel has lost YIELD_WARN consecutive windows: 0x3011 once for the run, with the rival of the latest loss (R382). -/
def State.yieldWarn (s : State) (c : Nat) : State :=
  let n := s.get F.COL_CFG_YIELD_WARN
  if n = 0 ∨ tabGet 0 s.col.loseRun c < n ∨ s.col.warned.contains c then s
  else { s with col := { s.col with warned := c :: s.col.warned } }.warn ⟨2, c⟩ 0x3011 [s.get (F.COL_C_STAT_LAST_RIVAL c)]

/-! ## Clearance and resync (R379 to R381) -/

/-- The tentative sample of a running channel at `f` is clear (R379). -/
def State.clearSample (s w : State) (c f : Nat) (bed : Int × Int × Int) : Bool :=
  if !w.has F.COL_CFG_ENABLE then true
  else
    let n := (f - 1) / 10
    match s.ownDigest (10 * n - 50) with
    | none => false
    | some g => match g.entries.find? (fun e => e.ch == c) with
      | none => false
      | some e =>
        let tol := 4 * e.rho + w.get F.COL_CLEAR_CLEAR_TOL
        let (a, b) := segDist2 (toUm bed.1 - e.x0, toUm bed.2.1 - e.y0) (e.dx, e.dy)
        bitsOf e.mark (f - 10 * n - 1) 1 == 1
          && (s.col.verdicts.find? (fun v => v.w == n && v.ch == c)).map (fun v => v.lose) == some false
          && decide (a ≤ tol * tol * b)

/-- An unclear sample at `f` starts a resync: the channel is deferred through 10 × ⌈(f + 50) / 10⌉ (R380). -/
def State.startResync (s : State) (c f : Nat) : State :=
  let last := 10 * ceilDiv (f + 50) 10
  let x := s.sq c
  let add := ((List.range (last - f)).map (fun i => f + 1 + i)).filter (fun g => !x.yields.contains g)
  let s := s.setSq c { x with yields := x.yields ++ add }
  let s := { s with col := { s.col with resyncTo := tabPut 0 s.col.resyncTo c last } }
  (s.count (F.COL_RESYNCS c)).info ⟨2, c⟩ 0x3012

/-- One channel's frame with the clearance test in its place (R239, R379, R380). -/
def State.frameChannel (s w : State) (c f : Nat) : State :=
  let t := s.chanFrame w c f true
  let unclear := match (t.sq c).samples.head? with
    | some q => q.f == f && q.mark && !q.deferred && !s.clearSample w c f (q.bedX, q.bedY, q.bedZ)
    | none => false
  let s := if unclear then (s.chanFrame w c f false).startResync c f else t
  let on := w.has F.COL_CFG_ENABLE
  (s.putB (F.COL_C_STAT_YIELDING c) (on && (tabGet [] s.col.yields c).any (fun e => decide (e.1 ≤ f) && decide (f ≤ e.2)))).putB
    (F.COL_C_STAT_RESYNC c) (on && decide (f ≤ tabGet 0 s.col.resyncTo c))

/-! ## COL_READ (R384) -/

/-- COL_READ: the digest of a position for the latest period whose checks are complete. -/
def opColRead (p : InFlight) (s : State) : State × Verdict :=
  if p.body.length ≠ 0 then (s, malformed 0x0202)
  else if 16 ≤ p.target.toNat then (s, malformed 0x30F6)
  else
    let d := s.get64 F.COL_CHK_LO F.COL_CHK_HI
    match s.heldDigest p.target.toNat d with
    | none => (s, .done (lowHigh d ++ [0]))
    | some g => (s, .done (lowHigh d ++ [word (1 + (if g.filled then 2 else 0))] ++ wordsOfBytes g.bytes))

end Sys2Proof.Machine
end

