-- ==== Sys2Proof/Machine/Stn.lean ====
section
/-!
DEFINITION. Sys2Proof/Machine/Stn.lean: station links (spec/11): inbound frames and their checks (R403 to R412), the missing-frame
rule (R42), outbound packets (R396, R401, R402), the sideband (R413 to R419) and the link states (R420 to
R422).
-/
namespace Sys2Proof.Machine

/-! ## Sideband requests (R413 to R419) -/

/-- The 16 bytes of a sideband slot (R413). -/
def SbReq.slot (r : SbReq) (sseq : Nat) : List Byte :=
  let b := leBytes 1 r.type ++ leBytes 1 sseq ++ leBytes 2 r.addr ++ leBytes 4 r.lo ++ leBytes 4 r.hi
  b ++ leBytes 4 (crc32 b)

/-- The slot that follows the packet for apply instant `j`, if any: a request to send again, or the next in the queue (R415). -/
def State.sbSlot (s : State) (c j : Nat) : State × List Byte :=
  let x := s.link c
  match x.waiting with
  | some q =>
    if q.resend then (s.setLink c { x with waiting := some { q with resend := false, sent := j } }, q.req.slot q.sseq) else (s, [])
  | none => match x.queue with
    | [] => (s, [])
    | r :: t =>
      let n := x.nextSseq
      (s.setLink c { x with queue := t, waiting := some ⟨r, n, j, 0, false⟩, nextSseq := (n + 1) % 256 }, r.slot n)

/-- A GATE_DLY write that fails: CHANNEL 0x4014, and the channel enters SAFE (R419). -/
def State.gateWriteFailed (s : State) (c : Nat) : State :=
  ((s.setLink c { s.link c with gateFailed := true }).raise 2 false ⟨2, c⟩ 0x4014).addChTrigger c
    { at_ := s.nextFix, target := 5, cause := 0x4014 }

/-- The bring-up reads of MEASURE (R420). -/
def State.startMeasure (s : State) (c : Nat) : State :=
  let s := s.setLink c { s.link c with turnRead := false, delayAcked := false, deltaSum := 0, deltaN := 0, deltaAvg := none,
                                       goodRun := 0, lostRun := 0, longWarned := false, turnWarned := false }
  let s := s.put (F.STN_LINK_STAT_STATE c) 2
  forEach [0, 1, 2, 3] (fun a s => s.sbQueue c { type := 1, addr := a }) s

/-- SIDEBAND_REPLY_RX: the reply with the outstanding request's number takes effect (R414, R415). -/
def State.sbReply (s : State) (c : Nat) (b : List Byte) : State :=
  let x := s.link c
  match x.waiting with
  | none => s
  | some q =>
    let type := leAt b 0 1
    let lo := leAt b 4 4
    let hi := leAt b 8 4
    if b.length ≠ 16 ∨ crc32 (b.take 12) ≠ leAt b 12 4 ∨ leAt b 1 1 ≠ q.sseq ∨ (type ≠ 0x81 ∧ type ≠ 0x82 ∧ type ≠ 0x83)
        ∨ s.get (F.STN_LINK_STAT_STATE c) = 0 then s
    else
      let s := s.setLink c { x with waiting := none }
      match q.req.owner with
      | 1 =>
        let s := s.put (F.STN_SB_STAT_BUSY c) 0
        if type = 0x83 then (s.mark (F.STN_SB_STAT_NAK c)).put (F.STN_SB_STAT_REASON c) (lo % 256)
        else
          let s := s.mark (F.STN_SB_STAT_DONE c)
          if type = 0x81 then (s.put (F.STN_SB_RESP_LO c) lo).put (F.STN_SB_RESP_HI c) hi else s
      | 2 => if type = 0x83 then s.gateWriteFailed c else s.setLink c { s.link c with gateFailed := false }
      | _ =>
        if type = 0x81 then match q.req.addr with
          | 0 => s.put (F.STN_ST_ID c) lo
          | 1 => s.put (F.STN_ST_REV c) lo
          | 2 => s.put (F.STN_ST_CAPS c) lo
          | _ =>
            let t := lo % 64
            let s := (s.put (F.STN_DELAY_TURN c) t).setLink c { s.link c with turnRead := true }
            let y := s.link c
            if t < 10 ∨ 40 < t then
              (if y.turnWarned then s else (s.setLink c { y with turnWarned := true }).warn ⟨2, c⟩ 0x4031)
            else s
        else if type = 0x82 then
          (s.put (F.STN_DELAY_DELTA c) q.req.lo).setLink c { s.link c with delayAcked := true }
        else s

/-- SIDEBAND_TIMEOUT: 16 ticks without a reply: sent again up to three times, then failed (R415, R418, R419). -/
def State.sbTimeout (s : State) (c : Nat) : State :=
  let x := s.link c
  match x.waiting with
  | none => s
  | some q =>
    if s.us < q.sent + 16 ∨ q.resend then s
    else if q.tries < 3 then s.setLink c { x with waiting := some { q with tries := q.tries + 1, resend := true } }
    else
      let s := s.setLink c { x with waiting := none }
      match q.req.owner with
      | 1 => ((s.put (F.STN_SB_STAT_BUSY c) 0).mark (F.STN_SB_STAT_TIMEOUT c)).warn ⟨2, c⟩ 0x4050
      | 2 => s.gateWriteFailed c
      | _ => s

/-- A write of GO sends the mailbox request of SB_CTRL and SB_DATA (R418, R424). (DEDUCED, log entry 46.) -/
def State.sbGo (s : State) (c : Nat) : State :=
  let wr := s.has (F.STN_SB_CTRL_WRITE c)
  (s.put (F.STN_SB_STAT_BUSY c) 1).sbQueue c
    { type := if wr then 2 else 1, addr := s.get (F.STN_SB_CTRL_ADDR c), owner := 1
      lo := if wr then s.get (F.STN_SB_DATA_LO c) else 0, hi := if wr then s.get (F.STN_SB_DATA_HI c) else 0 }

/-! ## Link states (R420 to R422) -/

/-- Symbol lock is acquired: a port that is DOWN and enabled enters SYMBOL (R394, R420). -/
def State.symbolLock (s : State) (c : Nat) : State :=
  if s.get (F.STN_LINK_STAT_STATE c) ≠ 0 ∨ !s.has (F.STN_CFG_ENABLE c) then s
  else (s.setLink c { s.link c with lostAt := none, goodRun := 0, lostRun := 0 }).put (F.STN_LINK_STAT_STATE c) 1

/-- The port goes DOWN: the request outstanding on it ends as one that timed out (R415, R419, R420). (DESIGN CHOICE, log entry 209.) -/
def State.portDown (s : State) (c : Nat) : State :=
  let x := s.link c
  let busy := s.has (F.STN_SB_STAT_BUSY c)
  let gate := match x.waiting with
    | some q => q.req.owner == 2
    | none => false
  let s := (s.setLink c { x with
    waiting := none, queue := x.queue.filter (fun (q : SbReq) => q.owner == 2), goodRun := 0, lostRun := 0, echoBad := false
    lostAt := if s.get (F.STN_LINK_STAT_STATE c) = 0 then x.lostAt else some s.ns }).put (F.STN_LINK_STAT_STATE c) 0
  let s := if gate then s.gateWriteFailed c else s
  if busy then ((s.put (F.STN_SB_STAT_BUSY c) 0).mark (F.STN_SB_STAT_TIMEOUT c)).warn ⟨2, c⟩ 0x4050 else s

/-- Symbol lock is lost: DOWN with WARN 0x4013 (R422). (DEDUCED, log entry 116.) -/
def State.symbolLost (s : State) (c : Nat) : State :=
  if s.get (F.STN_LINK_STAT_STATE c) = 0 then s else (s.portDown c).warn ⟨2, c⟩ 0x4013

/-- 100 µs without symbol lock take the channel OFFLINE (R34, R422). -/
def State.linkOffline (s : State) (c : Nat) : State :=
  match (s.link c).lostAt with
  | some t =>
    if t + 100000 ≤ s.ns ∧ s.get (F.STN_LINK_STAT_STATE c) = 0 ∧ s.chAt c s.nextFix ≠ 0 then
      s.addChTrigger c { at_ := s.nextFix, target := 0, cause := 0x4013 }
    else s
  | none => s

/-- FRAME_LOCK_ENTRY: the conditions of R421 hold. -/
def State.frameLockEntry (s : State) (c : Nat) : State :=
  let x := s.link c
  let t := s.get (F.STN_DELAY_TURN c)
  let near := match x.deltaAvg with
    | some d => decide (d ≤ 600)
    | none => false
  if s.get (F.STN_LINK_STAT_STATE c) == 2 && x.turnRead && decide (10 ≤ t) && decide (t ≤ 40) && near && x.delayAcked
      && decide (8 ≤ x.goodRun) then
    s.put (F.STN_LINK_STAT_STATE c) 3
  else s

/-- FRAME_LOCK_LOSS: 64 consecutive missing frames return the port to MEASURE (R420). -/
def State.frameLockLoss (s : State) (c : Nat) : State :=
  if s.get (F.STN_LINK_STAT_STATE c) = 3 ∧ 64 ≤ (s.link c).lostRun then s.startMeasure c else s

/-! ## Inbound frames (R403 to R412) -/

/-- The delay measurement of a frame that arrived at `a` quarter nanoseconds (R400). -/
def State.measureDelay (s : State) (c k a lag : Nat) : State :=
  let x := s.link c
  if !x.turnRead then s
  else
    let used := s.get (F.STN_DELAY_DELTA c)
    let d2 : Int := (a : Int) - 4000 * k - 4 * (s.get (F.STN_DELAY_TURN c) + lag) + used
    let sum := x.deltaSum + d2
    if x.deltaN + 1 < 1024 then s.setLink c { x with deltaSum := sum, deltaN := x.deltaN + 1 }
    else
      let avg := roundHalfEven sum 2048
      let s := s.setLink c { x with deltaSum := 0, deltaN := 0, deltaAvg := some avg }
      let s := if 600 < avg ∧ !x.longWarned then (s.setLink c { s.link c with longWarned := true }).warn ⟨2, c⟩ 0x4030 else s
      if !x.delayAcked ∨ 4 ≤ (avg - used).natAbs then s.sbQueue c { type := 2, addr := 0x10, lo := fieldOf 16 avg } else s

/-- A CHANNEL error of a status bit, raised at the first accepted frame that carries it (R412, R579). A channel above OFFLINE that reports it
later enters FAULT without a second error (R34). -/
def State.statusFault (s : State) (c old new bits detail : Nat) : State :=
  let on := bitsOf new 0 32 &&& bits != 0
  let was := old &&& bits != 0
  let f := s.nextFix
  let st := s.chAt c f
  let pending := (s.sq c).triggers.any (fun (t : ChTrigger) => t.target == 6)
  if on && !was then s.raise 2 true ⟨2, c⟩ detail
  else if on && st != 0 && st != 6 && !pending then s.addChTrigger c { at_ := f, target := 6, cause := detail }
  else s

/-- The effects of an accepted status word (R412). -/
def State.statusEffects (s : State) (c old new : Nat) : State :=
  let s := (s.statusFault c old new 0x7 0x4010).statusFault c old new 0x8 0x4011
  let s := if bitsOf new 13 1 = 1 then
      let s := (s.count (F.STN_ST_EVENTS_DIVERGE c)).diverge 2
      if bitsOf old 13 1 = 0 then s.warn ⟨2, c⟩ 0x4040 else s
    else s
  if bitsOf new 12 1 = 1 then
    let s := s.count (F.STN_ST_EVENTS_ST_MISSED c)
    if bitsOf old 12 1 = 0 then s.warn ⟨2, c⟩ 0x4041 else s
  else s

/-- A frame is accepted, directly or by mirror fill: the miss count returns to 0 and its status word acts (R42, R411, R412). (DEDUCED, log entry 90.) -/
def State.acceptFrame (s : State) (c : Nat) (fr : InFrame) : State :=
  let old := s.get (F.STN_ST_STATUS c)
  let x := s.link c
  let s := s.setLink c { x with last := some fr, prior := x.last, priorRun := s.get (F.STN_LINK_STAT_MISS_RUN c) }
  let s := (s.put (F.STN_LINK_STAT_MISS_RUN c) 0).put (F.STN_ST_STATUS c) fr.status
  s.statusEffects c old fr.status

/-- The frame that 42 bytes spell for sample instant `k` (R403). -/
def frameOf (b : List Byte) (k : Nat) : InFrame :=
  let four := fun (i : Nat) => (List.range 4).map (fun n => leAt b (i + 2 * n) 2)
  { k := k, x := signedOf 32 (leAt b 6 4), y := signedOf 32 (leAt b 10 4), z := signedOf 32 (leAt b 14 4)
    b1 := four 18, b2 := four 26, status := leAt b 34 4, raw := b }

/-- INBOUND_FRAME_RX: a frame whose /S/ arrived at `a` quarter nanoseconds and whose check completes now (R400, R411, R420). (DESIGN CHOICE, log entry 232.) -/
def State.inboundFrame (s : State) (c a : Nat) (b : List Byte) : State :=
  let k := s.us
  let st := s.get (F.STN_LINK_STAT_STATE c)
  if st = 0 ∨ b.length ≠ 42 ∨ leAt b 0 1 % 32 ≠ 0x11 then s
  else if crc32 (b.take 38) ≠ leAt b 38 4 then s.count (F.STN_RX_ERR_CRC c)
  else
    let s := if st = 1 then s.startMeasure c else s
    let echo := leAt b 1 1
    if leAt b 2 4 ≠ k % 2 ^ 32 then s.count (F.STN_RX_SEQ_SEQ_ERR c)
    else
    let s := s.measureDelay c k a (leAt b 0 1 / 32)
    if bitsOf echo 6 1 = 0 then s
    else if echo % 64 ≠ c then
      let s := s.mark (F.STN_LINK_STAT_ECHO_BAD c)
      if (s.link c).echoBad then s else (s.setLink c { s.link c with echoBad := true }).warn ⟨2, c⟩ 0x4020
    else if k * 1000 + 600 < s.ns then s.count (F.STN_RX_SEQ_LATE c)
    else if (s.inbound c k).isSome then s
    else
      let s := (s.count (F.STN_RX_GOOD c)).put (F.STN_LINK_STAT_PORT c) (bitsOf echo 7 1)
      let x := s.link c
      let s := s.setLink c { x with goodRun := x.goodRun + 1, lostRun := 0, echoBad := false }
      s.acceptFrame c (frameOf b k)

/-- The missing-frame rule of R40 and R42 for channel `c` and frame `k`, once: a frame not accepted by the deadline is counted, and the
third in a row takes the channel to SAFE at k + 2 with 0x4012. The port of an OFFLINE channel that has had no symbol
lock since reset counts nothing. (DEDUCED, log entry 117.) -/
def State.missRule (s : State) (c k : Nat) : State :=
  let x := s.link c
  if x.missFor == some k || (s.get (F.STN_LINK_STAT_STATE c) == 0 && x.lostAt.isNone && s.chAt c k == 0) then s
  else
    let s := s.setLink c { x with missFor := some k }
    match s.inbound c k with
    | some fr =>
      if fr.filled then
        let s := s.setLink c { s.link c with goodRun := 0, lostRun := x.lostRun + 1 }
        (s.count (F.STN_RX_MISS_MISSED c)).count (F.STN_RX_MISS_FILLED c)
      else s
    | none =>
      let s := s.setLink c { s.link c with goodRun := 0, lostRun := x.lostRun + 1 }
      let run := s.get (F.STN_LINK_STAT_MISS_RUN c) + 1
      let s := (s.count (F.STN_RX_MISS_MISSED c)).count (F.STN_LINK_STAT_MISS_RUN c)
      let st := s.chAt c (k + 2)
      if run = 3 ∧ (st = 1 ∨ st = 2 ∨ st = 3 ∨ st = 4) then
        (s.raise 2 false ⟨2, c⟩ 0x4012).addChTrigger c { at_ := k + 2, target := 5, cause := 0x4012 }
      else s

/-! ## Outbound packets (R396, R401, R402) -/

/-- The command frame of channel `c` for apply instant `j` with TX_LAG `lag` (R401). The hardware path of R30 forces gate and power to
0 by the pins as they stand (R319). A HALT entered at once since the evaluation makes it a frame of HALT: zero currents, gate 0 (R27, R33). -/
def State.commandFrame (s : State) (c j lag : Nat) : Bool × List Byte :=
  let x := s.pow c
  let halt := s.devAt j == 5
  let gate := x.gate && s.gateAllowed j
  let cut := x.gate && !gate
  let u := fun (p : Nat) => if cut then 0 else p
  let cmd := fun (a : Nat) => leBytes 2 (if halt then 0 else s.get (F.LOOP_AX_OUT_CMD c a))
  let zero := halt || [0, 1, 2].all (fun a => s.has (F.LOOP_AX_STAT_ZERO c a))
  let keeper := decide (s.roleAt j ≤ 1)
  let b := leBytes 1 (1 + lag % 8 * 32) ++ leBytes 1 c ++ leBytes 4 j ++ cmd 0 ++ cmd 1 ++ cmd 2 ++ leBytes 2 (u x.u0)
    ++ leBytes 2 (u x.u1) ++ leBytes 4 ((if gate then 1 else 0) + (if keeper then 2 else 0) + (if zero then 4 else 0))
  (gate, b ++ leBytes 4 (crc32 b))

/-- The sync packet of channel `c` for apply instant `j` (R402). -/
def State.syncPacket (s : State) (c j lag : Nat) : List Byte :=
  let keeper := decide (s.roleAt j ≤ 1)
  let b := leBytes 1 (2 + lag % 8 * 32) ++ leBytes 1 c ++ leBytes 4 j ++ leBytes 2 (if keeper then 2 else 0)
  b ++ leBytes 4 (crc32 b)

/-- OUTBOUND_FRAME_TX for one channel: a command frame above OFFLINE, else a sync packet, then a sideband slot if one waits. A device
in CANDIDATE role or in local stop sends sync packets only, in a local stop of the husk from 1 µs after the alarm (R401, R402, R493, R500,
R567). -/
def State.sendFrame (s : State) (c j lag : Nat) : State :=
  if s.dev = 0 ∨ s.get (F.STN_LINK_STAT_STATE c) = 0 then s
  else
    let (s, slot) := s.sbSlot c j
    if s.chAt c j = 0 ∨ s.roleAt j = 3 ∨ s.has F.PAIR_PSTAT_LOCAL_STOP ∧ s.husk.syncClk ≤ s.time.clk then
      (s.put (F.SEQ_CH_STATE_GATE c) 0).emit (.bytes "sync packet" [c, j] (s.syncPacket c j lag ++ slot))
    else
      let (gate, b) := s.commandFrame c j lag
      (s.putB (F.SEQ_CH_STATE_GATE c) gate).emit (.bytes "command frame" [c, j] (b ++ slot))

end Sys2Proof.Machine
end

