-- ==== Sys2Proof/Machine/Crypto.lean ====
section
/-!
DEFINITION. Sys2Proof/Machine/Crypto.lean: the standard algorithms that the specification names: AES-256 and its key check value
(spec/16 R556), the AES key wrap of SP 800-38F (R557), AES-256-GCM (spec/04 R141), SHA-384 and ECDSA over
P-384 (spec/02 R65).
-/
namespace Sys2Proof.Machine

/-! ## AES-256 (FIPS 197) -/

/-- Multiplication by x in GF(2⁸). -/
def gfDouble (a : Nat) : Nat := if a < 128 then 2 * a else (2 * a - 256) ^^^ 0x1B

/-- Multiplication in GF(2⁸), by the low `n` bits of `b`. -/
def gfMulBits : Nat → Nat → Nat → Nat
  | 0, _, _ => 0
  | n + 1, a, b => (if b % 2 = 1 then a else 0) ^^^ gfMulBits n (gfDouble a) (b / 2)

/-- Multiplication in GF(2⁸). -/
def gfMul (a b : Nat) : Nat := gfMulBits 8 a b

/-- The inverse in GF(2⁸), as the power 254; 0 for 0. -/
def gfInv (a : Nat) : Nat :=
  let a2 := gfMul a a
  let a4 := gfMul a2 a2
  let a8 := gfMul a4 a4
  let a16 := gfMul a8 a8
  let a32 := gfMul a16 a16
  let a64 := gfMul a32 a32
  let a128 := gfMul a64 a64
  gfMul a2 (gfMul a4 (gfMul a8 (gfMul a16 (gfMul a32 (gfMul a64 a128)))))

/-- A byte rotated left by `k`. -/
def rot8 (a k : Nat) : Nat := a * 2 ^ k % 256 + a / 2 ^ (8 - k)

/-- The S-box. -/
def aesSub (a : Nat) : Nat :=
  let b := gfInv a
  b ^^^ rot8 b 1 ^^^ rot8 b 2 ^^^ rot8 b 3 ^^^ rot8 b 4 ^^^ 0x63

/-- The S-box as a table, so that it is computed once. -/
def aesTable : List Nat := (List.range 256).map aesSub

/-- The inverse S-box. -/
def aesUnsub (a : Nat) : Nat := (aesTable.findIdx? (· == a)).getD 0

/-- Two byte lists combined bit by bit. -/
def xorBytes (a b : List Nat) : List Nat := List.zipWith (· ^^^ ·) a b

/-- The round constants. -/
def aesRcon : Nat → Nat
  | 0 => 1
  | n + 1 => gfDouble (aesRcon n)

/-- Key schedule words of AES-256, newest first, `n` more from word `i` on. -/
def aesExpand : Nat → Nat → List (List Nat) → List (List Nat)
  | 0, _, ws => ws
  | n + 1, i, ws =>
    let prev := ws.getD 0 []
    let back := ws.getD 7 []
    let sub := fun (w : List Nat) => w.map (fun b => aesTable.getD b 0)
    let t := if i % 8 = 0 then
        match sub (prev.drop 1 ++ prev.take 1) with
        | a :: r => (a ^^^ aesRcon (i / 8 - 1)) :: r
        | [] => []
      else if i % 8 = 4 then sub prev else prev
    aesExpand n (i + 1) (xorBytes back t :: ws)

/-- The 15 round keys of 16 bytes. -/
def aesKeys (key : List Nat) : List (List Nat) :=
  let ws := (aesExpand 52 8 ((List.range 8).map (fun i => (key.drop (4 * i)).take 4)).reverse).reverse
  (List.range 15).map (fun r => ((ws.drop (4 * r)).take 4).flatten)

/-- ShiftRows. -/
def shiftRows (st : List Nat) : List Nat := (List.range 16).map (fun i => st.getD ((i + 4 * (i % 4)) % 16) 0)

/-- Inverse ShiftRows. -/
def unshiftRows (st : List Nat) : List Nat := (List.range 16).map (fun i => st.getD ((i + 16 - 4 * (i % 4)) % 16) 0)

/-- MixColumns with the coefficients of its first row. -/
def mixWith (c : List Nat) (st : List Nat) : List Nat :=
  (List.range 16).map (fun i =>
    let col := i / 4 * 4
    let r := i % 4
    (List.range 4).foldl (fun x j => x ^^^ gfMul (c.getD ((j + 4 - r) % 4) 0) (st.getD (col + j) 0)) 0)

/-- One encryption of a 16-byte block. -/
def aesEncrypt (keys : List (List Nat)) (block : List Nat) : List Nat :=
  let st := xorBytes block (keys.getD 0 [])
  let sub := fun (w : List Nat) => w.map (fun b => aesTable.getD b 0)
  let st := (List.range 13).foldl (fun st r => xorBytes (mixWith [2, 3, 1, 1] (shiftRows (sub st))) (keys.getD (r + 1) [])) st
  xorBytes (shiftRows (sub st)) (keys.getD 14 [])

/-- One decryption of a 16-byte block. -/
def aesDecrypt (keys : List (List Nat)) (block : List Nat) : List Nat :=
  let unsub := fun (w : List Nat) => w.map aesUnsub
  let st := unsub (unshiftRows (xorBytes block (keys.getD 14 [])))
  let st := (List.range 13).foldl (fun st r => unsub (unshiftRows (mixWith [14, 11, 13, 9] (xorBytes st (keys.getD (13 - r) []))))) st
  xorBytes st (keys.getD 0 [])

/-- The numbers of bytes. -/
def natsOf (bs : List Byte) : List Nat := bs.map (fun b => b.toNat)

/-- The bytes of numbers. -/
def bytesOf (ns : List Nat) : List Byte := ns.map (BitVec.ofNat 8)

/-- The key check value of a key: bytes 0 to 2 of the encryption of a zero block, byte 0 in bits [7:0] (R556). -/
def keyCheckValue (key : List Byte) : Nat :=
  let c := aesEncrypt (aesKeys (natsOf key)) (List.replicate 16 0)
  c.getD 0 0 + c.getD 1 0 * 256 + c.getD 2 0 * 65536

/-- The number that bytes spell, most significant first. -/
def ofBE (ns : List Nat) : Nat := ns.foldl (fun x b => x * 256 + b) 0

/-- The `n` bytes of a number, most significant first. -/
def toBE (n v : Nat) : List Nat := (List.range n).map (fun i => v / 256 ^ (n - 1 - i) % 256)

/-- The unwrapping of SP 800-38F KW: `n` data blocks of 8 bytes; the integrity check value and the data (R557). -/
def kwUnwrap (keys : List (List Nat)) (blob : List Nat) : List Nat × List Nat :=
  let n := blob.length / 8 - 1
  let step := fun (st : List Nat × List (List Nat)) (k : Nat) =>
    let t := 6 * n - k
    let i := (t - 1) % n
    let b := aesDecrypt keys (xorBytes st.1 (toBE 8 t) ++ st.2.getD i [])
    (b.take 8, st.2.set i (b.drop 8))
  let (a, r) := (List.range (6 * n)).foldl step (blob.take 8, (List.range n).map (fun i => (blob.drop (8 * (i + 1))).take 8))
  (a, r.flatten)

/-- The key that a 40-byte blob wraps under `dk`, where its integrity check holds (R557). -/
def unwrapKey (dk blob : List Byte) : Option (List Byte) :=
  let (a, r) := kwUnwrap (aesKeys (natsOf dk)) (natsOf blob)
  if a == List.replicate 8 0xA6 then some (bytesOf r) else none

/-! ## GCM (SP 800-38D) -/

/-- Multiplication in the field of GHASH, blocks as 128-bit numbers with the first bit the most significant: `n` bits of `x`. -/
def ghashMul : Nat → Nat → Nat → Nat
  | 0, _, _ => 0
  | n + 1, x, v =>
    (if x / 2 ^ n % 2 = 1 then v else 0) ^^^
      ghashMul n x (if v % 2 = 1 then (v / 2) ^^^ (0xE1 * 2 ^ 120) else v / 2)

/-- Blocks of 16 bytes, the last one filled with zeros; `n` bounds their number. -/
def blocks16 : Nat → List Nat → List (List Nat)
  | 0, _ => []
  | _, [] => []
  | n + 1, l => (l.take 16 ++ List.replicate (16 - (l.take 16).length) 0) :: blocks16 n (l.drop 16)

/-- GHASH of additional data and ciphertext. -/
def ghash (h : Nat) (aad ct : List Nat) : Nat :=
  let bs := blocks16 (aad.length + 1) aad ++ blocks16 (ct.length + 1) ct ++ [toBE 8 (8 * aad.length) ++ toBE 8 (8 * ct.length)]
  bs.foldl (fun y b => ghashMul 128 (y ^^^ ofBE b) h) 0

/-- The key stream XORed onto data from counter value `c` on. -/
def ctrMode (keys : List (List Nat)) (nonce : List Nat) : Nat → List (List Nat) → List Nat
  | _, [] => []
  | c, b :: t => xorBytes b (aesEncrypt keys (nonce ++ toBE 4 c)) ++ ctrMode keys nonce (c + 1) t

/-- The 16-byte pieces of data, the last one short; `n` bounds their number. -/
def pieces16 : Nat → List Nat → List (List Nat)
  | 0, _ => []
  | _, [] => []
  | n + 1, l => l.take 16 :: pieces16 n (l.drop 16)

/-- AES-256-GCM decryption with a 96-bit nonce: the plaintext, where the tag verifies (R141). -/
def gcmOpen (key nonce aad ct tag : List Byte) : Option (List Byte) :=
  let keys := aesKeys (natsOf key)
  let h := ofBE (aesEncrypt keys (List.replicate 16 0))
  let s := toBE 16 (ghash h (natsOf aad) (natsOf ct))
  let t := xorBytes s (aesEncrypt keys (natsOf nonce ++ toBE 4 1))
  if t == natsOf tag then some (bytesOf (ctrMode keys (natsOf nonce) 2 (pieces16 (ct.length + 1) (natsOf ct)))) else none

/-! ## SHA-384 (FIPS 180-4) -/

/-- The largest r with r³ ≤ v (`k` = 3) or r² ≤ v (`k` = 2), bit by bit from bit `n`. -/
def rootBits (k v : Nat) : Nat → Nat → Nat
  | 0, r => r
  | n + 1, r => let r' := r + 2 ^ n; rootBits k v n (if r' ^ k ≤ v then r' else r)

/-- The first primes: numbers below 410 without a smaller divisor. -/
def smallPrimes : List Nat := (List.range 410).filter (fun n => 2 ≤ n && (List.range n).all (fun d => d < 2 || n % d != 0))

/-- The round constants: the first 64 fraction bits of the cube roots of the first 80 primes. -/
def shaK : List Nat := (smallPrimes.take 80).map (fun p => rootBits 3 (p * 2 ^ 192) 68 0 % 2 ^ 64)

/-- The initial value of SHA-384: the first 64 fraction bits of the square roots of the ninth to sixteenth primes. -/
def sha384Init : List Nat := ((smallPrimes.drop 8).take 8).map (fun p => rootBits 2 (p * 2 ^ 128) 70 0 % 2 ^ 64)

/-- A 64-bit word rotated right. -/
def rotr64 (x k : Nat) : Nat := x / 2 ^ k + x * 2 ^ (64 - k) % 2 ^ 64

/-- The message schedule, newest first. -/
def shaSchedule : Nat → List Nat → List Nat
  | 0, w => w
  | n + 1, w =>
    let x := w.getD 1 0
    let y := w.getD 14 0
    let s1 := rotr64 x 19 ^^^ rotr64 x 61 ^^^ (x / 64)
    let s0 := rotr64 y 1 ^^^ rotr64 y 8 ^^^ (y / 128)
    shaSchedule n ((s1 + w.getD 6 0 + s0 + w.getD 15 0) % 2 ^ 64 :: w)

/-- One round. -/
def shaRound (st : List Nat) (kw : Nat) : List Nat :=
  let g := fun (i : Nat) => st.getD i 0
  let e := g 4
  let a := g 0
  let t1 := g 7 + (rotr64 e 14 ^^^ rotr64 e 18 ^^^ rotr64 e 41) + ((e &&& g 5) ^^^ ((2 ^ 64 - 1 - e) &&& g 6)) + kw
  let t2 := (rotr64 a 28 ^^^ rotr64 a 34 ^^^ rotr64 a 39) + ((a &&& g 1) ^^^ (a &&& g 2) ^^^ (g 1 &&& g 2))
  [(t1 + t2) % 2 ^ 64, a, g 1, g 2, (g 3 + t1) % 2 ^ 64, e, g 5, g 6]

/-- One block of 16 words. -/
def shaBlock (h : List Nat) (ws : List Nat) : List Nat :=
  let sch := (shaSchedule 64 ws.reverse).reverse
  List.zipWith (fun a b => (a + b) % 2 ^ 64) h ((List.zipWith (· + ·) shaK sch).foldl shaRound h)

/-- Blocks of 128 bytes as words. -/
def shaBlocks : Nat → List Nat → List (List Nat)
  | 0, _ => []
  | _, [] => []
  | n + 1, l => (List.range 16).map (fun i => ofBE ((l.drop (8 * i)).take 8)) :: shaBlocks n (l.drop 128)

/-- SHA-384 of a byte string, as a 384-bit number. -/
def sha384 (msg : List Nat) : Nat :=
  let n := msg.length
  let m := msg ++ [0x80] ++ List.replicate ((112 + 128 - (n + 1) % 128) % 128) 0 ++ toBE 16 (8 * n)
  let h := (shaBlocks (m.length + 1) m).foldl shaBlock sha384Init
  ofBE ((h.take 6).flatMap (toBE 8))

/-! ## ECDSA over P-384 (FIPS 186-4) -/

/-- The field prime of P-384. -/
def p384 : Nat := 2 ^ 384 - 2 ^ 128 - 2 ^ 96 + 2 ^ 32 - 1

/-- The order of the base point. -/
def n384 : Nat := 0xFFFFFFFFFFFFFFFFFFFFFFFFFFFFFFFFFFFFFFFFFFFFFFFFC7634D81F4372DDF581A0DB248B0A77AECEC196ACCC52973

/-- The coefficient b of P-384. -/
def b384 : Nat := 0xB3312FA7E23EE7E4988E056BE3F82D19181D9C6EFE8141120314088F5013875AC656398D8A2ED19D2A85C8EDD3EC2AEF

/-- The base point. -/
def g384 : Nat × Nat :=
  (0xAA87CA22BE8B05378EB1C71EF320AD746E1D3B628BA79B9859F741E082542A385502F25DBF55296C3A545E3872760AB7,
   0x3617DE4A96262C6F5D9E98BF9292DC29F8F41DBD289A147CE9DA3113B5F0B8C00A60B1CE1D7E819D7A431D7C90EA0E5F)

/-- Powers modulo `m`, by the low `n` bits of the exponent. -/
def powMod (m : Nat) : Nat → Nat → Nat → Nat
  | 0, _, _ => 1 % m
  | n + 1, a, e => (if e % 2 = 1 then a else 1) * powMod m n (a * a % m) (e / 2) % m

/-- The inverse modulo a prime of at most 384 bits. -/
def invMod (m a : Nat) : Nat := powMod m 384 (a % m) (m - 2)

/-- The sum of two points; none is the point at infinity. -/
def ecAdd : Option (Nat × Nat) → Option (Nat × Nat) → Option (Nat × Nat)
  | none, q => q
  | p, none => p
  | some (x1, y1), some (x2, y2) =>
    if x1 = x2 ∧ (y1 + y2) % p384 = 0 then none
    else
      let l := if x1 = x2 then (3 * x1 * x1 + (p384 - 3)) * invMod p384 (2 * y1) % p384
        else (y2 + p384 - y1) * invMod p384 (x2 + p384 - x1) % p384
      let x3 := (l * l + 2 * p384 - x1 - x2) % p384
      some (x3, (l * (x1 + p384 - x3) + p384 - y1) % p384)

/-- A multiple of a point, by the low `n` bits of the factor. -/
def ecMul : Nat → Nat → Option (Nat × Nat) → Option (Nat × Nat)
  | 0, _, _ => none
  | n + 1, k, p => ecAdd (if k % 2 = 1 then p else none) (ecMul n (k / 2) (ecAdd p p))

/-- Whether an ECDSA signature (r, s) of a 384-bit digest verifies under a public key (R65). -/
def ecdsaVerify (x y digest r s : Nat) : Bool :=
  if x < p384 ∧ y < p384 ∧ (y * y) % p384 = (x * x * x + (p384 - 3) * x + b384) % p384
      ∧ 1 ≤ r ∧ r < n384 ∧ 1 ≤ s ∧ s < n384 then
    let w := invMod n384 s
    match ecAdd (ecMul 384 (digest * w % n384) (some g384)) (ecMul 384 (r * w % n384) (some (x, y))) with
    | some (px, _) => px % n384 == r
    | none => false
  else false

end Sys2Proof.Machine
end

