-- ==== Sys2Proof/Machine/Pack.lean ====
section
/-!
DEFINITION. Sys2Proof/Machine/Pack.lean: the dictionary compression engines (spec/05): the code stream, contexts and their images,
slots, jobs, telemetry feeds and engine scheduling.
-/
namespace Sys2Proof.Machine

/-! ## The code stream (R160 to R168) -/

/-- The code that is assigned next (R160). -/
def Slot.nextFree (x : Slot) : Nat := 259 + x.seed.length + x.learned.length

/-- The entry of a code from 259 on. -/
def Slot.entry (x : Slot) (k : Nat) : Option Entry :=
  if k < 259 then none
  else if k < 259 + x.seed.length then x.seed[k - 259]? else x.learned[k - 259 - x.seed.length]?

/-- The string of a code, last byte first; `n` bounds its length (R160). -/
def Slot.stringRev (x : Slot) : Nat → Nat → List Byte
  | 0, _ => []
  | n + 1, k =>
    if k < 256 then [BitVec.ofNat 8 k]
    else match x.entry k with
      | some e => e.suffix :: x.stringRev n e.pre
      | none => []

/-- STRING(k) of R166. -/
def Slot.string (x : Slot) (k : Nat) : List Byte := (x.stringRev 65536 k).reverse

/-- The code of a pair in the table, if any. -/
def Slot.find (x : Slot) (pre : Nat) (c : Byte) : Option Nat :=
  match x.seed.findIdx? (fun e => e.pre == pre && e.suffix == c) with
  | some i => some (259 + i)
  | none => (x.learned.findIdx? (fun e => e.pre == pre && e.suffix == c)).map (fun i => 259 + x.seed.length + i)

/-- The context back at its seed dictionary: table and width (R160, CLEAR). -/
def Slot.cleared (x : Slot) : Slot := { x with learned := [], width := x.startWidth }

/-- ADD of R163: the context with one more entry, and the control codes that it emits, each with its width. -/
def Slot.add (x : Slot) (p : Nat) (c : Byte) : Slot × List (Nat × Nat) :=
  if 65536 ≤ x.nextFree then (x, [])
  else
    let y := { x with learned := x.learned ++ [⟨p, c⟩] }
    if y.nextFree = 2 ^ y.width ∧ y.width < 16 then ({ y with width := y.width + 1 }, [(257, y.width)])
    else if y.nextFree = 65536 ∧ y.clearMode then
      ({ y.cleared with clears := y.clears + 1 }, [(256, y.width)])
    else (y, [])

/-- The bits of a list of codes. -/
def codeBits (cs : List (Nat × Nat)) : Nat := cs.foldl (fun n c => n + c.2) 0

/-- The bytes of codes packed least significant bit first (R161). -/
def packCodes (cs : List (Nat × Nat)) : List Byte :=
  let (v, n) := cs.foldl (fun (st : Nat × Nat) c => (st.1 + c.1 * 2 ^ st.2, st.2 + c.2)) (0, 0)
  leBytes ((n + 7) / 8) v

/-- Progress of ENCODE. -/
structure EncSt where
  slot : Slot
  codes : List (Nat × Nat) := []
  bits : Nat := 0
  w : Nat := 0
  start : Nat := 0
  i : Nat := 0
  stopped : Bool := false

/-- FITS(x) of R164: `x` more bits and an ALIGN at width `wd` fit into `room` bits. -/
def fits (room bits x wd : Nat) : Bool := decide (bits + x + wd ≤ room)

/-- The loop of ENCODE (R164). -/
def encLoop (room : Nat) : List Byte → EncSt → EncSt
  | [], st => st
  | c :: t, st =>
    match st.slot.find st.w c with
    | some k => encLoop room t { st with w := k, i := st.i + 1 }
    | none =>
      let (y, ctl) := st.slot.add st.w c
      let wd := st.slot.width
      if !fits room st.bits (wd + codeBits ctl) y.width then { st with stopped := true }
      else encLoop room t { st with
        slot := y, codes := st.codes ++ (st.w, wd) :: ctl, bits := st.bits + wd + codeBits ctl
        w := c.toNat, start := st.i, i := st.i + 1 }

/-- What a coder run gives. -/
structure CoderOut where
  slot : Slot
  consumed : Nat
  data : List Byte
  stopped : Bool := false
  /-- detail of a code stream error -/
  error : Option Nat := none
  /-- unread input (decoder) -/
  rest : List Byte := []

/-- The totals of a context after a run. -/
def CoderOut.tally (o : CoderOut) : CoderOut :=
  { o with slot := { o.slot with totalIn := (o.slot.totalIn + o.consumed) % 2 ^ 64, totalOut := (o.slot.totalOut + o.data.length) % 2 ^ 64 } }

/-- The output of an encode: closed on a byte boundary by ALIGN (R164). -/
def closeCodes (st : EncSt) : List Byte :=
  packCodes (if st.bits % 8 = 0 then st.codes else st.codes ++ [(258, st.slot.width)])

/-- ENCODE of R164 with `outLen` bytes of output space. -/
def encode (x : Slot) (input : List Byte) (final : Bool) (outLen : Nat) : CoderOut :=
  match input with
  | [] => ⟨x, 0, [], false, none, []⟩
  | c :: t =>
    let room := 8 * outLen
    let begun : Option EncSt := match x.link with
      | none => some { slot := x }
      | some p =>
        let (y, ctl) := x.add p c
        if !fits room 0 (codeBits ctl) y.width then none
        else some { slot := { y with link := none }, codes := ctl, bits := codeBits ctl }
    match begun with
    | none => ⟨x, 0, [], true, none, []⟩
    | some st0 =>
      let st := encLoop room t { st0 with w := c.toNat, start := 0, i := 1 }
      let n := input.length
      if st.stopped then (CoderOut.mk st.slot st.start (closeCodes st) true none []).tally
      else if final then
        (if !fits room st.bits st.slot.width st.slot.width then (CoderOut.mk st.slot st.start (closeCodes st) true none []).tally
         else
          let st := { st with codes := st.codes ++ [(st.w, st.slot.width)], bits := st.bits + st.slot.width }
          (CoderOut.mk { st.slot with link := some st.w } n (closeCodes st) false none []).tally)
      else (CoderOut.mk st.slot st.start (closeCodes st) false none []).tally

/-- Progress of DECODE: unread bytes, the bit position in the first of them, output bytes last first, room left. -/
structure DecSt where
  slot : Slot
  rest : List Byte
  off : Nat
  out : List Byte := []
  room : Nat
  stopped : Bool := false
  error : Option Nat := none

/-- The unread bytes after `n` more bits. -/
def DecSt.skip (st : DecSt) (n : Nat) : DecSt := { st with rest := st.rest.drop ((st.off + n) / 8), off := (st.off + n) % 8 }

/-- DECODE of R166; `n` bounds the codes read. (DESIGN CHOICE, log entry 188.) -/
def decLoop : Nat → DecSt → DecSt
  | 0, st => st
  | n + 1, st =>
    let w := st.slot.width
    let head := st.rest.take 3
    if 8 * head.length < st.off + w then st
    else
      let k := bitsOf (ofLE head) st.off w
      let x := st.slot
      if k = 256 then decLoop n ({ st with slot := { x.cleared with link := none, clears := x.clears + 1 } }.skip w)
      else if k = 257 then
        (if w = 16 then { st with error := some 0x1104 }
         else decLoop n ({ st with slot := { x with width := w + 1 } }.skip w))
      else if k = 258 then
        let st := st.skip w
        if st.off = 0 then decLoop n st
        else if bitsOf (ofLE (st.rest.take 1)) st.off (8 - st.off) ≠ 0 then { st with error := some 0x1105 }
        else decLoop n { st with rest := st.rest.drop 1, off := 0 }
      else if x.nextFree < k ∨ (k = x.nextFree ∧ x.link.isNone) then { st with error := some 0x1101 }
      else
        let s := if k = x.nextFree then
            (let p := x.string (x.link.getD 0); p ++ p.take 1)
          else x.string k
        if st.room < s.length then { st with stopped := true }
        else
          let learned := match x.link with
            | some p => if x.nextFree < 65536 then x.learned ++ [⟨p, s.getD 0 0⟩] else x.learned
            | none => x.learned
          decLoop n ({ st with
            slot := { x with learned := learned, link := some k }
            out := s.reverse ++ st.out
            room := st.room - s.length }.skip w)

/-- A decode of `input` from the context's SKIP_BITS on, with `room` bytes of output space (R166, R167). -/
def decode (x : Slot) (input : List Byte) (room : Nat) : CoderOut :=
  let st := decLoop (input.length + 1) { slot := x, rest := input, off := if input.isEmpty then 0 else x.skipBits, room := room }
  let skip := if input.isEmpty then x.skipBits else st.off
  (CoderOut.mk { st.slot with skipBits := skip } (input.length - st.rest.length) st.out.reverse st.stopped st.error st.rest).tally

/-- The end of a build stream: what is left must be fewer than 8 bits, all 0 (R168). -/
def cleanEnd (rest : List Byte) (off : Nat) : Bool :=
  match rest with
  | [] => true
  | [b] => decide (0 < off) && b.toNat / 2 ^ off == 0
  | _ => false

/-! ## Slots and images (R169, R170, R174) -/

/-- Slot `n`. -/
def State.slot (s : State) (n : Nat) : Slot := tabGet {} s.pack.slots n

/-- The SLOT word of a slot (R191). -/
def Slot.word (x : Slot) : Word :=
  Machine.word (x.state + (if x.holder = 0 then 0 else 4) + x.holder * 8 + (if x.persist then 32 else 0) + (if x.journalValid then 64 else 0)
    + (if x.clearMode then 128 else 0) + (if x.isSealed then 256 else 0) + (x.width - 1) * 4096 + (x.nextFree - 259) * 65536)

/-- The state with slot `n` replaced; its SLOT word follows. -/
def State.setSlot (s : State) (n : Nat) (x : Slot) : State :=
  ({ s with pack := { s.pack with slots := tabPut {} s.pack.slots n x } }).setReg (F.PACK_SLOT_STATE n).addr x.word

/-- A slot back at its seed, in state `st` (R169, R172). -/
def Slot.seeded (x : Slot) (st : Nat) : Slot :=
  { x with state := st, learned := [], width := x.startWidth, link := none, skipBits := 0, totalIn := 0, totalOut := 0, clears := 0, isSealed := false }

/-- The start width of R162 for `n` seed entries. -/
def startWidth (n : Nat) : Nat := ((List.range 8).map (· + 9)).find? (fun w => 259 + n < 2 ^ w) |>.getD 16

/-- A context image (R170). -/
def Slot.image (x : Slot) : List Byte :=
  let entries := (x.seed ++ x.learned).flatMap (fun e => leBytes 2 e.pre ++ [e.suffix])
  let head := leBytes 4 0x58435A4D ++ leBytes 1 1 ++ leBytes 1 x.state ++ leBytes 1 x.width ++ leBytes 1 x.startWidth
    ++ leBytes 4 x.nextFree ++ leBytes 2 x.seed.length ++ leBytes 1 ((if x.clearMode then 1 else 0) + (if x.isSealed then 2 else 0))
    ++ leBytes 1 x.skipBits ++ leBytes 4 (x.link.getD 0xFFFFFFFF) ++ leBytes 8 x.totalIn ++ leBytes 8 x.totalOut
    ++ leBytes 4 x.clears ++ leBytes 20 0
  head ++ leBytes 4 (crc32 (head ++ entries)) ++ entries

/-- The context that an image holds, where its CRC verifies (R170, R173). -/
def slotOfImage (b : List Byte) : Option Slot :=
  let entries := b.drop 64
  if leAt b 0 4 ≠ 0x58435A4D ∨ leAt b 4 1 ≠ 1 ∨ leAt b 60 4 ≠ crc32 (b.take 60 ++ entries) then none
  else
    let es := (List.range (entries.length / 3)).map (fun i => Entry.mk (leAt entries (3 * i) 2) (BitVec.ofNat 8 (leAt entries (3 * i + 2) 1)))
    let n := leAt b 12 2
    some { state := leAt b 5 1, width := leAt b 6 1, startWidth := leAt b 7 1, seed := es.take n, learned := es.drop n
           clearMode := leAt b 14 1 % 2 == 1, isSealed := leAt b 14 1 / 2 % 2 == 1, skipBits := leAt b 15 1
           link := if leAt b 16 4 = 0xFFFFFFFF then none else some (leAt b 16 4)
           totalIn := leAt b 20 8, totalOut := leAt b 28 8, clears := leAt b 36 4 }

/-- A later change of a persistent slot that is not HELD is written to the journal as it then stands (R173); a keeper sends the image to its partner
(R175). -/
def State.slotChanged (s : State) (n : Nat) : State :=
  let x := s.slot n
  if x.holder ≠ 0 then s
  else
    let s := if s.passesOn then s.emitRidge 0x20 .partner (.bytes "SLOT_IMAGE" [n, if x.persist then 1 else 0] x.image) else s
    if x.persist then { s with pack := { s.pack with journaling := tabPut [] s.pack.journaling n x.image } } else s

/-- The persistent slots, counted in STAT (R191). -/
def State.persistentSlots (s : State) : Nat := (s.pack.slots.filter (fun e => e.2.persist)).length

/-- The journal write of slot `n` completes: the older of its two images is replaced (R173). -/
def State.journalSlot (s : State) (n : Nat) : State :=
  let image := tabGet [] s.pack.journaling n
  if image.isEmpty then s
  else
    let old := tabGet [] s.journal.contexts n
    let s := { s with
      journal := { s.journal with contexts := tabPut [] s.journal.contexts n ((image :: old).take 2) }
      pack := { s.pack with journaling := tabDrop s.pack.journaling n } }
    s.setSlot n { s.slot n with journalValid := true }

/-- The persistent slots as boot finds them: the newest valid image of each, else the reset state with a WARN (R173). A slot stays marked
persistent where it has no valid image. (DESIGN CHOICE, log entry 190.) -/
def State.loadContexts (s : State) : State :=
  let s := forEach s.journal.contexts (fun e s =>
    match e.2.findSome? slotOfImage with
    | some x => s.setSlot e.1 { x with persist := true, journalValid := true, holder := 0 }
    | none => (s.setSlot e.1 { persist := true }).warn ⟨1, 0x11⟩ 0x1115 [e.1]) s
  s.put F.PACK_STAT_PERSISTENT s.persistentSlots

/-! ## Engines (R189) -/

/-- Engine `e`. -/
def State.engine (s : State) (e : Nat) : Engine := tabGet {} s.pack.engines e

/-- The state with engine `e` replaced; its words follow. -/
def State.setEngine (s : State) (e : Nat) (x : Engine) : State :=
  let s := { s with pack := { s.pack with engines := tabPut {} s.pack.engines e x } }
  let busy := (List.range 6).foldl (fun n i => n + (if (s.engine i).active then 2 ^ i else 0)) 0
  (((s.put (F.PACK_ENG_STAT_SLOT e) x.slot).putB (F.PACK_ENG_STAT_ACTIVE e) x.active).put (F.PACK_ENG_STAT_CLASS e) x.cls).put F.PACK_STAT_BUSY busy

/-- The class that an engine is reserved for: 0 streams, 2 telemetry, 1 jobs (R189). -/
def State.engineClass (s : State) (e : Nat) : Nat :=
  let n := s.get F.PACK_CONFIG_STREAM_ENG
  if e < n then 0 else if e < n + s.get F.PACK_CONFIG_TEL_ENG then 2 else 1

/-- Whether an engine may serve a class: its own, and those that R189 shows. -/
def State.engineServes (s : State) (e cls : Nat) : Bool :=
  let own := s.engineClass e
  own == cls || (own == 0 && cls == 2) || own == 2 || own == 1

/-- The engine that holds slot `n`. -/
def State.engineOf (s : State) (n : Nat) : Option Nat := (List.range 6).find? (fun e => (s.engine e).active && (s.engine e).slot == n)

/-- Work of a class waits for an engine: a queued job, or a stream or feed noted as waiting (R189). -/
def State.classReady (s : State) (cls : Nat) : Bool :=
  if cls = 1 then s.pack.jobs.any (fun (j : Job) => j.engine.isNone) else s.pack.ready.any (fun e => e.1 == cls)

/-- Work of a stream or feed is noted as waiting for an engine, behind what became ready before it (R189). -/
def State.awaitEngine (s : State) (cls n : Nat) : State :=
  if s.pack.ready.contains (cls, n) then s else { s with pack := { s.pack with ready := s.pack.ready ++ [(cls, n)] } }

/-- It waits no longer. -/
def State.unwait (s : State) (cls n : Nat) : State := { s with pack := { s.pack with ready := s.pack.ready.filter (· != (cls, n)) } }

/-- The engine that takes work of a class: one that holds its slot already, a free one of its own class, or a free one that may serve
it and has none of its own class ready (R189). (DEDUCED, log entry 221.) -/
def State.takeEngine (s : State) (n cls : Nat) : Option Nat :=
  let free := (List.range 6).filter (fun e => !(s.engine e).active)
  ((s.engineOf n).or (free.find? (fun e => s.engineClass e == cls))).or
    (free.find? (fun e => s.engineServes e cls && !s.classReady (s.engineClass e)))

/-- A context is loaded into an engine, a switch if it was not there (R171, R189). -/
def State.loadEngine (s : State) (e n cls : Nat) : State :=
  let x := s.engine e
  if x.active && x.slot == n then s
  else (s.setEngine e { slot := n, active := true, cls := cls, run := 0, quantum := s.get F.PACK_CONFIG_QUANTUM_KB }).count (F.PACK_ENG_STAT_SWITCHES e)

/-- The engine that holds slot `n` lets it go. -/
def State.freeEngine (s : State) (n : Nat) : State :=
  match s.engineOf n with
  | some e => s.setEngine e {}
  | none => s

/-! ## Opcodes (R176 to R184) -/

/-- The checks that every PACK opcode shares: role, TARGET and a HELD slot (R175, R176). -/
def packCheck (p : InFlight) (s : State) : Option Verdict :=
  if 256 ≤ p.target.toNat then some (malformed 0x11F6)
  else if s.pairRole = 2 ∨ s.pairRole = 3 then some (refused 0x49F2)
  else if (s.slot p.target.toNat).holder ≠ 0 then some (refused 0x1110)
  else none

/-- The seed of a CTX_SEED body. -/
def seedOf (b : List Word) : List Entry :=
  let n := bodyWord b 1
  let bs := bytesOfWords (b.drop 2)
  (List.range n).map (fun i => ⟨leAt bs (3 * i) 2, BitVec.ofNat 8 (leAt bs (3 * i + 2) 1)⟩)

/-- A seed holds R162: prefixes are literals or lower seed entries, no pair twice, no string above 64 bytes. -/
def seedValid (es : List Entry) : Bool :=
  let x : Slot := { seed := es }
  decide (es.length ≤ 3836)
    && (es.zipIdx.all (fun (e, i) => decide (e.pre < 256) || (decide (259 ≤ e.pre) && decide (e.pre < 259 + i))))
    && decide es.Nodup
    && (List.range es.length).all (fun i => decide ((x.stringRev 66 (259 + i)).length ≤ 64))

/-- CTX_SEED (R177). (DEDUCED, log entry 103.) -/
def opCtxSeed (p : InFlight) (s : State) : State × Verdict :=
  match packCheck p s with
  | some v => (s, v)
  | none =>
    let n := bodyWord p.body 1
    let bs := bytesOfWords (p.body.drop 2)
    if p.body.length < 2 ∨ p.body.length ≠ 2 + (3 * n + 3) / 4 then (s, malformed 0x0202)
    else if 1 < bodyWord p.body 0 ∨ !allZero (bs.drop (3 * n)) then (s, malformed 0x11F6)
    else
      let es := seedOf p.body
      if !seedValid es then (s, malformed 0x1113)
      else
        let x := s.slot p.target.toNat
        let y : Slot := { seed := es, startWidth := startWidth n, width := startWidth n, clearMode := bodyWord p.body 0 % 2 == 1
                          persist := x.persist, journalValid := x.journalValid }
        ((s.setSlot p.target.toNat y).slotChanged p.target.toNat, .done [])

/-- A slot is persistent no longer, and both its journal images are erased (R178); a keeper tells its partner (R175). -/
def State.forgetSlot (s : State) (n : Nat) : State :=
  let s := s.setSlot n { s.slot n with persist := false, journalValid := false }
  let s := { s with journal := { s.journal with contexts := tabDrop s.journal.contexts n }, pack := { s.pack with journaling := tabDrop s.pack.journaling n } }
  (s.slotChanged n).put F.PACK_STAT_PERSISTENT s.persistentSlots

/-- CTX_PERSIST (R178): with PERSIST = 1 the reply follows the journal write; with PERSIST = 0 a journal write in hand ends first, so that the
reply to its request still finds what it says. (DEDUCED, log entry 201.) -/
def opCtxPersist (p : InFlight) (s : State) : State × Verdict :=
  match packCheck p s with
  | some v => (s, v)
  | none =>
    let n := p.target.toNat
    let x := s.slot n
    let b := bodyWord p.body 0
    if p.body.length ≠ 1 then (s, malformed 0x0202)
    else if 1 < b then (s, malformed 0x11F6)
    else if b = 1 then
      (if !x.persist ∧ 8 ≤ s.persistentSlots then (s, refused 0x1114)
       else
        let s := s.setSlot n { x with persist := true }
        let s := s.put F.PACK_STAT_PERSISTENT s.persistentSlots
        (s.slotChanged n, .later (.ctxJournal n)))
    else if (tabGet [] s.pack.journaling n).isEmpty then (s.forgetSlot n, .done [])
    else (s, .later (.ctxErase n))

/-- Jobs queued and running, as STAT shows them (R191). -/
def State.showJobs (s : State) : State :=
  let run := (s.pack.jobs.filter (fun (j : Job) => j.engine.isSome)).length
  (s.put F.PACK_STAT_JOBS_RUNNING run).put F.PACK_STAT_JOBS_QUEUED (s.pack.jobs.length - run)

/-- PACK_JOB (R179, R180): the slot is HELD from acceptance, and the job waits for an engine. -/
def opPackJob (p : InFlight) (s : State) : State × Verdict :=
  let b := p.body
  let n := p.target.toNat
  let ctl := bodyWord b 0
  let inLen := bodyWord b 3
  let outLen := bodyWord b 6
  let dec := ctl % 2 == 1
  if p.path ≠ .pcie ∧ p.path ≠ .ridge then (s, badOpcode 0x1103)
  else match packCheck p s with
    | some v => (s, v)
    | none =>
      if b.length ≠ 8 then (s, malformed 0x0202)
      else if 8 ≤ ctl ∨ bodyWord b 7 ≠ 0 then (s, malformed 0x11F6)
      else if inLen = 0 ∨ 16777216 < inLen ∨ 16777216 < outLen then (s, malformed 0x1120)
      else if outLen < (if dec then 65536 else 8) then (s, malformed 0x1121)
      else
        let x := s.slot n
        let fresh := ctl / 4 % 2 == 1
        if !fresh ∧ x.state = 3 then (s, refused 0x1112)
        else if !fresh ∧ x.state ≠ 0 ∧ x.state ≠ (if dec then 2 else 1) then (s, refused 0x1111)
        else
          let j : Job := { path := p.path, tag := p.tag, slot := n, decode := dec, final := ctl / 2 % 2 == 1, fresh := fresh
                           inAddr := dword (b.getD 1 0) (b.getD 2 0), inLen := inLen
                           outAddr := dword (b.getD 4 0) (b.getD 5 0), outLen := outLen, order := p.order, acceptClk := p.acceptClk }
          let s := s.setSlot n { x with holder := 2 }
          ({ s with pack := { s.pack with jobs := s.pack.jobs ++ [j] } }.showJobs, .later (.job n))

/-- The earliest queued job starts on an engine that can take it, and its input is read by DMA (R179, R184, R189). -/
def State.jobStart (s : State) : State :=
  match s.pack.jobs.find? (fun (j : Job) => j.engine.isNone) with
  | none => s
  | some j =>
    match s.takeEngine j.slot 1 with
    | none => s
    | some e =>
      let s := (s.loadEngine e j.slot 1).emit (.signal "DMA_READ" [j.inAddr % 2 ^ 32, j.inAddr / 2 ^ 32, j.inLen])
      { s with pack := { s.pack with jobs := s.pack.jobs.map (fun (k : Job) => if k.slot == j.slot then { k with engine := some e } else k) } }.showJobs

/-- The packet in flight that waits for a job on slot `n`. -/
def State.jobPacket (s : State) (n : Nat) : Option InFlight :=
  s.cmd.inflight.find? (fun (p : InFlight) => p.wait == .job n)

/-- A job is gone: its slot is no longer HELD, its engine free. -/
def State.dropJob (s : State) (n : Nat) : State :=
  let s := (s.freeEngine n).setSlot n { s.slot n with holder := 0 }
  { s with pack := { s.pack with jobs := s.pack.jobs.filter (fun (j : Job) => j.slot != n) } }.showJobs

/-- PKT_TIMEOUT in TIME clocks; 0 is treated as 1 (R129, R184). -/
def State.pktTimeout (s : State) : Nat := (let v := s.get F.CMD_PKT_TIMEOUT; if v = 0 then 1 else v) * 250000

/-- A job that has not started within PKT_TIMEOUT of its acceptance (R184). -/
def State.jobTimeout (s : State) (n : Nat) : State :=
  match s.pack.jobs.find? (fun (j : Job) => j.slot == n && j.engine.isNone) with
  | none => s
  | some j =>
    if s.time.clk < j.acceptClk + s.pktTimeout then s
    else
      let pk := s.jobPacket n
      let s := s.dropJob n
      match pk with
      | some p => s.answer p 0x30 0x02A1 []
      | none => s

/-- The result words of a job (R181). -/
def jobWords (o : CoderOut) : List Word :=
  [word o.consumed, word o.data.length, word (o.slot.skipBits + o.slot.width * 256), word o.slot.nextFree]

/-- A job ends, with the bytes that its DMA brought (R181, R182): `dmaFail` where the DMA failed. Its output goes to host memory. Where its
input was cut short, or RESET_UNIT of PACK has asked it to stop, it ends at a code boundary without the final close (R182, R190). -/
def State.jobComplete (s : State) (n : Nat) (input : List Byte) (dmaFail : Bool) : State :=
  match s.pack.jobs.find? (fun (j : Job) => j.slot == n && j.engine.isSome) with
  | none => s
  | some j =>
    let x := s.slot n
    let x := if j.fresh ∨ x.state = 0 then x.seeded (if j.decode then 2 else 1) else x
    let data := input.take j.inLen
    let final := j.final && !dmaFail && !j.stopping
    let o := if j.decode then decode x data j.outLen else encode x data final j.outLen
    let bad : Option Nat :=
      if dmaFail then some 0x1130
      else match o.error with
        | some d => some d
        | none => if j.decode && final && !o.stopped && !(o.rest.isEmpty && o.slot.skipBits == 0) then some 0x1102 else none
    let slot := match bad with
      | some _ => { o.slot with state := 3 }
      | none => o.slot
    let pk := s.jobPacket n
    let s := s.emit (.bytes "JOB_OUTPUT" [j.outAddr] o.data)
    let s := ((s.setSlot n slot).dropJob n).slotChanged n
    match pk with
    | none => s
    | some p =>
      match bad with
      | some d => s.answer p 1 d (jobWords o)
      | none =>
        if j.stopping then s.answer p 1 0x11F7 (jobWords o)
        else if o.stopped then s.answer p 1 0x1140 (jobWords o)
        else s.answer p 0 0 (jobWords o)

/-! ## Telemetry feeds (R185 to R187) -/

/-- Feed `f`. -/
def State.feed (s : State) (f : Nat) : Feed := tabGet {} s.pack.feeds f

/-- The state with feed `f` replaced. -/
def State.setFeed (s : State) (f : Nat) (x : Feed) : State := { s with pack := { s.pack with feeds := tabPut {} s.pack.feeds f x } }

/-- The source that the words enable on feed `f`: 1 LEDGER, 2 ERR, 0 none (R187). -/
def State.feedSource (s : State) (f : Nat) : Nat :=
  if s.has F.LEDGER_TEL_DEST_ENABLE && s.get F.LEDGER_TEL_DEST_FEED == f then 1
  else if s.has F.ERR_TEL_ENABLE && s.get F.ERR_TEL_FEED == f then 2 else 0

/-- A feed takes its slot and starts with a FRESH chunk, once the slot is free (R187). -/
def State.feedStart (s : State) (f : Nat) : State :=
  let x := s.feed f
  let n := s.get F.PACK_TEL_CFG_FIRST_SLOT + f
  let y := s.slot n
  if !x.enabled || x.started then s
  else if y.holder ≠ 0 then
    (if x.warned then s else (s.setFeed f { x with warned := true }).warn ⟨1, 0x11⟩ 0x1116 [f, n])
  else
    (s.setSlot n { y.seeded 1 with holder := 3 }).setFeed f { x with
      started := true, slot := n, chunkMax := s.get F.PACK_TEL_CFG_CHUNK_MAX, resync := s.get F.PACK_TEL_CFG_RESYNC }

/-- The slot of a feed is let go. -/
def State.feedLeaves (s : State) (f : Nat) : State :=
  let x := s.feed f
  if x.started then ((s.freeEngine x.slot).setSlot x.slot { s.slot x.slot with holder := 0 }).slotChanged x.slot else s

/-- At its next FRESH chunk a feed moves to the slot that TEL_CFG.FIRST_SLOT now gives it, as at its enabling (R187, R191). -/
def State.feedMove (s : State) (f : Nat) : State :=
  let x := s.feed f
  if !x.started || x.seq % x.resync != 0 || x.slot == s.get F.PACK_TEL_CFG_FIRST_SLOT + f then s
  else ((s.feedLeaves f).setFeed f { x with started := false, warned := false }).feedStart f

/-- A feed is disabled: it lets its slot go (R187). -/
def State.feedStop (s : State) (f : Nat) : State := ((s.feedLeaves f).setFeed f {}).unwait 2 f

/-- The feeds follow the words that enable them (R187). -/
def State.feedSync (s : State) : State :=
  forEach (List.range 16) (fun f s =>
    let want := s.feedSource f
    let x := s.feed f
    if x.enabled && x.source == want then s
    else if want = 0 then (if x.enabled then s.feedStop f else s)
    else ((s.feedStop f).setFeed f { enabled := true, source := want }).feedStart f) s

/-- A chunk header (R185). -/
def chunkHeader (f seq len : Nat) (fresh : Bool) : List Byte :=
  leBytes 1 f ++ leBytes 1 (if fresh then 1 else 0) ++ leBytes 2 len ++ leBytes 4 seq

/-- A chunk of feed `f` closes over its input: at the payload limit, or at a flush of its source (R185). None closes where neither is
reached. The chunk goes to the source's port, address and UDP port. -/
def State.feedChunk (s : State) (f : Nat) (input : List Byte) (flush : Bool) (dest : List Int) : State × Bool :=
  let s := if (s.feed f).carry.isEmpty && input.isEmpty then s else s.feedMove f
  let x := s.feed f
  let all := x.carry ++ input
  let fresh := decide (x.seq % x.resync = 0)
  let x := if fresh then { x with chunkMax := s.get F.PACK_TEL_CFG_CHUNK_MAX, resync := s.get F.PACK_TEL_CFG_RESYNC } else x
  let slot := if fresh then { (s.slot x.slot).seeded 1 with holder := 3 } else s.slot x.slot
  if !x.started ∨ all.isEmpty then (s, false)
  else match s.takeEngine x.slot 2 with
    | none => (s.awaitEngine 2 f, false)
    | some e =>
      let s := s.unwait 2 f
      let o := encode slot all flush (x.chunkMax * 256)
      if (!o.stopped && !flush) || o.data.isEmpty then (s, false)
      else
        let s := ((s.loadEngine e x.slot 2).setSlot x.slot o.slot).setFeed f { x with
          carry := all.drop o.consumed, seq := (x.seq + 1) % 2 ^ 32 }
        let s := s.freeEngine x.slot
        (s.emit (.bytes "TELEMETRY" dest (chunkHeader f x.seq o.data.length fresh ++ o.data)), true)

/-- RESET_UNIT of PACK (R190): running jobs stop at their next code boundary (`jobComplete`), queued ones are aborted, and the feeds restart
with a FRESH chunk, whose SEQ is 0. (DESIGN CHOICE, log entry 189.) -/
def State.resetPack (s : State) : State :=
  let queued := s.pack.jobs.filter (fun (j : Job) => j.engine.isNone)
  let s := forEach queued (fun (j : Job) s =>
    match s.jobPacket j.slot with
    | some p => (s.dropJob j.slot).answer p 0x31 0x11F7 []
    | none => s.dropJob j.slot) s
  let s := { s with pack := { s.pack with jobs := s.pack.jobs.map (fun (j : Job) => { j with stopping := true }) } }
  let s := forEach (List.range 6) (fun e s => if (s.engine e).active && (s.engine e).cls != 1 then s.setEngine e {} else s) s
  forEach (List.range 16) (fun f s =>
    let x := s.feed f
    if x.started then s.setFeed f { x with seq := 0 } else s) s

end Sys2Proof.Machine
end

