-- ==== Sys2Proof/Machine/Stream.lean ====
section
/-!
DEFINITION. Sys2Proof/Machine/Stream.lean: build streams (spec/04): opening, feeding and closing, the header and chunks, decryption and
decompression, containers and records, staging and admission, and broken programs.
-/
namespace Sys2Proof.Machine

/-! ## Access -/

/-- Stream `n`. -/
def State.strm (s : State) (n : Nat) : Stream := tabGet {} s.stream.streams n

/-- The state with stream `n` replaced; S_INBUF follows (R159). -/
def State.setStrm (s : State) (n : Nat) (x : Stream) : State :=
  ({ s with stream := { s.stream with streams := tabPut {} s.stream.streams n x } }).put (F.STREAM_S_INBUF n) x.inbuf.length

/-- BUILD_ID of a stream header (R139). -/
def Stream.buildId (x : Stream) : Nat := leAt x.header 16 4

/-- FLAGS of a stream header: encrypted, compressed, restore (R139). -/
def Stream.flag (x : Stream) (i : Nat) : Bool := leAt x.header 5 1 / 2 ^ i % 2 == 1

/-- CONTEXT of a stream header. -/
def Stream.context (x : Stream) : Nat := leAt x.header 12 1

/-- CHANNELS of a stream header. -/
def Stream.channels (x : Stream) : Nat := leAt x.header 20 8

/-- With every stream ended, the device passes from BUILD to DRAIN (R28, R138). -/
def State.autoDrain (s : State) : State :=
  if s.dev = 2 ∧ s.streamsEnded ∧ !s.sys.triggers.any (fun (t : DevTrigger) => t.target == 3) ∧ s.devAt s.nextFix = 2 then s.triggerDev 3 3 else s

/-- The compression context of a stream is let go, and in the given state (R172). -/
def State.releaseSlot (s : State) (n : Nat) (save : Bool) : State :=
  let x := s.strm n
  if !x.holdsSlot then s
  else
    let k := x.context
    let y := s.slot k
    let y := if y.state = 3 ∨ save then { y with holder := 0 } else { y.seeded 0 with holder := 0 }
    (((s.setStrm n { x with holdsSlot := false }).freeEngine k).setSlot k y).slotChanged k

/-- The compression context of a stream has met an error (R172, R182). -/
def State.breakSlot (s : State) (n : Nat) : State :=
  let x := s.strm n
  if x.holdsSlot then s.setSlot x.context { s.slot x.context with state := 3 } else s

/-- The parser of stream `n` runs: OPEN, or ENDED, where it judges what still comes (R145, R168). -/
def State.parses (s : State) (n : Nat) : Bool := s.strmState n == 1 || s.strmState n == 2

/-- A stream-level error stops the stream (R157): STOPPED, the detail kept, a UNIT error of the unit that owns it. (DEDUCED, log entries 100, 218.) -/
def State.stopStream (s : State) (n detail : Nat) : State :=
  if !s.parses n then s
  else
    let x := s.strm n
    let s := s.setStrm n { x with waiting := none }
    let s := ((s.put (F.STREAM_S_STAT_STATE n) 3).put (F.STREAM_S_STAT_DETAIL n) detail).put (F.STREAM_S_STAT_STALL n) 0
    (s.unitErr (detail / 256) detail [n, detail, x.buildId]).autoDrain

/-! ## Holds (R146) -/

/-- The holder of a channel, while one is. -/
def State.holder (s : State) (c : Nat) : Option Nat :=
  if s.has (F.STREAM_CH_STAGE_HELD c) then some (s.get (F.STREAM_CH_STAGE_HOLDER c)) else none

/-- Stream `n` takes hold of channel `c`. -/
def State.takeHold (s : State) (n c : Nat) : State :=
  (s.put (F.STREAM_CH_STAGE_HOLDER c) n).put (F.STREAM_CH_STAGE_HELD c) 1

/-- Stream `n` may take channel `c` now: no holder, itself, or a holder in FREE, DONE or STOPPED. -/
def State.mayHold (s : State) (n c : Nat) : Bool :=
  match s.holder c with
  | none => true
  | some m => m == n || s.strmState m == 0 || s.strmState m == 3 || s.strmState m == 4

/-- A stream that becomes FREE releases its holds. -/
def State.releaseHolds (s : State) (n : Nat) : State :=
  forEach (List.range 64) (fun c s => if s.holder c = some n then s.put (F.STREAM_CH_STAGE_HELD c) 0 else s) s

/-! ## Opcodes (R132 to R137) -/

/-- The checks that every stream opcode shares. -/
def streamCheck (p : InFlight) (s : State) : Option Verdict :=
  if 256 ≤ p.target.toNat then some (malformed 0x10F6)
  else if s.pairRole = 2 ∨ s.pairRole = 3 then some (refused 0x49F2)
  else none

/-- Layers and programs of an earlier opening of stream `n` no longer take part in its parsing; complete ones are forgotten. -/
def State.retireStream (s : State) (n : Nat) : State :=
  { s with stream := { s.stream with
    layers := (s.stream.layers.filter (fun (l : Layer) => !(l.stream == n && l.complete))).map (fun (l : Layer) => if l.stream == n then { l with old := true, closed := true } else l)
    programs := (s.stream.programs.filter (fun (p : Program) =>
      !(p.stream == n && !p.awaitsFault p.chan && s.stream.layers.any (fun (l : Layer) => l.stream == n && l.layer == p.layer && l.complete)))).map (fun (p : Program) => if p.stream == n then { p with old := true, closed := true } else p) } }

/-- STREAM_OPEN (R132, R136). -/
def opStreamOpen (p : InFlight) (s : State) : State × Verdict :=
  match streamCheck p s with
  | some v => (s, v)
  | none =>
    let n := p.target.toNat
    if p.body ≠ [] then (s, malformed 0x0202)
    else if s.strmState n ≠ 0 then (s, refused 0x1001)
    else
      let s := (s.retireStream n).setReg (F.STREAM_S_STAT_STATE n).addr 1
      let s := (s.put64 (F.STREAM_S_BYTES_LO n) (F.STREAM_S_BYTES_HI n) 0).put64 (F.STREAM_S_CHUNK_LO n) (F.STREAM_S_CHUNK_HI n) 0
      let s := (s.put (F.STREAM_S_LAYER_PARSED n) 0xFFFFFFFF).put (F.STREAM_S_LAYER_EXEC n) 0xFFFFFFFF
      (s.setStrm n {}, .done [])

/-- Bytes join the input buffer as far as it has room; how many (R135). -/
def State.feedStream (s : State) (n : Nat) (bs : List Byte) : State × Nat :=
  let x := s.strm n
  let k := min bs.length (1048576 - x.inbuf.length)
  let s := s.setStrm n { x with inbuf := x.inbuf ++ bs.take k }
  (s.put64 (F.STREAM_S_BYTES_LO n) (F.STREAM_S_BYTES_HI n) (s.get64 (F.STREAM_S_BYTES_LO n) (F.STREAM_S_BYTES_HI n) + k), k)

/-- STREAM_PUSH (R133, R135). -/
def opStreamPush (p : InFlight) (s : State) : State × Verdict :=
  match streamCheck p s with
  | some v => (s, v)
  | none =>
    let n := p.target.toNat
    let k := bodyWord p.body 0
    let len := p.body.length
    let bs := bytesOfWords (p.body.drop 1)
    if len < 2 then (s, malformed 0x0202)
    else if k < 4 * (len - 2) + 1 ∨ 4 * (len - 1) < k ∨ !allZero (bs.drop k) then (s, malformed 0x1004)
    else if s.strmState n ≠ 1 then (s, refused 0x1002)
    else
      let (s, m) := s.feedStream n (bs.take k)
      if m < k then (s, .stopped 0x1006 [word m]) else (s, .done [word k])

/-- STREAM_FETCH (R132, R134), on the PCIe path only: the DMA runs, and STREAM_FETCH_COMPLETE answers. (DEDUCED, log entry 220.) -/
def opStreamFetch (p : InFlight) (s : State) : State × Verdict :=
  let n := p.target.toNat
  let k := bodyWord p.body 2
  if p.path ≠ .pcie then (s, badOpcode 0x1003)
  else match streamCheck p s with
    | some v => (s, v)
    | none =>
      if p.body.length ≠ 4 then (s, malformed 0x0202)
      else if k = 0 ∨ 16777216 < k then (s, malformed 0x1005)
      else if bodyWord p.body 3 ≠ 0 then (s, malformed 0x10F6)
      else if s.strmState n ≠ 1 then (s, refused 0x1002)
      else ((s.setStrm n { s.strm n with fetching := true }).emit (.signal "DMA_READ" [bodyWord p.body 0, bodyWord p.body 1, k]), .later (.fetch n k))

/-- The fetch that a packet of `path` and `tag` started. -/
def State.fetchPacket (s : State) (path : Path) (tag : Byte) : Option (InFlight × Nat × Nat) :=
  s.cmd.inflight.findSome? (fun (p : InFlight) => match p.wait with
    | .fetch n k => if p.path == path && p.tag == tag then some (p, n, k) else none
    | _ => none)

/-- The DMA of a STREAM_FETCH ends with its bytes (R135). (DESIGN CHOICE, log entry 184.) -/
def State.fetchComplete (s : State) (path : Path) (tag : Byte) (bs : List Byte) : State :=
  match s.fetchPacket path tag with
  | none => s
  | some (p, n, k) =>
    let here := (s.strm n).fetching
    let s := s.setStrm n { s.strm n with fetching := false }
    if s.strmState n ≠ 1 ∨ !here then s.answer p 1 0x1006 [0]
    else
      let (s, m) := s.feedStream n (bs.take k)
      if m < k then s.answer p 1 0x1006 [word m] else s.answer p 0 0 [word k]

/-- The stream's staged blocks are discarded (R137). -/
def State.dropStaged (s : State) (n : Nat) : State :=
  forEach (List.range 64) (fun c s =>
    if (s.staged c).any (fun (g : Staged) => g.stream == n) then s.setStaged c ((s.staged c).filter (fun (g : Staged) => g.stream != n)) else s) s

/-- A stream is freed (R137, R146, R172, R560). -/
def State.freeStream (s : State) (n : Nat) (abort save : Bool) : State :=
  let s := s.releaseSlot n (save && !abort)
  let s := if abort then s.dropStaged n else s
  let k := (s.strm n).keySlot
  let s := (s.setStrm n {}).setReg (F.STREAM_S_STAT_STATE n).addr 0
  let used := (List.range 256).any (fun m => s.strmState m != 0 && (s.strm m).keySlot == k)
  let s := if k = 0 ∨ used then s else s.put (F.HUSK_SLOT_IN_USE k) 0
  (s.releaseHolds n).autoDrain

/-- STREAM_CLOSE (R137). -/
def opStreamClose (p : InFlight) (s : State) : State × Verdict :=
  match streamCheck p s with
  | some v => (s, v)
  | none =>
    let n := p.target.toNat
    let b := bodyWord p.body 0
    let abort := b % 2 == 1
    if p.body.length ≠ 1 then (s, malformed 0x0202)
    else if 4 ≤ b then (s, malformed 0x10F6)
    else if s.strmState n = 0 then (s, .done [])
    else if !abort ∧ (s.strmState n = 1 ∨ s.strmState n = 2) then (s, refused 0x1007)
    else (s.freeStream n abort (b / 2 % 2 == 1), .done [])

/-! ## The header (R139, R172, R560) -/

/-- Whether a header's fields are as R139 asks. -/
def headerValid (h : List Byte) : Bool :=
  let fl := leAt h 5 1
  let key := leAt h 6 2
  leAt h 0 4 == 0x53425A4D && leAt h 4 1 == 1 && decide (fl < 8) && leAt h 13 3 == 0 && leAt h 28 4 == 0 && leAt h 20 8 != 0
    && (fl / 4 % 2 == 0 || fl / 2 % 2 == 1)
    && (if fl % 2 = 1 then decide (1 ≤ key) && decide (key ≤ 64) else key == 0)
    && (fl / 2 % 2 == 1 || leAt h 12 1 == 0)

/-- The compression context is bound as the table of R172 says; the detail with which the stream stops otherwise. -/
def State.bindContext (s : State) (n : Nat) (h : List Byte) : State × Option Nat :=
  let fl := leAt h 5 1
  let k := leAt h 12 1
  let y := s.slot k
  if fl / 2 % 2 = 0 then (s, none)
  else if y.holder ≠ 0 then (s, some 0x1110)
  else if fl / 4 % 2 = 1 ∧ y.state ≠ 2 then (s, some 0x1013)
  else
    let y := if fl / 4 % 2 = 1 then y else y.seeded 2
    let y := { y with holder := 1, isSealed := y.isSealed || fl % 2 == 1 }
    ((s.setSlot k y).setStrm n { s.strm n with holdsSlot := true }, none)

/-- The 32-byte header in the input buffer is checked, key and context are bound, the free channels are taken (R139, R146, R560). -/
def State.headerParse (s : State) (n : Nat) : State :=
  let x := s.strm n
  if s.strmState n ≠ 1 ∨ x.header ≠ [] ∨ x.inbuf.length < 32 then s
  else
    let h := x.inbuf.take 32
    let s := s.setStrm n { x with header := h, inbuf := x.inbuf.drop 32 }
    if !headerValid h then s.stopStream n 0x1010
    else
      let fl := leAt h 5 1
      let s := ((s.put (F.STREAM_S_STAT_ENCRYPTED n) (fl % 2)).put (F.STREAM_S_STAT_COMPRESSED n) (fl / 2 % 2)).put (F.STREAM_S_STAT_CONTEXT n) (leAt h 12 1)
      let key := leAt h 6 2
      if fl % 2 = 1 ∧ tabGet [] s.husk.keys key = [] then s.stopStream n 0x1011
      else
        let (s, bad) := s.bindContext n h
        match bad with
        | some d => s.stopStream n d
        | none =>
          let s := s.setStrm n { s.strm n with keySlot := key, key := if key = 0 then [] else tabGet [] s.husk.keys key }
          let s := if key = 0 then s else s.put (F.HUSK_SLOT_IN_USE key) 1
          forEach (List.range 64) (fun c s =>
            if leAt h 20 8 / 2 ^ c % 2 = 1 ∧ s.holder c = none then s.takeHold n c else s) s

/-! ## Chunks (R140, R141, R156, R168) -/

/-- A decryption or unwrap failure is counted (R561). -/
def State.authFail (s : State) : State :=
  (s.put F.HUSK_AUTH_FAILS_RUN (satN 0xFFFF (s.get F.HUSK_AUTH_FAILS_RUN + 1))).count F.HUSK_AUTH_FAILS_TOTAL

/-- Stream `n` has compressed bytes to decode and room for their plaintext (R189). -/
def State.streamReady (s : State) (n : Nat) : Bool :=
  s.parses n && (s.strm n).holdsSlot && !(s.strm n).code.isEmpty && decide ((s.strm n).plain.length < 65536)

/-- The compressed bytes that wait are decoded on engine `e` into the plaintext buffer as far as it has room (R172). After the LAST chunk
what is left unread must end the code stream (R168). -/
def State.decodeOn (s : State) (n e : Nat) : State :=
  let x := s.strm n
  let s := (s.loadEngine e x.context 0).unwait 0 n
  let o := decode (s.slot x.context) x.code (65536 - x.plain.length)
  let s := s.setEngine e { s.engine e with run := (s.engine e).run + o.data.length }
  let s := (s.setSlot x.context o.slot).setStrm n { x with plain := x.plain ++ o.data, code := o.rest }
  match o.error with
  | some d => (s.breakSlot n).stopStream n d
  | none =>
    if x.lastChunk && !o.stopped && !cleanEnd o.rest o.slot.skipBits then (s.breakSlot n).stopStream n 0x1102 else s

/-- Stream `n` is decoded where it has an engine, or one can be had and no other stream became ready before it; else it waits (R189). -/
def State.decodeStream (s : State) (n : Nat) : State :=
  let x := s.strm n
  if !s.parses n ∨ !x.flag 1 ∨ !x.holdsSlot ∨ x.code.isEmpty then s
  else
    let first := (s.pack.ready.filter (fun e => e.1 == 0 && s.streamReady e.2)).head?
    let turn := (s.engineOf x.context).isSome || (match first with
      | some e => e.2 == n
      | none => true)
    match (if turn then s.takeEngine x.context 0 else none) with
    | none => s.awaitEngine 0 n
    | some e => s.decodeOn n e

/-- A whole chunk in the input buffer is framed, checked, decrypted and passed on (R140, R141, R143, R156). Its payload joins what is left of
the chunks before it, at most the two bytes of a code cut in two. (DEDUCED, log entries 102, 104.) -/
def State.chunkProcess (s : State) (n : Nat) : State :=
  let x := s.strm n
  let b := x.inbuf
  if x.lastChunk ∧ b ≠ [] ∧ s.parses n then s.stopStream n 0x1024
  else if !s.parses n ∨ x.header = [] ∨ b.length < 16 then s
  else
    let len := leAt b 0 4
    let trailer := if x.flag 0 then 16 else 4
    if len = 0 ∨ 65536 < len ∨ 1 < leAt b 12 1 ∨ leAt b 13 3 ≠ 0 then s.stopStream n 0x1021
    else if b.length < 16 + len + trailer ∨ 2 < x.code.length ∨ 65536 ≤ x.plain.length then s
    else if leAt b 4 8 ≠ s.get64 (F.STREAM_S_CHUNK_LO n) (F.STREAM_S_CHUNK_HI n) then s.stopStream n 0x1020
    else
      let head := b.take 16
      let payload := (b.drop 16).take len
      let tr := (b.drop (16 + len)).take trailer
      let s := s.setStrm n { x with inbuf := b.drop (16 + len + trailer) }
      let opened : Except Nat (List Byte) :=
        if x.flag 0 then
          (match gcmOpen x.key ((x.header.drop 8).take 4 ++ (head.drop 4).take 8) (x.header ++ head) payload tr with
            | some pt => .ok pt
            | none => .error 0x1023)
        else if ofLE tr = crc32 (head ++ payload) then .ok payload
        else .error 0x1022
      match opened with
      | .error d => (if d = 0x1023 then s.authFail else s).stopStream n d
      | .ok pt =>
        let s := if x.flag 0 then s.put F.HUSK_AUTH_FAILS_RUN 0 else s
        let s := s.put64 (F.STREAM_S_CHUNK_LO n) (F.STREAM_S_CHUNK_HI n) (s.get64 (F.STREAM_S_CHUNK_LO n) (F.STREAM_S_CHUNK_HI n) + 1)
        let y : Stream := { s.strm n with lastChunk := leAt head 12 1 % 2 == 1 }
        let s : State := if x.flag 1 then (s.setStrm n { y with code := y.code ++ pt }).decodeStream n
          else s.setStrm n { y with plain := y.plain ++ pt }
        if y.lastChunk ∧ y.inbuf ≠ [] ∧ s.parses n then s.stopStream n 0x1024 else s

/-! ## Containers (R144, R145) -/

/-- The layers of stream `n` that are open, oldest first. -/
def State.openLayers (s : State) (n : Nat) : List Layer :=
  s.stream.layers.filter (fun (l : Layer) => l.stream == n && !l.closed)

/-- The program of a layer on a channel that belongs to stream `n`; the latest one that the stream declared. -/
def State.program (s : State) (n layer c : Nat) : Option Program :=
  s.stream.programs.find? (fun (p : Program) => p.stream == n && p.layer == layer && p.chan == c && !p.old)

/-- That program replaced. -/
def State.setProgram (s : State) (p : Program) : State :=
  s.mapPrograms (fun q => q.stream == p.stream && q.layer == p.layer && q.chan == p.chan && !q.old) (fun _ => p)

/-- A program that is broken is closed in the stream with its WARN (R158). -/
def State.closeProgram (s : State) (p : Program) : State :=
  if p.closed then s
  else
    let s := s.setProgram { p with closed := true }
    match p.broken with
    | some d => s.warn ⟨1, 0x10⟩ d [p.stream, p.layer, p.chan, p.discarded]
    | none => s

/-- A program is broken with a detail; CH_STAGE.BROKEN shows it until its fault (R158). (DEDUCED, log entry 99.) -/
def State.breakProgram (s : State) (p : Program) (detail : Nat) : State × Program :=
  match p.broken with
  | some _ => (s, p)
  | none => (if p.void then s else s.put (F.STREAM_CH_STAGE_BROKEN p.chan) 1, { p with broken := some detail })

/-- A layer is judged complete (R145): too few programs stop the stream, short programs are broken. -/
def State.closeLayer (s : State) (n : Nat) (l : Layer) : State :=
  let s := { s with stream := { s.stream with layers := s.stream.layers.map (fun (x : Layer) =>
    if x.stream == n && x.layer == l.layer then { x with closed := true } else x) } }
  if l.seen < l.programs then s.stopStream n 0x1033
  else
    forEach (s.stream.programs.filter (fun (p : Program) => p.stream == n && p.layer == l.layer && !p.old)) (fun p s =>
      let short := decide (p.blocksSeen < p.blocks) || decide (p.recordsSeen < p.records)
      let (s, p) := if short then s.breakProgram p 0x1041 else (s, p)
      (s.setProgram p).closeProgram p) s

/-- A container header is one that R144 allows: KIND, byte 1, BODY_LEN. -/
def containerHeaderOk (b : List Byte) : Bool :=
  let kind := leAt b 0 1
  let len := leAt b 2 2
  leAt b 1 1 == 0 &&
    (kind == 0 || (kind == 1 && len == 16) || (kind == 2 && len == 16)
      || (kind == 3 && decide (20 ≤ len) && decide (len ≤ 4108) && len % 4 == 0) || (kind == 0x0F && len == 4))

/-- The container at the front of a stream's plaintext: KIND and body, where it lies whole in the buffer and the parser may go on. -/
def State.front (s : State) (n : Nat) : Option (Nat × List Byte) :=
  let x := s.strm n
  if !s.parses n ∨ x.waiting.isSome ∨ x.padLeft ≠ 0 ∨ x.plain.length < 4 then none
  else if !containerHeaderOk x.plain then none
  else
    let len := leAt x.plain 2 2
    if x.plain.length < 4 + len then none else some (leAt x.plain 0 1, (x.plain.drop 4).take len)

/-- A header at the front that R144 does not allow stops the stream (R144). -/
def State.frontCheck (s : State) (n : Nat) : State :=
  let x := s.strm n
  if s.parses n ∧ x.waiting.isNone ∧ x.padLeft = 0 ∧ 4 ≤ x.plain.length ∧ !containerHeaderOk x.plain then s.stopStream n 0x1030
  else s

/-- A container at the front of an ENDED stream, which only PAD may be: STREAM_END is the last (R145). (DEDUCED, log entry 219.) -/
def State.afterEnd (s : State) (n : Nat) : Bool := (s.strm n).ended && s.strmState n == 2

/-- The container at the front leaves the buffer. -/
def State.eat (s : State) (n : Nat) : State :=
  let x := s.strm n
  s.setStrm n { x with plain := x.plain.drop (4 + leAt x.plain 2 2) }

/-- A PAD container, or what has come of it, is ignored (R144). -/
def State.containerPad (s : State) (n : Nat) : State :=
  let x := s.strm n
  if !s.parses n ∨ x.waiting.isSome then s
  else
    let x := if x.padLeft = 0 ∧ 4 ≤ x.plain.length ∧ containerHeaderOk x.plain ∧ leAt x.plain 0 1 = 0 then
        { x with padLeft := leAt x.plain 2 2, plain := x.plain.drop 4 }
      else x
    let k := min x.padLeft x.plain.length
    (s.setStrm n { x with padLeft := x.padLeft - k, plain := x.plain.drop k }).frontCheck n

/-- A LAYER container (R144, R145). -/
def State.containerLayer (s : State) (n : Nat) : State :=
  match s.front n with
  | some (1, b) =>
    let layer := leAt b 0 4
    let start := leAt b 4 6
    let programs := leAt b 10 1
    let s := s.eat n
    let mine := s.stream.layers.filter (fun (l : Layer) => l.stream == n && !l.old)
    let order := match mine.getLast? with
      | some l => decide (l.layer < layer) && decide (0 < diff48 start l.start)
      | none => true
    if s.afterEnd n then s.stopStream n 0x1031
    else if programs = 0 ∨ 64 < programs ∨ leAt b 11 5 ≠ 0 then s.stopStream n 0x1030
    else if !order then s.stopStream n 0x1032
    else
      let s := match s.openLayers n with
        | a :: _ :: _ => s.closeLayer n a
        | _ => s
      if s.strmState n ≠ 1 then s
      else
        let l : Layer := { stream := n, layer := layer, start := start, programs := programs }
        let s := { s with stream := { s.stream with layers := s.stream.layers ++ [l] } }
        ((s.put (F.STREAM_S_LAYER_PARSED n) layer).setStrm n { s.strm n with layersSeen := (s.strm n).layersSeen + 1 }).frontCheck n
  | _ => s.frontCheck n

/-- A stream carries in full a program that a promotion has left PARTIAL (R499): what was staged of it is the new program's, whose blocks with
those INDEX values are to be discarded. (DEDUCED, log entry 199.) -/
def State.takeOver (s : State) (p : Program) : State × Program :=
  match s.stream.programs.find? (fun (q : Program) => q.partialRec && q.layer == p.layer && q.chan == p.chan && !q.complete && !q.void) with
  | none => (s, p)
  | some q =>
    let mine := fun (r : Seg) => if r.stream = q.stream ∧ r.layer = q.layer then { r with stream := p.stream, tag := p.tag } else r
    let x := s.sq p.chan
    let s := s.setSq p.chan { x with
      queue := x.queue.map (fun (e : QRec) => { e with seg := mine e.seg })
      active := x.active.map (fun (a : Active) => { a with seg := mine a.seg })
      running := x.running.map (fun e => if e.1 = q.stream ∧ e.2.1 = q.layer then (p.stream, p.layer, p.tag) else e) }
    let s := s.setStaged p.chan ((s.staged p.chan).map (fun (g : Staged) =>
      if g.stream = q.stream ∧ g.layer = q.layer then { g with stream := p.stream, records := g.records.map mine } else g))
    let rest := s.stream.programs.filter (fun (r : Program) => !(r.partialRec && r.stream == q.stream && r.layer == q.layer && r.chan == q.chan))
    ({ s with stream := { s.stream with programs := rest } }, { p with skip := q.nextIndex, cairns := q.cairns })

/-- A PROGRAM container (R144, R145, R499). -/
def State.containerProgram (s : State) (n : Nat) : State :=
  match s.front n with
  | some (2, b) =>
    let layer := leAt b 0 4
    let c := leAt b 4 1
    let blocks := leAt b 6 2
    let s := s.eat n
    if s.afterEnd n then s.stopStream n 0x1031
    else match (s.openLayers n).find? (fun (l : Layer) => l.layer == layer) with
    | none => if 63 < c ∨ leAt b 5 1 ≠ 0 ∨ blocks = 0 then s.stopStream n 0x1030 else s.stopStream n 0x1031
    | some l =>
      if 63 < c ∨ leAt b 5 1 ≠ 0 ∨ blocks = 0 then s.stopStream n 0x1030
      else if (s.strm n).channels / 2 ^ c % 2 = 0 ∨ l.programs ≤ l.seen ∨ (s.program n layer c).isSome then s.stopStream n 0x1033
      else
        let p : Program := { stream := n, layer := layer, chan := c, tag := leAt b 12 4, blocks := blocks, records := leAt b 8 4, start := l.start }
        let (s, p) := s.takeOver p
        let s := { s with stream := { s.stream with
          layers := s.stream.layers.map (fun (x : Layer) => if x.stream == n && x.layer == layer && !x.old then { x with seen := x.seen + 1 } else x)
          programs := s.stream.programs ++ [p] } }
        (s.showLayerExec n).frontCheck n
  | _ => s.frontCheck n

/-! ## Records (R147 to R150) -/

/-- WORDS of a record type (R148). -/
def recordWords (t : Nat) : Nat := match t with
  | 1 => 7 | 2 => 6 | 3 => 4 | 4 => 4 | 5 => 3 | 6 => 4 | 7 => 2 | 8 => 2 | _ => 0

/-- FLAGS bits that a record type lists (R148). -/
def recordFlags (t : Nat) : Nat := if t = 1 then 3 else if t = 2 then 2 else 0

/-- One record of a block; none where R148 is broken. Its launch is still OFFSET. -/
def recordOf (b : List Byte) : Option Seg :=
  let t := leAt b 0 1
  let fl := leAt b 2 1
  let s32 := fun (i : Nat) => signedOf 32 (leAt b i 4)
  if leAt b 3 1 ≠ 0 ∨ fl &&& recordFlags t ≠ fl then none
  else match t with
    | 1 => if leAt b 20 4 = 0 then none
           else some { type := 1, flags := fl, launch := leAt b 4 4, x := s32 8, y := s32 12, z := s32 16, speed := leAt b 20 4, p0 := leAt b 24 2, saddle := leAt b 26 2 }
    | 2 => some { type := 2, flags := fl / 2, launch := leAt b 4 4, x := s32 8, y := s32 12, z := s32 16, speed := leAt b 20 4 }
    | 3 => if leAt b 14 2 ≠ 0 then none else some { type := 3, launch := leAt b 4 4, duration := leAt b 8 4, p0 := leAt b 12 2, p1 := leAt b 12 2 }
    | 4 => if leAt b 8 4 = 0 then none else some { type := 4, launch := leAt b 4 4, duration := leAt b 8 4, p0 := leAt b 12 2, p1 := leAt b 14 2 }
    | 5 => if leAt b 10 2 ≠ 0 then none else some { type := 5, base := leAt b 4 6 }
    | 6 => if 1 < leAt b 12 1 ∨ leAt b 13 3 ≠ 0 then none else some { type := 6, launch := leAt b 4 4, ident := leAt b 8 4, scope := leAt b 12 1 }
    | 7 => some { type := 7, launch := leAt b 4 4 }
    | 8 => some { type := 8, launch := leAt b 4 4 }
    | _ => none

/-- What parsing a block carries from record to record (R149, R150). -/
structure RecSt where
  base : Option Nat
  last : Option Nat
  ended : Bool
  out : List Seg := []
deriving DecidableEq, Repr

/-- The records of a block, `n` of them, that must fill `b` exactly; else the detail of R156. (DESIGN CHOICE, log entry 186.) -/
def recordsOf (start : Nat) : Nat → List Byte → RecSt → Except Nat RecSt
  | 0, b, st => if b.isEmpty then .ok st else .error 0x1040
  | n + 1, b, st =>
    let k := 4 * recordWords (leAt b 0 1)
    if b.length < 4 ∨ k = 0 ∨ leAt b 1 1 * 4 ≠ k ∨ b.length < k then .error 0x1040
    else match recordOf (b.take k) with
      | none => .error 0x1040
      | some r =>
        if st.ended then .error 0x1044
        else if r.type = 5 then recordsOf start n (b.drop k) { st with base := some r.base, out := st.out ++ [r] }
        else match st.base with
          | none => .error 0x1043
          | some base =>
            let launch : Nat := (base + r.launch) % 2 ^ 48
            let before : Nat := st.last.getD start
            if diff48 launch before < 0 then .error 0x1042
            else recordsOf start n (b.drop k)
              { st with last := some launch, ended := r.type == 7, out := st.out ++ [{ r with launch := launch }] }

/-- Whether the staging area of channel `c` has room for `bytes` more (R152). (DESIGN CHOICE, log entry 185.) -/
def State.stagingRoom (s : State) (c bytes : Nat) : Bool :=
  decide ((s.staged c).foldl (fun n (g : Staged) => n + g.bytes) 0 + bytes ≤ s.get F.STREAM_CONFIG_STAGE_KB * 1024)

/-- STALL shows whether the parser waits for room or for a hold (R146, R152). -/
def State.showStall (s : State) (n : Nat) : State :=
  match (s.strm n).waiting with
  | none => s.put (F.STREAM_S_STAT_STALL n) 0
  | some w => s.putB (F.STREAM_S_STAT_STALL n) (!(s.mayHold n w.chan && s.stagingRoom w.chan w.block.bytes))

/-- A BLOCK container (R144, R145, R148 to R150, R158). (DEDUCED, log entry 98.) (DESIGN CHOICE, log entry 186.) -/
def State.containerBlock (s : State) (n : Nat) : State :=
  match s.front n with
  | some (3, b) =>
    let layer := leAt b 0 4
    let c := leAt b 4 1
    let index := leAt b 6 2
    let nrec := leAt b 8 2
    let bytes := leAt b 10 2
    let s := s.eat n
    if s.afterEnd n then s.stopStream n 0x1031
    else if 63 < c ∨ leAt b 5 1 ≠ 0 ∨ bytes + 12 ≠ b.length ∨ bytes < 8 ∨ 4096 < bytes ∨ bytes % 4 ≠ 0 then s.stopStream n 0x1030
    else match s.program n layer c with
      | none => s.stopStream n 0x1031
      | some p =>
        let layerOpen := (s.openLayers n).any (fun (l : Layer) => l.layer == layer)
        if !layerOpen ∨ p.closed then
          (if p.broken.isSome then (s.setProgram { p with discarded := p.discarded + 1 }).frontCheck n else s.stopStream n 0x1031)
        else
          let lastBlock := p.blocksSeen + 1 = p.blocks
          let p1 := { p with blocksSeen := p.blocksSeen + 1 }
          let parsed : Except Nat RecSt :=
            if p.broken.isSome then .error 0
            else if index ≠ p.nextIndex then .error 0x1041
            else if nrec = 0 ∨ 512 < nrec then .error 0x1040
            else match recordsOf p.start nrec (b.drop 12) { base := p.base, last := p.lastLaunch, ended := p.layerEnd } with
              | .error d => .error d
              | .ok st => if lastBlock && !st.ended then .error 0x1044 else .ok st
          match parsed with
          | .error d =>
            let (s, p2) := s.breakProgram p1 d
            let p3 := { p2 with discarded := p2.discarded + 1 }
            let s := s.setProgram p3
            (if lastBlock then s.closeProgram p3 else s).frontCheck n
          | .ok st =>
            let p2 := { p1 with nextIndex := index + 1, recordsSeen := p.recordsSeen + nrec, base := st.base, lastLaunch := st.last, layerEnd := st.ended }
            let s := s.setProgram p2
            let s := if lastBlock && p2.recordsSeen == p2.records then s.closeProgram p2 else s
            if p.void ∨ index < p.skip then s.frontCheck n
            else
              let recs := st.out.map (fun (r : Seg) => { r with stream := n, layer := layer, tag := p.tag })
              let g : Staged := { stream := n, layer := layer, index := index, bytes := bytes, admitAt := 0, records := recs }
              (s.setStrm n { s.strm n with waiting := some ⟨c, g⟩ }).showStall n
  | _ => s.frontCheck n

/-- STREAM_END (R145): the last layers close and the stream is ENDED. -/
def State.containerEnd (s : State) (n : Nat) : State :=
  match s.front n with
  | some (0x0F, b) =>
    let s := s.eat n
    if s.afterEnd n ∨ leAt b 0 4 ≠ (s.strm n).layersSeen then s.stopStream n 0x1031
    else
      let s := forEach (s.openLayers n) (fun l s => s.closeLayer n l) s
      if s.strmState n ≠ 1 then s
      else ((s.setStrm n { s.strm n with ended := true }).put (F.STREAM_S_STAT_STATE n) 2).autoDrain
  | _ => s.frontCheck n

/-! ## Staging and admission (R146, R152 to R155) -/

/-- A waiting stream takes hold of its block's channel once the holder has reached FREE, DONE or STOPPED (R146). -/
def State.holdTake (s : State) (n c : Nat) : State :=
  match (s.strm n).waiting with
  | some w => if w.chan = c ∧ s.mayHold n c then (s.takeHold n c).showStall n else s
  | none => s

/-- The first frame boundary at least 20 µs from now (R153). -/
def State.admissionFrame (s : State) : Nat := (s.ns + 20000 + 999) / 1000

/-- The waiting block is placed whole in its channel's staging area; a keeper gives it to its partner and fixes its admission once that
is acknowledged (R152, R154, R482). A block whose program has become void meanwhile is discarded (R271). -/
def State.blockStage (s : State) (n : Nat) : State :=
  match (s.strm n).waiting with
  | none => s
  | some w =>
    let leave := fun (s : State) => s.setStrm n { s.strm n with waiting := none }
    if (s.program n w.block.layer w.chan).any Program.void then ((leave s).showStall n).frontCheck n
    else if !(s.mayHold n w.chan && s.stagingRoom w.chan w.block.bytes) then s.showStall n
    else
      let s := s.takeHold n w.chan
      let paired := s.pairRole == 1
      let k := s.pair.nextMirror
      let g := { w.block with admitAt := s.admissionFrame, number := k, admitted := !paired }
      let s := leave (s.setStaged w.chan (s.staged w.chan ++ [g]))
      let s := if s.passesOn then
          { s.emitRidge 0x20 .partner (.mirror k (.block (Fin.ofNat 64 w.chan) g)) with pair := { s.pair with nextMirror := k + 1 } }
        else s
      let s := if s.passesOn && !paired then s.emitRidge 0x15 .partner (.signal "ADMIT" [k, g.admitAt]) else s
      (s.showStall n).frontCheck n

/-- A record that enters the queue is late when its launch with the slip lies less than 50 µs ahead (R155). -/
def lateAt (r : Seg) (slip : Int) (q : Nat) : Bool := r.timed && decide (diff48 (r.launch + slip) (q * 1000) < 50000)

/-- Up to `k` records of a channel's staging area are taken, in stream order, from blocks whose admission frame has come. -/
def takeRecords (q : Nat) : Nat → List Staged → List Seg × List Staged
  | _, [] => ([], [])
  | k, g :: t =>
    if k = 0 ∨ !g.admitted ∨ q < g.admitAt then ([], g :: t)
    else
      let m := g.records.take k
      if k < g.records.length then (m, { g with records := g.records.drop k } :: t)
      else
        let (r, l) := takeRecords q (k - m.length) t
        (m ++ r, l)

/-- Channel `c` admits records at frame `q` (R153, R155). (DESIGN CHOICE, log entry 187.) -/
def State.blockAdmission (s : State) (c q : Nat) : State :=
  let done := s.stream.admittedAt.any (fun e => e.1 == c && decide (q ≤ e.2))
  let x := s.sq c
  let k := min 4 (1024 - (x.queue.length + x.active.length))
  let (recs, rest) := takeRecords q k (s.staged c)
  if done ∨ recs.isEmpty then s
  else
    let late := recs.filter (fun r => lateAt r (s.slipAt c q) q)
    let fresh := (s.staged c).filter (fun (g : Staged) => !g.late && g.records.any (fun r => late.contains r))
    let s := s.setStaged c (rest.map (fun (g : Staged) => if g.records.isEmpty then g else
      { g with late := g.late || fresh.any (fun (h : Staged) => h.stream == g.stream && h.layer == g.layer && h.index == g.index) }))
    let s := s.setSq c { x with queue := x.queue ++ recs.map (fun r => { seg := r }) }
    let s := { s with stream := { s.stream with admittedAt := tabPut 0 s.stream.admittedAt c q } }
    let s := s.count (F.STREAM_CH_LATE_COUNT c) late.length
    forEach fresh (fun (g : Staged) s => s.warn ⟨2, c⟩ 0x1050 [g.stream, g.layer, ((g.records.head?.elim 0 Seg.tag : Nat) : Int), (s.strm g.stream).buildId]) s

/-! ## Broken programs and the end of a stream (R138, R158) -/

/-- Records of a program that channel `c` still has to execute, those of a block that waits for staging among them. -/
def State.recordsLeft (s : State) (p : Program) : Bool :=
  let x := s.sq p.chan
  (s.staged p.chan).any (fun (g : Staged) => g.stream == p.stream && g.layer == p.layer)
    || (!p.old && (s.strm p.stream).waiting.any (fun (w : ParsedBlock) => w.chan == p.chan && w.block.layer == p.layer))
    || x.queue.any (fun (q : QRec) => p.owns p.chan q.seg) || x.active.any (fun (a : Active) => p.owns p.chan a.seg)

/-- At the last valid record of a broken program, or at its layer's START where it has none, channel `c` raises the fault (R158). (DEDUCED, log entry 101.) -/
def State.brokenFault (s : State) (c : Nat) : State :=
  match s.stream.programs.find? (fun (p : Program) => p.awaitsFault c) with
  | none => s
  | some p =>
    let valid := decide (p.nextIndex ≠ 0)
    let due := if valid then !s.recordsLeft p else dueAt p.start 0 s.ns
    if !due then s
    else
      let same := fun (q : Program) => q.awaitsFault c && q.stream == p.stream && q.layer == p.layer && q.old == p.old
      let s := s.mapPrograms same (fun q => { q with faulted := true })
      (s.showBroken c).raise 2 true ⟨2, c⟩ (p.broken.getD 0x1040) [p.stream, p.layer, p.tag, if p.old then 0 else (s.strm p.stream).buildId]

/-- Device time reaches the START of a layer: it is started, with INFO 0x1840 (R268). -/
def State.layerStart (s : State) (n layer : Nat) : State :=
  let hit := fun (l : Layer) => l.stream == n && l.layer == layer && !l.started && dueAt l.start 0 s.ns
  if s.stream.layers.any hit then
    { s with stream := { s.stream with layers := s.stream.layers.map (fun (l : Layer) =>
        if hit l then { l with started := true } else l) } }.info ⟨0, 0⟩ 0x1840 [layer]
  else s

/-- An ENDED stream whose programs have all completed is DONE (R138). -/
def State.streamDone (s : State) (n : Nat) : State :=
  if s.strmState n = 2 ∧ (s.stream.programs.all (fun (p : Program) => p.stream != n || p.complete || p.old)) then
    ((s.put (F.STREAM_S_STAT_STATE n) 4).showLayerExec n).autoDrain
  else s

/-- The streams that wait for an engine, in order of readiness (R189). -/
def State.streamQueue (s : State) : List Nat :=
  let noted := (s.pack.ready.filter (fun e => e.1 == 0)).map (fun e => e.2)
  (noted ++ (List.range 256).filter (fun n => !noted.contains n)).filter (fun n =>
    s.streamReady n && (s.engineOf (s.strm n).context).isNone)

/-- Work leaves engine `e` when it has no input or room, or at its quantum while other work of its class is ready, behind which it then
waits. The stream that has been ready longest is switched in, unless work of the engine's own class is ready (R189, R191). (DEDUCED, log entry 221.) -/
def State.engineSwitch (s : State) (e : Nat) : State :=
  let x := s.engine e
  let held := (List.range 256).find? (fun n => (s.strm n).holdsSlot && (s.strm n).context == x.slot)
  let more := match held with
    | some n => s.streamReady n
    | none => false
  let leave := x.active && x.cls == 0 && (!more || (!s.streamQueue.isEmpty && decide (x.quantum * 1024 ≤ x.run)))
  let s := if !leave then s
    else
      let s := s.setEngine e {}
      match held with
      | some n => if more then s.awaitEngine 0 n else s
      | none => s
  let own := s.engineClass e
  if (s.engine e).active ∨ !s.engineServes e 0 ∨ (own ≠ 0 ∧ s.classReady own) then s
  else match s.streamQueue with
    | n :: _ => s.decodeOn n e
    | [] => s

end Sys2Proof.Machine
end

