-- ==== Sys2Proof/Machine/Time.lean ====
section
/-!
DEFINITION. Sys2Proof/Machine/Time.lean: the time base (spec/06 R192 to R221): its states, the servo and the jump rule, PTP, ridge
markers, and slews. The step of R195 stands in Machine/Step195.lean, with everything it touches.
-/
namespace Sys2Proof.Machine

/-! ## Rate (R193, R206) -/

/-- The rate word of R in units of 2^-8 ppb × num / den, clamped (R193, R206). -/
def State.setRate (s : State) (num : Int) (den : Nat) : State :=
  let lim := s.adjLimit
  s.putI F.TIME_RATE_ADJ (clampI (-lim) lim (roundHalfEven (num * 17179869184) (den * 256000000000)))

/-- SERVO of R206 for an offset of θ / 2^32 ns, where e = θ × en / ed ppb, with what a member adds for the summit's ADJ (R215). -/
def State.servo (s : State) (theta : Int) (en ed alpha beta : Nat) : State :=
  let e := theta * en
  let i := roundHalfEven (s.getI F.TIME_RATE_I * ((ed * 2 ^ beta : Nat) : Int) - e * 256) (ed * 2 ^ beta)
  let s := s.putI F.TIME_RATE_I i
  let s := s.setRate (i * ((ed * 2 ^ alpha : Nat) : Int) - e * 256) (ed * 2 ^ alpha)
  let lim := s.adjLimit
  s.putI F.TIME_RATE_ADJ (clampI (-lim) lim (s.getI F.TIME_RATE_ADJ + s.time.adjSum))

/-- The rate at the integral term (R211), with a member's sum of the summit's changes (R215). -/
def State.coast (s : State) : State :=
  let s := s.setRate (s.getI F.TIME_RATE_I) 1
  let lim := s.adjLimit
  s.putI F.TIME_RATE_ADJ (clampI (-lim) lim (s.getI F.TIME_RATE_ADJ + s.time.adjSum))

/-! ## States (R198, R199) -/

/-- The ms spent in HOLDOVER so far (R211). -/
def State.holdoverMs (s : State) : Nat := satN 0xFFFFFFFF ((s.time.clk - s.time.holdSince) / 250000)

/-- A transition of the time base with its event (R199): INFO 0x0800 + state, or WARN 0x0821 and 0x0820 for HOLDOVER with cause 2 and 3. (DEDUCED, log entry 55.) -/
def State.enterTime (s : State) (st cause : Nat) : State :=
  let old := s.get F.TIME_STATE
  let s := if old = 2 ∧ st ≠ 2 then s.put F.TIME_HOLDOVER_MS s.holdoverMs else s
  let s := if st = 2 ∧ old ≠ 2 then
      { s with time := { s.time with holdSince := s.time.clk, holdRate := s.getI F.TIME_RATE_I, goodRun := 0 } }
    else s
  let s := (s.put F.TIME_STATE st).put F.TIME_STATE_HOLD_CAUSE cause
  if st = 2 ∧ cause = 2 then s.warn ⟨1, 0x08⟩ 0x0821
  else if st = 2 ∧ cause = 3 then s.warn ⟨1, 0x08⟩ 0x0820 [s.getI F.TIME_OFFSET]
  else s.info ⟨1, 0x08⟩ (0x0800 + st) [cause]

/-- The source is lost (R205, R213): HOLDOVER with cause 2, at the integral term. -/
def State.loseSource (s : State) : State :=
  if s.get F.TIME_STATE = 1 then
    { (s.enterTime 2 2).coast with time := { (s.enterTime 2 2).coast.time with sourcePresent := false } }.put F.TIME_STATE_MASTER 0
  else { s.put F.TIME_STATE_MASTER 0 with time := { (s.put F.TIME_STATE_MASTER 0).time with sourcePresent := false } }

/-- The device takes time from PTP: the summit with CFG.SOURCE = 1 (R212). -/
def State.ptpSource (s : State) : Bool := s.isSummit && s.get F.TIME_CFG_SOURCE == 1

/-! ## Measurements (R206, R207) -/

/-- An offset in whole ns. -/
def nsOf (theta : Int) : Int := roundHalfEven theta (2 ^ 32)

/-- A measurement is within JUMP_THRESH. -/
def State.inThreshold (s : State) (theta : Int) : Bool :=
  decide ((theta.natAbs : Int) ≤ (s.get F.TIME_JUMP_THRESH : Int) * 2 ^ 32)

/-- A complete offset measurement is shown, counted, and given to the servo in LOCKED (R199, R206, R207). -/
def State.measurement (s : State) (theta : Int) (en ed alpha beta : Nat) (steers : Bool) : State :=
  let s := { s.putSat F.TIME_OFFSET (nsOf theta) with time := { s.time with offset := theta } }
  if !steers then s
  else
    let st := s.get F.TIME_STATE
    let ok := s.inThreshold theta
    let seen := s.get F.TIME_STATE_JUMP_SEEN
    let s := { s with time := { s.time with sourcePresent := true, ptpMeasureClk := s.time.clk } }
    let s := s.put F.TIME_STATE_MASTER 1
    if st = 0 then { s with time := { s.time with firsts := (theta :: s.time.firsts).take 3 } }
    else
      let s := s.put F.TIME_STATE_JUMP_SEEN (if ok then 0 else satN 15 (seen + 1))
      if st = 1 then (if ok then s.servo theta en ed alpha beta else s)
      else { s with time := { s.time with goodRun := if ok && s.time.slewEnd.isNone then s.time.goodRun + 1 else 0 } }

/-- A PTP measurement that has completed is used (R206). -/
def State.ptpMeasurement (s : State) : State :=
  match s.time.measured with
  | none => s
  | some (theta, en, ed) =>
    let s := { s with time := { s.time with measured := none } }
    s.measurement theta en ed (s.get F.TIME_SERVO_ALPHA_SHIFT) (s.get F.TIME_SERVO_BETA_SHIFT) s.ptpSource

/-- JUMP_SEEN has reached JUMP_COUNT with no refusal open (R207). -/
def State.jumpDue (s : State) : Bool :=
  s.get F.TIME_STATE != 0 && s.get F.TIME_STATE_HOLD_CAUSE != 3 && s.get F.TIME_STATE_HOLD_CAUSE != 4
    && decide (s.get F.TIME_JUMP_COUNT ≤ s.get F.TIME_STATE_JUMP_SEEN)

/-- The jump is refused (R207, R208). -/
def State.refuseJump (s : State) : State :=
  if !s.jumpDue then s
  else
    let s := ((s.mark F.TIME_STATE_JUMP_REFUSED).putSat F.TIME_REFUSED_OFFSET (s.getI F.TIME_OFFSET)).put F.TIME_STATE_JUMP_SEEN 0
    (s.enterTime 2 3).coast

/-- JUMP_COUNT consecutive measurements within the threshold, no slew, a source present (R199). -/
def State.exitDue (s : State) : Bool :=
  s.get F.TIME_STATE == 2 && s.time.sourcePresent && s.time.slewEnd.isNone && decide (s.get F.TIME_JUMP_COUNT ≤ s.time.goodRun)

/-- HOLDOVER ends; the last measurement is the first that the servo takes (R199). -/
def State.leaveHoldover (s : State) : State :=
  if !s.exitDue then s
  else
    let s := (s.enterTime 1 0).put F.TIME_STATE_SOURCE (if s.isSummit then 1 else 2)
    if s.isSummit then
      s.servo s.time.offset 16 (2 ^ (32 + (s.time.ptpLogSync + 4).toNat)) (s.get F.TIME_SERVO_ALPHA_SHIFT) (s.get F.TIME_SERVO_BETA_SHIFT)
    else s.servo s.time.offset 10000 (2 ^ 32) 1 6

/-- A slew ends (R209). -/
def State.slewEnd (s : State) : State :=
  match s.time.slewEnd with
  | none => s
  | some _ =>
    { (s.put F.TIME_STATE_SLEWING 0).coast with time := { (s.put F.TIME_STATE_SLEWING 0).coast.time with slewEnd := none, goodRun := 0 } }

/-- TIME_VERDICT (R209, R218). -/
def opTimeVerdict (p : InFlight) (s : State) : State × Verdict :=
  let v := bodyWord p.body 0
  if p.target ≠ 0 then (s, malformed 0x08F6)
  else if p.body.length ≠ 1 then (s, malformed 0x0202)
  else if 1 < v then (s, malformed 0x08F6)
  else if s.get F.TIME_STATE_HOLD_CAUSE ≠ 3 ∧ s.get F.TIME_STATE_HOLD_CAUSE ≠ 4 then (s, refused 0x0803)
  else if v = 0 then
    (if s.get F.TIME_STATE_HOLD_CAUSE = 3 then s.enterTime 2 4 else s, .done [])
  else
    let theta := s.time.offset
    let rate := s.get F.TIME_SLEW_MAX
    let us := roundHalfEven ((theta.natAbs : Int) * 1000000) (rate * 2 ^ 32)
    let s := s.setRate (s.getI F.TIME_RATE_I - theta.sign * rate * 256) 1
    let s := { s.put F.TIME_STATE_SLEWING 1 with time := { s.time with slewEnd := some (s.time.clk + us.toNat * 250), goodRun := 0 } }
    (s, .done [])

/-! ## PTP (R200 to R205) -/

/-- The port that runs PTP. -/
def State.ptpPort (s : State) : Bool := s.has F.TIME_CFG_PTP_PORT

/-- A message is dropped and counted in NET statistics (R202, R204). -/
def State.ptpDrop (s : State) : State := { s with time := { s.time with ptpDropped := s.time.ptpDropped + 1 } }

/-- The fixed correction of the active port, transmit 0 or receive 1 (R200). (DEDUCED, log entry 204.) -/
def State.tsCorr (s : State) (dir : Nat) : Int :=
  s.getI (F.TIME_TS_CORR ((if s.ptpPort then 2 else 0) + dir))

/-- A path delay, measured as twice its value in 2^-16 ns, is kept and shown in 2^-8 ns (R221). -/
def State.setPathDelay (s : State) (twice : Int) : State :=
  let d := twice * 32768
  { s.put F.TIME_PATH_DELAY (fieldOf 32 (roundHalfEven d (2 ^ 24))) with time := { s.time with ptpDelay := some d } }

/-- A Sync is complete: with the path delay known, it gives an offset measurement, less the asymmetry as it stood when the Sync arrived
(R201, R206). -/
def State.syncComplete (s : State) (t1 t2 : Int) : State :=
  let s := { s with time := { s.time with ptpT12 := some (t1, t2), ptpSync := none } }
  match s.time.ptpDelay with
  | none => s
  | some d =>
    let theta := (t2 - t1 - s.time.ptpAsym) * 65536 - d
    { s with time := { s.time with measured := some (theta, 16, 2 ^ (32 + (s.time.ptpLogSync + 4).toNat)) } }

/-- PTP runs: over Ethernet, or over UDP on a port that has an address (R101, R202). -/
def State.ptpUp (s : State) : Bool :=
  s.has F.TIME_CFG_L2 || s.get (if s.ptpPort then F.NET_IPV4_ADDR1 else F.NET_IPV4_ADDR0) != 0

/-- 0 UDP, 1 Ethernet: the transport of what PTP sends (R202). -/
def State.ptpVia (s : State) : Int := s.get F.TIME_CFG_L2

/-- The rank of the device itself: priority1, clockClass, priority2, identity (R202). -/
def State.ptpRank (s : State) : List Nat :=
  [s.get F.TIME_PTP_ID_PRIORITY1, s.get F.TIME_PTP_ID_CLOCK_CLASS, s.get F.TIME_PTP_ID_PRIORITY2, s.sys.serial]

/-- The best of the masters heard. -/
def bestForeign : List PtpForeign → Option PtpForeign
  | [] => none
  | x :: t => match bestForeign t with
    | none => some x
    | some y => some (if y.rank < x.rank then y else x)

/-- The master is chosen among those heard and, with MASTER_EN, the device itself (R202). A change of master ends what was measured with the one
before. (DEDUCED, log entry 107.) -/
def State.ptpElect (s : State) : State :=
  let best := bestForeign s.time.ptpForeign
  let self := s.has F.TIME_CFG_MASTER_EN && (match best with
    | some b => decide (s.ptpRank < b.rank)
    | none => true)
  let parent := if self then none else best.map PtpForeign.source
  let t : TimeSt := { s.time with
    ptpIsMaster := self, ptpMaster := parent.isSome, ptpParent := parent
    ptpLogAnnounce := best.elim s.time.ptpLogAnnounce PtpForeign.logAnnounce
    ptpAnnounceClk := best.elim s.time.ptpAnnounceClk PtpForeign.clk
    ptpMeasureClk := if s.time.ptpMaster then s.time.ptpMeasureClk else s.time.clk }
  let t : TimeSt := if t.ptpParent = s.time.ptpParent ∨ s.time.ptpParent.isNone then t
    else { t with ptpSync := none, ptpT12 := none, ptpReq := none, ptpPeer := none, ptpDelay := none }
  let s := { s with time := t }
  if parent.isSome && s.ptpSource then s.put F.TIME_STATE_MASTER 1 else s

/-- A message of the delay mechanism that is not selected, or of a role that the port has not (R202, R212): as slave on the summit alone, and of
the master followed where one has announced itself. -/
def State.ptpForeignTo (s : State) (m : PtpMsg) : Bool :=
  let p2p := s.has F.TIME_CFG_P2P
  let slave := s.isSummit && !s.time.ptpIsMaster && (match s.time.ptpParent with
    | some q => q == m.source
    | none => true)
  match m.kind with
  | 0 => !slave
  | 8 => !slave
  | 9 => !slave || p2p
  | 1 => !s.time.ptpIsMaster || p2p
  | 2 => !p2p
  | 3 => !p2p
  | 10 => !p2p
  | _ => false

/-- A PTP message on a port, with its time stamp as the MAC has interpolated it, in 2^-16 ns before the fixed correction (R200 to R205, R212). A
peer delay request is answered with the time stamp of the answer's own departure, in it or in a Follow_Up. -/
def State.ptpMessage (s : State) (port : Bool) (m : PtpMsg) (stamp : Nat) : State :=
  let rx : Int := stamp + s.tsCorr 1
  let t := s.time
  if !s.ptpUp then s
  else if port != s.ptpPort || m.domain != s.get F.TIME_CFG_DOMAIN || m.l2 != s.has F.TIME_CFG_L2 || s.ptpForeignTo m then s.ptpDrop
  else match m.kind with
    | 0 =>
      if m.logInterval < -4 ∨ 1 < m.logInterval then s.ptpDrop
      else
        let s := { s with time := { s.time with ptpLogSync := m.logInterval, ptpMaster := true, ptpAsym := s.getI F.TIME_ASYM } }
        if m.twoStep then { s with time := { s.time with ptpSync := some (m.seq, rx, m.correction) } }
        else s.syncComplete (m.stamp + m.correction) rx
    | 8 =>
      (match t.ptpSync with
        | some (q, t2, c) => if q = m.seq then s.syncComplete (m.stamp + c + m.correction) t2 else s.ptpDrop
        | none => s.ptpDrop)
    | 9 =>
      (match t.ptpReq, t.ptpT12 with
        | some (q, t3), some (t1, t2) =>
          if q = m.seq then
            let s := { s with time := { s.time with ptpReq := none } }
            let first := t.ptpDelay.isNone
            let s := s.setPathDelay ((t2 - t1) + ((m.stamp : Int) - m.correction - t3))
            if first then s.syncComplete t1 t2 else s
          else s.ptpDrop
        | _, _ => s.ptpDrop)
    | 3 =>
      (match t.ptpReq with
        | some (q, t1) =>
          if q ≠ m.seq then s.ptpDrop
          else if m.twoStep then { s with time := { s.time with ptpPeer := some (q, m.stamp, rx, m.correction) } }
          else ({ s with time := { s.time with ptpReq := none } }).setPathDelay (rx - t1 - m.correction)
        | none => s.ptpDrop)
    | 10 =>
      (match t.ptpReq, t.ptpPeer with
        | some (q, t1), some (q', t2, t4, c) =>
          if q = m.seq ∧ q' = m.seq then
            ({ s with time := { s.time with ptpReq := none, ptpPeer := none } }).setPathDelay
              ((t4 - t1) - ((m.stamp : Int) - t2) - c - m.correction)
          else s.ptpDrop
        | _, _ => s.ptpDrop)
    | 1 => s.emit (.signal "PTP_DELAY_RESP" [m.seq, rx, m.correction, s.ptpVia])
    | 2 =>
      let tx : Int := stamp + (Config.pdelayTurn s.time.clk).toNat + s.tsCorr 0
      if s.has F.TIME_CFG_ONE_STEP then s.emit (.signal "PTP_PDELAY_RESP" [m.seq, 0, m.correction + (tx - rx), s.ptpVia])
      else (s.emit (.signal "PTP_PDELAY_RESP" [m.seq, rx, m.correction, s.ptpVia])).emit (.signal "PTP_PDELAY_RESP_FOLLOW_UP" [m.seq, tx, 0, s.ptpVia])
    | 11 =>
      if m.logInterval < 0 ∨ 4 < m.logInterval then s.ptpDrop
      else
        let x : PtpForeign := ⟨m.source, [m.priority1, m.clockClass, m.priority2, m.identity], s.time.clk, m.logInterval.toNat⟩
        { s with time := { t with ptpForeign := t.ptpForeign.filter (fun (y : PtpForeign) => y.source != m.source) ++ [x] } }.ptpElect
    | _ => s.ptpDrop

/-- As PTP master the port announces itself with the first Sync of every 2 s (R202). (DESIGN CHOICE, log entry 203.) -/
def State.ptpAnnounce (s : State) : State :=
  let t := s.time
  if t.ptpAnnounceTx.elim false (fun c => decide (t.clk < c + 500000000)) then s
  else
    let s := { s with time := { t with ptpAnnounceTx := some t.clk, ptpAnnounceSeq := (t.ptpAnnounceSeq + 1) % 65536 } }
    s.emit (.signal "PTP_ANNOUNCE" ([(t.ptpAnnounceSeq : Int), s.get F.TIME_CFG_DOMAIN, s.ptpVia] ++ s.ptpRank.map (fun (v : Nat) => (v : Int))))

/-- As PTP master, Sync leaves the port at `stamp` (2^-16 ns before the fixed correction), followed by Follow_Up when two-step (R202). -/
def State.ptpSyncTx (s : State) (stamp : Nat) : State :=
  if !s.time.ptpIsMaster || !s.ptpUp then s
  else
    let q := s.time.ptpSyncSeq
    let tx : Int := stamp + s.tsCorr 0
    let s := { s with time := { s.time with ptpSyncSeq := (q + 1) % 65536 } }.ptpAnnounce
    if s.has F.TIME_CFG_ONE_STEP then s.emit (.signal "PTP_SYNC" [q, s.get F.TIME_CFG_DOMAIN, tx, s.ptpVia])
    else (s.emit (.signal "PTP_SYNC" [q, s.get F.TIME_CFG_DOMAIN, 0, s.ptpVia])).emit (.signal "PTP_FOLLOW_UP" [q, tx, s.ptpVia])

/-- A slave's delay request, or a peer delay request, leaves the port (R202). -/
def State.delayReqTx (s : State) (stamp : Nat) : State :=
  if ((s.time.ptpIsMaster || !s.isSummit) && !s.has F.TIME_CFG_P2P) || !s.ptpUp then s
  else
    let q := s.time.ptpDelaySeq
    let tx : Int := stamp + s.tsCorr 0
    let s := { s with time := { s.time with ptpDelaySeq := (q + 1) % 65536, ptpReq := some (q, tx), ptpPeer := none } }
    s.emit (.signal (if s.has F.TIME_CFG_P2P then "PTP_PDELAY_REQ" else "PTP_DELAY_REQ") [q, s.get F.TIME_CFG_DOMAIN, s.ptpVia])

/-- announceReceiptTimeout, 3 announce intervals, in TIME clocks (R202, R205). -/
def State.announceTimeout (s : State) : Nat := 3 * 2 ^ s.time.ptpLogAnnounce * 250000000

/-- announceReceiptTimeout expires (R205): the master is lost, another that has announced itself is followed, and with MASTER_EN the port becomes
master where it is the best (R202). -/
def State.announceLost (s : State) : State :=
  let t := s.time
  if (!t.ptpMaster && (t.ptpIsMaster || !s.has F.TIME_CFG_MASTER_EN)) ∨ t.clk < t.ptpAnnounceClk + s.announceTimeout then s
  else
    let lost := t.ptpMaster
    let fresh := fun (x : PtpForeign) => decide (t.clk < x.clk + 3 * 2 ^ x.logAnnounce * 250000000)
    let s := { s with time := { t with ptpForeign := t.ptpForeign.filter fresh } }.ptpElect
    if lost && s.ptpSource then s.loseSource else s

/-- Four sync intervals without a complete measurement (R205). -/
def State.syncLost (s : State) : State :=
  if !s.ptpSource ∨ s.get F.TIME_STATE ≠ 1
      ∨ s.time.clk * 16 < s.time.ptpMeasureClk * 16 + 4 * 2 ^ (s.time.ptpLogSync + 4).toNat * 250000000 then s
  else s.loseSource

/-- Nothing is left of what PTP has heard and measured on its port. -/
def State.ptpAfresh (s : State) : State :=
  { s with time := { s.time with
    ptpSync := none, ptpT12 := none, ptpReq := none, ptpPeer := none, ptpDelay := none, ptpForeign := [], ptpParent := none } }

/-- PCS block lock of the active port has been lost for more than 10 ms: PTP moves to the other port (R204). -/
def State.ptpSwitch (s : State) : State :=
  let port := s.ptpPort
  let locked := if port then s.host.pcsLock1 else s.host.pcsLock0
  if !s.has F.TIME_CFG_AUTO_PORT || locked then s
  else
    ((s.put F.TIME_CFG_PTP_PORT (if port then 0 else 1)).mark F.TIME_STATE_PORT_SWITCHED).ptpAfresh

/-- A direct write of CFG has changed SOURCE or PTP_PORT (R221): while LOCKED, HOLDOVER with cause 2 until the new source is measured. A member or
referee takes its time from the ridge whatever CFG says (R212). -/
def State.timeCfgChanged (s : State) : State :=
  let s := { s.ptpAfresh with time := { s.ptpAfresh.time with measured := none, firsts := if s.isSummit then [] else s.time.firsts } }
  if s.isSummit then s.loseSource else s

/-! ## Ridge markers (R213 to R216) -/

/-- The summit sends a marker in both directions, with its device time in 2^-32 ns (R213). -/
def State.markerSend (s : State) : State :=
  if !s.isSummit then s
  else
    let m : List Int := [s.time.nextMarker, s.time.now, 0, s.getI F.TIME_RATE_ADJ, s.get F.TIME_STATE, s.get F.TIME_STATE_HOLD_CAUSE]
    let s := { s with time := { s.time with nextMarker := (s.time.nextMarker + 1) % 2 ^ 32 } }
    (s.emitRidge 0x04 (.way true) (.signal "MARKER" (0 :: m))).emitRidge 0x04 (.way false) (.signal "MARKER" (1 :: m))

/-- A marker arrives at device time `now` (R213, R215, R216): it is forwarded with its correction, and a member that uses its direction
measures by it. `residence` is the device's own residence time in 2^-32 ns. A LOCKED member adds a change of the summit's ADJ at once. (DEDUCED, log entry 108.) -/
def State.markerRx (s : State) (cw : Bool) (m : Marker) (residence : Nat) : State :=
  if s.isSummit then s
  else
    let s := s.emitRidge 0x04 (.way cw) (.signal "MARKER" [if cw then 0 else 1, m.number, m.departure, m.correction + residence, m.adj, m.state, m.holdCause])
    let t := s.time
    let s := { s with time := { t with
      markerClkCw := if cw then some t.clk else t.markerClkCw
      markerClkCcw := if cw then t.markerClkCcw else some t.clk } }
    if cw ≠ t.markerCw then s
    else
      let theta : Int := signedOf 96 (fieldOf 96 ((t.now : Int) - (m.departure + m.correction : Nat)))
      let change := if t.markerSeen && s.get F.TIME_STATE == 1 then m.adj - t.summitAdj else 0
      let lim := s.adjLimit
      let s := if change = 0 then s else s.putI F.TIME_RATE_ADJ (clampI (-lim) lim (s.getI F.TIME_RATE_ADJ + change))
      let s := { s with time := { s.time with
        markerNumber := m.number, markerMissed := 0, summitState := m.state, summitAdj := m.adj, markerSeen := true
        adjSum := t.adjSum + change
        markersSince := some (t.markersSince.getD t.clk)
        misalignRun := if (s.get F.TIME_MISALIGN_NS : Int) * 2 ^ 32 < theta.natAbs then t.misalignRun + 1 else 0 } }
      s.measurement theta 10000 (2 ^ 32) 1 6 true

/-- Three consecutive markers of the used direction are missing: the member uses the other (R213). -/
def State.markerTurn (s : State) : State :=
  let t := s.time
  let used := if t.markerCw then t.markerClkCw else t.markerClkCcw
  let stale := match used with
    | some c => decide (c + 75000 ≤ t.clk)
    | none => true
  if s.isSummit ∨ !stale then s
  else { s with time := { t with markerCw := !t.markerCw, markerMissed := 0 } }

/-- No marker has arrived from either direction for 1 ms (R213). -/
def State.markerLoss (s : State) : State :=
  let t := s.time
  let stale := fun (c : Option Nat) => match c with
    | some c => decide (c + 250000 ≤ t.clk)
    | none => true
  if s.isSummit ∨ !(stale t.markerClkCw && stale t.markerClkCcw) then s
  else { s.loseSource with time := { s.loseSource.time with markersSince := none } }

/-- Ten consecutive markers with an offset above MISALIGN_NS (R216). -/
def State.misalign (s : State) : State :=
  if s.time.misalignRun < 10 ∨ s.isSummit then s
  else if s.has F.TIME_STATE_MISALIGN then s
  else (s.mark F.TIME_STATE_MISALIGN).unitErr 0x08 0x0822 [nsOf s.time.offset]

end Sys2Proof.Machine
end

