-- ==== Sys2Proof/Machine/Ridge.lean ====
section
/-!
DEFINITION. Sys2Proof/Machine/Ridge.lean: the ridge ring (spec/13 R463 to R474): links, discovery, the ring map and its check, pair
roles at a map (R478), and heartbeats (R487, R488).
-/
namespace Sys2Proof.Machine

/-! ## Links and connections (R463, R464, R469) -/

/-- RING_CLOSED as this device sees it: both of its connections are up. (DEDUCED, log entry 130.) -/
def State.showRing (s : State) : State := s.putB F.RIDGE_CSTAT_RING_CLOSED (s.connUp 0 && s.connUp 2)

/-- The node at the far end of a connection, as HELLO named it. -/
def State.neighbour (s : State) (k : Nat) : Option RingNode :=
  ([k / 2 * 2, k / 2 * 2 + 1].filterMap (fun i => if s.linkUp i then tabGet none s.ridge.peers i else none)).head?

/-- The counterclockwise neighbour carries the same position, so this device is side 1 (R463). -/
def State.secondSide (s : State) : Bool :=
  match s.neighbour 2 with
  | some n => n.pos == s.position && n.role != 2 && s.cascadeRole != 2
  | none => false

/-- This device as a node of the ring (R467, R472). (DEDUCED, log entry 129.) -/
def State.ownNode (s : State) : RingNode :=
  { serial := s.sys.serial, pos := s.position, role := s.cascadeRole, side := s.secondSide, part := (s.reg 1).toNat
    siRev := s.sys.siRev, fwRev := (s.reg 3).toNat }

/-- A link gains block lock: it is up, and HELLO leaves on it, from boot step 5 (R464, R467, R472); a connection that comes up with it
starts a new discovery. The receiver's calibration is queued by the caller. (DEDUCED, log entry 136.) -/
def State.ridgeUp (s : State) (k : Nat) : State :=
  if s.linkUp k ∨ !(s.sys.firmware ∨ 5 ≤ s.get F.SYS_BOOT_STAT_STEP) then s
  else
    let fresh := !s.connUp k
    let s := (s.put (F.RIDGE_LINK_STAT_STATE k) 2).showRing
    let s := s.emitRidge 0x01 (.neighbour k) (.signal "HELLO" [k, s.sys.serial, s.position, s.cascadeRole])
    if fresh then { s with ridge := { s.ridge with findClk := none, sentClk := none, cw := [], ccw := [] } } else s

/-- A link loses block lock: WARN 0x4820 while its connection runs on the other link, else WARN 0x4821 (R469). -/
def State.ridgeDown (s : State) (k : Nat) : State :=
  if !s.linkUp k then s
  else
    let s := (s.put (F.RIDGE_LINK_STAT_STATE k) 0).put (F.RIDGE_LINK_STAT_PEER k) 0xFF
    let s := ({ s with ridge := { s.ridge with peers := tabPut none s.ridge.peers k none } }).showRing
    s.warn ⟨1, 0x48⟩ (if s.connUp k then 0x4820 else 0x4821) [k]

/-! ## Ridge messages that arrive (R466 to R469) -/

/-- The message whose payload stands beside it. -/
def RidgeHead.msg (h : RidgeHead) (payload : List Byte) : RidgeMsg := { toRidgeHead := h, payload := payload }

/-- The 8 bytes of a received header, with another REACH. -/
def RidgeMsg.header (m : RidgeMsg) (reach : Nat) : List Byte :=
  ridgeHeader m.type.toNat m.prioDir.toNat m.src.toNat m.dst.toNat m.payload.length reach

/-- The CRC of a received message is right (R466). -/
def RidgeMsg.intact (m : RidgeMsg) : Bool := crc32 (m.header m.reach.toNat ++ m.payload) == m.crc.toNat

/-- The message travels clockwise: PRIO_DIR [2] (R466). -/
def RidgeMsg.cw (m : RidgeMsg) : Bool := bitsOf m.prioDir.toNat 2 1 == 0

/-- This device is the first node of its position that a copy travelling so enters: the node before it carries another position. A referee is
at no position (R463, R468). -/
def State.firstEntered (s : State) (cw : Bool) : Bool :=
  s.cascadeRole != 2 && (match s.neighbour (if cw then 2 else 0) with
    | some n => n.role == 2 || n.pos != s.position
    | none => true)

/-- REACH of a copy beyond this node; none where it would fall below 0 (R468). -/
def State.reachHere (s : State) (m : RidgeMsg) : Option Nat :=
  let r := m.reach.toNat
  if r = 0xFF ∨ !s.firstEntered m.cw then some r else if r = 0 then none else some (r - 1)

/-- A message for others goes on in its direction, its CRC unchecked and moved with REACH, until it has returned to its sender or reached an open
end. DISCOVER and MARKER go on changed, by their own meanings (R466, R467). (DEDUCED, log entry 194.) -/
def State.passCopy (s : State) (m : RidgeMsg) (reach : Nat) : State :=
  let onward := [0x03, 0x05, 0x06, 0x07, 0x21].contains m.type.toNat
  let mine := s.get F.RIDGE_NODE_INDEX
  if !onward ∨ m.dst.toNat = mine ∨ m.src.toNat = mine ∨ !s.connUp (if m.cw then 0 else 2) then s
  else
    let crc := m.crc.toNat ^^^ crc32 (m.header m.reach.toNat ++ m.payload) ^^^ crc32 (m.header reach ++ m.payload)
    let first := if m.cw then 0 else 2
    let link : Int := if (ridgePriority m.type.toNat).getD 3 < 2 then -1 else if s.linkUp first then first else first + 1
    s.emit (.bytes "RIDGE" [link] (m.header reach ++ m.payload ++ leBytes 4 crc))

/-- What a message of a known type, for this node and with a right CRC, does is `f`; others go on, or are counted (R466 to R468). -/
def State.ridgeIn (s : State) (type : Nat) (m : RidgeMsg) (f : State → State) : State :=
  match s.reachHere m with
  | none => s
  | some r =>
    let s := s.passCopy m r
    if m.dst ≠ 0xFF ∧ m.dst.toNat ≠ s.get F.RIDGE_NODE_INDEX then s
    else if !m.intact then s.count (F.RIDGE_LINK_ERR_CRC m.link)
    else if (ridgePriority m.type.toNat).isNone then { s with ridge := { s.ridge with unknown := s.ridge.unknown + 1 } }
    else if m.type.toNat ≠ type then s
    else f s

/-- The receiver keeps the first copy of a full-reach CASCADE message: one that has come from the other direction too is dropped (R467). (DESIGN CHOICE, log entry 195.) -/
def State.firstCopy (s : State) (m : RidgeMsg) (c : CascadeMsg) (f : State → State) : State :=
  if m.dst ≠ 0xFF then f s
  else if s.ridge.heard.contains (!m.cw, m.src, c) then
    { s with ridge := { s.ridge with heard := s.ridge.heard.erase (!m.cw, m.src, c) } }
  else f { s with ridge := { s.ridge with heard := ((m.cw, m.src, c) :: s.ridge.heard).take 64 } }

/-- A HELLO arrives on a link (R467, R472). -/
def State.helloRx (s : State) (k : Nat) (n : RingNode) : State :=
  if !s.linkUp k then s
  else
    let here := (s.ridge.map.find? (fun m => m.serial == n.serial)).map (fun m => m.index)
    { s.put (F.RIDGE_LINK_STAT_PEER k) (here.getD 0xFF) with ridge := { s.ridge with peers := tabPut none s.ridge.peers k (some n) } }

/-! ## Discovery and the ring map (R472, R473) -/

/-- The device that makes the map: the summit; before a map is in force, the first of a summit pair (R470, R472). (DEDUCED, log entry 132.) -/
def State.makesMap (s : State) : Bool :=
  s.cascadeRole == 1 && (if s.ridge.map.isEmpty then !s.secondSide else decide (s.pairRole ≤ 1))

/-- A failure of the map is shown, and raised once (R473). (DEDUCED, log entry 134.) -/
def State.mapFail (s : State) (detail : Nat) : State :=
  let s := s.put F.RIDGE_CSTAT_MAP_DETAIL detail
  if s.ridge.failRaised = detail then s
  else { s with ridge := { s.ridge with failRaised := detail } }.unitErr 0x48 detail

/-- The rows of R473 on the nodes in clockwise order from the summit: each node with its exclusion detail, 0 for none. -/
def checkNodes (ns : List RingNode) : List (RingNode × Nat) :=
  let n := ns.length
  (ns.zipIdx.foldl (fun (acc : List (RingNode × Nat × Nat)) (e : RingNode × Nat) =>
    let (x, i) := e
    let kept := acc.filter (fun k => k.2.1 == 0)
    let same := kept.filter (fun k => k.1.role != 2 && k.1.pos == x.pos)
    let apart := same.any (fun k => !(k.2.2 + 1 == i || (k.2.2 == 0 && i + 1 == n)))
    let d := if 33 ≤ i then 0x4814
      else if x.role = 2 then (if kept.any (fun k => k.1.role == 2) then 0x4813 else 0)
      else if 2 ≤ same.length || apart then 0x4812 else 0
    acc ++ [(x, d, i)]) []).map (fun k => (k.1, k.2.1))

/-- The side of the node at place `i` of the ring: 1 where the node before it, clockwise, carries the same position (R463). -/
def sideOf (ns : List (RingNode × Nat)) (i : Nat) : Bool :=
  match ns[i]?, ns[if i = 0 then ns.length - 1 else i - 1]? with
  | some (x, 0), some (y, 0) => x.role != 2 && y.role != 2 && x.pos == y.pos && decide (1 < ns.length)
  | _, _ => false

/-- The lowest index that a list leaves free. (DEDUCED, log entry 135.) -/
def freeIndex (used : List Nat) : Nat := ((List.range 64).find? (fun i => !used.contains i)).getD 63

/-- Indices for the nodes of a map: nodes already in the map keep theirs, the others take the lowest free ones in turn (R472). -/
def giveIndices (old : List RingNode) (ns : List RingNode) : List RingNode :=
  let keep := fun (x : RingNode) => (old.find? (fun m => m.serial == x.serial)).map (fun m => m.index)
  (ns.foldl (fun (acc : List RingNode × List Nat) x =>
    match keep x with
    | some i => (acc.1 ++ [{ x with index := i, known := true }], acc.2)
    | none =>
      let i := freeIndex acc.2
      (acc.1 ++ [{ x with index := i, known := false }], i :: acc.2)) ([], ns.filterMap keep)).1

/-- The summit forms the map of the nodes found, clockwise from itself, checks it and sends it for 1 ms ahead (R472, R473). -/
def State.formMap (s : State) (found : List RingNode) : State :=
  let checked := checkNodes (s.ownNode :: found)
  let sided := checked.zipIdx.map (fun (e : (RingNode × Nat) × Nat) =>
    { e.1.1 with side := sideOf checked e.2, excluded := e.1.2 != 0 })
  let map := (giveIndices s.ridge.map sided).take 33
  let at_ := s.us + 1000
  let s := forEach (checked.filter (fun e => e.2 != 0)) (fun e s => (s.put F.RIDGE_CSTAT_MAP_DETAIL e.2).unitErr 0x48 e.2 [e.1.serial]) s
  let differs := fun (n : RingNode) => n.siRev / 65536 != s.sys.siRev / 65536 || n.fwRev != (s.reg 3).toNat
  let s := forEach (map.filter differs) (fun n s => s.warn ⟨1, 0x48⟩ 0x4815 [n.index]) s
  let s := s.emitRidge 0x03 .all (.signal "MAP" ((at_ : Int) :: map.map (fun n => (n.serial : Int))))
  { s with ridge := { s.ridge with mapNext := some (at_, map), findClk := none, sentClk := none, cw := [], ccw := [] } }

/-- The summit sends DISCOVER in both directions, every 10 ms; after 1 s it forms the cascade from the nodes that it has reached (R472). -/
def State.discoverSend (s : State) : State :=
  let r := s.ridge
  if !s.makesMap || !s.sys.firmware || r.mapNext.isSome then s
  else if (match r.sentClk with
    | some c => decide (s.time.clk < c + 2500000)
    | none => false) then s
  else
    let start := r.findClk.getD s.time.clk
    if start + 250000000 ≤ s.time.clk then s.formMap (r.cw ++ r.ccw.reverse)
    else
      let s := (s.emitRidge 0x02 (.way true) (.signal "DISCOVER" [0, s.sys.serial])).emitRidge 0x02 (.way false) (.signal "DISCOVER" [1, s.sys.serial])
      { s with ridge := { s.ridge with findClk := some start, sentClk := some s.time.clk } }

/-- A DISCOVER copy arrives (R472, R473). `nodes` begins with its sender; `ended` says that it comes back from an open end. A node adds
itself and passes the copy on; to the summit its own copy returns. (DEDUCED, log entry 133.) -/
def State.discoverRx (s : State) (cw ended : Bool) (nodes : List RingNode) : State :=
  let all := nodes ++ [s.ownNode]
  let summits := (all.filter (fun n => n.role == 1)).map (fun n => n.pos)
  let s := if summits.any (fun p => summits.any (fun q => p != q)) then s.mapFail 0x4811 else s
  match nodes with
  | [] => s
  | sender :: rest =>
    if sender.serial ≠ s.sys.serial then
      s.emitRidge 0x02 (.way cw) (.signal "DISCOVER" ((if cw then 0 else 1) :: all.map (fun n => (n.serial : Int))))
    else if !s.makesMap ∨ s.ridge.findClk.isNone ∨ s.ridge.failRaised = 0x4811 then s
    else if ended then { s with ridge := if cw then { s.ridge with cw := rest } else { s.ridge with ccw := rest } }
    else s.formMap (if cw then rest else rest.reverse)

/-- 1 s after the links began to train, no map and no summit (R473). -/
def State.noSummit (s : State) : State :=
  match s.ridge.trainClk with
  | some c =>
    if s.cascadeRole = 1 ∨ !s.ridge.map.isEmpty ∨ s.ridge.mapNext.isSome ∨ s.time.clk < c + 250000000 then s else s.mapFail 0x4810
  | none => s

/-- A MAP arrives: it takes effect at the instant it names (R472). -/
def State.mapRx (s : State) (at_ : Nat) (nodes : List RingNode) : State :=
  if s.makesMap then s
  else
    { s with ridge := { s.ridge with mapNext := some (at_, nodes.take 33) } }

/-- This device in the map in force. -/
def State.mapNode (s : State) : Option RingNode := s.ridge.map.find? (fun n => n.serial == s.sys.serial)

/-- The partner: the other device of the own position that is not excluded. -/
def State.partner (s : State) : Option RingNode :=
  match s.mapNode with
  | some me => s.ridge.map.find? (fun n => n.serial != me.serial && n.pos == me.pos && n.role != 2 && me.role != 2 && !n.excluded)
  | none => none

/-- The pair role becomes `r` (R478): an INFO event, one change of the epoch (R118), divergence and partner loss are settled (R486), and a
device that begins to drive the LIGHT outputs loads their rows again (R536). -/
def State.enterRole (s : State) (r : Nat) : State :=
  let old := s.pairRole
  let s := s.info ⟨1, 0x49⟩ 0x4910 [old, r]
  let s := (((s.bump.put F.PAIR_PSTAT_ROLE r).put F.PAIR_PSTAT_CAUSE 0x4910).put F.PAIR_PSTAT_DIVERGED 0).put F.PAIR_PSTAT_PARTNER_LOST 0
  let s := s.put F.PAIR_PSTAT_LOCAL_STOP 0
  { s with pair := { s.pair with
    divSrc := 0, noAck := false, hbLast := some (s.us / 100), hbCounted := some (s.us / 100), missing := none, partnerMissing := none, served := []
    crcs := [], lockLast := none, lockBad := none }
           light := if 2 ≤ old ∧ r ≤ 1 then { s.light with strings := s.light.strings.map (fun (e : Nat × LightStr) => (e.1, { e.2 with latch := none })) } else s.light }

/-- The role that a map gives to a device entering it (R478). -/
def mapRole (me : RingNode) (partner : Option RingNode) : Nat :=
  if me.excluded then 3
  else match partner with
    | none => 0
    | some p => if p.known || me.side then 3 else 0

/-- The words that show the map. -/
def State.showMap (s : State) : State :=
  let s := forEach (List.range 33) (fun i s => s.setReg (F.RIDGE_MAP_POS i).addr 0) s
  let s := forEach s.ridge.map (fun n s =>
    ((((s.put (F.RIDGE_MAP_POS n.index) n.pos).put (F.RIDGE_MAP_ROLE n.index) n.role).putB (F.RIDGE_MAP_SIDE n.index) n.side).put
      (F.RIDGE_MAP_VALID n.index) 1).put (F.RIDGE_MAP_SN_TAIL n.index) n.serial) s
  let s := s.put F.RIDGE_CSTAT_NODES s.ridge.map.length
  let peer := fun (k : Nat) (s : State) => match tabGet none s.ridge.peers k with
    | some n => s.put (F.RIDGE_LINK_STAT_PEER k)
        (((s.ridge.map.find? (fun m => m.serial == n.serial)).map (fun m => m.index)).getD 0xFF)
    | none => s
  forEach [0, 1, 2, 3] peer s

/-- The apply instant of a map (R472, R478): indices, sides and roles are taken, and the direction with fewer hops from the summit, from which the
map runs clockwise, for the time markers (R213). -/
def State.mapApply (s : State) : State :=
  match s.ridge.mapNext with
  | none => s
  | some (at_, nodes) =>
    if s.us < at_ then s
    else
      let known := s.mapNode.isSome
      let s := { s with ridge := { s.ridge with map := nodes, mapNext := none, failRaised := 0 } }
      let s := (s.wrapCount F.RIDGE_MAP_EPOCH).put F.RIDGE_CSTAT_CASCADE_UP 0
      let s := s.showMap
      match s.mapNode with
      | none => -- beyond the 33rd node (R473)
        let s := (s.put F.RIDGE_NODE_INDEX 0x3F).put F.RIDGE_NODE_EXCLUDED 1
        if s.pairRole = 3 then s else s.enterRole 3
      | some me =>
        let s := ((s.put F.RIDGE_NODE_INDEX me.index).putB F.RIDGE_NODE_SIDE me.side).putB F.RIDGE_NODE_EXCLUDED me.excluded
        let s := s.putB F.PAIR_PSTAT_SIDE me.side
        let hops := s.ridge.map.findIdx (fun n => n.serial == me.serial)
        let s := { s with time := { s.time with markerCw := decide (hops ≤ s.ridge.map.length - hops), markerMissed := 0 } }
        let other := s.partner
        let s := match other with
          | some p => s.put64 F.PAIR_PARTNER_SN_LO F.PAIR_PARTNER_SN_HI p.serial
          | none => s.put64 F.PAIR_PARTNER_SN_LO F.PAIR_PARTNER_SN_HI 0
        if known then s else s.enterRole (mapRole me other)

/-! ## Heartbeats (R487, R488) -/

/-- Channels whose station port is in FRAME_LOCK; 0 in BOOT and HALT (R487). -/
def State.health (s : State) : Nat :=
  if s.dev = 0 ∨ s.dev = 5 then 0 else ((List.range 64).filter (fun c => s.frameLock c)).length

/-- The bits of a byte, bit 0 first. -/
def flagByte (bs : List Bool) : List Byte := leBytes 1 ((bs.zipIdx.map (fun (b, i) => if b then 2 ^ i else 0)).foldl (· + ·) 0)

/-- The 32 bytes of the heartbeat numbered `n` (R487). -/
def State.heartbeat (s : State) (n : Nat) : List Byte :=
  leBytes 1 (s.position + s.cascadeRole * 16 + s.get F.PAIR_PSTAT_SIDE * 64) ++ leBytes 1 (s.pairRole + s.dev * 4)
    ++ flagByte [s.has F.PAIR_PSTAT_PARTNER_LOST, s.has F.PAIR_PSTAT_DIVERGED, s.has F.PAIR_PSTAT_LOCAL_STOP, s.has F.TIME_STATE_MISALIGN,
        s.get F.PAIR_PSTAT_JOIN_PHASE != 0, s.get F.TIME_STATE == 1]
    ++ leBytes 1 s.health ++ leBytes 4 n ++ leBytes 8 s.sys.serial ++ leBytes 8 s.cmd.epoch ++ leBytes 4 (s.get F.PAIR_VERDICT_NUM)
    ++ leBytes 2 s.pair.divSrc ++ leBytes 2 0

/-- A heartbeat read from its bytes. -/
def hbOf (b : List Byte) (clk : Nat) : HbSeen :=
  let bit := fun (i : Nat) => bitsOf (leAt b 2 1) i 1 == 1
  { serial := leAt b 8 8, pos := bitsOf (leAt b 0 1) 0 4, role := bitsOf (leAt b 0 1) 4 2, side := bitsOf (leAt b 0 1) 6 1 == 1
    pairRole := bitsOf (leAt b 1 1) 0 2, devState := bitsOf (leAt b 1 1) 2 3, partnerLost := bit 0, diverged := bit 1, localStop := bit 2
    misalign := bit 3, joining := bit 4, timeLocked := bit 5, health := leAt b 3 1, num := leAt b 4 4, epoch := leAt b 16 8
    verdict := leAt b 24 4, clk := clk }

/-- HEARTBEAT_TX: at each boundary that is a multiple of 100 µs, once the node has its index (R487). -/
def State.heartbeatTx (s : State) (n : Nat) : State :=
  if s.get F.RIDGE_NODE_INDEX = 0x3F then s else s.emitRidge 0x05 .all (.bytes "HEARTBEAT" [n] (s.heartbeat n))

/-- The latest heartbeat of a node. -/
def State.beat (s : State) (serial : Nat) : Option HbSeen := s.ridge.seen.find? (fun h => h.serial == serial)

/-- A heartbeat of `serial` has come within the last millisecond. -/
def State.beatFresh (s : State) (h : HbSeen) : Bool := decide (s.time.clk ≤ h.clk + 250000)

/-- Misses of the partner's heartbeats up to number `n` are counted (R488, R504). -/
def State.countBeats (s : State) (n : Nat) : State :=
  match s.pair.hbCounted with
  | some c => if c < n then { s.count F.PAIR_HB_MISSED (n - c) with pair := { s.pair with hbCounted := some n } } else s
  | none => { s with pair := { s.pair with hbCounted := some n } }

/-- CASCADE_UP: every node of the map, the summit among them, has sent a heartbeat with a locked time base (R472). -/
def State.cascadeUp (s : State) : State :=
  let ok := fun (n : RingNode) => n.serial == s.sys.serial || (match s.beat n.serial with
    | some h => h.timeLocked
    | none => false)
  if s.isSummit && !s.ridge.map.isEmpty && s.get F.TIME_STATE == 1 && s.ridge.map.all ok then s.put F.RIDGE_CSTAT_CASCADE_UP 1 else s

/-- A heartbeat arrives; it counts when it comes by HB_NUM × 100 + 20 µs (R487), its first copy alone (R467). One of the summit ends a split
(R469). -/
def State.heartbeatRx (s : State) (b : List Byte) : State :=
  let h := hbOf b s.time.clk
  let n := s.us / 100
  if b.length ≠ 32 ∨ h.num ≠ n % 2 ^ 32 ∨ (n * 100 + 20) * 1000 < s.ns ∨ h.serial = s.sys.serial
      ∨ (s.beat h.serial).any (fun (x : HbSeen) => x.num == h.num) then s
  else
    let s := { s with ridge := { s.ridge with
      seen := h :: s.ridge.seen.filter (fun x => x.serial != h.serial)
      refClk := if h.role = 2 then s.time.clk else s.ridge.refClk } }
    let s := if h.role = 2 then s.put F.PAIR_PSTAT_REF_LOST 0 else if h.role = 1 then s.put F.RIDGE_CSTAT_SPLIT 0 else s
    let s := if s.paired && (s.partner.map (fun p => p.serial)) == some h.serial then
        let s := s.countBeats (n - 1)
        { s.put F.PAIR_PSTAT_PARTNER_LOST 0 with pair := { s.pair with hbLast := some n, hbCounted := some n } }
      else s
    s.cascadeUp

/-- The partner's heartbeat has been missing for HB_LOSS numbers up to `n` (R488). (DEDUCED, log entry 138.) -/
def State.beatLoss (s : State) (n : Nat) : State :=
  if !s.paired ∨ s.ns < (n * 100 + 20) * 1000 ∨ s.pair.hbLast = some n then s
  else
    let s := s.countBeats n
    let last := s.pair.hbLast.getD 0
    if n < last + s.get F.PAIR_CFG_HB_LOSS ∨ s.has F.PAIR_PSTAT_PARTNER_LOST then s
    else (s.put F.PAIR_PSTAT_PARTNER_LOST 1).warn ⟨1, 0x49⟩ 0x4930

/-- RIDGE.PRESENT: positions with a heartbeat in the last millisecond, the own one among them (R503). (DEDUCED, log entry 137.) -/
def State.presentWord (s : State) : Nat :=
  let fresh := s.ridge.seen.filter (fun h => s.beatFresh h)
  let own := s.get F.RIDGE_NODE_INDEX != 0x3F && s.cascadeRole != 2
  let bit := fun (p : Nat) => fresh.any (fun h => h.role != 2 && h.pos == p) || (own && s.position == p)
  ((List.range 16).map (fun p => if bit p then 2 ^ p else 0)).foldl (· + ·) 0
    + (if fresh.any (fun h => h.role == 2) || (s.cascadeRole == 2 && s.get F.RIDGE_NODE_INDEX != 0x3F) then 65536 else 0)

/-- No referee's heartbeat for 1 ms while the referee judges (R492). -/
def State.refereeLost (s : State) : State :=
  if s.has F.PAIR_CFG_REF_HOST ∨ s.has F.PAIR_PSTAT_REF_LOST ∨ s.time.clk < s.ridge.refClk + 250000 ∨ !s.sys.firmware then s
  else (s.put F.PAIR_PSTAT_REF_LOST 1).warn ⟨1, 0x49⟩ 0x4932

/-- The summit has become unreachable: no marker and no heartbeat of the summit for 1 ms (R469). (DEDUCED, log entry 131.) -/
def State.splitCheck (s : State) : State :=
  let summit := s.ridge.map.filter (fun n => n.role == 1)
  let gone := summit.all (fun n => match s.beat n.serial with
    | some h => !s.beatFresh h
    | none => true)
  if s.isSummit ∨ summit.isEmpty ∨ !gone ∨ s.has F.RIDGE_CSTAT_SPLIT then s
  else (s.put F.RIDGE_CSTAT_SPLIT 1).unitErr 0x48 0x4822

end Sys2Proof.Machine
end

