-- ==== Sys2Proof/Machine/Pair.lean ====
section
/-!
DEFINITION. Sys2Proof/Machine/Pair.lean: redundant pairs (spec/13 R475 to R502): mirror fill, mirrored items, lock checks, the referee
and verdicts, hot join, swap and drop, promotion and local stop.
-/
namespace Sys2Proof.Machine

/-! ## Mirror fill (R480, R481) -/

/-- A bitmap of channels. -/
def channelBits (cs : List Nat) : Nat := (cs.map (fun c => 2 ^ c)).foldl (· + ·) 0

/-- 600 ns into frame `k`: a device of a pair asks for the frames that it lacks (R480). -/
def State.fillRequest (s : State) (k : Nat) : State :=
  if !s.paired then s
  else
    let m := channelBits ((List.range 64).filter (fun c => s.chAt c k != 0 && (s.inbound c k).isNone))
    { s.emitRidge 0x10 .partner (.bytes "FILL_REQ" [k] (leBytes 8 m)) with pair := { s.pair with missing := some (k, m) } }

/-- The partner's request arrives by 700 ns; FILL_DATA serves the lowest four requested channels accepted directly (R480). -/
def State.fillReqRx (s : State) (k missing : Nat) : State :=
  if !s.paired ∨ k * 1000 + 700 < s.ns then s
  else
    let direct := fun (c : Nat) => match s.inbound c k with
      | some fr => !fr.filled
      | none => false
    let served := ((List.range 64).filter (fun c => bitsOf missing c 1 == 1 && direct c)).take 4
    let s := { s with pair := { s.pair with partnerMissing := some (k, missing), served := served } }
    let frames := served.flatMap (fun c => ((s.inbound c k).map (fun (fr : InFrame) => fr.raw)).getD [])
    s.emitRidge 0x11 .partner (.bytes "FILL_DATA" [k] (leBytes 8 (channelBits served) ++ frames))

/-- The frames of a FILL_DATA payload: the SERVED bitmap, and the 42 bytes of each served channel in turn (R480). -/
def servedFrames (b : List Byte) : List (Nat × List Byte) :=
  (((List.range 64).filter (fun c => bitsOf (leAt b 0 8) c 1 == 1)).zipIdx).map (fun e => (e.1, (b.drop (8 + 42 * e.2)).take 42))

/-- FILL_DATA arrives by 900 ns: a served frame that checks counts as accepted (R42, R480, R481). -/
def State.fillDataRx (s : State) (k : Nat) (frames : List (Nat × List Byte)) : State :=
  if !s.paired ∨ k * 1000 + 900 < s.ns then s
  else
    let s := { s with pair := { s.pair with fillGot := some k } }
    forEach frames (fun e s =>
      let (c, b) := e
      if b.length ≠ 42 ∨ crc32 (b.take 38) ≠ leAt b 38 4 ∨ leAt b 2 4 ≠ k % 2 ^ 32 ∨ (s.inbound c k).isSome then s
      else (s.count F.PAIR_FILL_FILLED).acceptFrame c { frameOf b k with filled := true }) s

/-- A frame accepted directly that the partner asked for and was not served is held by both (R481). -/
def State.unaccept (s : State) (c k : Nat) : State :=
  let x := s.link c
  match x.last with
  | some fr =>
    if fr.k = k ∧ !fr.filled then (s.setLink c { x with last := x.prior }).put (F.STN_LINK_STAT_MISS_RUN c) x.priorRun else s
  | none => s

/-- 900 ns into frame `k`: lost requests and answers are counted, and what one device lacks both hold (R480, R481). -/
def State.fillDeadline (s : State) (k : Nat) : State :=
  if !s.paired then s
  else
    let s := match s.pair.partnerMissing with
      | some (j, m) =>
        if j = k then
          forEach ((List.range 64).filter (fun c => bitsOf m c 1 == 1 && !s.pair.served.contains c)) (fun c s => s.unaccept c k) s
        else s.count F.PAIR_FILL_LOST
      | none => s.count F.PAIR_FILL_LOST
    if s.pair.fillGot = some k then s else s.count F.PAIR_FILL_LOST

/-! ## Staged blocks and other mirrored items (R154, R175, R482, R483) -/

/-- The admission frame of a staged block is fixed (R482). -/
def State.fixAdmission (s : State) (number q : Nat) : State :=
  forEach (List.range 64) (fun c s =>
    if (s.staged c).any (fun (g : Staged) => g.number == number && !g.admitted) then
      s.setStaged c ((s.staged c).map (fun (g : Staged) =>
        if g.number == number && !g.admitted then { g with admitAt := q, admitted := true } else g))
    else s) s

/-- The keeper's block is acknowledged: its admission frame is fixed and sent in ADMIT (R482). -/
def State.blockAcked (s : State) (number : Nat) : State :=
  let waits := (List.range 64).any (fun c => (s.staged c).any (fun (g : Staged) => g.number == number && !g.admitted))
  if s.pairRole ≠ 1 ∨ !waits then s
  else
    let f := s.admissionFrame
    (s.fixAdmission number f).emitRidge 0x15 .partner (.signal "ADMIT" [number, f])

/-- ADMIT arrives at the partner (R482). -/
def State.admitRx (s : State) (number q : Nat) : State :=
  if !s.followsPartner then s
  else { s.fixAdmission number q with pair := { s.pair with admits := tabPut 0 s.pair.admits number (q + 1) } }

/-- 3 µs before its admission frame a block has no ADMIT: nothing is admitted for it, and the pair has diverged (R482, R486). -/
def State.admitDeadline (s : State) (number f : Nat) : State :=
  if s.pairRole ≠ 2 ∨ tabGet 0 s.pair.admits number ≠ 0 ∨ s.ns + 3000 < f * 1000 then s
  else
    let s := forEach (List.range 64) (fun c s =>
      if (s.staged c).any (fun (g : Staged) => g.number == number && !g.admitted) then
        s.setStaged c ((s.staged c).filter (fun (g : Staged) => g.number != number || g.admitted))
      else s) s
    s.diverge 4

/-- What of a layer the parser decides. -/
def Layer.parsed (l : Layer) : Layer := { l with started := false, complete := false, cairnsDone := [], cairnsAsked := [] }

/-- What of a program the parser decides. -/
def Program.parsed (p : Program) : Program := { p with faulted := false, void := false, complete := false, repS := 0, repG := 0, cairns := [] }

/-- The partner takes a layer as the keeper's parser has left it, and keeps what it has executed of it. -/
def mergeLayer (l : Layer) (own : Option Layer) : Layer := match own with
  | some x => { l with started := x.started, complete := x.complete, cairnsDone := x.cairnsDone, cairnsAsked := x.cairnsAsked }
  | none => l.parsed

/-- The same of a program. -/
def mergeProgram (p : Program) (own : Option Program) : Program := match own with
  | some x => { p with faulted := x.faulted, void := x.void, complete := x.complete, repS := x.repS, repG := x.repG, cairns := x.cairns }
  | none => p.parsed

/-- The STREAM words of the keeper take effect at their frame (R154). (DEDUCED, log entry 197.) -/
def State.applyStreamWords (s : State) (f : Nat) : State :=
  let due := s.pair.streamWords.filter (fun e => decide (e.1 ≤ f))
  if due.isEmpty then s
  else
    let s := forEach due (fun e s => forEach (e.2.filter (fun x => x.1 / 65536 == 0x10)) (fun x s => s.setReg x.1 x.2) s) s
    { s with pair := { s.pair with streamWords := s.pair.streamWords.filter (fun e => !decide (e.1 ≤ f)) } }

/-- The partner applies an item that is no write: a layer, a program, a block, STREAM words, a slot image (R154, R175). -/
def State.mirrorItem (s : State) (number : Nat) : MirrorItem → State
  | .layer l =>
    let same := fun (x : Layer) => x.stream == l.stream && x.layer == l.layer && !x.old
    { s with stream := { s.stream with
      layers := s.stream.layers.filter (fun x => !same x) ++ [mergeLayer l (s.stream.layers.find? same)] } }
  | .program p =>
    let same := fun (x : Program) => x.stream == p.stream && x.layer == p.layer && x.chan == p.chan && !x.old
    { s with stream := { s.stream with
      programs := s.stream.programs.filter (fun x => !same x) ++ [mergeProgram p (s.stream.programs.find? same)] } }
  | .block c b =>
    let a := tabGet 0 s.pair.admits number
    s.setStaged c.val (s.staged c.val ++ [{ b with number := number, admitted := a != 0, admitAt := if a = 0 then b.admitAt else a - 1 }])
  | .words f ws => { s with pair := { s.pair with streamWords := s.pair.streamWords ++ [(f, ws)] } }.applyStreamWords s.us
  | .slot n persist image =>
    match slotOfImage image with
    | some x => s.setSlot n { x with persist := persist }
    | none => s
  | _ => s

/-- A MIRROR message of the keeper with the next number. -/
def State.sendItem (s : State) (m : MirrorItem) : State :=
  { s.emitRidge 0x20 .partner (.mirror s.pair.nextMirror m) with pair := { s.pair with nextMirror := s.pair.nextMirror + 1 } }

/-- The STREAM words that differ between two states. -/
def streamChanges (old new : State) : List (Nat × Word) :=
  let stream := fun (s : State) => (s.regs.filter (fun e => e.1 / 65536 == 0x10)).map (fun e => e.1)
  (((stream old) ++ (stream new)).dedup.filter (fun a => old.reg a != new.reg a)).map (fun a => (a, new.reg a))

/-- What a command has done to layers, programs and STREAM words of a keeper goes to its partner, the words with the frame from which they
stand (R154). (DEDUCED, log entry 197.) -/
def State.mirrorStream (old new : State) : State :=
  if !new.passesOn then new
  else
    let ls := new.stream.layers.filter (fun (l : Layer) => !old.stream.layers.any (fun (x : Layer) => x.parsed == l.parsed))
    let ps := new.stream.programs.filter (fun (p : Program) => !old.stream.programs.any (fun (x : Program) => x.parsed == p.parsed))
    let ws := streamChanges old new
    let s := forEach ls (fun (l : Layer) s => s.sendItem (.layer l)) new
    let s := forEach ps (fun (p : Program) s => s.sendItem (.program p)) s
    if ws.isEmpty then s else s.sendItem (.words ((s.ns + 999) / 1000) ws)

/-! ## Lock checks (R485, R486) -/

/-- CONTENT of the packet of channel `c` for apply instant `j` (R409): KIND, the three commands, P0, P1, GATE and ZERO. (DESIGN CHOICE, log entry 146.) -/
def State.content (s : State) (c j : Nat) : List Byte :=
  if s.chAt c j = 0 then leBytes 1 2 ++ List.replicate 12 0
  else
    let (gate, b) := s.commandFrame c j 0
    leBytes 1 1 ++ (b.drop 6).take 10 ++ leBytes 1 (if gate then 1 else 0) ++ leBytes 1 (bitsOf (leAt b 16 4) 2 1)

/-- The CRC of apply instant `j` joins those kept for the lock check (R485). -/
def State.lockCrc (s : State) (j : Nat) : State :=
  if !s.paired then s
  else
    let v := crc32 ((List.range 64).flatMap (fun c => s.content c j) ++ leBytes 8 s.cmd.epoch)
    { s with pair := { s.pair with crcs := ((j, v) :: s.pair.crcs).take 64 } }

/-- The ten CRCs of apply instants 10 m + 1 to 10 m + 10. -/
def State.tenCrcs (s : State) (m : Nat) : List Nat :=
  (List.range 10).map (fun i => ((s.pair.crcs.find? (fun e => e.1 == 10 * m + 1 + i)).map (fun e => e.2)).getD 0)

/-- LOCK_CHECK_TX (R485). -/
def State.lockCheckTx (s : State) (m : Nat) : State :=
  if !s.paired then s else s.emitRidge 0x13 .partner (.bytes "LOCK_CHECK" [m] ((s.tenCrcs m).flatMap (leBytes 4)))

/-- The ten CRCs of a LOCK_CHECK payload, 4 bytes each (R485). (DEDUCED, log entry 227.) -/
def crcsOf (b : List Byte) : List Nat := (List.range 10).map (fun i => leAt b (4 * i) 4)

/-- The partner's lock check is compared; checks that did not come are counted (R485). -/
def State.lockCheckRx (s : State) (m : Nat) (crcs : List Nat) : State :=
  if !s.paired then s
  else
    let skipped := match s.pair.lockLast with
      | some l => m - l - 1
      | none => 0
    let s := { s with pair := { s.pair with lockLast := some m, lockMissing := s.pair.lockMissing + skipped } }
    if crcs = s.tenCrcs m then s
    else { s with pair := { s.pair with lockBad := some s.us } }.diverge 1

/-! ## Safety inputs and feedback samples of the keeper (R427, R479, R484) -/

/-- A sample of the safety inputs decides device transitions for apply instant k + 2 (R28, R484). -/
def State.safetySample (s : State) (k : Nat) (estop laserOff : Bool) : State :=
  let edge := (estop && !s.sys.estopSeen) || (laserOff && !s.sys.laserOffSeen)
  let s := { s with sys := { s.sys with estopSeen := estop, laserOffSeen := laserOff } }
  if edge && devTransition (s.devAt (k + 2)) 6 == some 4 then s.addDevTrigger { at_ := k + 2, target := 4, cause := 6 } else s

/-- The keeper's sample of `k` arrives by k + 900 ns (R427, R484, R514). (DEDUCED, log entry 149.) -/
def State.keeperSample (s : State) (k : Nat) (m : KeeperSample) : State :=
  if !s.followsPartner ∨ k * 1000 + 900 < s.ns then s
  else
    let s := s.keeperSamples k m.axes
    let s := { s with axis := { s.axis with keeperAt := some k, keeperQ := (List.range 16).map (fun a => (s.mx a).q) } }
    let s := s.safetySample k m.estop m.laserOff
    let fresh := m.bands.filter (fun e => decide (s.us < e.1) && !s.therm.power.contains e)
    { s with therm := { s.therm with power := s.therm.power ++ fresh } }

/-- The keeper's sample of `k` has not come: the own axis samples and safety levels serve (R427, R479). -/
def State.keeperSilent (s : State) (k : Nat) : State :=
  if s.pairRole ≠ 2 ∨ s.axis.waiting ≠ some k then s
  else
    let s := s.keeperMissed k
    let s := { s with pair := { s.pair with sampleMisses := s.pair.sampleMisses + 1 } }
    s.safetySample k s.sys.estop (!s.sys.laserEnable)

/-! ## Local stop (R500) -/

/-- CAUSE of the device state decided for apply instant `f`. -/
def State.causeAt (s : State) (f : Nat) : Nat :=
  (s.sys.next.filter (fun e => decide (e.1 ≤ f))).foldl (fun _ e => e.2.2) (s.get F.SYS_DEV_STATE_CAUSE)

/-- A device of a pair that enters HALT, or SAFE_STOP by a DEVICE error or a thermal request, stops locally (R500). (DEDUCED, log entry 139.) -/
def State.localStop (s : State) (f : Nat) : State :=
  let own := (s.devAt f == 5 && s.causeAt f == 0xA) || (s.devAt f == 4 && (s.causeAt f == 7 || s.causeAt f == 8))
  if !s.paired || !own || s.has F.PAIR_PSTAT_LOCAL_STOP then s
  else (s.put F.PAIR_PSTAT_LOCAL_STOP 1).unitErr 0x49 0x4940

/-! ## Verdicts (R489 to R491) -/

/-- The 32 bytes of a verdict (R490). -/
def RoleVerdict.bytes (v : RoleVerdict) : List Byte :=
  leBytes 1 v.pos ++ leBytes 1 v.source ++ leBytes 2 0 ++ leBytes 4 v.number ++ leBytes 8 v.appoint ++ leBytes 8 v.at_ ++ leBytes 4 v.rule
    ++ leBytes 4 0

/-- A verdict read from its bytes. -/
def verdictOf (b : List Byte) : RoleVerdict :=
  { pos := leAt b 0 1 % 16, source := leAt b 1 1, number := leAt b 4 4, appoint := leAt b 8 8, at_ := leAt b 16 8, rule := leAt b 24 4 }

/-- The role that a verdict gives to a device in role `r` (R478). -/
def verdictRole (r : Nat) (appointed : Bool) : Nat := if appointed then 0 else if r = 1 ∨ r = 2 then 3 else r

/-- A verdict reaches a device of its position: its first copy waits for its instant, or counts as ignored (R467, R490, R491). (DEDUCED, log entry 147.) -/
def State.takeVerdict (s : State) (v : RoleVerdict) : State :=
  if v.pos ≠ s.position ∨ s.cascadeRole = 2 ∨ s.pair.verdict.any (fun (x : RoleVerdict) => x.number == v.number) then s
  else if v.number ≤ s.get F.PAIR_VERDICT_NUM ∨ v.source ≠ s.get F.PAIR_CFG_REF_HOST then
    { s with pair := { s.pair with ignored := s.pair.ignored + 1 } }
  else
    let late := decide (v.at_ * 1000 < s.ns + 3000)
    let f := if late ∧ v.at_ < s.nextFix then s.nextFix else v.at_
    let s := if late then (s.count F.PAIR_EVENTS_LATE_VERDICTS).warn ⟨1, 0x49⟩ 0x4933 else s
    let role := verdictRole (s.roleAt f) (v.appoint == s.sys.serial)
    { s with pair := { s.pair with
        verdict := some { v with at_ := f }, next := s.pair.next.filter (fun e => decide (e.1 < f)) ++ [(f, role)] } }

/-- A verdict arrives on the ring (R490). -/
def State.verdictRx (s : State) (b : List Byte) : State :=
  if b.length ≠ 32 then s else s.takeVerdict (verdictOf b)

/-- The referee's rows (R489) for a position whose heartbeats of this number report a KEEPER `k` and a SHADOW `sh`: the rule that holds, and
the node appointed; `only` is a candidate that is alone. (DEDUCED, log entry 240.) -/
def refereeRule (loss : Nat) (runs : RefRuns) (k sh : Option HbSeen) (only : Option Nat) : Option (Nat × Nat) :=
  match k, sh with
  | some x, some y =>
    if x.localStop then some (1, y.serial)
    else if x.diverged || x.partnerLost || y.diverged || y.partnerLost then some (4, x.serial)
    else if loss ≤ runs.healthRun then some (5, y.serial)
    else none
  | none, some y => if loss ≤ runs.keeperGone then some (2, y.serial) else none
  | some x, none => if loss ≤ runs.shadowGone then some (3, x.serial) else none
  | none, none => match only with
    | some c => if loss ≤ runs.candidateOnly then some (6, c) else none
    | none => none

/-- The referee evaluates position `p` at number `n` (R489). -/
def State.refereePos (s : State) (n p : Nat) : State :=
  let nodes := s.ridge.map.filter (fun m => m.pos == p && m.role != 2 && !m.excluded)
  let here := fun (m : RingNode) => match s.beat m.serial with
    | some h => h.num == n % 2 ^ 32
    | none => false
  let last := nodes.filterMap (fun m => s.beat m.serial)
  let present := nodes.filter here
  let beats := present.filterMap (fun m => s.beat m.serial)
  let k := beats.find? (fun h => h.pairRole == 1)
  let sh := beats.find? (fun h => h.pairRole == 2)
  let only := match present with
    | [m] => if ((s.beat m.serial).map (fun h => h.pairRole)) == some 3 then some m.serial else none
    | _ => none
  let margin := s.get F.PAIR_CFG_HEALTH_MARGIN
  let worse := match k, sh with
    | some x, some y => (margin != 0 && decide (x.health + margin ≤ y.health)) || (x.misalign && !y.misalign)
    | _, _ => false
  let old := tabGet {} s.pair.runs p
  let step := fun (b : Bool) (r : Nat) => if b then r + 1 else 0
  let runs : RefRuns :=
    { keeperGone := step (k.isNone && sh.isSome) old.keeperGone, shadowGone := step (k.isSome && sh.isNone) old.shadowGone
      healthRun := step worse old.healthRun, candidateOnly := step only.isSome old.candidateOnly, appointed := old.appointed }
  let side := fun (b : Bool) => present.any (fun m => m.side == b)
  let s := ((s.putB (F.PAIR_REF_VIEW_SIDE0_HB p) (side false)).putB (F.PAIR_REF_VIEW_SIDE1_HB p) (side true)).putB
    (F.PAIR_REF_VIEW_PAIRED p) (nodes.length == 2)
  let s := match last.find? (fun h => decide (h.pairRole ≤ 1)) with
    | some h => s.putB (F.PAIR_REF_VIEW_KEEPER_SIDE p) h.side
    | none => s
  let keep := fun (r : RefRuns) (s : State) => { s with pair := { s.pair with runs := tabPut {} s.pair.runs p r } }
  match refereeRule (s.get F.PAIR_CFG_HB_LOSS) runs k sh only with
  | none => keep runs s
  | some (rule, who) =>
    if s.has F.PAIR_CFG_REF_HOST then keep runs s
    else
      let high := s.ridge.seen.foldl (fun m (h : HbSeen) => if m < h.verdict then h.verdict else m) s.pair.issued
      let v : RoleVerdict := ⟨p, 0, high + 1, who, (s.ns + 50000 + 999) / 1000, rule⟩
      let s := keep { appointed := some who } s
      let s := { s with pair := { s.pair with issued := high + 1 } }
      (s.count (F.PAIR_REF_VIEW_VERDICTS p)).emitRidge 0x06 .all (.bytes "VERDICT" [p, rule] v.bytes)

/-- REFEREE_EVALUATION at HB_NUM × 100 + 20 µs (R489). -/
def State.refereeEval (s : State) (n : Nat) : State :=
  if s.cascadeRole ≠ 2 then s else forEach (List.range 16) (fun p s => s.refereePos n p) s

/-- PAIR_VERDICT (R491, R502). (DEDUCED, log entry 141.) -/
def opPairVerdict (p : InFlight) (s : State) : State × Verdict :=
  let at_ := dword (p.body.getD 3 0) (p.body.getD 4 0)
  if p.body.length ≠ 5 then (s, malformed 0x0202)
  else if 16 ≤ p.target.toNat then (s, malformed 0x49F6)
  else if s.cascadeRole ≠ 1 then (s, badOpcode 0x49F5)
  else if !s.has F.PAIR_CFG_REF_HOST then (s, refused 0x4934)
  else if frameLead at_ p.acceptNs < 50000 ∨ 10000000000 < frameLead at_ p.acceptNs then (s, refused 0x4954)
  else
    let v : RoleVerdict :=
      { pos := p.target.toNat, source := 1, number := bodyWord p.body 0, appoint := dword (p.body.getD 1 0) (p.body.getD 2 0)
        at_ := at_, rule := 0 }
    ((s.emitRidge 0x06 .all (.bytes "VERDICT" [v.pos, 0] v.bytes)).takeVerdict v, .done [])

/-! ## Promotion, candidates and role changes at an instant (R476, R477, R499) -/

/-- Every stream that is not FREE is stopped at a promotion (R499). (DEDUCED, log entry 113.) -/
def State.promoteStreams (s : State) : State :=
  forEach ((List.range 256).filter (fun n => s.strmState n != 0 && s.strmState n != 3)) (fun n s =>
    let s := ((s.put (F.STREAM_S_STAT_STATE n) 3).put (F.STREAM_S_STAT_DETAIL n) 0x4941).setStrm n { s.strm n with waiting := none }
    s.unitErr 0x49 0x4941 [n, 0x4941, (s.strm n).buildId]) s

/-- Open-loop axes whose step accumulator moved since the old keeper's last sample are homed no more (R499). -/
def State.promoteAxes (s : State) : State :=
  forEach (List.range 16) (fun a s =>
    let x := s.mx a
    if s.axClosed a || x.q == s.axis.keeperQ.getD a x.q || !s.has (F.AXIS_ASTAT_HOMED a) then s
    else
      let s := s.setMx a { x with homed := false, frames := x.frames.map (fun f => { f with homed := false }) }
      (s.put (F.AXIS_ASTAT_HOMED a) 0).info (axisSubject a) 0x4960) s

/-- A SHADOW becomes ALONE at apply instant `v` (R499). -/
def State.promote (s : State) (v : Nat) : State :=
  let s := s.promoteStreams
  let s := s.mapPrograms (fun p => !p.complete && !p.closed && decide (0 < p.blocksSeen) && decide (p.blocksSeen < p.blocks))
    (fun p => { p with partialRec := true })
  let s := s.put F.PAIR_STEP_GAP_US (match s.axis.keeperAt with
    | some k => v - k
    | none => 0)
  let s := s.promoteAxes
  if s.cascadeRole = 1 ∧ s.get F.TIME_STATE = 1 then s.loseSource else s

/-- A device that becomes CANDIDATE keeps every channel OFFLINE and no stream (R477). (DEDUCED, log entry 143.) -/
def State.becomeCandidate (s : State) (v : Nat) : State :=
  let s := forEach ((List.range 64).filter (fun c => s.chAt c v != 0)) (fun c s =>
    s.addChTrigger c { at_ := s.nextFix, target := 0, cause := 0x4910 }) s
  forEach ((List.range 256).filter (fun n => s.strmState n != 0)) (fun n s => s.freeStream n true false) s

/-- The role `r` is taken at apply instant `v`, with what goes with it. (DEDUCED, log entry 140.) -/
def State.takeRole (s : State) (v r : Nat) : State :=
  let old := s.pairRole
  let s := { s with pair := { s.pair with next := s.pair.next.filter (fun e => decide (v < e.1)) } }
  if old = r then s
  else
    let s := s.enterRole r
    let s := if old = 2 ∧ r = 0 then s.promote v else s
    if r = 3 then s.becomeCandidate v else s

/-- VERDICT_APPLY (R490). -/
def State.verdictApply (s : State) : State :=
  match s.pair.verdict with
  | none => s
  | some v =>
    if s.us < v.at_ then s
    else
      let role := verdictRole s.pairRole (v.appoint == s.sys.serial)
      let s := ((s.put F.PAIR_VERDICT_NUM v.number).put64 F.PAIR_VERDICT_AT_LO F.PAIR_VERDICT_AT_HI v.at_)
      ({ s with pair := { s.pair with verdict := none } }).takeRole v.at_ role

/-! ## Swap and drop (R497, R498) -/

/-- The instant of PAIR_SWAP and PAIR_DROP lies 50 µs to 10 s ahead. -/
def State.pairInstant (_ : State) (p : InFlight) : Nat × Bool :=
  let v := dword (p.body.getD 0 0) (p.body.getD 1 0)
  (v, decide (50000 ≤ frameLead v p.acceptNs) && decide (frameLead v p.acceptNs ≤ 10000000000))

/-- The partner is in SHADOW role, as its heartbeat says. -/
def State.hasShadow (s : State) : Bool :=
  s.pairRole == 1 && (match s.partner with
    | some n => (match s.beat n.serial with
      | some h => h.pairRole == 2
      | none => false)
    | none => false)

/-- The conditions of PAIR_SWAP (R497). -/
def State.maySwap (s : State) : Bool :=
  s.hasShadow && !s.has F.PAIR_PSTAT_DIVERGED && !s.has F.PAIR_PSTAT_PARTNER_LOST
    && (match s.pair.lockBad with
      | some b => decide (b + 10000 < s.us)
      | none => true)
    && (List.range 256).all (fun n => s.strmState n == 0 || s.strmState n == 4) && s.pack.jobs.isEmpty

/-- PAIR_SWAP on the keeper, and on the shadow to which it is mirrored (R497). -/
def opPairSwap (p : InFlight) (s : State) : State × Verdict :=
  let (v, ok) := s.pairInstant p
  if p.body.length ≠ 2 then (s, malformed 0x0202)
  else if p.target ≠ 0 then (s, malformed 0x49F6)
  else if s.pairRole = 2 then ({ s with pair := { s.pair with next := s.pair.next ++ [(v, 1)] } }, .done [])
  else if !ok then (s, refused 0x4954)
  else if !s.maySwap then (s, refused 0x4953)
  else ({ s with pair := { s.pair with next := s.pair.next ++ [(v, 2)] } }, .later (.pairAt v))

/-- PAIR_DROP on the keeper, and on the shadow to which it is mirrored (R498). -/
def opPairDrop (p : InFlight) (s : State) : State × Verdict :=
  let (v, ok) := s.pairInstant p
  if p.body.length ≠ 2 then (s, malformed 0x0202)
  else if p.target ≠ 0 then (s, malformed 0x49F6)
  else if s.pairRole = 2 then ({ s with pair := { s.pair with next := s.pair.next ++ [(v, 3)] } }, .done [])
  else if !ok then (s, refused 0x4954)
  else if !s.hasShadow then (s, refused 0x4953)
  else ({ s with pair := { s.pair with next := s.pair.next ++ [(v, 0)] } }, .later (.pairAt v))

/-- Every packet that waits for the instant `v` of a swap or drop is answered. -/
def State.answerPair (s : State) (v : Nat) (ok : Bool) : State :=
  forEach (s.cmd.inflight.filter (fun p => p.wait == .pairAt v)) (fun p s =>
    if ok then s.answer p 0 0 [] else s.answer p 0x10 0x4953 []) s

/-- PAIR_SWAP_APPLY and PAIR_DROP_APPLY: the role decided for `v` is taken; a verdict meanwhile has displaced it (R497, R498). (DEDUCED, log entry 144.) -/
def State.pairApply (s : State) (v : Nat) (roles : List Nat) : State :=
  if s.us < v then s
  else match s.pair.next.find? (fun e => e.1 == v && roles.contains e.2) with
    | some e => (s.takeRole v e.2).answerPair v true
    | none => s.answerPair v false

/-! ## Hot join (R493 to R496) -/

/-- The connection to the partner is up: clockwise for side 0, counterclockwise for side 1 (R463). -/
def State.partnerConn (s : State) : Bool := s.connUp (if s.has F.PAIR_PSTAT_SIDE then 2 else 0)

/-- The conditions of a join on the ALONE device (R493). (DESIGN CHOICE, log entry 142.) -/
def State.mayJoin (s : State) : Bool :=
  s.pairRole == 0 && s.get F.PAIR_PSTAT_JOIN_PHASE == 0 && s.dev != 0 && s.dev != 5
    && (match s.partner with
      | some n => n.part == (s.reg 1).toNat && n.siRev / 256 == s.sys.siRev / 256 && n.fwRev == (s.reg 3).toNat
          && (match s.beat n.serial with
            | some h => s.beatFresh h && h.pairRole == 3 && h.timeLocked
                && decide (((List.range 64).filter (fun c => s.ch c != 0)).length ≤ h.health)
            | none => false)
      | none => false)

/-- COPY begins (R494). -/
def State.joinStart (s : State) : State :=
  let s := (s.put F.PAIR_PSTAT_JOIN_PHASE 1).put F.PAIR_JOIN_MB 0
  { s with pair := { s.pair with
      joinLimit := some (s.time.clk + 2500000000), retryClk := none, joinBytes := 0, joinCut := none, joinAt := none, replay := [] } }.emitRidge
    0x30 .partner (.signal "TRANSFER" [1])

/-- PAIR_JOIN (R493, R502). -/
def opPairJoin (p : InFlight) (s : State) : State × Verdict :=
  if !p.body.isEmpty then (s, malformed 0x0202)
  else if p.target ≠ 0 then (s, malformed 0x49F6)
  else if !s.mayJoin then (s, refused 0x4952)
  else (s.joinStart, .done [])

/-- AUTO_JOIN_START (R493). -/
def State.autoJoin (s : State) : State :=
  if s.has F.PAIR_CFG_AUTO_JOIN && s.pair.retryClk.isNone && s.mayJoin then s.joinStart else s

/-- JOIN_RETRY: 1 s after an abort (R496). -/
def State.joinRetry (s : State) : State :=
  match s.pair.retryClk with
  | some c => if c ≤ s.time.clk ∧ s.has F.PAIR_CFG_AUTO_JOIN ∧ s.mayJoin then s.joinStart else s
  | none => s

/-- The captured state is loaded (R494). -/
def State.loadCapture (s : State) (x : Capture) : State :=
  let s := forEach x.words (fun e s => s.setReg e.1 e.2) s
  { s with
    cmd := { s.cmd with epoch := x.epoch, scheduled := x.scheduled }
    stream := x.stream, seq := x.seq, loop := x.loop, power := x.power, ledger := x.ledger, col := x.col, axis := x.axis
    sys := { s.sys with built := x.c - 1 }
    pair := { s.pair with loaded := true } }

/-- TRANSFER arrives: at the candidate the copied state, the cut and the capture; at the ALONE device the join cairn (R494, R559). -/
def State.transferRx (s : State) (m : TransferItem) (bytes : Nat) : State :=
  let n := s.pair.joinBytes + bytes
  let s := { s with pair := { s.pair with joinBytes := n } }.put F.PAIR_JOIN_MB (n / 1000000)
  let phase := s.get F.PAIR_PSTAT_JOIN_PHASE
  match m with
  | .cairn l =>
    if s.pairRole = 0 ∧ phase = 3 then
      ({ s with pair := { s.pair with joinAt := some l, next := s.pair.next ++ [(l, 1)] } }).put F.PAIR_PSTAT_JOIN_PHASE 4
    else s
  | m =>
    if s.pairRole ≠ 3 then s
    else
      let s := if phase = 0 then
          { s.put F.PAIR_PSTAT_JOIN_PHASE 1 with pair := { s.pair with joinLimit := some (s.time.clk + 2500000000) } }
        else s
      match m with
      | .words ws => forEach (ws.filter (fun e => e.1 / 65536 != 0x60)) (fun e s => s.writeWord ⟨e.1, BitVec.allOnes 32, e.2⟩) s
      | .ledger l => { s with ledger := l }
      | .staging c bs => s.setStaged c.val bs
      | .slot k persist image => s.mirrorItem 0 (.slot k persist image)
      | .journal runs bases => { s with journal := { s.journal with runs := runs, bases := bases } }
      | .cut c => ({ s with pair := { s.pair with joinCut := some c, joinLimit := some (s.time.clk + 12500000) } }).put F.PAIR_PSTAT_JOIN_PHASE 2
      | .capture x => (s.loadCapture x).put F.PAIR_PSTAT_JOIN_PHASE 3
      | .replay fs =>
        let lacks := fun (e : Chan × InFrame) => !s.pair.replay.any (fun (x : Nat × InFrame) => x.1 == e.1.val && x.2.k == e.2.k)
        { s with pair := { s.pair with replay := s.pair.replay ++ (fs.filter lacks).map (fun e => (e.1.val, e.2)) } }
      | .cairn _ => s

/-- JOIN_COPY_DONE: the ALONE device names the cut instant, a multiple of 10 µs at least 1 ms ahead (R494). -/
def State.joinCopyDone (s : State) : State :=
  if s.pairRole ≠ 0 ∨ s.get F.PAIR_PSTAT_JOIN_PHASE ≠ 1 then s
  else
    let c := (s.ns + 1000000 + 9999) / 10000 * 10
    let s := { s with pair := { s.pair with joinCut := some c, joinLimit := some (s.time.clk + 12500000) } }
    (s.put F.PAIR_PSTAT_JOIN_PHASE 2).emitRidge 0x30 .partner (.signal "TRANSFER" [2, c])

/-- JOIN_CUT: the state before the evaluations for the cut instant is captured and sent, and the replay log begins (R494). -/
def State.joinCut (s : State) (c : Nat) : State :=
  if s.pairRole ≠ 0 ∨ s.get F.PAIR_PSTAT_JOIN_PHASE ≠ 2 ∨ s.pair.joinCut ≠ some c then s
  else ((s.put F.PAIR_PSTAT_JOIN_PHASE 3).emitRidge 0x30 .partner (.signal "TRANSFER" [3, c, s.cmd.epoch]))

/-- A frame that the ALONE device accepts from the cut on goes into the replay log, and so do the candidate's own (R494). -/
def State.logFrame (s : State) (c k : Nat) : State :=
  let phase := s.get F.PAIR_PSTAT_JOIN_PHASE
  if !(s.pairRole = 0 ∧ 3 ≤ phase ∨ s.pairRole = 3 ∧ 2 ≤ phase) ∨ s.pair.replay.any (fun (e : Nat × InFrame) => e.1 == c && e.2.k == k) then s
  else match s.inbound c k with
    | some fr => { s with pair := { s.pair with replay := s.pair.replay ++ [(c, fr)] } }
    | none => s

/-- The candidate builds frames ahead of their deadlines: it names the join cairn, at least 20 µs ahead (R494). -/
def State.nameCairn (s : State) : State :=
  if s.pairRole ≠ 3 ∨ s.get F.PAIR_PSTAT_JOIN_PHASE ≠ 3 ∨ !s.pair.loaded then s
  else
    let l := (s.ns + 20000 + 999) / 1000
    let s := { s with pair := { s.pair with joinAt := some l, next := s.pair.next ++ [(l, 2)], replay := [] } }
    (s.put F.PAIR_PSTAT_JOIN_PHASE 4).emitRidge 0x30 .partner (.signal "TRANSFER" [4, l])

/-- JOIN_CAIRN: the candidate becomes SHADOW and the ALONE device KEEPER (R495). -/
def State.joinCairn (s : State) (l : Nat) : State :=
  if s.pair.joinAt ≠ some l ∨ s.us < l then s
  else
    let role := if s.pairRole = 3 then 2 else 1
    let s := s.takeRole l role
    let s := s.put F.PAIR_PSTAT_JOIN_PHASE 0
    let s := { s with pair := { s.pair with joinAt := none, joinLimit := none, joinCut := none, joinDone := some l, replay := [], loaded := false } }
    if role = 1 then s.info ⟨1, 0x49⟩ 0x4950 else s

/-- A join in progress fails by R496: a phase exceeds its limit, a verdict names the position, or the partner's connection is down. -/
def State.joinFails (s : State) : Bool :=
  s.get F.PAIR_PSTAT_JOIN_PHASE != 0 && (s.pair.verdict.isSome || !s.partnerConn || (match s.pair.joinLimit with
    | some c => decide (c < s.time.clk)
    | none => false))

/-- A lock check has differed within 10 ms after the join cairn (R496). (DESIGN CHOICE, log entry 148.) -/
def State.joinUnlocked (s : State) : Bool :=
  s.paired && (match s.pair.joinDone, s.pair.lockBad with
    | some l, some b => decide (b ≤ l + 10000) && decide (l ≤ b)
    | _, _ => false)

/-- What a join has brought to a candidate is dropped: every channel is OFFLINE (R477, R496). -/
def State.dropJoin (s : State) : State :=
  if !s.pair.loaded then s
  else
    let s := forEach (List.range 64) (fun c s => s.put (F.SEQ_CH_STATE_STATE c) 0) s
    { s with seq := [], power := [], loop := {}, stream := {}, pair := { s.pair with loaded := false } }

/-- The join in hand ends without effect (R496). -/
def State.endJoin (s : State) : State :=
  let phase := s.get F.PAIR_PSTAT_JOIN_PHASE
  let s := (s.put F.PAIR_PSTAT_JOIN_PHASE 0).warn ⟨1, 0x49⟩ 0x4951 [phase]
  { s with pair := { s.pair with
      joinAt := none, joinLimit := none, joinCut := none, joinDone := none, replay := [], retryClk := some (s.time.clk + 250000000)
      next := match s.pair.joinAt with
        | some l => s.pair.next.filter (fun e => e.1 != l)
        | none => s.pair.next } }

/-- JOIN_ABORT (R496). (DEDUCED, log entry 145.) -/
def State.joinAbort (s : State) : State :=
  if s.joinFails then s.endJoin.dropJoin
  else if s.joinUnlocked then s.endJoin.takeRole s.us (if s.pairRole = 2 then 3 else 0)
  else s

end Sys2Proof.Machine
end

