-- ==== Sys2Proof/Machine/Therm.lean ====
section
/-!
DEFINITION. Sys2Proof/Machine/Therm.lean: temperature and calibration (spec/14): the sensor cycle and its decisions (R506 to R512), bands
and what follows them (R513 to R515), orderly shutdown (R516 to R520), and the calibration of receivers
(R521 to R527).
-/
namespace Sys2Proof.Machine

/-! ## Sensors (R506 to R511) -/

/-- The sensors above, below, left and right of sensor `n` in the 4 × 4 grid (R508). -/
def sensorNeighbours (n : Nat) : List Nat :=
  (if 4 ≤ n then [n - 4] else []) ++ (if n < 12 then [n + 4] else [])
    ++ (if n % 4 = 0 then [] else [n - 1]) ++ (if n % 4 = 3 then [] else [n + 1])

/-- Twice the median of a list of readings (R508). -/
def median2 (xs : List Int) : Int :=
  let ys := xs.mergeSort (fun a b => decide (a ≤ b))
  let n := ys.length
  ys.getD ((n - 1) / 2) 0 + ys.getD (n / 2) 0

/-- Half of a doubled median; the rounding of an odd one is left open (R510). -/
def halfMedian (m : Int) : Int := m / 2 + (if m % 2 = 1 ∧ Config.halfUp m then 1 else 0)

/-- Sensor `n` is marked failed. -/
def State.sensorBad (s : State) (n : Nat) : Bool := bitsOf (s.get F.THERM_FLAGS_FAILED) n 1 == 1

/-- The valid neighbours of a sensor (R508). -/
def State.validNeighbours (s : State) (n : Nat) : List Nat := (sensorNeighbours n).filter (fun m => !s.sensorBad m)

/-- RAW of a sensor. -/
def State.raw (s : State) (n : Nat) : Int := s.getI (F.THERM_SENSOR_RAW n)

/-- USED of a sensor. -/
def State.used (s : State) (n : Nat) : Int := s.getI (F.THERM_SENSOR_USED n)

/-- The mark of a failed sensor, with its event (R508). -/
def State.markFailed (s : State) (n : Nat) : State :=
  if s.sensorBad n then s
  else (s.put F.THERM_FLAGS_FAILED (s.get F.THERM_FLAGS_FAILED + 2 ^ n)).warn ⟨1, 0x50⟩ 0x5001 [n]

/-- USED of every sensor by R510, with HOT and VALID. -/
def State.showUsed (s : State) (c : Nat) : State :=
  let good := (List.range 16).filter (fun n => !s.sensorBad n)
  let hottest := (good.map s.raw).foldl max (-32768)
  let used := fun (n : Nat) =>
    if !s.sensorBad n then s.raw n
    else
      let v := s.validNeighbours n
      if !v.isEmpty then halfMedian (median2 (v.map s.raw))
      else if good.isEmpty then (Config.usedUnknown n c).toInt else hottest
  let us := (List.range 16).map used
  let s := forEach ((List.range 16).zip us) (fun e s => s.putI (F.THERM_SENSOR_USED e.1) e.2) s
  (s.putI F.THERM_TSTAT_HOT (us.foldl max (-32768))).put F.THERM_TSTAT_VALID good.length

/-- The check of R508 on the readings of one cycle, each sensor judged against the failed set of the cycle before (R509). -/
def State.crossCheck (s w : State) : State :=
  forEach (List.range 16) (fun n s =>
    let v := w.validNeighbours n
    let dev := 2 * s.raw n - median2 (v.map s.raw)
    let run := if w.sensorBad n || decide (v.length < 2) || decide (dev.natAbs ≤ 256) then 0 else tabGet 0 s.therm.devRun n + 1
    let due := if 10000 ≤ run ∧ !s.therm.due.contains n then s.therm.due ++ [n] else s.therm.due
    { s with therm := { s.therm with devRun := tabPut 0 s.therm.devRun n run, due := due } }) s

/-- Fewer than four valid sensors (R511), raised at the onset. -/
def State.quorum (s : State) : State :=
  let lost := decide (s.get F.THERM_TSTAT_VALID < 4)
  let was := s.therm.quorumLost
  let s := { s with therm := { s.therm with quorumLost := lost } }
  if lost && !was then s.devErr 0x5020 [s.get F.THERM_TSTAT_VALID] else s

/-- SENSOR_FAILED: a sensor that deviated for 10,000 cycles is marked (R508). (DEDUCED, log entry 153.) -/
def State.sensorFailed (s : State) (n : Nat) : State :=
  if !s.therm.due.contains n then s
  else
    let s := { s with therm := { s.therm with due := s.therm.due.filter (fun m => m != n), devRun := tabPut 0 s.therm.devRun n 0 } }.markFailed n
    (s.put F.THERM_TSTAT_VALID ((List.range 16).filter (fun n => !s.sensorBad n)).length).quorum

/-! ## External diodes (R507, R517) -/

/-- One reading of diode `k`: open or shorted, or a value that is tested against its limit. (DEDUCED, log entries 155, 156.) -/
def State.diode (s : State) (k : Nat) (r : Option Int) : State :=
  let put := fun (b : Bool) (f : Fld) (s : State) =>
    s.put f (withBits (s.get f) k 1 (if b then 1 else 0))
  match r with
  | none =>
    let s := (put true F.THERM_FLAGS_TD_OPEN s).put (F.THERM_TD_VAL_OPEN k) 1
    let opened := s.therm.tdEpisode.contains k
    let s := { s with therm := { s.therm with
      tdGood := tabPut 0 s.therm.tdGood k 0, tdRun := tabPut 0 s.therm.tdRun k 0
      tdEpisode := if opened then s.therm.tdEpisode else s.therm.tdEpisode ++ [k] } }
    if opened then s else s.warn ⟨1, 0x50⟩ 0x5004 [k]
  | some v =>
    let s := ((put false F.THERM_FLAGS_TD_OPEN s).put (F.THERM_TD_VAL_OPEN k) 0).putI (F.THERM_TD_VAL_VALUE k) v
    let good := tabGet 0 s.therm.tdGood k + 1
    let act := s.get (F.THERM_TD_CFG_ACT k)
    let high := act != 0 && decide (s.getI (F.THERM_TD_CFG_TD_LIMIT k) < v)
    let was := bitsOf (s.get F.THERM_FLAGS_TD_OVER) k 1 == 1
    let s := { s with therm := { s.therm with
      tdGood := tabPut 0 s.therm.tdGood k (satN 100000 good)
      tdEpisode := if 100000 ≤ good then s.therm.tdEpisode.filter (fun j => j != k) else s.therm.tdEpisode
      tdRun := tabPut 0 s.therm.tdRun k (if high && act == 2 then tabGet 0 s.therm.tdRun k + 1 else 0) } }
    let s := put high F.THERM_FLAGS_TD_OVER s
    if high && !was && act == 1 then s.warn ⟨1, 0x50⟩ 0x5003 [k, v] else s

/-! ## Bands (R512 to R515) -/

/-- Threshold T(b), b from 1 to 4 (R512, R528). -/
def State.bandT (s : State) (b : Nat) : Int := match b with
  | 1 => s.getI F.THERM_BAND_T12_T1
  | 2 => s.getI F.THERM_BAND_T12_T2
  | 3 => s.getI F.THERM_BAND_T34_T3
  | _ => s.getI F.THERM_BAND_T34_T4

/-- The band that HOT names with no hysteresis (R512). -/
def State.directBand (s : State) : Nat :=
  ((List.range 4).filter (fun b => decide (s.bandT (b + 1) ≤ s.getI F.THERM_TSTAT_HOT))).length

/-- The own band last decided. -/
def State.ownBand (s : State) : Nat := match s.therm.bandDue with
  | some (b, _) => b
  | none => s.get F.THERM_TSTAT_BAND

/-- The band decision of the cycle of instant `c` (R512). -/
def State.decideBand (s : State) (c : Nat) : State :=
  let b := s.ownBand
  let hot := s.getI F.THERM_TSTAT_HOT
  let go := fun (b' : Nat) =>
    { s with therm := { s.therm with first := false, upRun := 0, downRun := 0, bandDue := if b' = b then s.therm.bandDue else some (b', c) } }
  if s.therm.first then go s.directBand
  else
    let up := if b < 4 ∧ s.bandT (b + 1) ≤ hot then s.therm.upRun + 1 else 0
    let down := if 0 < b ∧ hot < s.bandT b - s.get F.THERM_HYST_BAND_HYST then s.therm.downRun + 1 else 0
    if 3 ≤ up then go (b + 1) else if 100 ≤ down then go (b - 1)
    else { s with therm := { s.therm with upRun := up, downRun := down } }

/-- WRITE_AT of GATE_DLY of band `b` to every channel above OFFLINE, from apply instant `f` (R329, R416, R514). (DEDUCED, log entry 208.) -/
def State.gateDelays (s : State) (b f : Nat) : State :=
  forEach ((List.range 64).filter (fun c => s.ch c != 0)) (fun c s => s.gateDelay c b f) s

/-- POWER_BAND_APPLY: the band named for an apply instant is in force (R514, R515). -/
def State.powerBand (s : State) : State :=
  let due := s.therm.power.filter (fun e => decide (e.1 ≤ s.us))
  let s := { s with therm := { s.therm with power := s.therm.power.filter (fun e => !decide (e.1 ≤ s.us)) } }
  forEach due (fun e s => s.put F.THERM_TSTAT_POWER_BAND e.2) s

/-! ## Calibration: taps and targets (R521 to R524) -/

/-- CAL's part of target `t`. -/
def State.calT (s : State) (t : Nat) : CalTarget := tabGet {} s.cal.targets t

/-- The state with CAL's part of target `t` replaced. -/
def State.setCal (s : State) (t : Nat) (x : CalTarget) : State := { s with cal := { s.cal with targets := tabPut {} s.cal.targets t x } }

/-- STAT, and RUNNING of each target, follow the queue. -/
def State.showCal (s : State) : State :=
  let n := fun (p : CalTarget → Bool) => ((List.range 84).filter (fun t => p (s.calT t))).length
  let s := (s.put F.CAL_STAT_RUNNING (n (fun x => x.started.isSome))).put F.CAL_STAT_QUEUED (n (fun x => x.queued))
  forEach (List.range 84) (fun t s => s.putB (F.CAL_T_STAT_RUNNING t) (s.calT t).started.isSome) s

/-- WALKING of a target: its taps in force differ from its tap targets. -/
def State.showWalk (s : State) (t : Nat) : State :=
  s.putB (F.CAL_T_STAT_WALKING t)
    (s.get (F.CAL_T_STAT_PHASE t) != s.get (F.CAL_T_TGT_PHASE t) || s.get (F.CAL_T_STAT_THRESH t) != s.get (F.CAL_T_TGT_THRESH t))

/-- The margin offsets of a target in the own band in force: phase and threshold (R513, R529). An AX_SLO input has none. (DEDUCED, log entry 159.) -/
def State.margin (s : State) (t : Nat) : Int × Int :=
  let b := s.get F.THERM_TSTAT_BAND
  if t < 64 then (s.getI (F.CAL_MARGIN_STN_PH b), s.getI (F.CAL_MARGIN_STN_TH b))
  else if t < 68 then (s.getI (F.CAL_MARGIN_RDG_PH b), s.getI (F.CAL_MARGIN_RDG_TH b))
  else (0, 0)

/-- The tap targets from the centres of the last successful run (R523, R524). -/
def State.aim (s : State) (t : Nat) : State :=
  let x := s.calT t
  let (mp, mt) := s.margin t
  let s := s.put (F.CAL_T_TGT_PHASE t) (clampI 0 63 (x.phase + mp)).toNat
  let s := if t < 68 then s.put (F.CAL_T_TGT_THRESH t) (clampI 0 31 (x.thresh + mt)).toNat else s
  s.showWalk t

/-- One step of a value towards another. -/
def stepTo (v g : Nat) : Nat := if v < g then v + 1 else if g < v then v - 1 else v

/-- CAL works: from boot step 6, except in HALT by the analog trip (R525). -/
def State.calOn (s : State) : Bool := s.sys.firmware && !(s.dev == 5 && s.sys.thermtripLow)

/-- The walk of one frame: one tap of one field of each target, the phase first, that of an AX_SLO input between two serial frames, and one step of each transmit preset (R513, R521). (DEDUCED, log entry 163.) -/
def State.calWalk (s : State) : State :=
  if !s.calOn then s else
  let s := forEach (List.range 84) (fun t s =>
    if !s.has (F.CAL_T_STAT_WALKING t) ∨ (68 ≤ t ∧ (s.fb (t - 68)).busy.isSome) then s
    else
      let (p, gp) := (s.get (F.CAL_T_STAT_PHASE t), s.get (F.CAL_T_TGT_PHASE t))
      let s := if p ≠ gp then s.put (F.CAL_T_STAT_PHASE t) (stepTo p gp)
        else s.put (F.CAL_T_STAT_THRESH t) (stepTo (s.get (F.CAL_T_STAT_THRESH t)) (s.get (F.CAL_T_TGT_THRESH t)))
      s.showWalk t) s
  let b := s.get F.THERM_TSTAT_BAND
  { s with cal := { s.cal with
    ridgePreset := stepTo s.cal.ridgePreset (s.get (F.CAL_PRESET_RDG b)), ethPreset := stepTo s.cal.ethPreset (s.get (F.CAL_PRESET_ETH b)) } }

/-- BAND_CHANGE: the decided band is in force (R512 to R515, R524). (DEDUCED, log entry 154.) -/
def State.bandChange (s : State) : State :=
  match s.therm.bandDue with
  | none => s
  | some (b, c) =>
    let old := s.get F.THERM_TSTAT_BAND
    let s := { s with therm := { s.therm with bandDue := none } }
    let s := (s.put F.THERM_TSTAT_BAND b).info ⟨1, 0x50⟩ 0x5002 [old, b]
    let s := s.put F.MEM_STAT_REFRESH (if b = 4 then 2 else if b = 3 then 1 else 0)
    let s : State := forEach (List.range 68) (fun (t : Nat) (s : State) => if (s.calT t).found then s.aim t else s) s
    if s.pairRole ≤ 1 then
      { s with therm := { s.therm with power := s.therm.power ++ [(c + 200, b)] } }.gateDelays b (c + 200)
    else s

/-- The keeper's band changes that this sample brought are sent to the shadow's stations too (R514). -/
def State.keeperBands (s : State) (old : List (Nat × Nat)) : State :=
  forEach (s.therm.power.filter (fun e => !old.contains e)) (fun e s => s.gateDelays e.2 e.1) s

/-! ## Calibration runs (R522, R523) -/

/-- The receiver of a target is up: symbol lock, a ridge link that is up, serial feedback in use (R522). -/
def State.calUp (s : State) (t : Nat) : Bool :=
  if t < 64 then s.get (F.STN_LINK_STAT_STATE t) != 0
  else if t < 68 then s.linkUp (t - 64)
  else s.get (F.FBK_FCFG_SRC (t - 68)) == 3

/-- USED of a target's governing sensor. -/
def State.governing (s : State) (t : Nat) : Nat := s.get (F.THERM_SENSOR_USED (s.get (F.CAL_T_STAT_SENSOR t)))

/-- A run of target `t` is queued, unless one is queued or running (R522). -/
def State.queueRun (s : State) (t : Nat) : State :=
  let x := s.calT t
  if x.queued || x.started.isSome then s
  else (s.setCal t { x with queued := true, temp := s.governing t }).showCal

/-- A run that the device itself asks for: CFG.ENABLE = 0 queues none (R522, R529). -/
def State.wantRun (s : State) (t : Nat) : State := if s.has F.CAL_CFG_ENABLE && s.calOn then s.queueRun t else s

/-- The runs that a cycle's temperatures queue (R522). -/
def State.calCycle (s : State) : State :=
  forEach (List.range 84) (fun t s =>
    let d := signedOf 16 (s.governing t) - signedOf 16 (s.get (F.CAL_LAST_TEMP t))
    if (s.get F.CAL_CFG_CAL_DELTA : Int) ≤ d.natAbs then s.wantRun t else s) s

/-- Every packet that waits for a run of target `t` is answered. -/
def State.answerCal (s : State) (t : Nat) (status : Byte) (detail : Nat) (res : List Word) : State :=
  forEach (s.cmd.inflight.filter (fun p => p.wait == .calRun t)) (fun p s => s.answer p status detail res) s

/-- CAL_RUN_START: the first queued run starts, with at most eight at once; a run for a link that is down is dropped (R522). (DEDUCED, log entry 162.) -/
def State.calStart (s : State) : State :=
  let running := ((List.range 84).filter (fun t => (s.calT t).started.isSome)).length
  if !s.calOn ∨ 8 ≤ running then s
  else match (List.range 84).find? (fun t => (s.calT t).queued) with
    | none => s
    | some t =>
      let x := s.calT t
      if s.calUp t then (s.setCal t { x with queued := false, started := some s.time.clk }).showCal
      else ((s.setCal t { x with queued := false }).showCal).answerCal t 0x10 0x51F5 []

/-- The result word of CAL_RUN (R527). -/
def calWord (phase thresh eye : Nat) (failed : Bool) : Word :=
  word (phase % 64 + thresh % 32 * 2 ^ 8 + satN 255 eye * 2 ^ 16 + (if failed then 2 ^ 31 else 0))

/-- CAL_RUN_END: the eye that the scan found, and what follows from it (R523). -/
def State.calEnd (s : State) (t : Nat) (eye : EyeScan) : State :=
  let x := s.calT t
  if x.started.isNone then s
  else
    let width := match eye.phase with
      | some (a, b) => b + 1 - a
      | none => 0
    let centre := fun (e : Option (Nat × Nat)) (d : Nat) => match e with
      | some (a, b) => (a + b) / 2
      | none => d
    let phase := satN 63 (centre eye.phase x.phase)
    let thresh := if t < 68 then satN 31 (centre eye.thresh x.thresh) else x.thresh
    let failed := decide (width < s.get F.CAL_CFG_EYE_MIN)
    let s := s.setCal t { x with
      started := none, phase := if failed then x.phase else phase, thresh := if failed then x.thresh else thresh, found := x.found || !failed }
    let s := if failed then s.count (F.CAL_FAILS t) else s.aim t
    let s := ((s.putB (F.CAL_T_STAT_LAST_FAIL t) failed).wrapCount (F.CAL_RUNS t)).put (F.CAL_FAILS_EYE t) width
    let s := (s.put64 (F.CAL_LAST_T_LO t) (F.CAL_LAST_T_HI t) s.ns).put (F.CAL_LAST_TEMP t) x.temp
    let s := if failed then s.warn ⟨1, 0x51⟩ 0x5102 [t] else s.info ⟨1, 0x51⟩ 0x5101 [t]
    s.showCal.answerCal t 0 0 [calWord phase thresh width failed]

/-- CAL_RUN (R527). (DEDUCED, log entries 160, 161.) -/
def opCalRun (p : InFlight) (s : State) : State × Verdict :=
  let t := p.target.toNat
  if 128 ≤ t then (s, malformed 0x51F6)
  else if !p.body.isEmpty then (s, malformed 0x0202)
  else if 83 < t then (s, refused 0x51F6)
  else if !s.calUp t then (s, refused 0x51F5)
  else (s.queueRun t, .later (.calRun t))

/-- SENSOR_READMIT (R527). -/
def opSensorReadmit (p : InFlight) (s : State) : State × Verdict :=
  let n := p.target.toNat
  if 16 ≤ n then (s, malformed 0x50F6)
  else if !p.body.isEmpty then (s, malformed 0x0202)
  else if s.sensorBad n then
    ({ s.put F.THERM_FLAGS_FAILED (s.get F.THERM_FLAGS_FAILED - 2 ^ n) with therm := { s.therm with devRun := tabPut 0 s.therm.devRun n 0 } },
      .done [])
  else (s, .done [])

/-! ## Shutdown (R516 to R520) -/

/-- The runs of one cycle that lead to shutdown, TCRIT and the clearing of the cause. (DEDUCED, log entry 158.) -/
def State.shutRuns (s : State) : State :=
  let hot := s.getI F.THERM_TSTAT_HOT
  let tshut := s.getI F.THERM_SHUT_TSHUT
  let hyst : Int := 16 * (s.get F.THERM_HYST_SHUT_HYST : Int)
  let shut := if tshut < hot then s.therm.shutRun + 1 else 0
  let crit := if s.getI F.THERM_SHUT_TCRIT < hot then s.therm.critRun + 1 else 0
  let hotDiode := (List.range 4).any (fun k => decide (3 ≤ tabGet 0 s.therm.tdRun k))
  let calm := fun (k : Nat) => s.get (F.THERM_TD_CFG_ACT k) != 2 ||
    (!s.has (F.THERM_TD_VAL_OPEN k) && decide (s.getI (F.THERM_TD_VAL_VALUE k) < s.getI (F.THERM_TD_CFG_TD_LIMIT k) - hyst))
  let cool := decide (hot < tshut - hyst) && (List.range 4).all calm
  let latched := s.has F.THERM_TSTAT_SHUT_REQ && !s.has F.THERM_TSTAT_CAUSE_CLEAR
  let halted := s.sys.tcritHalt && !s.has F.THERM_TSTAT_CAUSE_CLEAR
  { s with therm := { s.therm with
    shutRun := shut, critRun := crit, coolRun := if cool then s.therm.coolRun + 1 else 0
    shutDue := s.therm.shutDue || ((decide (3 ≤ shut) || hotDiode) && !latched)
    critDue := s.therm.critDue || (decide (3 ≤ crit) && !halted) } }

/-- THERM_CYCLE of instant `c` µs: conversions and the decisions that they lead to, in effect at c + 2 µs (R506). (DEDUCED, log entry 152.) -/
def State.thermCycle (s : State) (c : Nat) (raws diodes : List (Option Int)) : State :=
  let s := s.bandChange
  let w := s
  let raws := raws.map (fun r => r.filter (fun v => decide (-960 ≤ v) && decide (v ≤ 2560)))
  let s := forEach (List.range 16) (fun n s => match raws.getD n none with
    | some v => s.putI (F.THERM_SENSOR_RAW n) v
    | none => s) s
  let s := s.crossCheck w
  let s := forEach (List.range 16) (fun n s => if (raws.getD n none).isNone then s.markFailed n else s) s
  let s := (s.showUsed c).quorum
  let s := forEach (List.range 4) (fun k s => s.diode k (diodes.getD k none)) s
  ((s.decideBand c).shutRuns).calCycle

/-- THERMAL_SHUTDOWN_REQUEST (R516). -/
def State.thermalShutdown (s : State) : State :=
  if !s.therm.shutDue then s
  else
    let starts := devTransition (s.devAt s.nextFix) 7 == some 4
    let s := { s with therm := { s.therm with
      shutDue := false, coolRun := 0, shutClk := if starts then some s.time.clk else s.therm.shutClk } }
    let s := ((s.put F.THERM_TSTAT_SHUT_REQ 1).put F.THERM_TSTAT_CAUSE_CLEAR 0).unitErr 0x50 0x5010 [s.getI F.THERM_TSTAT_HOT]
    s.triggerDev 4 7

/-- TCRIT_HALT (R518). -/
def State.tcrit (s : State) : State :=
  if !s.therm.critDue then s
  else
    let s := { s with therm := { s.therm with critDue := false, coolRun := 0 }, sys := { s.sys with tcritHalt := true } }
    (s.put F.THERM_TSTAT_CAUSE_CLEAR 0).raise 5 false ⟨0, 0⟩ 0x5032 [s.getI F.THERM_TSTAT_HOT]

/-- SHUTDOWN_LIMIT_EXPIRY (R518): a sequence that has not reached HALT within SHUT_LIMIT ms. -/
def State.shutLimit (s : State) : State :=
  match s.therm.shutClk with
  | none => s
  | some c =>
    if s.time.clk < c + s.get F.THERM_HYST_SHUT_LIMIT * 250000 then s
    else { s with therm := { s.therm with shutClk := none } }.raise 5 false ⟨0, 0⟩ 0x5031

/-- THERMAL_CAUSE_CLEAR (R520). (DEDUCED, log entry 157.) -/
def State.thermalClear (s : State) : State :=
  if (s.has F.THERM_TSTAT_SHUT_REQ || s.sys.tcritHalt) && decide (100000 ≤ s.therm.coolRun) then s.put F.THERM_TSTAT_CAUSE_CLEAR 1 else s

/-! ## RESET_UNIT (R526) -/

/-- RESET_UNIT of THERM: words and failed marks; the band is set afresh, and a latched request and its cause stay. -/
def State.thermReset (s : State) : State :=
  let (a, b, p) := (s.get F.THERM_TSTAT_SHUT_REQ, s.get F.THERM_TSTAT_CAUSE_CLEAR, s.get F.THERM_TSTAT_POWER_BAND)
  let s := (((s.dropUnit 0x50).put F.THERM_TSTAT_SHUT_REQ a).put F.THERM_TSTAT_CAUSE_CLEAR b).put F.THERM_TSTAT_POWER_BAND p
  let s := s.put F.MEM_STAT_REFRESH 0
  let s : State := forEach (List.range 68) (fun (t : Nat) (s : State) => if (s.calT t).found then s.aim t else s) s
  { s with therm := { s.therm with first := true, devRun := [], due := [], upRun := 0, downRun := 0, bandDue := none } }

/-- RESET_UNIT of CAL: the queue and the runs end without result, bookkeeping clears, and the taps in force stay. -/
def State.calReset (s : State) : State :=
  let taps := (List.range 84).map (fun t => (t, s.get (F.CAL_T_STAT_PHASE t), s.get (F.CAL_T_STAT_THRESH t),
    s.get (F.CAL_T_TGT_PHASE t), s.get (F.CAL_T_TGT_THRESH t)))
  let s := s.dropUnit 0x51
  let s := forEach taps (fun e s =>
    ((((s.put (F.CAL_T_STAT_PHASE e.1) e.2.1).put (F.CAL_T_STAT_THRESH e.1) e.2.2.1).put (F.CAL_T_TGT_PHASE e.1) e.2.2.2.1).put
      (F.CAL_T_TGT_THRESH e.1) e.2.2.2.2).showWalk e.1) s
  let s := forEach (List.range 84) (fun t s => s.setCal t { s.calT t with queued := false, started := none }) s
  forEach (s.cmd.inflight.filter (fun p => match p.wait with
    | .calRun _ => true
    | _ => false)) (fun p s => s.answer p 0x31 0x51F5 []) s

end Sys2Proof.Machine
end

