-- ==== Sys2Proof/Machine/Trig.lean ====
section
/-!
DEFINITION. Sys2Proof/Machine/Trig.lean: TRIG outputs (spec/06 R222 to R227) and capture inputs (R228 to R231).
-/
namespace Sys2Proof.Machine

/-! ## TRIG outputs -/

/-- The program of TRIG output `k`. -/
def State.trig (s : State) (k : Nat) : Trig := tabGet {} s.time.trigs k

/-- The state with the program of output `k` replaced. -/
def State.setTrig (s : State) (k : Nat) (x : Trig) : State := { s with time := { s.time with trigs := tabPut {} s.time.trigs k x } }

/-- Pulses of the program: 1 in MODE 1, COUNT in MODE 2, none for an endless program (R223). -/
def State.trigCount (s : State) (k : Nat) : Option Nat :=
  if s.get (F.TIME_TRIG_CTRL_MODE k) = 1 then some 1
  else if s.get (F.TIME_TRIG_COUNT k) = 0 then none else some (s.get (F.TIME_TRIG_COUNT k))

/-- START + n × PERIOD, truncated to whole ns (R223). -/
def State.trigLaunch (s : State) (k n : Nat) : Int :=
  (s.get (F.TIME_TRIG_START_LO k) + s.get (F.TIME_TRIG_START_HI k) * 2 ^ 32
    + n * (s.get (F.TIME_TRIG_PERIOD_NS k) * 65536 + s.get (F.TIME_TRIG_PERIOD_FRAC k)) / 65536 : Nat)

/-- The tie slip of output `k` for the microsecond of device time `t` ns (R223, R233). -/
def State.trigSlip (s : State) (k t : Nat) : Int :=
  if s.has (F.TIME_TRIG_CTRL_TIED k) then s.slipAt (s.get (F.TIME_TRIG_CTRL_TIE_CH k)) (t / 1000) else 0

/-- How far pulse `n` lies ahead of device time `t`, in ns (R196, R223). -/
def State.trigAhead (s : State) (k n t : Nat) : Int := diff48 (s.trigLaunch k n + s.trigSlip k t) t

/-- The program goes on with pulse `n`, or has ended. -/
def State.trigGoTo (s : State) (k n : Nat) : State :=
  let more := match s.trigCount k with
    | some c => decide (n < c)
    | none => true
  (s.setTrig k { s.trig k with pulse := n, active := more }).putB (F.TIME_TRIG_STAT_ACTIVE k) more

/-- The first pulse from `n` on that lies no more than `slack` ns in the past at device time `t`. (DEDUCED, log entry 110.) -/
def State.trigFirst (s : State) (k n t slack : Nat) : Nat :=
  let behind := -(s.trigAhead k n t) - slack
  let p := s.get (F.TIME_TRIG_PERIOD_NS k) * 65536 + s.get (F.TIME_TRIG_PERIOD_FRAC k)
  if behind ≤ 0 then n
  else if p = 0 ∨ s.get (F.TIME_TRIG_CTRL_MODE k) = 1 then n + 1
  else
    let part := n * p % 65536
    n + (behind.toNat * 65536 - part + p - 1) / p

/-- Pulses of output `k` that lie in the past are skipped and counted; the number skipped (R224). A pulse is past once a TIME clock at
which it was due has gone by. -/
def State.trigSkip (s : State) (k slack : Nat) : State × Nat :=
  let x := s.trig k
  if !x.active then (s, 0)
  else
    let m := s.trigFirst k x.pulse s.ns slack
    let m := match s.trigCount k with
      | some c => if c < m then c else m
      | none => m
    let n := m - x.pulse
    if n = 0 then (s, 0) else ((s.trigGoTo k m).count (F.TIME_TRIG_STAT_SKIPPED k) n, n)

/-- The level of output `k`, on the pin where the device drives it (R476). -/
def State.trigPin (s : State) (k : Nat) (b : Bool) : State :=
  let s := s.setTrig k { s.trig k with level := b }
  if s.drivesOutputs then s.emit (.signal "TRIG" [k, if b then 1 else 0, s.get (F.TIME_TRIG_CTRL_POL k)]) else s

/-- The output rests: MODE off or nothing driven in BOOT (R222). -/
def State.trigLow (s : State) (k : Nat) : State := if (s.trig k).level then s.trigPin k false else s

/-- One occasion on which pulses were found in the past by a fall in slip or a stay in HALT (R224). -/
def State.trigSweep (s : State) (k : Nat) : State :=
  let (s, n) := s.trigSkip k 4
  if n = 0 then s else (s.mark (F.TIME_TRIG_STAT_SKIP k)).warn ⟨1, 0x08⟩ 0x0832 [k, n]

/-- Every output swept. (DEDUCED, log entry 112.) -/
def State.trigSweepAll (s : State) : State :=
  if s.dev = 5 ∨ s.dev = 0 then s else forEach (List.range 24) (fun k s => s.trigSweep k) s

/-- A pulse of output `k` falls due (R222 to R224). One that falls due while an earlier one is active leaves the fall of that one where it is
(R225), and gives no edge of its own. (DEDUCED, log entry 206.) -/
def State.trigRise (s : State) (k : Nat) : State :=
  if !(s.trig k).active ∨ s.dev = 0 then s
  else if s.dev = 5 then
    let (s, n) := s.trigSkip k 0
    let (s, n) := if 0 < s.trigAhead k (s.trig k).pulse s.ns ∨ !(s.trig k).active then (s, n)
      else ((s.trigGoTo k ((s.trig k).pulse + 1)).count (F.TIME_TRIG_STAT_SKIPPED k), n + 1)
    if n = 0 then s
    else
      let x := s.trig k
      let s := s.mark (F.TIME_TRIG_STAT_SKIP k)
      if x.haltSkip then s else (s.setTrig k { x with haltSkip := true }).warn ⟨1, 0x08⟩ 0x0832 [k, n]
  else
    let s := s.trigSweep k
    let x := s.trig k
    let ahead := s.trigAhead k x.pulse s.ns
    if !x.active ∨ 0 < ahead then s
    else
      if x.level then s.trigGoTo k (x.pulse + 1)
      else
        let s := s.setTrig k { x with fallAt := (s.ns + ahead + s.get (F.TIME_TRIG_WIDTH k)).toNat }
        (s.trigGoTo k (x.pulse + 1)).trigPin k true

/-- WIDTH after its due instant the output goes inactive (R223). -/
def State.trigFall (s : State) (k : Nat) : State :=
  if (s.trig k).level && decide ((s.trig k).fallAt ≤ s.ns) then s.trigLow k else s

/-- A commit has made the program of output `k` active for frame `f` (R224, R226). -/
def State.trigActivate (s : State) (k f : Nat) : State :=
  let s := s.trigGoTo k 0
  if s.get (F.TIME_TRIG_CTRL_MODE k) = 0 then (s.setTrig k { s.trig k with active := false }).put (F.TIME_TRIG_STAT_ACTIVE k) 0
  else
    let t := f * 1000
    if 0 ≤ s.trigAhead k 0 t then s
    else
      let s := (s.mark (F.TIME_TRIG_STAT_LATE k)).warn ⟨1, 0x08⟩ 0x0830 [k]
      if s.get (F.TIME_TRIG_CTRL_MODE k) = 1 then s.trigGoTo k 1
      else
        let m := s.trigFirst k 0 t 0
        let m := match s.trigCount k with
          | some c => if c < m then c else m
          | none => m
        (s.trigGoTo k m).count (F.TIME_TRIG_STAT_SKIPPED k) m

/-- HALT holds every output at its inactive level and ends a pulse in progress (R222); each stay in it is an occasion of its own (R224). (DEDUCED, log entry 111.) -/
def State.trigHalt (s : State) : State :=
  forEach (List.range 24) (fun k s =>
    let s := s.trigLow k
    if (s.trig k).haltSkip then s.setTrig k { s.trig k with haltSkip := false } else s) s

/-- The step of the time base returns every output to MODE 0 with LATE set (R195). -/
def State.trigStep (s : State) : State :=
  forEach (List.range 24) (fun k s =>
    let s := s.trigLow k
    let s := (s.put (F.TIME_TRIG_CTRL_MODE k) 0).mark (F.TIME_TRIG_STAT_LATE k)
    (s.setTrig k {}).put (F.TIME_TRIG_STAT_ACTIVE k) 0) s

/-- WIDTH and PERIOD of output `k` as they would stand in `w` hold the rules of R225. The reset value 0 of PERIOD stands for no period in MODE 0 and
1, which have none. (DEDUCED, log entry 207.) -/
def State.trigValid (w : State) (k : Nat) : Bool :=
  let width := w.get (F.TIME_TRIG_WIDTH k)
  let period := w.get (F.TIME_TRIG_PERIOD_NS k) * 65536 + w.get (F.TIME_TRIG_PERIOD_FRAC k)
  let two := w.get (F.TIME_TRIG_CTRL_MODE k) == 2
  decide (8 ≤ width) && ((period == 0 && !two) || decide (16 * 65536 ≤ period)) && (!two || decide ((width + 8) * 65536 ≤ period))

/-! ## Capture inputs -/

/-- The FIFO of capture input `k`. -/
def State.cap (s : State) (k : Nat) : CapFifo := tabGet {} s.time.caps k

/-- The state with the FIFO of input `k` replaced; CAP_STAT.DEPTH follows. -/
def State.setCap (s : State) (k : Nat) (x : CapFifo) : State :=
  ({ s with time := { s.time with caps := tabPut {} s.time.caps k x } }).put (F.TIME_CAP_STAT_DEPTH k) x.entries.length

/-- An edge of input `k` at the present device time (R228, R229). -/
def State.capEdge (s : State) (k : Nat) (rising : Bool) : State :=
  let e := s.get (F.TIME_CAP_CFG_EDGE k)
  let x := s.cap k
  if !(if rising then e == 1 || e == 3 else e == 2 || e == 3) then s
  else if 16 ≤ x.entries.length then
    let s := s.count (F.TIME_CAP_STAT_OVERFLOW k)
    if x.overflowed then s else (s.setCap k { x with overflowed := true }).warn ⟨1, 0x08⟩ 0x0831 [k]
  else s.setCap k { entries := x.entries ++ [⟨s.ns, rising, x.overflowed⟩], overflowed := false }

/-- The three words of a capture entry (R230). -/
def CapEntry.words (e : CapEntry) : List Word :=
  lowHigh e.time ++ [word ((if e.rising then 1 else 0) + (if e.overflowBefore then 2 else 0))]

/-- CAP_READ (R230). -/
def opCapRead (p : InFlight) (s : State) : State × Verdict :=
  let n := bodyWord p.body 0
  let k := p.target.toNat
  if 8 ≤ k then (s, malformed 0x08F6)
  else if p.body.length ≠ 1 then (s, malformed 0x0202)
  else if n = 0 ∨ 16 < n then (s, malformed 0x08F6)
  else
    let x := s.cap k
    (s.setCap k { x with entries := x.entries.drop n }, .done ((x.entries.take n).flatMap CapEntry.words))

/-- Every capture FIFO that holds entries is emptied and reported (R195). -/
def State.capStep (s : State) : State :=
  forEach (List.range 8) (fun k s =>
    if (s.cap k).entries.isEmpty then s else (s.setCap k {}).warn ⟨1, 0x08⟩ 0x0811 [k]) s

end Sys2Proof.Machine
end

