-- ==== Sys2Proof/Machine/Light.lean ====
section
/-!
DEFINITION. Sys2Proof/Machine/Light.lean: bed illumination (spec/15): derating (R540, R541), row loads (R533 to R536), PWM and strobes
(R537 to R539), diagnostic stretches and lamp measurements (R542 to R546), and the light opcodes (R548).
-/
namespace Sys2Proof.Machine

/-! ## Access -/

/-- LIGHT's part of string `n`. -/
def State.lamp (s : State) (n : Nat) : LightStr := tabGet {} s.light.strings n

/-- The state with LIGHT's part of string `n` replaced. -/
def State.setLamp (s : State) (n : Nat) (x : LightStr) : State := { s with light := { s.light with strings := tabPut {} s.light.strings n x } }

/-- The device drives the LIGHT outputs: ALONE or KEEPER (R476, R547). -/
def State.lightDrives (s : State) : Bool := s.drivesOutputs

/-- A LIGHT event; a SHADOW raises none (R547). -/
def State.lightWarn (s : State) (detail : Nat) (args : List Int) : State :=
  if s.pairRole = 2 then s else s.warn ⟨1, 0x58⟩ detail args

/-- The level of LED_PWM of string `n`, on the pin where the device drives it. -/
def State.lightPin (s : State) (n : Nat) (b : Bool) : State :=
  let s := s.putB (F.LIGHT_S_STAT_ON n) b
  if s.lightDrives then s.emit (.signal "LED_PWM" [n, if b then 1 else 0]) else s

/-- Lit lamps of a pattern (R533). -/
def litOf (pattern lamps : Nat) : Nat := lamps - ((List.range lamps).filter (fun c => bitsOf pattern c 1 == 1)).length

/-- N in force: of the pattern that the bypass latch holds (R533, R535). -/
def State.lit (s : State) (n : Nat) : Nat := match (s.lamp n).latch with
  | some (p, l) => litOf p l
  | none => 0

/-- LIGHT runs its programs: READY, BUILD, DRAIN and SAFE_STOP (R539). -/
def State.lightRuns (s : State) : Bool := decide (1 ≤ s.dev) && decide (s.dev ≤ 4)

/-- The factor in force for string `n` (R537). -/
def State.factorFor (s : State) (n : Nat) : Nat :=
  if s.has (F.LIGHT_STR_CTRL_DERATE_EN n) then s.get F.LIGHT_DSTAT_FACTOR else 65536

/-! ## Derating (R540, R541) -/

/-- FLOOR_F of R540. -/
def State.floorFactor (s : State) : Int := roundHalfEven ((s.get F.LIGHT_DERATE_FLOOR : Int) * 65536) 100

/-- The factor of R540 for a temperature. -/
def State.derateOf (s : State) (t : Int) : Int :=
  let knee := s.getI F.LIGHT_DERATE_KNEE
  if t ≤ knee then 65536
  else max s.floorFactor (65536 - roundHalfEven ((s.get F.LIGHT_DERATE_SLOPE : Int) * (t - knee) * 4096) 1000)

/-- The derating decision of a thermal cycle. -/
def State.derate (s : State) : State :=
  let k := s.get F.LIGHT_DSRC
  let bad := decide (k < 4) && s.has (F.THERM_TD_VAL_OPEN k)
  if bad then
    let was := s.therm.srcEpisode
    let s := (s.put F.LIGHT_DSTAT_FACTOR s.floorFactor.toNat).put F.LIGHT_DSTAT_DERATE_BAD 1
    let s := { s with therm := { s.therm with srcGood := 0, srcEpisode := true } }
    if was then s else s.lightWarn 0x5805 [k]
  else
    let t := if k < 4 then s.getI (F.THERM_TD_VAL_VALUE k) else s.getI F.THERM_TSTAT_HOT
    let good := satN 100000 (s.therm.srcGood + 1)
    let s := { s with therm := { s.therm with srcGood := good, srcEpisode := s.therm.srcEpisode && decide (good < 100000) } }
    ((s.put F.LIGHT_DSTAT_FACTOR (s.derateOf t).toNat).put F.LIGHT_DSTAT_DERATE_BAD 0).putI F.LIGHT_DTEMP t

/-! ## PWM periods (R537) -/

/-- TIME clocks from now to the next period start of string `n` (0 at one). -/
def State.toPeriod (s : State) (n : Nat) : Nat :=
  let p := s.get F.LIGHT_CFG_PWM_PERIOD
  if p = 0 then 0 else (p - (s.ns / 4 + p - n * p / 8 % p) % p) % p

/-- The on-time of a period, before a stretch or a shortening (R537). -/
def State.pwmOn (s : State) (n : Nat) : Nat :=
  let p := s.get F.LIGHT_CFG_PWM_PERIOD
  satN p (p * s.get (F.LIGHT_STR_DUTY n) * s.factorFor n / 2 ^ 32)

/-! ## Strobe programs (R538): the rules of TRIG outputs with MODE 2 and 3 as MODE 1 and 2 -/

/-- Pulses of the program (R223, R538). -/
def State.strobeCount (s : State) (n : Nat) : Option Nat :=
  if s.get (F.LIGHT_STR_CTRL_MODE n) = 2 then some 1
  else if s.get (F.LIGHT_STR_COUNT n) = 0 then none else some (s.get (F.LIGHT_STR_COUNT n))

/-- How far pulse `i` lies ahead of device time `t`, in ns (R196, R223, R233). -/
def State.strobeAhead (s : State) (n i t : Nat) : Int :=
  let start : Int := (s.get (F.LIGHT_STR_START_LO n) + s.get (F.LIGHT_STR_START_HI n) * 2 ^ 32 + i * s.get (F.LIGHT_STR_PERIOD_NS n) : Nat)
  let slip := if s.has (F.LIGHT_STR_CTRL_TIED n) then s.slipAt (s.get (F.LIGHT_STR_CTRL_TIE_CH n)) (t / 1000) else 0
  diff48 (start + slip) t

/-- The program goes on with pulse `i`, or has ended. -/
def State.strobeGoTo (s : State) (n i : Nat) : State :=
  let more := match s.strobeCount n with
    | some c => decide (i < c)
    | none => true
  s.setLamp n { s.lamp n with pulse := i, active := more }

/-- The first pulse from `i` on that lies no more than `slack` ns in the past. -/
def State.strobeFirst (s : State) (n i t slack : Nat) : Nat :=
  let behind := -(s.strobeAhead n i t) - slack
  let p := s.get (F.LIGHT_STR_PERIOD_NS n)
  if behind ≤ 0 then i
  else if p = 0 ∨ s.get (F.LIGHT_STR_CTRL_MODE n) = 2 then i + 1
  else i + (behind.toNat + p - 1) / p

/-- Strobe pulses that lie in the past are skipped and counted; the number skipped (R224). -/
def State.strobeSkip (s : State) (n slack : Nat) : State × Nat :=
  let x := s.lamp n
  if !x.active then (s, 0)
  else
    let m := s.strobeFirst n x.pulse s.ns slack
    let m := match s.strobeCount n with
      | some c => if c < m then c else m
      | none => m
    let k := m - x.pulse
    if k = 0 then (s, 0) else ((s.strobeGoTo n m).count (F.LIGHT_STR_SKIPPED n) k, k)

/-- One occasion on which strobe pulses were found in the past (R224, R538). -/
def State.strobeSweep (s : State) (n : Nat) : State :=
  let (s, k) := s.strobeSkip n 4
  if k = 0 then s else (s.mark (F.LIGHT_S_STAT_SKIP n)).lightWarn 0x5811 [n, k]

/-- Every string's program swept. -/
def State.strobeSweepAll (s : State) : State :=
  if s.dev = 5 ∨ s.dev = 0 then s else forEach (List.range 8) (fun n s => s.strobeSweep n) s

/-- A commit has made the program of string `n` active for frame `f` (R224, R538). -/
def State.strobeActivate (s : State) (n f : Nat) : State :=
  if s.get (F.LIGHT_STR_CTRL_MODE n) < 2 then s.setLamp n { s.lamp n with active := false, pulse := 0 }
  else
    let s := s.strobeGoTo n 0
    let t := f * 1000
    if 0 ≤ s.strobeAhead n 0 t then s
    else
      let s := (s.mark (F.LIGHT_S_STAT_LATE n)).lightWarn 0x5810 [n]
      if s.get (F.LIGHT_STR_CTRL_MODE n) = 2 then s.strobeGoTo n 1
      else
        let m := s.strobeFirst n 0 t 0
        let m := match s.strobeCount n with
          | some c => if c < m then c else m
          | none => m
        (s.strobeGoTo n m).count (F.LIGHT_STR_SKIPPED n) m

/-- W of R538, in ns. -/
def State.strobeWidth (s : State) (n : Nat) : Nat := max 8 (s.get (F.LIGHT_STR_WIDTH n) * s.factorFor n / 65536)

/-- WIDTH and PERIOD of string `n` as they would stand in `w` hold the rules of R225 (R550). The reset value 0 of PERIOD stands for no period in
MODE 2, which has none. (DEDUCED, log entry 207.) -/
def State.strobeValid (w : State) (n : Nat) : Bool :=
  let width := w.get (F.LIGHT_STR_WIDTH n)
  let period := w.get (F.LIGHT_STR_PERIOD_NS n)
  let mode := w.get (F.LIGHT_STR_CTRL_MODE n)
  decide (mode < 2) || (decide (8 ≤ width) && ((mode == 2 && period == 0) || decide (16 ≤ period))
    && (mode != 3 || decide (width + 8 ≤ period)))

/-! ## Row loads (R533 to R536) -/

/-- A pattern waits to be loaded into string `n`'s latch. -/
def State.loadDue (s : State) (n : Nat) : Bool := s.has (F.LIGHT_S_STAT_LOAD_PEND n) || (s.lamp n).latch.isNone

/-- Every row has been loaded since the device began to drive the outputs (R536). -/
def State.rowsLoaded (s : State) : Bool := (List.range 8).all (fun n => (s.lamp n).latch.isSome)

/-- ns from now to the next rise that the program of string `n` makes, where one is known. -/
def State.nextRise (s : State) (n : Nat) : Option Nat :=
  let mode := s.get (F.LIGHT_STR_CTRL_MODE n)
  if mode = 0 ∨ s.lit n = 0 then none
  else if mode = 1 then
    let d := s.toPeriod n
    some (4 * (if d = 0 then s.get F.LIGHT_CFG_PWM_PERIOD else d))
  else if (s.lamp n).active then some (s.strobeAhead n (s.lamp n).pulse s.ns).toNat else none

/-- ROW_LOAD: the latch of string `n` takes PATTERN and LAMPS during an off-time that leaves 100 ns on either side, one load at a time: LED_COL is
driven for 400 ns, and LED_ROW is high from 100 to 300 ns (R534, R535). (DEDUCED, log entry 239.) -/
def State.rowLoad (s : State) (n : Nat) : State :=
  let x := s.lamp n
  let room := match s.nextRise n with
    | some d => decide (500 ≤ d) && (x.fall == 0 || decide (x.fall + 100 ≤ s.ns))
    | none => true
  let first := (List.range n).all (fun m => (s.lamp m).latch.isSome)
  if !s.loadDue n || x.on || !s.lightRuns || !(room || !s.rowsLoaded) || !first || decide (s.ns < s.light.loadEnd) then s
  else
    let (p, l) := (s.get (F.LIGHT_STR_LAMP_PATTERN n), s.get (F.LIGHT_STR_LAMP_LAMPS n))
    let s := (s.setLamp n { x with latch := some (p, l) }).put (F.LIGHT_S_STAT_LOAD_PEND n) 0
    let s := s.put (F.LIGHT_STR_OUT_N n) (litOf p l)
    let s := { s with light := { s.light with loadEnd := s.ns + 400 } }
    if s.lightDrives then (s.emit (.signal "LED_COL" [n, bitsOf p 0 l])).emit (.signal "LED_ROW" [n, 100, 300]) else s

/-- The device begins to drive the LIGHT outputs: the eight rows are loaded again before any rise (R536). (DEDUCED, log entry 164.) -/
def State.rowsReload (s : State) : State := forEach (List.range 8) (fun n s => s.setLamp n { s.lamp n with latch := none }) s

/-! ## Exposures and placement (R545, R546) -/

/-- TRIG output `k` is, or is due to be, active at some instant from `a` to `b` ns, by the pulses emitted and the program and slip in
force. (DEDUCED, log entry 166.) -/
def State.exposes (s : State) (k a b : Nat) : Bool :=
  let x := s.trig k
  let past := (x.level || x.fallAt != 0) && decide (a ≤ x.fallAt)
  let due := (s.ns : Int) + s.trigAhead k x.pulse s.ns
  past || (x.active && decide (due ≤ b) && decide ((a : Int) ≤ due + s.get (F.TIME_TRIG_WIDTH k)))

/-- Some exposure of EXPO.MASK meets the interval from `a` to `b` ns. -/
def State.exposed (s : State) (a b : Nat) : Bool :=
  (List.range 24).any (fun k => bitsOf (s.get F.LIGHT_EXPO_MASK) k 1 == 1 && s.exposes k a b)

/-- A pulse that rises now may be measured: no exposure from GUARD before the rise to GUARD after the window closes (R545). -/
def State.placeable (s : State) : Bool :=
  let g := s.get F.LIGHT_EXPO_GUARD * 1000
  !s.exposed (s.ns - g) (s.ns + 4000 + g)

/-- An exposure that a commit or an absorption has moved begins during a placed stretch (R546). -/
def State.expoHits (s : State) : State :=
  forEach (List.range 8) (fun n s =>
    let x := s.lamp n
    if x.on && x.stretch && !x.hit && s.exposed s.ns x.fall then
      ((s.setLamp n { x with hit := true }).mark (F.LIGHT_S_STAT_EXPO_HIT n)).lightWarn 0x5806 [n]
    else s) s

/-- The output of string `n` rises for `w` ns. -/
def State.lampOn (s : State) (n w : Nat) (stretch asked : Bool) : State :=
  let x := s.lamp n
  let s := s.setLamp n { x with
    on := true, rise := s.ns, fall := s.ns + w, stretch := stretch, asked := asked, measured := false, hit := false }
  ((s.put (F.LIGHT_STR_OUT_ON n) (satN 65535 ((w + 3) / 4))).put (F.LIGHT_STR_OUT_N n) (s.lit n)).lightPin n true

/-- The output of string `n` falls. -/
def State.lampLow (s : State) (n : Nat) : State :=
  let x := s.lamp n
  if x.on then (s.setLamp n { x with on := false }).lightPin n false else s

/-- PWM_OFF and STROBE_FALL: the on-time of the pulse has passed. -/
def State.lampOff (s : State) (n : Nat) : State :=
  if (s.lamp n).on && decide ((s.lamp n).fall ≤ s.ns) then s.lampLow n else s

/-- HALT holds every output low (R539). -/
def State.lightHalt (s : State) : State :=
  forEach (List.range 8) (fun n s =>
    let s := s.lampLow n
    if (s.lamp n).haltSkip then s.setLamp n { s.lamp n with haltSkip := false } else s) s

/-- The output may rise at all: rows loaded, lamps lit, and no fault that holds it off, or is about to (R533, R536, R544). -/
def State.lampMay (s : State) (n : Nat) : Bool :=
  s.rowsLoaded && s.lit n != 0 && !s.has (F.LIGHT_S_STAT_OFF_FAULT n)
    && !(s.has (F.LIGHT_STR_CTRL_LAMP_ACT n) && (s.has (F.LIGHT_S_STAT_OPEN n) || s.has (F.LIGHT_S_STAT_SHORT n)))

/-- PWM_PERIOD_START (R535, R537, R545). -/
def State.pwmStart (s : State) (n : Nat) : State :=
  let s := s.lampOff n
  let x := s.lamp n
  if s.get (F.LIGHT_STR_CTRL_MODE n) ≠ 1 ∨ !s.lightRuns ∨ s.toPeriod n ≠ 0 ∨ !s.lampMay n ∨ x.on then s
  else
    let p := s.get F.LIGHT_CFG_PWM_PERIOD
    let on := s.pwmOn n
    let short := decide (0 < on) && decide (on < 1000)
    let count := if short && s.has (F.LIGHT_STR_CTRL_STRETCH_EN n) then x.periods + 1 else x.periods
    let due := short && s.has (F.LIGHT_STR_CTRL_STRETCH_EN n) && decide (1024 ≤ count)
    let ask := x.ask.isSome && s.placeable
    let plain := if s.has (F.LIGHT_S_STAT_LOAD_PEND n) ∧ p < on + 150 then p - 150 else on
    let s := s.setLamp n { x with periods := count }
    if due && s.placeable then
      let s := s.setLamp n { s.lamp n with periods := 0, refused := 0 }
      ((s.put (F.LIGHT_S_STAT_STARVED n) 0).count (F.LIGHT_STR_DIAG_STRETCHES n)).lampOn n 4000 true false
    else
      let s := if due then (s.setLamp n { s.lamp n with refused := x.refused + 1 }).count (F.LIGHT_STR_DIAG_STRETCH_SKIPS n) else s
      if ask && decide (on < 1000) then s.lampOn n 4000 true true
      else if plain = 0 then s.put (F.LIGHT_STR_OUT_ON n) 0
      else s.lampOn n (4 * plain) false ask

/-- STROBE_RISE: a strobe pulse falls due (R538, R539). -/
def State.strobeRise (s : State) (n : Nat) : State :=
  let x := s.lamp n
  if !x.active ∨ s.dev = 0 then s
  else if s.dev = 5 then
    let (s, k) := s.strobeSkip n 0
    let (s, k) := if 0 < s.strobeAhead n (s.lamp n).pulse s.ns ∨ !(s.lamp n).active then (s, k)
      else ((s.strobeGoTo n ((s.lamp n).pulse + 1)).count (F.LIGHT_STR_SKIPPED n), k + 1)
    if k = 0 then s
    else
      let s := s.mark (F.LIGHT_S_STAT_SKIP n)
      if (s.lamp n).haltSkip then s else (s.setLamp n { s.lamp n with haltSkip := true }).lightWarn 0x5811 [n, k]
  else
    let s := s.strobeSweep n
    let ahead := s.strobeAhead n (s.lamp n).pulse s.ns
    if !(s.lamp n).active ∨ 0 < ahead then s
    else if x.on then s.strobeGoTo n ((s.lamp n).pulse + 1)
    else
      let s := s.strobeGoTo n ((s.lamp n).pulse + 1)
      let y := s.lamp n
      let s := s.setLamp n { y with haltSkip := false, periods := y.periods + 1 }
      let w := s.strobeWidth n
      let ask := y.ask.isSome && s.placeable && (s.get (F.LIGHT_STR_CTRL_MODE n) == 2 || decide (4000 ≤ w))
      if !s.lampMay n then s
      else if ask && decide (w < 4000) then s.lampOn n 4000 true true
      else s.lampOn n (w + ahead).toNat false ask

/-- DIAGNOSTIC_PULSE_START: at the midpoint between strobe pulses, in the 1,024th gap after the last placed stretch, or for a
LIGHT_MEASURE (R546, R548). (DEDUCED, log entries 165, 167.) -/
def State.diagnosticPulse (s : State) (n : Nat) : State :=
  let x := s.lamp n
  let next := s.strobeAhead n x.pulse s.ns
  let mid : Int := (s.get (F.LIGHT_STR_PERIOD_NS n) : Int) / 2
  let due := s.has (F.LIGHT_STR_CTRL_STRETCH_EN n) && decide (1024 ≤ x.periods)
  if s.get (F.LIGHT_STR_CTRL_MODE n) ≠ 3 ∨ 4000 ≤ s.strobeWidth n ∨ !s.lightRuns ∨ !s.lampMay n ∨ x.on ∨ !x.active ∨ x.pulse = 0
      ∨ mid < next ∨ next + 4 < mid ∨ !(due || x.ask.isSome) then s
  else if s.placeable && decide (4000 < next) then
    let s := if due then
        ((s.setLamp n { x with periods := 0, refused := 0 }).put (F.LIGHT_S_STAT_STARVED n) 0).count (F.LIGHT_STR_DIAG_STRETCHES n)
      else s
    s.lampOn n 4000 true (!due && x.ask.isSome)
  else if due then (s.setLamp n { x with refused := x.refused + 1 }).count (F.LIGHT_STR_DIAG_STRETCH_SKIPS n)
  else s

/-! ## Lamp measurements (R542 to R544) -/

/-- The judgement of a measurement and its count of shorted lamps (R543): 0 good, 1 open, 2 short. -/
def judgeLamp (v expect vf : Nat) : Nat × Nat :=
  if 2 * expect + vf < 2 * v then (1, 0)
  else if 2 * v + vf < 2 * expect then (2, satN 15 (roundHalfEven ((expect : Int) - v) vf).toNat)
  else (0, 0)

/-- LAMP_MEASUREMENT: the mean of eight conversions in the window that a rise opened (R542, R543). -/
def State.lampMeasurement (s : State) (n : Nat) (codes : List Nat) : State :=
  let x := s.lamp n
  let vf := s.get (F.LIGHT_STR_SENSE_VF n)
  let long := decide (x.rise + 4000 ≤ x.fall) && decide (x.rise + 4000 ≤ s.ns) && (x.on || decide (s.ns ≤ x.fall + 4))
  if codes.length ≠ 8 ∨ vf = 0 ∨ !long ∨ x.measured then s
  else
    let v := (roundHalfEven (codes.sum : Nat) 8).toNat
    let expect := s.get (F.LIGHT_STR_SENSE_V0 n) + s.lit n * vf
    let shown := if expect < 4096 then expect else (Config.outside16 expect).toNat % 4096
    let (j, k) := judgeLamp v expect vf
    let s := (s.setLamp n { x with measured := true }).put (F.LIGHT_STR_MEAS_LAST_V n) v
    let s := s.put (F.LIGHT_STR_MEAS_EXPECT n) shown
    if x.asked then
      let s := s.setLamp n { s.lamp n with ask := none, asked := false }
      forEach (s.cmd.inflight.filter (fun p => p.wait == .measure n)) (fun p s =>
        s.answer p 0 0 [word (v + shown * 2 ^ 16 + j * 2 ^ 28)]) s
    else
      let same := x.run != 0 && x.judged == j && x.count == k
      s.setLamp n { s.lamp n with judged := j, count := k, run := if same then x.run + 1 else 1 }

/-- FAULT_CNT consecutive measurements have agreed on `j`. -/
def State.lampAgreed (s : State) (n j : Nat) : Bool :=
  (s.lamp n).judged == j && decide (s.get (F.LIGHT_STR_SENSE_FAULT_CNT n) ≤ (s.lamp n).run)

/-- LAMP_FAULT_DECLARE (R543). -/
def State.lampDeclare (s : State) (n : Nat) : State :=
  let k := (s.lamp n).count
  if s.lampAgreed n 1 && !s.has (F.LIGHT_S_STAT_OPEN n) then (s.put (F.LIGHT_S_STAT_OPEN n) 1).lightWarn 0x5801 [n]
  else if s.lampAgreed n 2 && !(s.has (F.LIGHT_S_STAT_SHORT n) && s.get (F.LIGHT_S_STAT_SHORTS n) == k) then
    ((s.put (F.LIGHT_S_STAT_SHORT n) 1).put (F.LIGHT_S_STAT_SHORTS n) k).lightWarn 0x5802 [n, k]
  else s

/-- OPEN, SHORT and SHORTS of string `n` clear. -/
def State.lampClearMarks (s : State) (n : Nat) : State :=
  ((s.put (F.LIGHT_S_STAT_OPEN n) 0).put (F.LIGHT_S_STAT_SHORT n) 0).put (F.LIGHT_S_STAT_SHORTS n) 0

/-- LAMP_FAULT_CLEAR (R543). -/
def State.lampClear (s : State) (n : Nat) : State := if s.lampAgreed n 0 then s.lampClearMarks n else s

/-- LAMP_OFF_FAULT: at the next period start or pulse a declared fault holds the string low (R544). -/
def State.lampOffFault (s : State) (n : Nat) : State :=
  if !s.has (F.LIGHT_STR_CTRL_LAMP_ACT n) || !(s.has (F.LIGHT_S_STAT_OPEN n) || s.has (F.LIGHT_S_STAT_SHORT n))
      || s.has (F.LIGHT_S_STAT_OFF_FAULT n) then s
  else ((s.lampLow n).put (F.LIGHT_S_STAT_OFF_FAULT n) 1).lightWarn 0x5803 [n]

/-- STRETCH_STARVED: 1,024 periods in a row have been refused (R545). -/
def State.stretchStarved (s : State) (n : Nat) : State :=
  if (s.lamp n).refused < 1024 ∨ s.has (F.LIGHT_S_STAT_STARVED n) then s
  else (s.put (F.LIGHT_S_STAT_STARVED n) 1).lightWarn 0x5804 [n]

/-! ## Opcodes (R548), commits and resets -/

/-- LIGHT_CLEAR (R548). -/
def opLightClear (p : InFlight) (s : State) : State × Verdict :=
  let n := p.target.toNat
  if 8 ≤ n then (s, malformed 0x58F6)
  else if !p.body.isEmpty then (s, malformed 0x0202)
  else
    let s := (s.lampClearMarks n).put (F.LIGHT_S_STAT_OFF_FAULT n) 0
    (s.setLamp n { s.lamp n with judged := 0, count := 0, run := 0 }, .done [])

/-- LIGHT_MEASURE (R548). -/
def opLightMeasure (p : InFlight) (s : State) : State × Verdict :=
  let n := p.target.toNat
  if 8 ≤ n then (s, malformed 0x58F6)
  else if !p.body.isEmpty then (s, malformed 0x0202)
  else if s.get (F.LIGHT_STR_CTRL_MODE n) = 0 ∨ s.lit n = 0 ∨ s.get (F.LIGHT_STR_SENSE_VF n) = 0 ∨ s.has (F.LIGHT_S_STAT_OFF_FAULT n) then
    (s, refused 0x5820)
  else (s.setLamp n { s.lamp n with ask := some p.order }, .later (.measure n))

/-- What a commit of words of string `n` at frame `f` does besides the words, by its state before (R535, R538, R545). -/
def State.lightCommitted (s old : State) (n f : Nat) : State :=
  let same := fun (g : Nat → Fld) => old.reg (g n).addr == s.reg (g n).addr
  let s := if same F.LIGHT_STR_LAMP_LAMPS then s else s.put (F.LIGHT_S_STAT_LOAD_PEND n) 1
  let enter := s.get (F.LIGHT_STR_CTRL_MODE n) != old.get (F.LIGHT_STR_CTRL_MODE n)
  let s := if enter then s.setLamp n { s.lamp n with periods := 0, refused := 0 } else s
  if same F.LIGHT_STR_CTRL_MODE && same F.LIGHT_STR_START_LO && same F.LIGHT_STR_START_HI && same F.LIGHT_STR_PERIOD_NS
      && same F.LIGHT_STR_WIDTH && same F.LIGHT_STR_COUNT then s
  else s.strobeActivate n f

/-- The step of the time base returns every strobe program to MODE 0 with LATE set (R195). -/
def State.lightStep (s : State) : State :=
  forEach (List.range 8) (fun n s =>
    if s.get (F.LIGHT_STR_CTRL_MODE n) < 2 then s
    else
      let s := ((s.lampLow n).put (F.LIGHT_STR_CTRL_MODE n) 0).mark (F.LIGHT_S_STAT_LATE n)
      s.setLamp n { s.lamp n with active := false, pulse := 0 }) s

/-- RESET_UNIT of LIGHT (R100): MODE 0, fault marks clear, and a pulse in progress completes. -/
def State.lightReset (s : State) : State :=
  let s := s.dropUnit 0x58
  forEach (List.range 8) (fun n s =>
    let x := s.lamp n
    let s := s.setLamp n { x with
      pulse := 0, active := false, haltSkip := false, periods := 0, refused := 0, judged := 0, count := 0, run := 0, ask := none }
    let s := s.putB (F.LIGHT_S_STAT_ON n) x.on
    let s := s.put (F.LIGHT_STR_OUT_N n) (s.lit n)
    s.putB (F.LIGHT_S_STAT_LOAD_PEND n) (x.latch != some (s.get (F.LIGHT_STR_LAMP_PATTERN n), s.get (F.LIGHT_STR_LAMP_LAMPS n)))) s

end Sys2Proof.Machine
end

