-- ==== Sys2Proof/Machine/Err.lean ====
section
/-!
DEFINITION. Sys2Proof/Machine/Err.lean: the release of error records to queue, log and telemetry (spec/17 R580 to R591), checkpoints and
the journal (R596 to R602), memory and DMA timeouts and core restarts (R593 to R595), and the opcodes of
R605.
-/
namespace Sys2Proof.Machine

/-! ## Records (R580) -/

/-- The 64 bytes of a record. -/
def ErrRec.bytes (r : ErrRec) : List Byte :=
  let flag := fun (b : Bool) (n : Nat) => if b then n else 0
  let num := if r.subject.kind = 2 ∨ r.subject.kind = 3 then r.subject.num else 0
  let head := leBytes 1 (r.cls + flag r.fault 8 + flag r.follows 16 + flag r.preempts 32 + flag r.unstepped 64)
    ++ leBytes 1 (r.subject.kind + num * 4) ++ leBytes 2 r.detail ++ leBytes 4 r.number ++ leBytes 8 r.time ++ leBytes 8 r.epoch
    ++ leBytes 2 r.prev ++ leBytes 1 r.origin ++ leBytes 1 (satN 4 r.args.length)
  let args := (List.range 4).flatMap (fun i => leBytes 8 (fieldOf 64 (r.args.getD i 0)))
  head ++ leBytes 4 (crc32 (head ++ args)) ++ args

/-- The sixteen words of a record. -/
def ErrRec.words (r : ErrRec) : List Word := wordsOfBytes r.bytes

/-- What orders the release of records: TIME in clocks, raising unit, subject kind and number, detail (R588). -/
def ErrRec.key (r : ErrRec) : List Nat := [r.clk, r.detail / 256, r.subject.kind, r.subject.num, r.detail]

/-- Whether a record is the event of a CAIRN record (R151, R589). -/
def ErrRec.isCairn (r : ErrRec) : Bool := r.detail == 0x1843

/-- The next record in event log order: the first by key, where the event of a cairn follows every record of its channel whose TIME is
not later than its own (R588, R589). -/
def nextRecord (held : List ErrRec) : Option ErrRec :=
  let sorted := held.mergeSort (fun a b => decide (a.key ≤ b.key))
  sorted.find? (fun r => !(r.isCairn && held.any (fun x => !x.isCairn && x.subject == r.subject && decide (x.clk ≤ r.clk))))

/-! ## Queue (R585) -/

/-- Whether a record is the drop record of R585. -/
def ErrRec.isDrop (r : ErrRec) : Bool := r.detail == 0x6801

/-- QSTAT.DEPTH follows the queue. -/
def State.setQueue (s : State) (q : List ErrRec) : State := ({ s with err := { s.err with queue := q } }).put F.ERR_QSTAT_DEPTH q.length

/-- A record made by ERR itself now. -/
def State.ownRecord (s : State) (detail : Nat) (args : List Int) : ErrRec :=
  { cls := 1, subject := ⟨1, 0x68⟩, detail := detail, number := s.err.next, time := s.ns, clk := s.time.clk, epoch := s.cmd.epoch
    unstepped := s.get F.TIME_STATE == 0, origin := s.originByte, args := args }

/-- The ring of the log holds 32,768 records (R586). -/
def State.logAppend (s : State) (r : ErrRec) : State :=
  let l := s.err.log ++ [r]
  { s with err := { s.err with log := l.drop (l.length - 32768) } }

/-- Number `next` has been given (R586). -/
def State.numbered (s : State) : State :=
  { s with err := { s.err with next := (s.err.next + 1) % 2 ^ 32 }, journal := { s.journal with nextNumber := (s.err.next + 1) % 2 ^ 32 } }

/-- A released record meets the queue; the number of the record dropped, where one is (R585). -/
def State.enqueue (s : State) (r : ErrRec) : State × Option Nat :=
  let q := s.err.queue
  if (q.filter (fun x => !x.isDrop)).length < 64 then
    let s := s.setQueue (q ++ [r])
    ({ s with err := { s.err with dropEpisode := s.err.dropEpisode && q.any ErrRec.isDrop } }, none)
  else if r.cls ≤ 1 then (s.count F.ERR_DROPPED_LOW, some r.number)
  else match q.find? (fun x => decide (x.cls ≤ 1) && !x.isDrop) with
    | some o => ((s.setQueue (q.filter (fun x => x.number != o.number) ++ [r])).count F.ERR_DROPPED_LOW, some o.number)
    | none => (s.count F.ERR_DROPPED_HIGH, some r.number)

/-! ## Log and telemetry (R586, R587, R590) -/

/-- A released record is written to the log: at most 1,000 INFO and WARN records in each 10 ms (R587). -/
def State.logRecord (s : State) (r : ErrRec) : State :=
  let times := s.err.logTimes.filter (fun t => decide (s.ns < t + 10000000))
  if 2 ≤ r.cls ∨ r.detail = 0x6802 then s.logAppend r
  else if times.length < 1000 then
    let s := s.logAppend r
    { s with err := { s.err with logTimes := times ++ [s.ns] } }
  else
    let first := s.err.rateEpisode.isNone
    let s := { s.count F.ERR_LOG_STAT_RATE_DROPPED with err := { s.err with logTimes := times, rateEpisode := some s.ns } }
    if first then s.warn ⟨1, 0x68⟩ 0x6802 [r.number] else s

/-- A released record is offered to the telemetry feed; in a pair only the keeper sends (R590). -/
def State.telRecord (s : State) (r : ErrRec) : State :=
  if !s.has F.ERR_TEL_ENABLE ∨ r.cls < s.get F.ERR_TEL_TEL_SEV ∨ 2 ≤ s.pairRole then s
  else if 16384 < s.err.telBuf.length + 64 then { s with err := { s.err with telLost := s.err.telLost + 1 } }
  else { s with err := { s.err with telBuf := s.err.telBuf ++ r.bytes } }

/-- An MSI-X interrupt at the release of a record of CFG.IRQ_SEV or higher (R606). -/
def State.recordIrq (s : State) (r : ErrRec) : State :=
  if s.get F.ERR_CFG_IRQ_SEV ≤ r.cls then s.emit (.interrupt (s.get F.ERR_CFG_VECTOR)) else s

/-- A released record goes to the log and the telemetry feed, and may interrupt. -/
def State.spread (s : State) (r : ErrRec) : State := ((s.logRecord r).telRecord r).recordIrq r

/-- A drop: at the first of an episode the drop record is queued in the place kept for it, and released with the next number (R585, R586). (DEDUCED, log entry 168.) -/
def State.queueDrop (s : State) (first : Nat) : State :=
  if s.err.dropEpisode then s
  else
    let r := s.ownRecord 0x6801 [first]
    let s := s.numbered.setQueue (s.err.queue ++ [r])
    { s with err := { s.err with dropEpisode := true } }.spread r

/-- One held record is released. -/
def State.releaseRecord (s : State) (r : ErrRec) : State :=
  let s := { s with err := { s.err with held := s.err.held.erase r } }
  let r := { r with number := s.err.next }
  let (s, dropped) := s.numbered.enqueue r
  let s := s.spread r
  match dropped with
  | some n => s.queueDrop n
  | none => s

/-- Every record still held, in order (R598). -/
def State.releaseAll : Nat → State → State
  | 0, s => s
  | n + 1, s => match nextRecord s.err.held with
    | none => s
    | some r => (s.releaseRecord r).releaseAll n

/-- LOG_RATE_EPISODE_END: 10 ms without a record kept out (R587). -/
def State.rateEnd (s : State) : State :=
  match s.err.rateEpisode with
  | some t => if t + 10000000 ≤ s.ns then { s with err := { s.err with rateEpisode := none } } else s
  | none => s

/-- LOG_WRITE_TIMEOUT: the latest log write has not been acknowledged within 1 ms: it is not in the log (R587). (DEDUCED, log entry 169.) -/
def State.logTimeout (s : State) : State :=
  { s.mark F.ERR_LOG_STAT_LOG_FAIL with err := { s.err with log := s.err.log.dropLast } }

/-- TELEMETRY_CHUNK of the ERR source: the gap marker first, then the buffer; in a pair only the keeper sends (R185, R590). -/
def State.errChunk (s : State) (f : Nat) (flush : Bool) : State :=
  if 2 ≤ s.pairRole then s else
  let gap : ErrRec := { cls := 7, subject := ⟨0, 0⟩, detail := 0, args := [s.err.telLost] }
  let input := (if s.err.telLost = 0 then [] else gap.bytes) ++ s.err.telBuf
  let (s', closed) := s.feedChunk f input flush [s.get F.ERR_TEL_PORT, s.get F.ERR_TEL_IP, s.get F.ERR_TEL_UDP]
  if closed then
    let x := s'.feed f
    let keep := x.carry.length % 64
    { (s'.setFeed f { x with carry := x.carry.take keep }) with err := { s'.err with telBuf := x.carry.drop keep, telLost := 0 } }
  else s'

/-- TELEMETRY_CHUNK of the LEDGER source (R185, R352). -/
def State.ledgerChunk (s : State) (f : Nat) (flush : Bool) : State :=
  if 2 ≤ s.pairRole then s else
  let (s', closed) := s.feedChunk f s.ledger.records.flatten flush
    [s.get F.LEDGER_TEL_DEST_PORT, s.get F.LEDGER_TEL_IP, s.get F.LEDGER_TEL_DEST_UDP]
  if closed then
    let x := s'.feed f
    let keep := x.carry.length % 32
    let rest := x.carry.drop keep
    let records := (List.range (rest.length / 32)).map (fun i => (rest.drop (32 * i)).take 32)
    { (s'.setFeed f { x with carry := x.carry.take keep }) with ledger := { s'.ledger with records := records } }
  else s'

/-- TELEMETRY_CHUNK. -/
def State.telemetryChunk (s : State) (f : Nat) (flush : Bool) : State :=
  match (s.feed f).source with
  | 1 => s.ledgerChunk f flush
  | 2 => s.errChunk f flush
  | _ => s

/-! ## The journal (R596 to R600) -/

/-- JSTAT and MRAM_BUSY follow the journal. -/
def State.showJournal (s : State) : State :=
  let j := s.journal
  let s := ((s.putB F.ERR_JSTAT_RUN_VALID (!j.runs.isEmpty)).putB F.ERR_JSTAT_BASE_VALID (!j.bases.isEmpty)).putB F.ERR_JSTAT_WRITING
    (!j.writing.isEmpty)
  let s := s.put F.ERR_JSTAT_REASON (match j.runs with
    | r :: _ => r.reason
    | [] => 0)
  s.putB F.MEM_STAT_MRAM_BUSY (!j.writing.isEmpty || j.writingBase.isSome)

/-- A saved field has been committed or written (R597). -/
def State.noteSaved (s : State) (a : Nat) : State :=
  if savedWord a && rwMask a != 0 then { s with journal := { s.journal with dirty := true } } else s

/-- The BASE image as the words stand (R597). -/
def State.baseWords (s : State) : Tab Word :=
  (s.regs.filter (fun e => savedWord e.1 && rwMask e.1 != 0)).map (fun e => (e.1, e.2 &&& word (rwMask e.1)))

/-- The channel entry of a RUN checkpoint: the channel as it stood after the operations of apply instant `k`, not of those computed since
(R598). -/
def State.runChan (s : State) (c k : Nat) : RunChan :=
  let x := s.sq c
  let at_ : Nat × Nat × Nat := match x.progress.find? (fun e => e.1 == k) with
    | some e => e.2
    | none => (s.get (F.SEQ_LAYER c), s.get (F.SEQ_PROG_TAG c), x.progDone)
  let later := ((s.pow c).evals.filter (fun (e : PowEval) => decide (k < e.f))).foldl (fun n (e : PowEval) => n + e.de) 0
  let here := s.stream.programs.find? (fun (p : Program) => p.chan == c && p.partialRec && !p.complete)
  let (bx, bY, bz) := match x.samples.find? (fun (q : Sample) => q.f == k) with
    | some q => (q.bedX, q.bedY, q.bedZ)
    | none => (x.bedX, x.bedY, x.bedZ)
  { state := s.chAt c k, broken := s.has (F.STREAM_CH_STAGE_BROKEN c), partialRec := here.isSome
    layer := at_.1, progTag := at_.2.1, recsDone := at_.2.2, slip := s.slipAt c k
    x := bx, y := bY, z := bz, energy := s.get64 (F.POWER_ENERGY_LO c) (F.POWER_ENERGY_HI c) - later }

/-- The RUN checkpoint of apply instant `k` (R598). -/
def State.runImage (s : State) (k reason : Nat) : RunImage :=
  { number := s.journal.nextRun, k := k, reason := reason, epoch := s.cmd.epoch, boot := s.journal.bootCount, fwRev := (s.reg 3).toNat
    base := match s.journal.bases with
      | b :: _ => b.number
      | [] => 0
    paramsNewer := s.journal.dirty || s.journal.writingBase.isSome
    chans := (List.range 64).map (fun c => (c, s.runChan c k))
    streams := (List.range 256).map (fun n => (n,
      { state := s.get (F.STREAM_S_STAT_STATE n), bytes := s.get64 (F.STREAM_S_BYTES_LO n) (F.STREAM_S_BYTES_HI n)
        chunk := s.get64 (F.STREAM_S_CHUNK_LO n) (F.STREAM_S_CHUNK_HI n), layer := s.get (F.STREAM_S_LAYER_PARSED n)
        slot := s.get (F.STREAM_S_STAT_CONTEXT n) }))
    axes := (List.range 16).map (fun a => (a,
      { state := s.get (F.AXIS_ASTAT_STATE a), homed := s.has (F.AXIS_ASTAT_HOMED a), counter := s.get (F.FBK_POS a)
        serialOffset := (s.fb a).offset })) }

/-- A checkpoint is taken: its RUN write begins, and with a saved field changed since the newest BASE a BASE write too (R597, R598).
The journal commit of a parked machine goes before the others. (DEDUCED, log entries 170, 225.) -/
def State.checkpoint (s : State) (k reason : Nat) : State :=
  let r := s.runImage k reason
  let j := s.journal
  let base := j.dirty && j.writingBase.isNone
  let s := { s with journal := { j with
    writing := if reason = 3 then r :: j.writing else j.writing ++ [r]
    nextRun := j.nextRun + 1
    writingBase := if base then some ⟨j.nextBase, s.baseWords⟩ else j.writingBase
    nextBase := if base then j.nextBase + 1 else j.nextBase
    dirty := if base then false else j.dirty
    parkedAt := if reason = 3 then some k else j.parkedAt } }
  s.showJournal

/-- CHECKPOINT_PERIODIC (R598, R599). (DEDUCED, log entry 16.) -/
def State.checkpointPeriodic (s : State) (k : Nat) : State :=
  let p := s.get F.ERR_CKPT_CFG_CKPT_MS * 1000
  if p = 0 ∨ k % p ≠ 0 ∨ !s.journal.armed ∨ (s.devAt k ≠ 2 ∧ s.devAt k ≠ 3) then s else s.checkpoint k 0

/-- A layer of the device has completed at `f` (R270, R598): the reason 1 checkpoint. (DEDUCED, log entry 174.) -/
def State.checkpointLayer (s : State) (f : Nat) : State :=
  if !s.journal.layerDue then s
  else
    let s := { s with journal := { s.journal with layerDue := false } }
    if s.has F.ERR_CKPT_CFG_LAYER && s.journal.armed then s.checkpoint f 1 else s

/-- PWRFAIL_N: at the first frame boundary after it, the held records go to the log and the checkpoint follows; a BASE write in progress
has been abandoned (R53, R597, R598). (DEDUCED, log entry 171.) -/
def State.checkpointPwrfail (s : State) (k : Nat) : State :=
  if !s.journal.pwrfailDue then s
  else (({ s with journal := { s.journal with pwrfailDue := false } }).releaseAll s.err.held.length).checkpoint k 2

/-- CHECKPOINT_WRITE_DONE: the copy is whole (R596). Packets that wait for it are answered (R605). -/
def State.checkpointDone (s : State) : State :=
  match s.journal.writing with
  | [] => s
  | r :: t =>
    let s := { s with journal := { s.journal with
      writing := t, runs := (r :: s.journal.runs).take 2, parkedAt := if r.reason = 3 then none else s.journal.parkedAt } }.showJournal
    forEach (s.cmd.inflight.filter (fun p => p.wait == .checkpoint r.number)) (fun p s => s.answer p 0 0 [word r.number]) s

/-- BASE_WRITE_DONE (R596). -/
def State.baseDone (s : State) : State :=
  match s.journal.writingBase with
  | none => s
  | some b => { s with journal := { s.journal with writingBase := none, bases := (b :: s.journal.bases).take 2 } }.showJournal

/-- CHECKPOINT_WRITE_FAIL: the write in progress has failed, and the previous copy stays the newest valid one (R600). (DEDUCED, log entry 172.) -/
def State.checkpointFail (s : State) : State :=
  match s.journal.writing with
  | [] => s
  | r :: t =>
    let s := { s with journal := { s.journal with writing := t, parkedAt := if r.reason = 3 then none else s.journal.parkedAt } }
    (s.showJournal.mark F.ERR_JSTAT_WRITE_FAIL).unitErr 0x68 0x6820 [r.number]

/-- At the instant of HALT a parked machine's checkpoint that is not whole fails (R598). -/
def State.parkedFail (s : State) : State :=
  match s.journal.writing with
  | r :: _ => if s.journal.parkedAt.isSome && r.reason == 3 then s.checkpointFail else s
  | [] => s

/-- The 2,896 words of a RUN checkpoint (R598), by index. -/
def RunImage.word (r : RunImage) (i : Nat) : Word :=
  let entry := fun (b : List Byte) (j : Nat) => BitVec.ofNat 32 (leAt b (4 * j) 4)
  if i < 16 then Config.runHeader [r.number, r.base, r.k, r.reason, r.epoch, r.boot, r.fwRev] i
  else if i < 784 then
    let x := tabGet {} r.chans ((i - 16) / 12)
    let flags := (if x.broken then 1 else 0) + (if x.partialRec then 2 else 0)
    entry (leBytes 1 x.state ++ leBytes 1 flags ++ leBytes 2 0 ++ leBytes 4 x.layer ++ leBytes 4 x.progTag ++ leBytes 8 x.recsDone
      ++ leBytes 8 (fieldOf 64 x.slip) ++ leBytes 4 (fieldOf 32 x.x) ++ leBytes 4 (fieldOf 32 x.y) ++ leBytes 4 (fieldOf 32 x.z)
      ++ leBytes 8 x.energy) ((i - 16) % 12)
  else if i < 2832 then
    let x := tabGet {} r.streams ((i - 784) / 8)
    Config.runEntry 0 [x.state, x.bytes, x.chunk, x.layer, x.slot] ((i - 784) % 8)
  else
    let x := tabGet {} r.axes ((i - 2832) / 4)
    Config.runEntry 1 [x.state, if x.homed then 1 else 0, x.counter, x.serialOffset] ((i - 2832) % 4)

/-! ## DMA, memory and cores (R593 to R595) -/

/-- PCIE_COMPLETION_TIMEOUT of the rings: FETCH_ERR, or WRITE_ERR with the reply whose write failed held again (R92, R593). -/
def State.ringTimeout (s : State) (reply : Bool) : State :=
  if reply then
    match s.host.written with
    | none => s
    | some r =>
      let n := ringWords (s.get F.HOSTIF_RRING_SIZE)
      let h := r :: s.host.held
      let s := { s.mark F.HOSTIF_RING_STAT_WRITE_ERR with host := { s.host with held := h, written := none } }
      (s.put F.HOSTIF_RING_STAT_HELD h.length).put F.HOSTIF_RRING_PROD ((s.get F.HOSTIF_RRING_PROD + n - r.words.length) % n)
  else { s.mark F.HOSTIF_RING_STAT_FETCH_ERR with host := { s.host with fetchStopped := true } }

/-- A core is restarted from its image (R595): UNIT 0x6840 with the core number. -/
def State.coreRestart (s : State) (n : Nat) : State :=
  if s.err.coresDown.contains n then s
  else
    let w := F.ERR_RESTARTS
    let b := bitsOf (s.get w) (8 * n) 8
    let s := s.put w (withBits (s.get w) (8 * n) 8 (satN 255 (b + 1)))
    let recent := s.err.restartsAt.filter (fun e => decide (s.time.clk < e.2 + 250000000))
    ({ s with err := { s.err with coresDown := s.err.coresDown ++ [n], restartsAt := recent ++ [(n, s.time.clk)] } }).unitErr 0x68 0x6840 [n]

/-- REPEATED_RESTART: the third restart of one core within 1 s (R595). -/
def State.repeatedRestart (s : State) (n : Nat) : State :=
  let k := (s.err.restartsAt.filter (fun e => e.1 == n && decide (s.time.clk < e.2 + 250000000))).length
  if k < 3 then s
  else { s with err := { s.err with restartsAt := s.err.restartsAt.filter (fun e => e.1 != n) } }.devErr 0x6841 [n]

/-- CORE_RESTART_COMPLETE (R595). -/
def State.coreBack (s : State) (n : Nat) : State :=
  { s with err := { s.err with coresDown := s.err.coresDown.filter (fun m => m != n) } }

/-- An error in a channel's staging area breaks the program of the oldest staged block, which goes with the program's other blocks (R158,
R594). (DEDUCED, log entry 105.) -/
def State.stagingFault (s : State) (c : Nat) : State :=
  match s.staged c with
  | [] => s
  | b :: _ =>
    let mine := fun (p : Program) => p.stream == b.stream && p.layer == b.layer && p.chan == c && !p.complete
    match s.stream.programs.find? mine with
    | none => s
    | some p =>
      let (s, q) := s.breakProgram p 0x0421
      let gone := (s.staged c).filter (fun (x : Staged) => x.stream == b.stream && x.layer == b.layer)
      let s := s.setStaged c ((s.staged c).filter (fun (x : Staged) => !(x.stream == b.stream && x.layer == b.layer)))
      s.mapPrograms mine (fun _ => { q with discarded := q.discarded + gone.length })

/-- An error in a context image: the slot is BROKEN, and the stream or the job that uses it is stopped (R594). -/
def State.contextFault (s : State) (n : Nat) : State :=
  let s := (s.setSlot n { s.slot n with state := 3 }).slotChanged n
  match (List.range 256).find? (fun i => (s.strm i).holdsSlot && (s.strm i).context == n) with
  | some i => s.stopStream i 0x0422
  | none =>
    let s := s.unitErr 0x04 0x0422 [n]
    match s.jobPacket n, s.pack.jobs.find? (fun (j : Job) => j.slot == n) with
    | some p, some j =>
      if j.engine.isNone then s
      else (s.dropJob n).answer p 1 0x0422 [0, 0, word ((s.slot n).skipBits + (s.slot n).width * 256), word (s.slot n).nextFree]
    | _, _ => s

/-- An uncorrectable error of an LPDDR5 region (R594). `ledger` stands for R345. -/
def State.memFault (s : State) (r : MemRegion) (f : Nat) : State :=
  let s := s.count F.MEM_ECC_UNCORR
  match r with
  | .ledger n => s.ledgerEcc f n
  | .staging c => (s.stagingFault c.val).unitErr 0x04 0x0421 [c.val]
  | .context n => s.contextFault n.val
  | .inbuf n =>
    if s.strmState n.val = 1 ∨ s.strmState n.val = 2 then s.stopStream n.val 0x0424 else s.unitErr 0x04 0x0424 [n.val]
  | .firmware k => (s.unitErr 0x04 0x0425 [k.val]).coreRestart k.val

/-- LPDDR5_TIMEOUT: a request without data is counted and issued once more; a second failure, or data that came with an uncorrectable error, is
handled by the owner of the region (R594, R608). -/
def State.memTimeout (s : State) (noData retryFailed : Bool) (r : MemRegion) : State :=
  let s := if noData then s.count F.MEM_TIMEOUTS_COUNT else s
  let s := if noData && retryFailed then s.count F.MEM_TIMEOUTS_RETRY_FAIL else s
  if noData && !retryFailed then s else s.memFault r s.nextFix

/-! ## Opcodes (R605) -/

/-- ERR_READ. -/
def opErrRead (p : InFlight) (s : State) : State × Verdict :=
  let w := bodyWord p.body 0
  let n := bitsOf w 0 7
  if p.target ≠ 0 then (s, malformed 0x68F6)
  else if p.body.length ≠ 1 then (s, malformed 0x0202)
  else if n = 0 ∨ 64 < n ∨ bitsOf w 7 1 = 1 ∨ bitsOf w 9 23 ≠ 0 then (s, malformed 0x68F6)
  else
    let out := (s.err.queue.take n).flatMap ErrRec.words
    (if bitsOf w 8 1 = 1 then s else s.setQueue (s.err.queue.drop n), .done out)

/-- LOG_READ. -/
def opLogRead (p : InFlight) (s : State) : State × Verdict :=
  let n := bodyWord p.body 1
  if p.target ≠ 0 then (s, malformed 0x68F6)
  else if p.body.length ≠ 2 then (s, malformed 0x0202)
  else if n = 0 ∨ 64 < n then (s, malformed 0x68F6)
  else
    let from_ := bodyWord p.body 0
    let rs := s.err.log.filter (fun r => decide (0 ≤ diff32 r.number from_))
    (s, .done ((rs.take n).flatMap ErrRec.words))

/-- ERR_ACK: the UNIT head of the unit closes. -/
def opErrAck (p : InFlight) (s : State) : State × Verdict :=
  let u := bitsOf p.target.toNat 16 8
  if p.target.toNat ≠ u * 65536 then (s, malformed 0x68F6)
  else if !p.body.isEmpty then (s, malformed 0x0202)
  else if !s.headOpen ⟨1, u⟩ then (s, refused 0x6850)
  else (s.closeHead ⟨1, u⟩, .done [])

/-- JOURNAL_INFO. -/
def opJournalInfo (p : InFlight) (s : State) : State × Verdict :=
  if p.target ≠ 0 then (s, malformed 0x68F6)
  else if !p.body.isEmpty then (s, malformed 0x0202)
  else
    let bit := fun (b : Bool) (n : Nat) => if b then n else 0
    let bv := bit (!s.journal.bases.isEmpty) 2
    let (pk, pn) := match s.journal.runs with
      | _ :: q :: _ => (q.k, q.number)
      | _ => (0, 0)
    (s, .done (match s.journal.runs with
      | [] => [word bv] ++ List.replicate 11 0
      | r :: _ => [word (1 + bv + bit r.paramsNewer 4 + r.reason * 16)] ++ lowHigh r.k ++ [word r.number, word r.base] ++ lowHigh r.epoch
          ++ [word r.boot, word r.fwRev] ++ lowHigh pk ++ [word pn]))

/-- JOURNAL_READ. (DEDUCED, log entry 173.) -/
def opJournalRead (p : InFlight) (s : State) : State × Verdict :=
  let (o, n) := (bodyWord p.body 0, bodyWord p.body 1)
  if p.target ≠ 0 then (s, malformed 0x68F6)
  else if p.body.length ≠ 2 then (s, malformed 0x0202)
  else match s.journal.runs with
    | [] => (s, malformed 0x6862)
    | r :: _ =>
      if n = 0 then (s, malformed 0x68F6)
      else if 2896 < o + n then (s, malformed 0x6862)
      else (s, .done ((List.range n).map (fun i => r.word (o + i))))

/-- CHECKPOINT: it is taken at the first frame boundary after acceptance (R598). -/
def opCheckpoint (p : InFlight) (s : State) : State × Verdict :=
  if p.target ≠ 0 then (s, malformed 0x68F6)
  else if !p.body.isEmpty then (s, malformed 0x0202)
  else if s.dev = 0 ∨ s.dev = 5 then (s, refused 0x6863)
  else (s, .later (.checkpoint 0))

/-- The CHECKPOINTs that wait for a frame boundary are taken at `k`: one checkpoint serves those of one boundary. -/
def State.checkpointAsked (s : State) (k : Nat) : State :=
  let ps := s.cmd.inflight.filter (fun p => p.wait == .checkpoint 0)
  if ps.isEmpty then s
  else
    let n := s.journal.nextRun
    let s := s.checkpoint k 4
    { s with cmd := { s.cmd with inflight := s.cmd.inflight.map (fun p => if p.wait == .checkpoint 0 then { p with wait := .checkpoint n } else p) } }

end Sys2Proof.Machine
end

