-- ==== Sys2Proof/Machine/Husk.lean ====
section
/-!
DEFINITION. Sys2Proof/Machine/Husk.lean: the husk (spec/16): keys, the alarm policy, alarms and their actions, zeroization, and the
husk opcodes.
-/
namespace Sys2Proof.Machine

/-! ## Keys (R552 to R558) -/

/-- SLOTS_LOADED and the SLOT words follow the keys held (R575). -/
def State.showKeys (s : State) : State :=
  let s := s.put F.HUSK_STAT_SLOTS_LOADED s.husk.keys.length
  forEach (List.range 64) (fun i s =>
    let k := tabGet [] s.husk.keys (i + 1)
    (s.putB (F.HUSK_SLOT_LOADED (i + 1)) (!k.isEmpty)).put (F.HUSK_SLOT_KCV (i + 1)) (if k.isEmpty then 0 else keyCheckValue k)) s

/-- The 32 or 40 bytes of a body, byte 0 in bits [7:0] of word 0 (R555). -/
def bodyBytes (b : List Word) (n : Nat) : List Byte := (bytesOfWords b).take n

/-- HUSK_INIT (R555). (DEDUCED, log entry 178.) -/
def opHuskInit (p : InFlight) (s : State) : State × Verdict :=
  if p.path ≠ .pcie then (s, badOpcode 0x6036)
  else if p.target ≠ 0 then (s, malformed 0x60F6)
  else if p.body.length ≠ 8 then (s, malformed 0x0202)
  else if s.get F.HUSK_STAT_STATE = 1 ∨ s.get F.HUSK_STAT_STATE = 2 then (s, refused 0x6030)
  else
    let k := bodyBytes p.body 32
    let v := keyCheckValue k
    let s := { s with husk := { s.husk with dk := some k } }
    ((s.put F.HUSK_STAT_STATE (if s.get F.HUSK_STAT_STATE = 0 then 1 else 2)).put F.HUSK_DK_KCV v, .done [word v])

/-- HUSK_POLICY (R563). -/
def opHuskPolicy (p : InFlight) (s : State) : State × Verdict :=
  let v := bodyWord p.body 0
  if p.target ≠ 0 then (s, malformed 0x60F6)
  else if p.body.length ≠ 1 then (s, malformed 0x0202)
  else if s.get F.HUSK_STAT_STATE ≠ 1 then (s, refused 0x6030)
  else if (List.range 6).any (fun i => bitsOf v (2 * i) 2 == 3) then (s, refused 0x60F6)
  else if bitsOf v 12 4 ≠ 0 ∨ bitsOf v 24 8 ≠ 0 then (s, malformed 0x60F6)
  else ((s.put F.HUSK_POLICY (v + 2 ^ 31)).put F.HUSK_STAT_STATE 2, .done [])

/-- The slot of KEY_LOAD and KEY_CLEAR, with the refusals that they share (R557, R558). -/
def keySlotCheck (p : InFlight) (s : State) : Except Verdict Nat :=
  let n := p.target.toNat
  if 128 ≤ n then .error (malformed 0x60F6)
  else if n = 0 ∨ 64 < n then .error (refused 0x60F6)
  else if s.get F.HUSK_STAT_STATE ≠ 2 then .error (refused 0x6030)
  else if s.has (F.HUSK_SLOT_IN_USE n) then .error (refused 0x6033)
  else .ok n

/-- KEY_LOAD (R557). -/
def opKeyLoad (p : InFlight) (s : State) : State × Verdict :=
  if p.body.length ≠ 10 then (s, malformed 0x0202)
  else match keySlotCheck p s with
    | .error v => (s, v)
    | .ok n =>
      match unwrapKey (s.husk.dk.getD []) (bodyBytes p.body 40) with
      | none => (s.authFail, refused 0x6032)
      | some k =>
        let s := { s with husk := { s.husk with keys := tabPut [] s.husk.keys n k } }
        ((s.put F.HUSK_AUTH_FAILS_RUN 0).showKeys, .done [word (keyCheckValue k)])

/-- KEY_CLEAR (R558). -/
def opKeyClear (p : InFlight) (s : State) : State × Verdict :=
  if p.body ≠ [] then (s, malformed 0x0202)
  else match keySlotCheck p s with
    | .error v => (s, v)
    | .ok n => (({ s with husk := { s.husk with keys := tabPut [] s.husk.keys n [] } }).showKeys, .done [])

/-! ## Alarms (R561 to R571) -/

/-- ISLAND_S (R552). (DESIGN CHOICE, log entry 175.) -/
def State.islandS (s : State) : Nat := (s.husk.islandBase + s.time.clk / 250000000) % 2 ^ 32

/-- The action that the policy gives a source: 0 LOG, 1 STOP, 2 ERASE; in EMPTY alarms are logged only (R563, R564). -/
def State.alarmAction (s : State) (src : Nat) : Nat :=
  if s.get F.HUSK_STAT_STATE = 2 ∨ s.get F.HUSK_STAT_STATE = 3 then bitsOf (s.get F.HUSK_POLICY) (2 * src) 2 else 0

/-- An entry of the alarm log (R565). -/
def State.alarmLog (s : State) (src action : Nat) (battery : Bool) : State :=
  let e := s.get F.HUSK_LOG_HEAD
  let s := (((s.put (F.HUSK_LOG_A_SOURCE e) src).put (F.HUSK_LOG_A_ACTION e) action).putB (F.HUSK_LOG_A_ON_BATTERY e) battery).put (F.HUSK_LOG_A_VALID e) 1
  (s.put (F.HUSK_LOG_B e) s.islandS).put F.HUSK_LOG_HEAD (e + 1)

/-- DK and every slot key are erased (R568). -/
def State.eraseKeys (s : State) : State :=
  let s := { s with husk := { s.husk with dk := none, keys := [] } }
  (s.put F.HUSK_DK_KCV 0).showKeys

/-- STOP (R567): from 1 µs later the gates are closed, the device goes to SAFE_STOP by its error, and a paired device makes a local stop
(R500). -/
def State.huskStop (s : State) (detail src : Nat) : State :=
  let clk := s.time.clk + 250
  let s := if s.has F.HUSK_STAT_STOP then s
    else { s.put F.HUSK_STAT_STOP 1 with husk := { s.husk with gateClk := clk } }
  let s := if !s.paired ∨ s.has F.PAIR_PSTAT_LOCAL_STOP then s
    else { (s.put F.PAIR_PSTAT_LOCAL_STOP 1).unitErr 0x49 0x4940 with husk := { s.husk with syncClk := clk } }
  s.devErr detail [src]

/-- Whether a queued record is counted as encrypted (R569): its stream is, or its program is not of that stream's present opening, so that
where it came from is unknown. (DEDUCED, log entry 200.) -/
def State.sealedRecord (s : State) (c : Nat) (r : Seg) : Bool :=
  s.has (F.STREAM_S_STAT_ENCRYPTED r.stream) || (s.program r.stream r.layer c).isNone

/-- The plaintext of R569 is erased: staging areas and queued records of encrypted streams, plaintext buffers, SEALED contexts; a channel
whose queue is cleared raises 0x6021 and enters FAULT. (DEDUCED, log entry 177.) -/
def State.zeroize (s : State) : State :=
  let enc := fun (n : Nat) => s.has (F.STREAM_S_STAT_ENCRYPTED n)
  let s := forEach (List.range 64) (fun c s =>
    let held := match s.holder c with
      | some n => enc n
      | none => false
    let s := if held && !(s.staged c).isEmpty then s.setStaged c [] else s
    let x := s.sq c
    let hit := fun (q : QRec) => s.sealedRecord c q.seg
    if x.queue.any hit then
      (s.setSq c { x with queue := x.queue.filter (fun q => !hit q) }).raise 2 true ⟨2, c⟩ 0x6021
    else s) s
  let s := forEach (List.range 256) (fun n s =>
    if enc n then s.setStrm n { s.strm n with plain := [], code := [], waiting := none, key := [] } else s) s
  let open_ := fun (b : List Byte) => match slotOfImage b with
    | some x => !x.isSealed
    | none => false
  let s := { s with
    journal := { s.journal with contexts := s.journal.contexts.map (fun e => (e.1, e.2.filter open_)) }
    pack := { s.pack with journaling := s.pack.journaling.filter (fun e => open_ e.2) } }
  forEach (List.range 256) (fun k s =>
    let x := s.slot k
    if x.isSealed then
      (s.setSlot k { persist := x.persist, holder := x.holder, journalValid := !(tabGet [] s.journal.contexts k).isEmpty }).slotChanged k
    else s) s

/-- ERASE (R568): STOP, the keys, the encrypted streams, and the beginning of zeroization. -/
def State.huskErase (s : State) (src : Nat) : State :=
  let s := s.huskStop 0x6011 src
  let s := s.eraseKeys
  let s := if s.get F.HUSK_STAT_STATE = 2 then s.put F.HUSK_STAT_STATE 3 else s
  let s := forEach (List.range 256) (fun n s =>
    if s.has (F.STREAM_S_STAT_ENCRYPTED n) && (s.strmState n == 1 || s.strmState n == 2) then s.stopStream n 0x6020 else s) s
  ((s.put F.HUSK_STAT_ZEROIZING 1).put F.HUSK_STAT_ZEROIZE_PENDING 1).zeroize

/-- A source is raised (R564 to R571): nothing where it is asserted already. On battery, and while the device is held in reset, an alarm can only
log and erase, and a STOP waits for the end of the next boot; a HUSK_ZEROIZE that runs is cut. (DEDUCED, log entries 18, 176.) -/
def State.alarm (s : State) (src : Nat) (battery : Bool) : State :=
  if bitsOf (s.get F.HUSK_STAT_ASSERTED) src 1 = 1 then s
  else
    let s := s.put F.HUSK_STAT_ASSERTED (withBits (s.get F.HUSK_STAT_ASSERTED) src 1 1)
    let s := s.mark F.HUSK_LATCHED (2 ^ src)
    let act := s.alarmAction src
    let keyed := s.get F.HUSK_STAT_STATE == 1
    let dark := battery || s.inReset
    let s := s.alarmLog src (if keyed then 2 else act) battery
    let s := forEach (s.cmd.inflight.filter (fun p => p.wait == .zeroize)) (fun p s => s.answer p 0x10 0x6031 []) s
    if keyed then
      let s := (s.eraseKeys).put F.HUSK_STAT_STATE 0
      if dark then s else s.warn ⟨1, 0x60⟩ 0x6001 [src]
    else if dark then
      (if act = 2 then
        let s := s.eraseKeys
        let s := (if s.get F.HUSK_STAT_STATE = 2 then s.put F.HUSK_STAT_STATE 3 else s).put F.HUSK_STAT_ZEROIZE_PENDING 1
        { s with husk := { s.husk with pendingStop := some src } }
       else if act = 1 then { s with husk := { s.husk with pendingStop := some src } }
       else s)
    else
      let s := s.warn ⟨1, 0x60⟩ 0x6001 [src]
      if act ≤ s.husk.inForce then s
      else
        let s := { s with husk := { s.husk with inForce := act } }
        if act = 2 then s.huskErase src else s.huskStop 0x6010 src

/-- A source ceases to hold its condition (R562). -/
def State.deassert (s : State) (src : Nat) : State :=
  s.put F.HUSK_STAT_ASSERTED (withBits (s.get F.HUSK_STAT_ASSERTED) src 1 0)

/-- A periodic check of a source (R562). -/
def State.sourceCheckAt (s : State) (src : Nat) (bad battery : Bool) : State :=
  if bad then s.alarm src battery else s.deassert src

/-- AUTH: RUN has reached AUTH_LIMIT; the source is raised and RUN returns to 0 (R561). -/
def State.authAlarm (s : State) : State :=
  let lim := bitsOf (s.get F.HUSK_POLICY) 16 8
  if lim = 0 ∨ s.get F.HUSK_AUTH_FAILS_RUN < lim then s
  else ((s.put F.HUSK_AUTH_FAILS_RUN 0).alarm 5 false).deassert 5

/-- Zeroization is complete (R568, R570). A HUSK_ZEROIZE that waits for it clears the policy, returns the island to EMPTY and is answered
(R573). (DEDUCED, log entry 177.) -/
def State.zeroizeDone (s : State) : State :=
  if !s.has F.HUSK_STAT_ZEROIZING then s
  else
    let s := (s.put F.HUSK_STAT_ZEROIZING 0).put F.HUSK_STAT_ZEROIZE_PENDING 0
    match s.cmd.inflight.filter (fun p => p.wait == .zeroize) with
    | [] => s
    | ps => forEach ps (fun p s => s.answer p 0 0 []) ((s.put F.HUSK_POLICY 0).put F.HUSK_STAT_STATE 0)

/-- VBAT_KEY is compared with 2.4 V (R553). -/
def State.vbatCheck (s : State) (millivolts : Nat) : State :=
  let low := decide (millivolts < 2400)
  let was := s.has F.HUSK_STAT_VBAT_LOW
  let s := s.putB F.HUSK_STAT_VBAT_LOW low
  if low && !was then s.warn ⟨1, 0x60⟩ 0x6002 [millivolts] else s

/-- Boot finds the island's contents lost (R553): EMPTY, with LOST. -/
def State.islandLost (s : State) : State :=
  let s := { s with husk := { islandBase := 0, dk := none, keys := [] } }
  let s := (s.dropUnit 0x60).mark F.HUSK_STAT_LOST
  s.warn ⟨1, 0x60⟩ 0x6003

/-- Boot step 6: a pending zeroization erases the SEALED journal images (R570). -/
def State.pendingZeroize (s : State) : State :=
  if s.has F.HUSK_STAT_ZEROIZE_PENDING then
    { s.put F.HUSK_STAT_ZEROIZE_PENDING 0 with journal := { s.journal with contexts := s.journal.contexts.map (fun e =>
        (e.1, e.2.filter (fun b => match slotOfImage b with
          | some x => !x.isSealed
          | none => false))) } }
  else s

/-- The end of boot: a STOP raised on battery takes effect (R565). -/
def State.pendingStop (s : State) : State :=
  match s.husk.pendingStop with
  | none => s
  | some src =>
    let s := { s with husk := { s.husk with pendingStop := none, inForce := 1 } }.mark F.HUSK_LATCHED (2 ^ src)
    (s.warn ⟨1, 0x60⟩ 0x6001 [src]).huskStop 0x6010 src

/-! ## HUSK_ACK and HUSK_ZEROIZE (R572, R573) -/

/-- A source whose action is STOP or ERASE is asserted. -/
def State.stopAsserted (s : State) : Bool :=
  (List.range 6).any (fun c => bitsOf (s.get F.HUSK_STAT_ASSERTED) c 1 == 1 && s.alarmAction c != 0)

/-- HUSK_ACK (R572). -/
def opHuskAck (p : InFlight) (s : State) : State × Verdict :=
  if p.target ≠ 0 then (s, malformed 0x60F6)
  else if p.body ≠ [] then (s, malformed 0x0202)
  else if s.stopAsserted ∨ s.has F.HUSK_STAT_ZEROIZING ∨ s.has F.HUSK_STAT_ZEROIZE_PENDING then (s, refused 0x6034)
  else ({ s.put F.HUSK_STAT_STOP 0 with husk := { s.husk with inForce := 0 } }, .done [])

/-- HUSK_ZEROIZE (R573): logged as source 6, and the erase steps; the rest follows at the end of zeroization. -/
def opHuskZeroize (p : InFlight) (s : State) : State × Verdict :=
  if p.target ≠ 0 then (s, malformed 0x60F6)
  else if p.body.length ≠ 1 then (s, malformed 0x0202)
  else if bodyWord p.body 0 ≠ 0x4F52455A ∨ (s.dev ≠ 1 ∧ s.dev ≠ 5) then (s, refused 0x6037)
  else
    let s := (s.alarmLog 6 2 false).huskErase 6
    ({ s with husk := { s.husk with inForce := 2 } }, .later .zeroize)

end Sys2Proof.Machine
end

