-- ==== Sys2Proof/Machine/Sys.lean ====
section
/-!
DEFINITION. Sys2Proof/Machine/Sys.lean: resets, straps, boot (spec/02 R58 to R72), the safety pins (R46, R47, R53), the analog trip
(R519), PLL losses (R39), and device state requests (spec/01 R26 to R29, R613, R614).
-/
namespace Sys2Proof.Machine

/-! ## Resets (R58 to R61) -/

/-- RESET_CAUSE at a reset: the bits that stay, the bit of this reset, and what preceded it (R61). -/
def State.resetCause (s : State) (keep bit : Nat) : Nat :=
  let has := fun (b : Bool) (n : Nat) => if b then n else 0
  keep ||| bit ||| has s.sys.thermtripLow 16 ||| has s.sys.pwrfailSeen 32
    ||| has (!s.journal.writing.isEmpty || s.journal.writingBase.isSome || s.journal.pwrfailDue) 64

/-- The bits of a HUSK word that the island keeps through a reset; the others have the reset value 0 (R575). -/
def islandMask (a : Nat) : Nat :=
  let w := a % 65536
  if w = 0 then 0x7F33 else if w = 2 ∨ w = 3 then 0 else if 0x100 ≤ w then 0xFFFFFF01 else 0xFFFFFFFF

/-- Every unit at its reset values, with what every reset retains: the MRAM (journal and error log), the key island, fuses and pin
levels. `cause` is the new RESET_CAUSE, `sys` the reset state of SYS. (DEDUCED, log entry 26.) -/
def State.wiped (s : State) (cause : Nat) (sys : SysSt) : State :=
  let husk := (s.regs.filter (fun e => e.1 / 65536 == 0x60 && islandMask e.1 != 0)).map (fun e => (e.1, e.2 &&& word (islandMask e.1)))
  let s' : State := { State.reset with
    pending := s.pending
    regs := husk.filter (fun e => e.2 != 0)
    time := { State.reset.time with clk := s.time.clk }
    err := { next := s.journal.nextNumber, log := s.err.log }
    journal := { s.journal with writing := [], writingBase := none, dirty := true, armed := false, pwrfailDue := false, parkedAt := none, layerDue := false }
    host := { perst := s.host.perst, pcieLost := s.host.pcieLost, pcsLock0 := s.host.pcsLock0, pcsLock1 := s.host.pcsLock1 }
    husk := { s.husk with inForce := 0, gateClk := 0, syncClk := 0 }
    sys := sys
    out := s.out }
  (s'.setReg (wordAddr 0x00 0x22) (word cause)).emit (.signal "RESET" [cause])

/-- SYS at a reset: fuses, pin levels and straps as they are. -/
def State.sysKept (s : State) : SysSt :=
  { serial := s.sys.serial, siRev := s.sys.siRev, minRollback := s.sys.minRollback, keyDigest := s.sys.keyDigest
    straps := s.sys.straps, estop := s.sys.estop, laserEnable := s.sys.laserEnable, pwrfail := s.sys.pwrfail
    pwrfailSeen := s.sys.pwrfail, porst := s.sys.porst, sysrst := s.sys.sysrst, porstClk := s.sys.porstClk }

/-- PORST_N is asserted: everything but MRAM contents and the key island is reset (R58, R59). (DEDUCED, log entries 17, 21.) -/
def State.porstAssert (s : State) : State :=
  if s.sys.porst then s else s.wiped (s.resetCause 0 (if s.sys.sysrst then 3 else 1)) { s.sysKept with porst := true }

/-- STRAPS as latched (R64). -/
def State.latchStraps (s : State) (straps : Nat) : State :=
  (({ s with sys := { s.sys with straps := straps } }.put F.SYS_STRAPS_POS straps).put F.SYS_STRAPS_ROLE (straps / 16)).put
    F.SYS_STRAPS_BOOT (straps / 64)

/-- Boot times and device time count from this release (R66, R194): of PORST_N or SYSRST_N, whichever comes last, or the reset by RESET_UNIT of
SYS. (DESIGN CHOICE, log entry 181.) -/
def State.startClocks (s : State) : State :=
  { s with time := { s.time with now := 0 }, sys := { s.sys with releaseClk := s.time.clk, readStart := s.time.clk } }

/-- The live straps against the latch (R64): MISMATCH is set wherever they differ, with one WARN for each time that they come to differ
(R579). -/
def State.strapsSeen (s : State) : State :=
  if s.sys.straps % 256 = (s.reg (wordAddr 0x00 0x20)).toNat % 256 then { s with sys := { s.sys with strapMismatch := false } }
  else
    let s := s.mark F.SYS_STRAPS_MISMATCH
    if s.sys.strapMismatch then s
    else { s with sys := { s.sys with strapMismatch := true } }.warn ⟨0, 0⟩ Config.strapDetail.toNat

/-- STRAP_MISMATCH: the live levels of the straps have changed (R62, R64). -/
def State.strapsLive (s : State) (live : Nat) : State := { s with sys := { s.sys with straps := live } }.strapsSeen

/-- PORST_N is released: the straps are latched (R62), and boot begins at step 0 once SYSRST_N is released too (R58). BOOT_MS counts from here
(R71). -/
def State.porstRelease (s : State) (straps : Nat) : State :=
  if !s.sys.porst then s
  else ({ s with sys := { s.sys with porst := false, porstClk := s.time.clk } }.latchStraps straps).startClocks

/-- SYSRST_N is asserted, or RESET_UNIT of SYS acts: the main PLL and the strap latch are kept too (R58, R100). While PORST_N is asserted
only the level and the cause of SYSRST_N are noted. -/
def State.sysReset (s : State) (bit : Nat) (pin : Bool) : State :=
  if s.sys.porst then
    (if pin then { s.put F.SYS_RESET_CAUSE_SYSRST 1 with sys := { s.sys with sysrst := true } } else s)
  else if s.sys.sysrst then s
  else
    let latched := (s.reg (wordAddr 0x00 0x20)).toNat % 256
    let cause := s.resetCause (s.reg (wordAddr 0x00 0x22)).toNat bit
    let live := s.sys.straps
    let s := s.wiped cause { s.sysKept with
      sysrst := pin, pll := s.sys.pll, pllOnce := s.sys.pllOnce, thermtripLow := s.sys.thermtripLow }
    let s := s.latchStraps latched
    let s := { s with sys := { s.sys with straps := live } }
    let s := if s.sys.pll then s.put F.SYS_BOOT_STAT_STEP 1 else s
    if pin then s else s.startClocks.strapsSeen

/-- SYSRST_N is released. -/
def State.sysrstRelease (s : State) : State :=
  if !s.sys.sysrst then s
  else
    let s := { s with sys := { s.sys with sysrst := false } }
    if s.sys.porst then s else s.startClocks.strapsSeen

/-! ## Boot (R65 to R71) -/

/-- The boot step shown. -/
def State.step_ (s : State) : Nat := s.get F.SYS_BOOT_STAT_STEP

/-- The device is booting, and the boot has not ended with a failure. -/
def State.booting (s : State) : Bool := s.dev == 0 && !s.sys.bootFailed

/-- The boot ends at step `n` (R67). -/
def State.bootFail (s : State) (n : Nat) (f : Fld) : State :=
  ({ s with sys := { s.sys with bootFailed := true } }.put F.SYS_BOOT_STAT_STEP n).put f 1

/-- MAIN_PLL_LOCK: step 0 is done (R66). (DEDUCED, log entry 20.) -/
def State.pllLock (s : State) : State :=
  if s.sys.pll then s
  else
    let s := { s with sys := { s.sys with pll := true, pllOnce := true } }
    if s.booting && s.step_ == 0 then s.put F.SYS_BOOT_STAT_STEP 1 else s

/-- ROM_START_CHECK: fuses, straps and the key island are checked (R63, R66, R553); the ROM answers from here on (R69), and not at all where
step 1 fails. Step 2 starts no earlier than the latest end of step 1, 1 ms after the release. (DEDUCED, log entry 180.) -/
def State.romStart (s : State) (lost : Bool) : State :=
  if !s.booting || s.step_ != 1 then s
  else if s.get F.SYS_STRAPS_ROLE = 3 ∨ s.get F.SYS_STRAPS_BOOT = 3 then s.bootFail 1 F.SYS_BOOT_STAT_STRAP_BAD
  else
    let s := if lost then s.islandLost else s
    let s := { s with sys := { s.sys with romUp := true, readStart := max s.time.clk (s.sys.releaseClk + 250000) } }
    (s.put F.SYS_BOOT_STAT_STEP 2).put F.SYS_BOOT_STAT_SLOT (if s.get F.SYS_STRAPS_BOOT = 1 then 2 else 0)

/-- BOOT_WINDOW_START: the host has written the image's length to the window (R70). (DEDUCED, log entry 23.) -/
def State.windowStart (s : State) (length : Nat) : State :=
  if !s.booting || s.step_ != 2 || s.get F.SYS_BOOT_STAT_SLOT != 2 || !s.sys.bar2 || s.host.perst then s
  else { s with sys := { s.sys with windowStarted := true, readStart := s.time.clk, image := some { length := length } } }

/-- The latest end of a boot step, in µs after release (R66), without what R67 adds. -/
def stepLimit (n : Nat) : Nat := match n with
  | 0 => 200
  | 1 => 1000
  | 2 => 169000
  | 3 => 171000
  | 4 => 41000
  | 5 => 176000
  | 6 => 226000
  | _ => 230000

/-- IMAGE_READ_DONE: step 2 is done (R66). A read from the window has no latest end (R67), so what it took beyond that of step 2 moves the
later ends. (DESIGN CHOICE, log entry 222.) -/
def State.imageRead (s : State) (image : FwImage) : State :=
  let window := s.get F.SYS_BOOT_STAT_SLOT == 2
  if !s.booting || s.step_ != 2 || (window && !s.sys.windowStarted) then s
  else
    let length := match s.sys.image with
      | some i => if window then i.length else image.length
      | none => image.length
    let used := s.time.clk - s.sys.releaseClk
    let late := if window then used - (stepLimit 2 * 250 + s.sys.bootExtra) else 0
    { s with sys := { s.sys with image := some { image with length := length }, bootExtra := s.sys.bootExtra + late } }.put
      F.SYS_BOOT_STAT_STEP 3

/-- The checks of R65. (DESIGN CHOICE, log entry 22.) -/
def State.imageGood (s : State) (i : FwImage) : Bool :=
  decide (i.length ≤ 8 * 2 ^ 20) && i.fwRev != 0 && decide (s.sys.minRollback ≤ i.rollback)
    && sha384 (toBE 48 i.keyX ++ toBE 48 i.keyY) == s.sys.keyDigest && ecdsaVerify i.keyX i.keyY i.digest i.sigR i.sigS

/-- The source that follows `slot` under STRAP_BOOT (R63). -/
def State.nextSource (s : State) (slot : Nat) : Option Nat :=
  match s.get F.SYS_STRAPS_BOOT, slot with
  | 0, 0 => some 1
  | 2, 0 => some 1
  | 2, 1 => some 2
  | _, _ => none

/-- Boot step 5 begins: the links of the ridge train (R72, R472). (DEDUCED, log entry 237.) -/
def State.linksTrain (s : State) : State :=
  let s := { s with ridge := { s.ridge with trainClk := some s.time.clk } }
  forEach [0, 1, 2, 3] (fun k s => s.put (F.RIDGE_LINK_STAT_STATE k) 1) s

/-- IMAGE_AUTH_CHECK: the image is accepted, or refused with the slot's AUTH_FAIL, and the ROM moves to the next source (R65, R67). -/
def State.imageAuth (s : State) : State :=
  match s.sys.image with
  | none => s
  | some i =>
    if !s.booting || s.step_ != 3 then s
    else if s.imageGood i then
      let s := { s with sys := { s.sys with imageOk := true } }
      if s.sys.trained then (s.put F.SYS_BOOT_STAT_STEP 5).linksTrain else s.put F.SYS_BOOT_STAT_STEP 4
    else
      let slot := s.get F.SYS_BOOT_STAT_SLOT
      let f := if slot = 0 then F.SYS_BOOT_STAT_AUTH_FAIL_A else if slot = 1 then F.SYS_BOOT_STAT_AUTH_FAIL_B else F.SYS_BOOT_STAT_AUTH_FAIL_PCIE
      match s.nextSource slot with
      | none => s.bootFail 3 f
      | some n =>
        let s := { s with sys := { s.sys with
          image := none, windowStarted := false, readStart := s.time.clk
          bootExtra := s.sys.bootExtra + (s.time.clk - s.sys.readStart) } }
        ((s.put f 1).put F.SYS_BOOT_STAT_STEP 2).put F.SYS_BOOT_STAT_SLOT n

/-- LPDDR5_TRAINING_DONE: step 4, beside steps 2 and 3 (R52, R66, R67). -/
def State.trainingDone (s : State) (ok : Bool) : State :=
  if !s.booting || !s.sys.romUp || s.sys.trained then s
  else if !ok then s.bootFail 4 F.SYS_BOOT_STAT_TRAIN_FAIL
  else
    let s := { s with sys := { s.sys with trained := true } }.put F.MEM_STAT_TRAINED 1
    if s.step_ = 4 then (s.put F.SYS_BOOT_STAT_STEP 5).linksTrain else s

/-- FIRMWARE_START: FW_REV is the image's, and BAR2 is disabled (R4, R66, R70). -/
def State.firmwareStart (s : State) : State :=
  match s.sys.image with
  | none => s
  | some i =>
    if !s.booting || !s.sys.imageOk || !s.sys.trained || s.sys.firmware then s
    else
      let s := { s with sys := { s.sys with firmware := true, bar2 := false } }
      (s.setReg (wordAddr 0x00 0x03) i.fwRev).put F.SYS_BOOT_STAT_STEP 6

/-- The journal at step 6: an empty one where its check fails (R68, R586), one boot more otherwise (R119). -/
def State.journalAtBoot (s : State) (ok : Bool) : State :=
  if ok then { s with journal := { s.journal with bootCount := s.journal.bootCount + 1, bad := false } }
  else
    let s := { s with
      journal := { s.journal with bootCount := 1, nextNumber := 0, runs := [], bases := [], contexts := [], bad := true }
      err := { s.err with next := 0, log := [] } }
    s.put F.SYS_BOOT_STAT_JOURNAL_BAD 1

/-- JOURNAL_SCAN: the units are initialized and the device enters READY (R28, R66, R119, R514, R536, R565, R570). -/
def State.journalScan (s : State) (ok : Bool) : State :=
  if !s.booting || s.step_ != 6 || !s.sys.firmware || !s.sys.pll then s
  else
    let s := ((s.journalAtBoot ok).pendingZeroize.loadContexts).showJournal
    let ms := roundHalfEven ((s.time.clk - s.sys.porstClk : Nat) : Int) 250000
    let s := (s.put F.SYS_BOOT_STAT_STEP 7).put F.SYS_BOOT_STAT_BOOT_MS (satN 0xFFFF ms.toNat)
    let s := s.enterDev 1 1
    let s := s.put F.THERM_TSTAT_POWER_BAND (s.get F.THERM_TSTAT_BAND)
    s.rowsReload.pendingStop

/-- What BAR2 returns at an offset: BOOT_STAT at 0x80_0004, while the PCIe window is an allowed source and BAR2 is enabled (R70). -/
def State.windowWord (s : State) (offset : Nat) : Option Word :=
  if s.sys.bar2 && s.get F.SYS_STRAPS_BOOT != 0 && offset == 0x800004 then some (s.reg (wordAddr 0x00 0x21)) else none

/-- BOOT_STEP_TIMEOUT: a step has not completed by its latest end (R66, R67). -/
def State.bootTimeout (s : State) : State :=
  let n := s.step_
  let late := fun (k extra : Nat) => decide (s.sys.releaseClk + stepLimit k * 250 + extra < s.time.clk)
  if !s.booting then s
  else if (n = 2 ∨ n = 3 ∨ n = 4) ∧ !s.sys.trained ∧ late 4 0 then s.bootFail 4 F.SYS_BOOT_STAT_TIMEOUT
  else if n = 2 ∧ s.get F.SYS_BOOT_STAT_SLOT = 2 then s
  else if late n (if n ≤ 1 ∨ n = 4 then 0 else s.sys.bootExtra) then s.bootFail n F.SYS_BOOT_STAT_TIMEOUT
  else s

/-! ## Safety pins (R28, R30, R46, R47, R484) -/

/-- A safety input is at its protective level: an ALONE device in BUILD or DRAIN goes to SAFE_STOP; a pair decides by the keeper's samples
(R28, R484). -/
def State.safetyEdge (s : State) : State := if s.pairRole = 1 ∨ s.pairRole = 2 then s else s.triggerDev 4 6

/-- ESTOP_ASSERT and ESTOP_RELEASE: the releasing edge has been filtered (R47). (DESIGN CHOICE, log entry 179.) -/
def State.setEstop (s : State) (b : Bool) : State :=
  let was := s.sys.estop
  let s := { s with sys := { s.sys with estop := b } }
  if b && !was then s.safetyEdge else s

/-- LASER_ENABLE_RELEASE and LASER_ENABLE_DEASSERT. (DESIGN CHOICE, log entry 179.) -/
def State.setLaser (s : State) (b : Bool) : State :=
  let was := s.sys.laserEnable
  let s := { s with sys := { s.sys with laserEnable := b } }
  if !b && was then s.safetyEdge else s

/-- PWRFAIL_N is asserted: the journal commit, and DEVICE 0x0031 (R53, R597). -/
def State.pwrfailAssert (s : State) : State :=
  if s.sys.pwrfail then s
  else
    let j := s.journal
    let s := { s with
      sys := { s.sys with pwrfail := true, pwrfailSeen := true }
      journal := { j with pwrfailDue := true, writingBase := none, dirty := j.dirty || j.writingBase.isSome } }
    (s.showJournal).devErr 0x0031

/-- PWRFAIL_N is released. -/
def State.pwrfailRelease (s : State) : State := { s with sys := { s.sys with pwrfail := false } }

/-- ANALOG_THERMAL_TRIP (R519): latched, HALT, and no journal commit; `logged` says whether the MRAM port completes the log write. (DEDUCED, log entry 25.) -/
def State.analogTrip (s : State) (logged : Bool) : State :=
  if s.sys.thermtripLow then s
  else
    let s := { s with sys := { s.sys with thermtripLow := true } }
    let s := s.raise 5 false ⟨0, 0⟩ 0x5040
    if logged then s else { s with err := { s.err with held := s.err.held.filter (fun r => r.detail != 0x5040) } }

/-- MAIN_PLL_LOSS: HALT at once (R28, R39); before the first lock nothing is lost. (DEDUCED, log entry 24.) -/
def State.pllLoss (s : State) : State :=
  if !s.sys.pll then s
  else
    let s := { s with sys := { s.sys with pll := false } }
    if s.dev = 5 then s.recordDisplaced ⟨0, 0⟩ 5 5 else s.haltNow

/-! ## Device state requests (R28, R29, R614) -/

/-- The transition that a request of DEV_STATE asks for: its CAUSE and its target (R26, R28). -/
def devRequest (bit : Nat) : Nat × Nat := match bit with
  | 8 => (2, 2)
  | 9 => (3, 3)
  | 10 => (5, 4)
  | _ => (0xB, 1)

/-- The checks of a request against the state `st` and the conditions of R28; none where it may act. (DEDUCED, log entry 41.) -/
def State.requestCheck (s : State) (bit st : Nat) : Option Nat :=
  let (cause, _) := devRequest bit
  if devTransition st cause = none then some 0x00F5
  else if bit = 8 ∧ !s.timeReady then some 0x0011
  else if bit = 11 ∧ s.standing ≠ 0 then some 0x0012
  else none

/-- A request written to DEV_STATE is accepted for apply instant q + 20 (R614). `q` is the first frame boundary after acceptance, on a
pair the keeper's. One that was staged is tested when its batch applies, and lapses where its transition is not available. GO_BUILD arms the
checkpoints (R599). -/
def State.acceptRequest (s : State) (bit q : Nat) : State :=
  let (cause, target) := devRequest bit
  if (s.requestCheck bit s.dev).isSome then s.info ⟨0, 0⟩ 0x0013 [target] else
  let s := if bit = 8 then { s with journal := { s.journal with armed := true } } else s
  { s with sys := { s.sys with requests := s.sys.requests ++ [{ at_ := q + 20, target := target, cause := cause, request := true }] } }

/-- The bit of DEV_STATE that asks for a CAUSE. -/
def requestBit (cause : Nat) : Nat := match cause with
  | 2 => 8
  | 3 => 9
  | 5 => 10
  | _ => 11

/-- DEV_STATE_REQUEST_ACT: the requests of apply instant `f` are tested again: each lapses with INFO 0x0013, or is resolved with the other
triggers of that instant (R29, R614). (DEDUCED, log entry 27.) -/
def State.requestsAct (s : State) (f : Nat) : State :=
  let due := s.sys.requests.filter (fun (t : DevTrigger) => decide (t.at_ ≤ f))
  let s := { s with sys := { s.sys with requests := s.sys.requests.filter (fun (t : DevTrigger) => !decide (t.at_ ≤ f)) } }
  forEach due (fun (t : DevTrigger) s =>
    if (s.requestCheck (requestBit t.cause) (s.devAt f)).isNone then s.addDevTrigger { t with at_ := f }
    else s.info ⟨0, 0⟩ 0x0013 [t.target]) s

/-- HALT follows the parked scanners at the instant of R598; the frame computation of that instant and of later ones knows it. (DEDUCED, log entry 28.) -/
def State.haltDecide (s : State) (f : Nat) : State :=
  match s.sys.haltAt with
  | none => s
  | some h =>
    if f < h ∨ s.devAt h ≠ 4 then s
    else
      let t := s.decideDev h 5 9
      { t with sys := { t.sys with haltAt := some h } }

/-- HALT_AFTER_PARK, at apply instant `f`: the device is in HALT, whether or not the checkpoint is whole, and one that is not whole has
failed (R598, R600). -/
def State.haltAfterPark (s : State) (f : Nat) : State :=
  if s.sys.haltAt ≠ some f then s
  else
    let t := ((s.haltDecide f).settle).parkedFail
    { t with sys := { t.sys with haltAt := none } }

/-! ## Output groups (R48, R59, R72) -/

/-- How a group of outputs is driven. -/
inductive Drive where
  | electricalIdle | idleSymbols | training | linkUp | operating | highZ | drivenLow | romRead | quiet | pulledLow | released
deriving DecidableEq, Repr

/-- The code under which an OUTPUTS signal names a drive. -/
def Drive.code : Drive → Nat
  | .electricalIdle => 0
  | .idleSymbols => 1
  | .training => 2
  | .linkUp => 3
  | .operating => 4
  | .highZ => 5
  | .drivenLow => 6
  | .romRead => 7
  | .quiet => 8
  | .pulledLow => 9
  | .released => 10

/-- The groups STN_TX, RDG_TX, ETH_TX, PCIE_TX, the TRIG and axis outputs, the LED outputs, QSPI and FAULT_N, by stage (R59, R72). A group
that operates is driven as its unit's rules say. (DESIGN CHOICE, log entry 223.) -/
def State.outputs (s : State) : List Drive :=
  let fault := if s.sys.faultLow then Drive.pulledLow else .released
  let pcie := fun (up : Drive) => if s.host.perst then Drive.electricalIdle else if s.host.pcieLost then .training else up
  let driven := if s.drivesOutputs then Drive.operating else .highZ
  if s.inReset then [.electricalIdle, .electricalIdle, .electricalIdle, .electricalIdle, .highZ, .highZ, .highZ, .pulledLow]
  else if s.dev ≠ 0 then [.operating, .operating, .operating, pcie .operating, driven, driven, .quiet, fault]
  else if s.step_ ≤ 1 then
    [if s.sys.pll then .idleSymbols else .electricalIdle, .electricalIdle, .electricalIdle, pcie .training, .drivenLow, .drivenLow, .highZ, fault]
  else if s.step_ ≤ 4 then
    [.idleSymbols, .electricalIdle, .electricalIdle, pcie .linkUp, .drivenLow, .drivenLow, .romRead, fault]
  else [.idleSymbols, .training, .operating, pcie .linkUp, .drivenLow, .drivenLow, .quiet, fault]

/-- A change of how the output groups are driven is put out. -/
def State.showOutputs (old new : State) : State :=
  if new.outputs = old.outputs then new else new.emit (.signal "OUTPUTS" (new.outputs.map (fun d => (d.code : Int))))

end Sys2Proof.Machine
end

