-- ==== Sys2Proof/Machine/View.lean ====
section
/-!
DEFINITION. Sys2Proof/Machine/View.lean: reading parameter words (spec/03 R114 to R117): the words and fields whose value is computed
from the state when they are read, RC fields cleared by a read (R7, R10), and the results of IDENT, GET_PARAM and SNAPSHOT.
-/
namespace Sys2Proof.Machine

/-- A word with a field replaced. -/
def fieldIn (f : Fld) (v : Nat) (w : Nat) : Nat := withBits w f.lo f.width v

/-- A one-bit field replaced. -/
def bitIn (f : Fld) (b : Bool) (w : Nat) : Nat := fieldIn f (if b then 1 else 0) w

/-- CH_STAT of channel `c` (R280). (DEDUCED, log entry 73.) -/
def State.chStat (s : State) (c : Nat) : Nat :=
  let x := s.sq c
  let run := x.active.filter (fun (a : Active) => a.seg.lasting)
  let late := s.get (F.SEQ_LAG c) != 0
  let deferred := match x.samples with
    | q :: _ => q.deferred
    | [] => false
  let type := match run.getLast? with
    | some a => a.seg.type
    | none => 0
  let w := (s.reg (F.SEQ_CH_STAT_ACTIVE c).addr).toNat
  let w := bitIn (F.SEQ_CH_STAT_ACTIVE c) (!run.isEmpty) w
  let w := bitIn (F.SEQ_CH_STAT_BLEND c) (decide (2 ≤ run.length)) w
  let w := bitIn (F.SEQ_CH_STAT_STARVED c) x.starved w
  let w := bitIn (F.SEQ_CH_STAT_LAGGING c) late w
  let w := bitIn (F.SEQ_CH_STAT_HOLD_PENDING c) (x.holdFrom.isSome || (x.requests ++ x.triggers).any (fun (t : ChTrigger) => t.target == 4)) w
  let w := bitIn (F.SEQ_CH_STAT_DEFERRED c) deferred w
  let w := bitIn (F.SEQ_CH_STAT_PARKING c) x.park.isSome w
  let w := fieldIn (F.SEQ_CH_STAT_REC_TYPE c) type w
  fieldIn (F.SEQ_CH_STAT_QUEUE_DEPTH c) (x.queue.length + x.active.length) w

/-- The bed setpoint of channel `c` at the snapshot frame (R280). -/
def State.bedAt (s : State) (c q : Nat) : Int × Int × Int :=
  let x := s.sq c
  match x.samples.find? (fun (p : Sample) => p.f == q) with
  | some p => (p.bedX, p.bedY, p.bedZ)
  | none => (x.bedX, x.bedY, x.bedZ)

/-- Writes in a path's staged batch (R108). -/
def State.batch (s : State) (p : Path) : List StagedWrite := match p with
  | .pcie => s.cmd.batchPcie
  | .eth0 => s.cmd.batchEth0
  | .eth1 => s.cmd.batchEth1
  | .ridge => s.cmd.batchRidge

/-- The state with a path's staged batch replaced. -/
def State.setBatch (s : State) (p : Path) (b : List StagedWrite) : State := match p with
  | .pcie => { s with cmd := { s.cmd with batchPcie := b } }
  | .eth0 => { s with cmd := { s.cmd with batchEth0 := b } }
  | .eth1 => { s with cmd := { s.cmd with batchEth1 := b } }
  | .ridge => { s with cmd := { s.cmd with batchRidge := b } }

/-- The rings run: enabled and without an error (R89). -/
def State.ringRuns (s : State) : Bool :=
  s.has F.HOSTIF_RING_CTRL_ENABLE && bitsOf (s.reg F.HOSTIF_RING_STAT_RUNNING.addr).toNat 1 4 == 0

/-- Parameter word `a` as a read at the frame boundary of `q` µs returns it, before RC fields clear. CMD and WO fields read 0 (R7). (DEDUCED, log entry 32.) -/
def State.viewWord (s : State) (q a : Nat) : Word :=
  let w := (s.reg a).toNat
  let (u, c, i) := splitAddr a
  let v : Nat :=
    if u = 0x00 then
      (if i = 0x02 then s.sys.siRev
       else if i = 0x11 then s.standing
       else if i = 0x20 then withBits w 16 8 s.sys.straps
       else w)
    else if u = 0x01 then (if i = 0x0B then bitIn F.HOSTIF_RING_STAT_RUNNING s.ringRuns w else w)
    else if u = 0x02 then
      (if i = 0 then s.cmd.epoch
       else if i = 1 then s.cmd.epoch / 2 ^ 32
       else if i = 0x0C then s.cmd.batchPcie.length
       else if i = 0x0D then s.cmd.batchEth0.length
       else if i = 0x0E then s.cmd.batchEth1.length
       else if i = 0x11 then s.cmd.scheduled.length
       else w)
    else if u = 0x08 then
      (if i = 1 then s.time.now
       else if i = 2 then s.time.now / 2 ^ 32
       else if i = 3 then s.time.now / 2 ^ 64
       else if i = 9 ∧ s.get F.TIME_STATE = 2 then s.holdoverMs
       else w)
    else if u = 0x18 then
      (if i = 1 then s.chStat c
       else if i = 0x0A then fieldOf 32 (s.bedAt c q).1
       else if i = 0x0B then fieldOf 32 (s.bedAt c q).2.1
       else if i = 0x0C then fieldOf 32 (s.bedAt c q).2.2
       else if i = 0x10 then fieldOf 64 (s.slipAt c q)
       else if i = 0x11 then fieldOf 64 (s.slipAt c q) / 2 ^ 32
       else w)
    else if u = 0x48 then (if i = 0x12 then s.presentWord else w)
    else if u = 0x60 then (if i = 5 then s.islandS else w)
    else if u = 0x68 then
      (if i = 2 then s.err.next
       else if i = 3 then (match s.err.log with
         | r :: _ => r.number
         | [] => s.err.next)
       else w)
    else w
  word v

/-- The state with the RC fields of the read words cleared (R10). -/
def State.clearRead (s : State) (as : List Nat) : State :=
  forEach as (fun a s => match findWord a with
    | some r =>
      let m := accessMask r .rc
      if m = 0 then s else s.setReg a (s.reg a &&& ~~~(word m))
    | none => s) s

/-- A read of words at the frame boundary of `q` µs: every word first, then the RC fields clear (R10, R114). -/
def State.readWords (s : State) (q : Nat) (as : List Nat) : State × List Word :=
  (s.clearRead as, as.map (fun a => s.viewWord q a))

/-- The result words of IDENT (R99). Its path field names the three host paths; on the ridge path it is open. -/
def State.identWords (s : State) (q : Nat) (p : Path) : List Word :=
  let path := match p with
    | .pcie => 0
    | .eth0 => 1
    | .eth1 => 2
    | .ridge => Config.ridgePathCode.toNat
  [s.viewWord q 0, s.viewWord q 1, s.viewWord q 2, s.viewWord q 3] ++ lowHigh s.sys.serial
    ++ [s.viewWord q 0x20, word (s.dev + s.cascadeRole * 2 ^ 4 + s.pairRole * 2 ^ 8 + path * 2 ^ 12)]

/-- The entries of a SNAPSHOT packet (R116). -/
def snapshotEntries (p : InFlight) : List SnapEntry :=
  let ctl := bodyWord p.body 0
  snapEntries p.body (if bitsOf ctl 8 1 = 1 then 3 else 1) (bitsOf ctl 0 7)

/-- The addresses that a GET_PARAM or SNAPSHOT packet reads, in order (R115, R116). -/
def readAddrs (p : InFlight) : List Nat :=
  if p.opcode = 0x02 then (List.range (bodyWord p.body 0)).map (fun i => p.target.toNat + i)
  else if p.opcode = 0x05 then (snapshotEntries p).flatMap SnapEntry.addrs
  else []

/-- What a read packet returns at the boundary of `q` µs, and the state after it. -/
def State.readPacket (s : State) (p : InFlight) (q : Nat) : State × List Word :=
  if p.opcode = 0x01 then (s, s.identWords q p.path) else s.readWords q (readAddrs p)

end Sys2Proof.Machine
end

