-- ==== Sys2Proof/Machine/Cmd.lean ====
section
/-!
DEFINITION. Sys2Proof/Machine/Cmd.lean: writes, batches and commits (spec/03 R105 to R112): the checks that a write meets, what a write
does beside changing its word, COMMIT and the application of a batch, the system opcodes, and JOURNAL_RESTORE (spec/17 R602).
-/
namespace Sys2Proof.Machine

/-! ## Checks of writes (R103 to R109) -/

/-- The state with the words of a list of writes changed, and nothing else. -/
def State.withWrites (s : State) (ws : List StagedWrite) : State := forEach ws (fun w s => s.writeWord w) s

/-- A coefficient bank word: its detail, and the field that selects the bank with the bank's number (R293, R314, R327). -/
def bankOf (a : Nat) : Option (Nat × Fld × Nat) :=
  let (u, c, w) := splitAddr a
  if u = 0x20 ∧ 0x40 ≤ w ∧ w < 0x100 then
    let x := (w - 0x40) / 0x40
    some (0x2031, (if x = 0 then F.LOOP_CTRL_BANK_X c else if x = 1 then F.LOOP_CTRL_BANK_Y c else F.LOOP_CTRL_BANK_Z c), w / 0x20 % 2)
  else if u = 0x28 ∧ 0x80 ≤ w ∧ w < 0xA0 then some (0x2831, F.POWER_PCTRL_BANK c, w / 0x10 % 2)
  else if u = 0x38 ∧ 0x400 ≤ w ∧ w < 0x800 ∧ 0x08 ≤ w % 0x40 ∧ w % 0x40 < 0x18 then
    some (0x3831, F.AXIS_LCTRL_BANK ((w - 0x400) / 0x40), (w % 0x40 - 8) / 8)
  else none

/-- Whether a bank is in force, or will be by a scheduled commit (R293). -/
def State.bankUsed (s : State) (f : Fld) (b : Nat) : Bool :=
  s.get f == b || s.cmd.scheduled.any (fun (x : Scheduled) => (s.inForce x.f).get f == b)

/-- A host request of CH_STATE tested (R34, R263): its detail where it is not available. -/
def State.chRequestError (s : State) (c kind : Nat) : Option Nat :=
  if s.requestOk c (s.ch c) s.us kind then none
  else if kind = 9 ∧ !s.sys.laserEnable then some 0x1801
  else if kind = 9 ∧ !s.programQueued c then some 0x1802
  else some 0x18F5

/-- The bits of a CMD word that a write starts. -/
def startedBits (w : StagedWrite) (lo n : Nat) : List Nat :=
  ((List.range n).map (· + lo)).filter (fun i => bitsOf (w.value &&& w.mask).toNat i 1 == 1)

/-- T1 below T2 below T3 below T4 (R528). -/
def State.bandsRise (w : State) : Bool :=
  decide (w.getI F.THERM_BAND_T12_T1 < w.getI F.THERM_BAND_T12_T2) && decide (w.getI F.THERM_BAND_T12_T2 < w.getI F.THERM_BAND_T34_T3)
    && decide (w.getI F.THERM_BAND_T34_T3 < w.getI F.THERM_BAND_T34_T4)

/-- The two telemetry sources are enabled onto one feed (R187). -/
def State.feedShared (w : State) : Bool :=
  w.has F.LEDGER_TEL_DEST_ENABLE && w.has F.ERR_TEL_ENABLE && w.get F.LEDGER_TEL_DEST_FEED == w.get F.ERR_TEL_FEED

/-- The rules of one word beside its fields' ranges. Rules that span words are judged on a staged write at its COMMIT (R109). `after` holds the values that would stand after the packet. Requests are tested at
acceptance, so only for a direct write; a staged write may reach a bank in force (R296). -/
def State.wordRule (s after : State) (direct : Bool) (w : StagedWrite) : Option Verdict :=
  let (u, c, i) := splitAddr w.addr
  let no := fun (b : Bool) (d : Nat) => if b then some (refused d) else none
  if u = 0x00 ∧ i = 0x10 then
    (if direct then (startedBits w 8 4).findSome? (fun b => (s.requestCheck b s.dev).map refused) else none)
  else if u = 0x01 ∧ i = 0x0A then no (starts w F.HOSTIF_RING_CTRL_RESET && s.has F.HOSTIF_RING_CTRL_ENABLE) 0x01F5
  else if u = 0x10 ∧ i = 0 then
    no ((List.range 256).any (fun n => s.strmState n == 1 || s.strmState n == 2 || s.strmState n == 3)) 0x10F5
  else if u = 0x18 ∧ i = 0 then
    (if direct then (startedBits w 8 7).findSome? (fun k => (s.chRequestError c k).map refused) else none)
  else if u = 0x21 ∧ 0x10 ≤ i ∧ i < 0x30 then no (s.get F.TRACE_TSTAT_STATE == 1 || s.get F.TRACE_TSTAT_STATE == 2) 0x21F5
  else if u = 0x29 ∧ i < 3 then no (s.dev != 1 && s.dev != 5) 0x29F5
  else if u = 0x40 ∧ i = 0x10 then no (s.ch c != 0) 0x40F5
  else if u = 0x40 ∧ i = 0x11 then
    (if s.has (F.STN_SB_STAT_BUSY c) then some (.bad 0x11 0x40F0)
     else if !starts w (F.STN_SB_CTRL_GO c) || !direct then none
     else if s.get (F.STN_LINK_STAT_STATE c) < 2 then some (refused 0x40F5)
     else no (after.has (F.STN_SB_CTRL_WRITE c) && decide (after.get (F.STN_SB_CTRL_ADDR c) < 0x100)) 0x4051)
  else if u = 0x50 ∧ (i = 1 ∨ i = 2) then no (direct && !after.bandsRise) 0x50F6
  else if (u = 0x29 ∧ i = 4) ∨ (u = 0x68 ∧ i = 9) then no (direct && after.feedShared) 0x1117
  else match bankOf w.addr with
    | some (d, f, b) => no (direct && s.bankUsed f b) d
    | none => none

/-- A write to a commit word (R106). Word 0x3A of SEQ is a reserved one (R280). -/
def commitWord (a : Nat) : Bool := match findWord a with
  | some r => r.commit
  | none => let (u, _, w) := splitAddr a; u == 0x18 && w == 0x3A

/-- Every check of the writes of one SET_PARAM (R104): commit words in a direct write (R106), cascade words away from the summit (R15), field
ranges, and the rules of each word. A staged packet is judged on the batch it joins (R109). (DEDUCED, log entries 38, 45.) -/
def State.writesError (s : State) (path : Path) (direct : Bool) (ws : List StagedWrite) : Option Verdict :=
  let base := if direct then s else s.withWrites (s.batch path)
  let after := base.withWrites ws
  let first := fun (p : Nat → Bool) (d : Nat) => (ws.find? (fun w => p w.addr)).map (fun w => refused (unitDetail w.addr d))
  (if direct then first commitWord 0xF4 else none)
    <|> (if s.cascadeRole ≠ 1 ∨ path = .ridge then first cascadeWord 0xF1 else none)
    <|> ws.findSome? (fun w => match findWord w.addr with
      | some r =>
        if fieldsInRange r w.addr w.mask.toNat (mergeBits (base.reg w.addr) w.mask w.value).toNat then none
        else some (refused (unitDetail w.addr 0xF6))
      | none => none)
    <|> ws.findSome? (fun w => s.wordRule after direct w)

/-! ## What writes do (R7, R107) -/

/-- Held replies are written while the reply ring takes them (R91). -/
def State.drainHeld : Nat → State → State
  | 0, s => s
  | n + 1, s => match s.host.held with
    | [] => s
    | r :: t =>
      if s.ringTakes r then
        (({ s with host := { s.host with held := t } }.ringWrite r).put F.HOSTIF_RING_STAT_HELD t.length).drainHeld n
      else s

/-- The ring is reset: its four indices and the error bits of RING_STAT clear, and fetching may begin again (R89, R92). (DEDUCED, log entry 49.) -/
def State.ringReset (s : State) : State :=
  let s := ((s.put F.HOSTIF_CRING_PROD 0).put F.HOSTIF_CRING_CONS 0).put F.HOSTIF_RRING_PROD 0
  let s := (((s.put F.HOSTIF_RRING_CONS 0).put F.HOSTIF_RING_STAT_PARSE_ERR 0).put F.HOSTIF_RING_STAT_FETCH_ERR 0).put
    F.HOSTIF_RING_STAT_WRITE_ERR 0
  { s.put F.HOSTIF_RING_STAT_CFG_ERR 0 with host := { s.host with fetchStopped := false, written := none } }

/-- The source list and the kept outcomes of a port are cleared (R96). -/
def State.clearSources (s : State) (port : Bool) : State :=
  { s with host := { s.host with sources := s.host.sources.filter (fun (x : Source) => x.port != port) } }

/-- A request of CH_STATE is accepted for apply instant q + 20 (R263). One that was staged is tested when its batch applies, and lapses where
its transition is not available. (DEDUCED, log entries 39, 42.) -/
def State.acceptChRequest (s : State) (c kind q : Nat) : State :=
  let x := s.sq c
  if (s.chRequestError c kind).isSome then s.info ⟨2, c⟩ 0x1803 [requestTarget kind]
  else s.setSq c { x with requests := x.requests ++ [{ at_ := q + 20, target := requestTarget kind, cause := 0, kind := kind }] }

/-- What one write does beside changing its word, once all words of its packet or batch have changed. `old` is the state before them, `q` the
frame boundary from which requests count. -/
def State.writeEffect (old : State) (q : Nat) (w : StagedWrite) (s : State) : State :=
  let (u, c, i) := splitAddr w.addr
  let s := s.noteSaved w.addr
  if u = 0x00 ∧ i = 0x10 then forEach (startedBits w 8 4) (fun b s => s.acceptRequest b q) s
  else if u = 0x01 ∧ (i = 0x09 ∨ i = 0x0A ∨ i = 0x0B) then
    let s := if i = 0x0A ∧ starts w F.HOSTIF_RING_CTRL_RESET then s.ringReset else s
    s.drainHeld s.host.held.length
  else if u = 0x01 ∧ i = 0x03 then s.emit (.signal "RING_FETCH" [s.get F.HOSTIF_CRING_PROD])
  else if u = 0x08 ∧ i = 0x10 then
    if s.get F.TIME_CFG_SOURCE ≠ old.get F.TIME_CFG_SOURCE ∨ s.get F.TIME_CFG_PTP_PORT ≠ old.get F.TIME_CFG_PTP_PORT then s.timeCfgChanged
    else s
  else if u = 0x09 then
    let s := if s.get F.NET_IPV4_ADDR0 ≠ old.get F.NET_IPV4_ADDR0 ∨ s.get F.NET_CMD_UDP_ENABLE0 ≠ old.get F.NET_CMD_UDP_ENABLE0 then
        s.clearSources false else s
    if s.get F.NET_IPV4_ADDR1 ≠ old.get F.NET_IPV4_ADDR1 ∨ s.get F.NET_CMD_UDP_ENABLE1 ≠ old.get F.NET_CMD_UDP_ENABLE1 then
      s.clearSources true else s
  else if (u = 0x29 ∧ i = 4) ∨ (u = 0x68 ∧ i = 9) ∨ (u = 0x11 ∧ i = 0x20) then s.feedSync
  else if u = 0x18 ∧ i = 0 then forEach (startedBits w 8 7) (fun k s => s.acceptChRequest c k q) s
  else if u = 0x39 ∧ i % 0x20 = 0 then
    let a := i / 0x20
    if s.get (F.FBK_FCFG_SRC a) = 3 ∧ old.get (F.FBK_FCFG_SRC a) ≠ 3 then s.wantRun (68 + a) else s
  else if u = 0x40 ∧ i = 0x10 then (if !s.has (F.STN_CFG_ENABLE c) && old.has (F.STN_CFG_ENABLE c) then s.portDown c else s)
  else if u = 0x40 ∧ i = 0x11 then (if starts w (F.STN_SB_CTRL_GO c) && !s.has (F.STN_SB_STAT_BUSY c) then s.sbGo c else s)
  else s

/-- HOSTIF words that give a ring its base and size. -/
def ringCfgWord (a : Nat) : Bool :=
  a / 65536 == 0x01 && (a % 65536 == 0 || a % 65536 == 1 || a % 65536 == 2 || a % 65536 == 5 || a % 65536 == 6 || a % 65536 == 7)

/-- Writes take effect in one TIME clock (R107). A base or size written while the rings are enabled has no effect and sets CFG_ERR (R89). -/
def State.takeWrites (s : State) (ws : List StagedWrite) (q : Nat) : State :=
  let bad := s.has F.HOSTIF_RING_CTRL_ENABLE && ws.any (fun w => ringCfgWord w.addr)
  let ws := if bad then ws.filter (fun w => !ringCfgWord w.addr) else ws
  let new := forEach ws (fun w t => State.writeEffect s q w t) (s.withWrites ws)
  if bad then new.mark F.HOSTIF_RING_STAT_CFG_ERR else new

/-! ## SET_PARAM and DISCARD (R105, R108, R112) -/

/-- SET_PARAM. (DEDUCED, log entry 71.) -/
def opSetParam (p : InFlight) (s : State) : State × Verdict :=
  let ctl := bodyWord p.body 0
  if p.body.length < 2 then (s, malformed 0x0202)
  else if 4 ≤ ctl then (s, malformed 0x02F6)
  else match setWrites p.target.toNat p.body with
    | none => (s, malformed 0x0202)
    | some ws =>
      match rangeError p.target.toNat ws.length with
      | some v => (s, v)
      | none =>
        let direct := ctl % 2 == 0
        match s.writesError p.path direct ws with
        | some v => (s, v)
        | none =>
          if direct then (s.bump.takeWrites ws p.boundary, .done [])
          else
            let b := s.batch p.path ++ ws
            if 4096 < b.length then (s, refused 0x02E1) else (s.setBatch p.path b, .done [])

/-- DISCARD. -/
def opDiscard (p : InFlight) (s : State) : State × Verdict :=
  if p.target ≠ 0 ∨ !p.body.isEmpty then (s, malformed 0x0202)
  else (s.setBatch p.path [], .done [word (s.batch p.path).length])

/-! ## COMMIT (R17 to R19, R109 to R111) -/

/-- A rule that spans several words, judged on the values `w` that would stand after a batch that names `as`; its detail where it is broken. (DEDUCED, log entry 37.) -/
def State.crossError (s w : State) (as : List Nat) : Option Nat :=
  as.findSome? (fun a =>
    let (u, c, i) := splitAddr a
    if u = 0x08 ∧ 0x100 ≤ i ∧ i < 0x1C0 then (if w.trigValid ((i - 0x100) / 8) then none else some 0x08F6)
    else if u = 0x30 ∧ c = 0 ∧ 0x200 ≤ i then
      let z := (i - 0x200) / 4
      (if w.has (F.COL_ZC_ENABLE z) && (decide (w.getI (F.COL_XR_XMAX z) < w.getI (F.COL_XR_XMIN z))
          || decide (w.getI (F.COL_YR_YMAX z) < w.getI (F.COL_YR_YMIN z))) then some 0x30F6 else none)
    else if u = 0x50 ∧ (i = 1 ∨ i = 2) then (if w.bandsRise then none else some 0x50F6)
    else if (u = 0x29 ∧ i = 4) ∨ (u = 0x68 ∧ i = 9) then (if w.feedShared then some 0x1117 else none)
    else if u = 0x58 ∧ 0x100 ≤ i then (if w.strobeValid ((i - 0x100) / 0x10) then none else some 0x58F6)
    else if u = 0x38 ∧ 0x400 ≤ i ∧ i % 0x40 < 2 then
      let x := (i - 0x400) / 0x40
      (if w.get (F.AXIS_LCTRL_PERIOD x) ≤ w.get (F.AXIS_LPHASE x) then some 0x38F6 else none)
    else if u = 0x39 ∧ i % 0x20 = 0 then
      let x := i / 0x20
      (if w.get (F.FBK_FCFG_SRC x) ≠ s.get (F.FBK_FCFG_SRC x) ∧ s.get (F.AXIS_ASTAT_STATE x) ≠ 0 then some 0x39F5 else none)
    else none)

/-- A batch joins those scheduled, by frame and then in acceptance order (R19). -/
def insertBatch (b : Scheduled) : List Scheduled → List Scheduled
  | [] => [b]
  | x :: t => if b.f < x.f ∨ (b.f = x.f ∧ b.rank < x.rank) then b :: x :: t else x :: insertBatch b t

/-- The state with a batch scheduled. (DEDUCED, log entry 40.) -/
def State.schedule (s : State) (b : Scheduled) : State := { s with cmd := { s.cmd with scheduled := insertBatch b s.cmd.scheduled } }

/-- The 64-bit frame number of a body, low word first. -/
def frameOfBody (b : List Word) (i : Nat) : Nat := dword (b.getD i 0) (b.getD (i + 1) 0)

/-- The bytes of writes, as a CASCADE or MIRROR message carries them. -/
def writeBytes (ws : List StagedWrite) : List Byte :=
  ws.flatMap (fun w => leBytes 4 w.addr ++ leBytes 4 w.mask.toNat ++ leBytes 4 w.value.toNat)

/-- Positions in the ring map, one's own first (R472). -/
def State.mapPositions (s : State) : List Nat :=
  let others := (s.ridge.map.filter (fun (n : RingNode) => n.role != 2 && n.pos != s.position)).map (fun (n : RingNode) => n.pos)
  s.position :: (List.range 16).filter (fun q => others.contains q)

/-- A cascade batch goes to every member at acceptance (R111). -/
def State.sendCascade (s : State) (b : Scheduled) : State :=
  if b.cascade then s.emitRidge 0x21 .all (.bytes "CASCADE_BATCH" [b.order, b.f] (writeBytes (b.writes.filter (fun w => cascadeWord w.addr)))) else s

/-- COMMIT. The lead is measured from acceptance. -/
def opCommit (p : InFlight) (s : State) : State × Verdict :=
  let f := frameOfBody p.body 0
  let ws := s.batch p.path
  let cascade := ws.any (fun w => cascadeWord w.addr)
  let w := (s.inForce f).withWrites ws
  if p.target ≠ 0 ∨ p.body.length ≠ 2 then (s, malformed 0x0202)
  else if frameLead f p.acceptNs < 10000 then (s, refused 0x02E3)
  else if 10000000000 < frameLead f p.acceptNs then (s, refused 0x02E4)
  else if 16 ≤ s.cmd.scheduled.length then (s, refused 0x02E2)
  else if cascade ∧ frameLead f p.acceptNs < 50000 then (s, refused 0x02E5)
  else match s.crossError w (ws.map (fun x => x.addr)) with
    | some d => (s, refused d)
    | none =>
      let b : Scheduled := { f := f, order := p.order, rank := p.order, path := p.path, tag := p.tag, writes := ws, cascade := cascade }
      (((s.setBatch p.path []).schedule b).sendCascade b, .later (.commit f))

/-- The TRIG outputs and lamp strings whose programs a batch changed begin anew (R226, R536, R538), changed gate delays of the POWER band go
to the stations (R329, R416), and ABSORB joins what is pending for a
channel whose frame has not been computed (R235). -/
def State.commitEffects (old : State) (b : Scheduled) (s : State) : State :=
  let s := forEach (List.range 24) (fun k s =>
    let same := (List.range 7).all (fun n => old.reg (wordAddr 0x08 (0x100 + 8 * k + n)) == s.reg (wordAddr 0x08 (0x100 + 8 * k + n)))
    if same then s else s.trigActivate k b.f) s
  let s := forEach (List.range 8) (fun n s => s.lightCommitted old n b.f) s
  let band := s.bandAhead
  let s := forEach (List.range 64) (fun (c : Nat) (s : State) =>
    let at_ := wordAddr 0x28 (0x10 + band) + c * 0x400
    if s.ch c = 0 ∨ old.reg at_ = s.reg at_ then s else s.gateDelay c band (s.us + 200)) s
  let s := forEach b.writes (fun w s =>
    let (u, c, i) := splitAddr w.addr
    if u = 0x18 ∧ i = 0x15 ∧ (s.sq c).built < b.f then
      (match writtenField w (F.SEQ_ABSORB c) with
        | some n => s.absorbWrite c n
        | none => s)
    else s) s
  (s.trigSweepAll.strobeSweepAll).expoHits.feedSync

/-- The number of words of the BASE image (R597), with or without cascade words. -/
def savedCount (cascade : Bool) : Nat :=
  let dims := fun (r : RegWord) => r.dims.foldl (fun n d => n * d.2) (if r.perCh then 64 else 1)
  let ranks := if cascade then 4 * 512 else 0
  unitNumbers.foldl (fun m u =>
    ((unitWords u).filter (fun r => accessMask r .rw != 0 && savedWord (wordAddr u r.base)
      && (cascade || !cascadeWord (wordAddr u r.base)))).foldl (fun m r => m + dims r) m) ranks

/-- The reply to a batch that has taken effect (R110, R111). (DESIGN CHOICE, log entry 182.) -/
def State.confirmBatch (s : State) (b : Scheduled) : State :=
  match s.cmd.inflight.find? (fun p => p.order == b.order && (p.wait == .commit b.f || p.wait == .restore b.f)) with
  | none => s
  | some p =>
    let n := match b.whole with
      | some cascade => savedCount cascade
      | none => b.writes.length
    let due := s.mapPositions.filter (fun q => q != s.position)
    let got := due.filter (fun q => bitsOf b.confirmed.toNat q 1 == 1)
    if b.cascade && got.length != due.length then
      s.answerAt p 0x01 0x02E7 [word (2 ^ 31 + b.confirmed.toNat % 65536)] (b.f * 1000)
    else s.answerAt p 0 0 [word n] (b.f * 1000)

/-- A scheduled batch takes effect (R17, R110): a nonempty one raises the epoch by 1 (R118). -/
def State.applyBatch (s : State) (b : Scheduled) : State :=
  let old := { s with cmd := { s.cmd with scheduled := s.cmd.scheduled.filter (fun (x : Scheduled) => x.order != b.order) } }
  let s := old
  let s := match b.whole with
    | some cascade => s.resetSaved cascade
    | none => s
  let ws := if b.whole.isSome then b.writes else mergeWrites b.writes
  let s := s.takeWrites ws b.f
  let s := if b.writes.isEmpty && b.whole.isNone then s else s.bump
  (State.commitEffects old { b with writes := ws } s).confirmBatch b

/-- COMMIT_APPLY: every batch of a frame up to `f`, in order (R19). -/
def State.applyDue (s : State) (f : Nat) : State :=
  forEach (s.cmd.scheduled.filter (fun (b : Scheduled) => decide (b.f ≤ f))) (fun b s => s.applyBatch b) s

/-! ## JOURNAL_RESTORE (R602) -/

/-- JOURNAL_RESTORE: the newest complete BASE, as one commit at frame f. It arms the checkpoints (R599). (DEDUCED, log entries 47, 48, 65.) -/
def opJournalRestore (p : InFlight) (s : State) : State × Verdict :=
  let f := frameOfBody p.body 0
  let cascade := bodyWord p.body 2 % 2 == 1
  let rest := (List.range 64).all (fun c => decide (s.ch c ≤ 1))
  if p.target ≠ 0 ∨ 2 ≤ bodyWord p.body 2 then (s, malformed 0x68F6)
  else if p.body.length ≠ 3 then (s, malformed 0x0202)
  else if cascade && !s.isSummit then (s, refused 0x68F1)
  else if s.dev ≠ 1 ∨ s.pairRole ≠ 0 ∨ !rest ∨ !s.cmd.scheduled.isEmpty then (s, refused 0x6860)
  else match s.journal.bases with
    | [] => (s, refused 0x6861)
    | base :: _ =>
      if frameLead f p.acceptNs < 10000 then (s, refused 0x02E3)
      else if 10000000000 < frameLead f p.acceptNs then (s, refused 0x02E4)
      else
        let ws := (base.words.filter (fun e => cascade || !cascadeWord e.1)).map (fun e => (⟨e.1, word (rwMask e.1), e.2⟩ : StagedWrite))
        let b : Scheduled :=
          { f := f, order := p.order, rank := p.order, path := p.path, tag := p.tag, writes := ws, cascade := cascade, whole := some cascade }
        let s := { s with journal := { s.journal with armed := true } }
        ((s.schedule b).sendCascade b, .later (.restore f))

/-! ## Reads, NOP and CAIRN (R98, R99, R114 to R117, R123, R124) -/

/-- NOP. -/
def opNop (p : InFlight) (s : State) : State × Verdict :=
  if p.target ≠ 0 ∨ !p.body.isEmpty then (s, malformed 0x0202) else (s, .done [])

/-- IDENT. -/
def opIdent (p : InFlight) (s : State) : State × Verdict :=
  if p.target ≠ 0 ∨ !p.body.isEmpty then (s, malformed 0x0202) else (s, .later (.read (s.us + 1)))

/-- GET_PARAM. -/
def opGetParam (p : InFlight) (s : State) : State × Verdict :=
  let n := bodyWord p.body 0
  if p.body.length ≠ 1 then (s, malformed 0x0202)
  else if n = 0 ∨ 1024 < n then (s, malformed 0x02F6)
  else match rangeError p.target.toNat n with
    | some v => (s, v)
    | none => (s, .later (.read (s.us + 1)))

/-- The scope of a cairn: 0 path, 1 device, 2 cascade. -/
def InFlight.scope (p : InFlight) : Nat := bodyWord p.body 0

/-- A packet whose parts run on the ridge paths of other devices: FORWARD, and SNAPSHOT and CAIRN of the cascade (R117, R124, R127). -/
def InFlight.onRidge (p : InFlight) : Bool :=
  p.path != .ridge && (p.opcode == 0x08 || (p.opcode == 0x07 && p.scope == 2) || (p.opcode == 0x05 && bitsOf (bodyWord p.body 0) 9 1 == 1))

/-- The least inner tag that no packet in flight uses (R127). (DESIGN CHOICE, log entry 192.) -/
def State.freeInner (s : State) : Option Nat :=
  let used := (s.cmd.inflight.filter (fun (p : InFlight) => p.onRidge && p.wait != .unstarted)).map (fun (p : InFlight) => p.inner.toNat)
  (List.range 256).find? (fun n => !used.contains n)

/-- The packet's inner tag is assigned (R127). (DESIGN CHOICE, log entry 192.) -/
def State.giveInner (s : State) (p : InFlight) : State :=
  { s with cmd := { s.cmd with inflight := s.cmd.inflight.map (fun (x : InFlight) =>
    if x.order == p.order then { x with inner := BitVec.ofNat 8 (s.freeInner.getD 0) } else x) } }

/-- SNAPSHOT. (DEDUCED, log entry 43.) -/
def opSnapshot (p : InFlight) (s : State) : State × Verdict :=
  let ctl := bodyWord p.body 0
  let n := bitsOf ctl 0 7
  let atFrame := bitsOf ctl 8 1 == 1
  let cascade := bitsOf ctl 9 1 == 1
  let f := frameOfBody p.body 1
  let es := snapshotEntries p
  let odd := (List.range n).any (fun j =>
    let w := bodyWord p.body ((if atFrame then 3 else 1) + 2 * j + 1)
    bitsOf w 11 5 != 0 || bitsOf w 23 9 != 0)
  let words := (es.map (fun (e : SnapEntry) => e.count * e.chans)).sum
  let total := if cascade then p.mapAt.length * (1 + words) else words
  if p.target ≠ 0 ∨ p.body.isEmpty ∨ 131 < p.body.length then (s, malformed 0x0202)
  else if n = 0 ∨ 64 < n ∨ bitsOf ctl 7 1 ≠ 0 ∨ ctl / 2 ^ 10 ≠ 0 ∨ (cascade ∧ !atFrame) then (s, malformed 0x02F6)
  else if p.body.length ≠ (if atFrame then 3 else 1) + 2 * n then (s, malformed 0x0202)
  else if cascade ∧ !s.isSummit then (s, badOpcode 0x02C3)
  else if odd then (s, malformed 0x02F6)
  else match es.findSome? SnapEntry.error with
    | some v => (s, v)
    | none =>
      if resultLimit p.path < total then (s, malformed 0x0204)
      else if atFrame ∧ (frameLead f p.acceptNs < 2000 ∨ 1000000000 < frameLead f p.acceptNs ∨ (cascade ∧ frameLead f p.acceptNs < 50000)) then
        (s, refused 0x02E6)
      else if !atFrame then (s, .later (.read (s.us + 1)))
      else
        let s := if cascade then (s.giveInner p).emitRidge 0x21 .all (.bytes "CASCADE_SNAPSHOT" [p.order, s.freeInner.getD 0, f] (bytesOfWords (p.body.drop 3))) else s
        (s, .later (.snapshot f cascade))

/-- CAIRN. At cascade scope it goes to every member (R124). -/
def opCairn (p : InFlight) (s : State) : State × Verdict :=
  if p.target ≠ 0 ∨ p.body.length ≠ 2 then (s, malformed 0x0202)
  else if 2 < p.scope then (s, malformed 0x02F6)
  else if p.scope = 2 ∧ !s.isSummit then (s, badOpcode 0x02C3)
  else (if p.scope = 2 then (s.giveInner p).emitRidge 0x21 .all (.signal "CASCADE_CAIRN" [p.order, s.freeInner.getD 0]) else s, .later .cairn)

end Sys2Proof.Machine
end

