-- ==== Sys2Proof/Machine/Reset.lean ====
section
/-!
DEFINITION. Sys2Proof/Machine/Reset.lean: RESET_UNIT (spec/03 R100, R101, R611; spec/05 R190; spec/09 R346; spec/14 R526) and the loss and
return of a host path (R130, R131), which the resets of HOSTIF and NET share with PERST_N and lost links.
-/
namespace Sys2Proof.Machine

/-! ## Loss of a host path (R130, R131) -/

/-- A host path is lost and has not returned. -/
def State.pathLost (s : State) (p : Path) : Bool := match p with
  | .pcie => s.host.pcieLost
  | .eth0 => !s.host.pcsLock0
  | .eth1 => !s.host.pcsLock1
  | .ridge => false

/-- The state with a path marked as lost or returned. -/
def State.setLost (s : State) (p : Path) (b : Bool) : State := match p with
  | .pcie => { s with host := { s.host with pcieLost := b } }
  | .eth0 => { s with host := { s.host with pcsLock0 := !b } }
  | .eth1 => { s with host := { s.host with pcsLock1 := !b } }
  | .ridge => s

/-- What the loss of a path does to its packets and its batch (R130): packets that have not started are discarded, those that have
started lose their replies, the staged batch goes, and the loss log counts (R131). A discarded packet of a
datagram keeps a reply of ABORTED (R96). (DESIGN CHOICE, log entry 183.) -/
def State.dropPath (s : State) (p : Path) : State :=
  let (unreplied, discarded, valid) := lossFlds p
  let s := (if s.has valid then s else (s.put unreplied 0).put discarded 0).mark valid
  let mine := s.cmd.inflight.filter (fun x => x.path == p && !x.orphan)
  let idle := mine.filter (fun x => x.startClk.isNone)
  let s := forEach idle (fun x s =>
    (s.retire x).keep x.origin (s.mkReply x 0x31 0x02C2 [] s.ns)) s
  let s := s.count discarded idle.length
  let s := { s with cmd := { s.cmd with inflight := s.cmd.inflight.map (fun (x : InFlight) => if x.path == p then { x with orphan := true } else x) } }
  let s := s.setBatch p []
  if p = .pcie then
    ({ s.count unreplied s.host.held.length with host := { s.host with held := [], irqPending := false } }).put F.HOSTIF_RING_STAT_HELD 0
  else s

/-- A host path is lost. A path that has not returned cannot be lost again. -/
def State.losePath (s : State) (p : Path) : State := if s.pathLost p then s else (s.dropPath p).setLost p true

/-! ## Words at a reset of their unit -/

/-- A word that a reset of its unit leaves alone: on a device of a cascade of more than one node, its cascade words (R611). -/
def State.keptWord (s : State) (a : Nat) : Bool := cascadeWord a && decide (1 < s.get F.RIDGE_CSTAT_NODES)

/-- The fields of a unit with the given access codes return to their reset values. -/
def State.resetFields (s : State) (u : Nat) (ro : Bool) : State :=
  forEach (s.regs.filter (fun e => e.1 / 65536 == u && !s.keptWord e.1)) (fun e s =>
    match findWord e.1 with
    | some r =>
      let m := accessMask r .ro
      let m := if ro then word m else ~~~(word m)
      s.setReg e.1 (mergeBits e.2 m (resetWord e.1))
    | none => s) s

/-- A field put back at the value that it held. -/
def State.keepField (s old : State) (f : Fld) : State := s.put f (old.get f)

/-! ## The effects of R611, at the first frame boundary after the reset -/

/-- RESET_UNIT of TIME: device time, the state of the time base, ADJ, I and STEPS are kept; PTP restarts, TRIG outputs end, captures empty. -/
def State.resetTime (s : State) : State :=
  let old := s
  let s := forEach (List.range 24) (fun k s => (s.trigLow k).setTrig k {}) s
  let s := s.capStep
  let s := if s.time.slewEnd.isSome then { s.coast with time := { s.coast.time with slewEnd := none } } else s
  let s := s.resetFields 0x08 true
  let s := forEach [F.TIME_STATE, F.TIME_STATE_SOURCE, F.TIME_STATE_STEPS, F.TIME_STATE_HOLD_CAUSE, F.TIME_RATE_ADJ, F.TIME_RATE_I, F.TIME_HOLDOVER_MS]
    (fun f s => s.keepField old f) s
  let s := { s with time := { s.time with
    firsts := [], ptpIsMaster := false, ptpMaster := false, ptpSync := none, ptpT12 := none, ptpReq := none, ptpPeer := none
    ptpForeign := [], ptpParent := none, ptpAnnounceTx := none, ptpDelay := none, measured := none, ptpMeasureClk := s.time.clk, ptpAnnounceClk := s.time.clk } }
  if old.ptpSource || s.ptpSource then s.timeCfgChanged else s

/-- RESET_UNIT of STREAM: every stream is closed as by ABORT, and the staging areas are emptied. -/
def State.resetStream (s : State) : State :=
  let s := forEach (List.range 256) (fun n s => if s.strmState n = 0 then s else s.freeStream n true false) s
  let s := { s with stream := { s.stream with staging := [] } }
  s.resetFields 0x10 true

/-- RESET_UNIT of PACK (R190): jobs and feeds end as said there, and the OPEN streams that decode stop. -/
def State.resetPackUnit (s : State) : State :=
  let s := s.resetPack
  forEach (List.range 256) (fun n s =>
    if s.strmState n = 1 ∧ (s.strm n).holdsSlot then (s.breakSlot n).stopStream n 0x11F7 else s) s

/-- RESET_UNIT of SEQ: every channel goes to OFFLINE at the first apply instant not yet fixed; queues, staging areas, plans, slip and grids
are emptied, and the programs that had records in them are void (R271). Samples already fixed stand (R40). (DEDUCED, log entry 115.) -/
def State.resetSeq (s : State) : State :=
  let f := s.nextFix
  let s := forEach (List.range 64) (fun c s => if s.chAt c f = 0 then s else s.decideCh c f 0 0) s
  let touched := fun (p : Program) =>
    (s.sq p.chan).queue.any (fun (q : QRec) => p.owns p.chan q.seg)
      || (s.staged p.chan).any (fun (b : Staged) => b.stream == p.stream && b.layer == p.layer)
  let s := s.mapPrograms (fun p => !p.complete && touched p) (fun p => { p with void := true, complete := true, repS := s.slipAt p.chan s.us, repG := 0 })
  let s := forEach s.stream.layers (fun (l : Layer) s => s.layerComplete l.stream l.layer) s
  let left := fun (x : SeqCh) => ({ next := x.next, samples := x.samples, built := x.built } : SeqCh)
  let s := { s with seq := s.seq.map (fun (e : Nat × SeqCh) => (e.1, left e.2)) }
  let s := { s with stream := { s.stream with staging := [] } }
  let s := forEach (List.range 64) (fun c s => s.put (F.STREAM_CH_STAGE_STAGED_KB c) 0) s
  let old := s
  forEach (List.range 64) (fun c s => (s.keepField old (F.SEQ_CH_STATE_STATE c)).keepField old (F.SEQ_CH_STATE_GATE c)) (s.resetFields 0x18 true)

/-- RESET_UNIT of LOOP: every loop is initialized at its next evaluation, and histories and counts are emptied. -/
def State.resetLoop (s : State) : State :=
  let s := { s with loop := { s.loop with
    ax := s.loop.ax.map (fun (e : Nat × AxLoop) => (e.1, { e.2 with init := true, crossings := [], cls := 0, satRun := 0 }))
    ma := s.loop.ma.map (fun (e : Nat × MaLoop) => (e.1, { e.2 with init := true })) } }
  let s := forEach (List.range 64) (fun c s => forEach [0, 1, 2] (fun a s => s.setAx c a { s.ax c a with init := true }) s) s
  s.resetFields 0x20 true

/-- RESET_UNIT of POWER: every melt-pool loop is initialized, monitor runs and summaries end, and the gate delays of the reset words go out
with the timing of R514. -/
def State.resetPower (s : State) : State :=
  let start := fun (x : PowCh) => { x with init := true, monActed := false, summ := {} }
  let s := { s with power := (List.range 64).foldl (fun t c => tabPut {} t c (start (tabGet {} t c))) s.power }
  (s.resetFields 0x28 true).gateDelays (s.get F.THERM_TSTAT_POWER_BAND) (s.us + 200)

/-- RESET_UNIT of LEDGER: it is left empty (R346). (DEDUCED, log entry 52.) -/
def State.resetLedger (s : State) : State :=
  let s := s.resetFields 0x29 true
  (s.emptyLedger s.ledgerWords s.us).feedSync

/-- RESET_UNIT of COL: digests and verdicts not yet used are dropped, and deferrals and resyncs end at the first apply instant not yet fixed. -/
def State.resetCol (s : State) : State :=
  let f := s.nextFix
  let s := { s with col := {} }
  let s := forEach (List.range 64) (fun c s =>
    let x := s.sq c
    if x.yields.isEmpty then s else s.setSq c { x with yields := x.yields.filter (fun g => decide (g < f)) }) s
  s.resetFields 0x30 true

/-- Every machine axis goes to DISABLED at once, with its queue flushed, its steps stopped and HOMED cleared (R457). -/
def State.axesOff (s : State) : State := { s with axis := { s.axis with ax := [] }, loop := { s.loop with ma := [] } }

/-- RESET_UNIT of AXIS. -/
def State.resetAxis (s : State) : State := (s.axesOff).resetFields 0x38 true

/-- RESET_UNIT of FBK: as for AXIS, and counters, latches and error counts return to 0; the input levels are what they are. -/
def State.resetFbk (s : State) : State :=
  let s := s.axesOff
  let s := forEach (List.range 16) (fun a s =>
    let s := forEach [F.AXIS_ASTAT_STATE a, F.AXIS_ASTAT_HOMED a, F.AXIS_ASTAT_HOME_PHASE a, F.AXIS_ASTAT_QUEUE a] (fun f s => s.put f 0) s
    let x := s.fb a
    s.setFb a { a := x.a, b := x.b, idx := x.idx, limp := x.limp, limn := x.limn, home := x.home, probe := x.probe
                sLimp := x.sLimp, sLimn := x.sLimn, sHome := x.sHome, hall := x.hall, src := x.src }) s
  let s := s.resetFields 0x39 true
  forEach (List.range 16) (fun a s => s.showLevels a) s

/-- RESET_UNIT of STN: every port goes to DOWN and is brought up afresh. -/
def State.resetStn (s : State) : State := (forEach (List.range 64) (fun c s => s.portDown c) s).resetFields 0x40 true

/-- RESET_UNIT of RIDGE: every link goes to DOWN and trains afresh; the ring map stays in force (R472). -/
def State.resetRidge (s : State) : State :=
  let old := s
  let s := s.resetFields 0x48 true
  let s := forEach ([F.RIDGE_NODE_INDEX, F.RIDGE_NODE_SIDE, F.RIDGE_NODE_EXCLUDED, F.RIDGE_CSTAT_NODES, F.RIDGE_CSTAT_CASCADE_UP,
      F.RIDGE_CSTAT_MAP_DETAIL, F.RIDGE_MAP_EPOCH]
    ++ (List.range 33).flatMap (fun i => [F.RIDGE_MAP_POS i, F.RIDGE_MAP_ROLE i, F.RIDGE_MAP_SIDE i, F.RIDGE_MAP_VALID i, F.RIDGE_MAP_SN_TAIL i]))
    (fun f s => s.keepField old f) s
  ({ s with ridge := { s.ridge with
    peers := [], trainClk := some s.time.clk, findClk := none, sentClk := none, cw := [], ccw := [] } }).showRing

/-- RESET_UNIT of PAIR: a join in progress is aborted; role, verdict number and partner are kept. -/
def State.resetPair (s : State) : State :=
  let s := if s.get F.PAIR_PSTAT_JOIN_PHASE = 0 then s else s.endJoin.dropJoin
  let old := s
  let s := s.resetFields 0x49 true
  forEach [F.PAIR_PSTAT_ROLE, F.PAIR_PSTAT_SIDE, F.PAIR_PSTAT_PARTNER_LOST, F.PAIR_PSTAT_DIVERGED, F.PAIR_PSTAT_REF_LOST,
      F.PAIR_PSTAT_LOCAL_STOP, F.PAIR_PSTAT_CAUSE, F.PAIR_PARTNER_SN_LO, F.PAIR_PARTNER_SN_HI, F.PAIR_VERDICT_NUM, F.PAIR_VERDICT_AT_LO,
      F.PAIR_VERDICT_AT_HI] (fun f s => s.keepField old f) s

/-- The effects of the resets whose frame boundary has been reached (R611). -/
def State.unitResets (s : State) (k : Nat) : State :=
  let due := s.cmd.unitResets.filter (fun e => decide (e.2 ≤ k))
  let s := { s with cmd := { s.cmd with unitResets := s.cmd.unitResets.filter (fun e => !decide (e.2 ≤ k)) } }
  forEach due (fun e s => match e.1 with
    | 0x08 => s.resetTime
    | 0x10 => s.resetStream
    | 0x11 => s.resetPackUnit
    | 0x18 => s.resetSeq
    | 0x20 => s.resetLoop
    | 0x28 => s.resetPower
    | 0x29 => s.resetLedger
    | 0x30 => s.resetCol
    | 0x38 => s.resetAxis
    | 0x39 => s.resetFbk
    | 0x40 => s.resetStn
    | 0x48 => s.resetRidge
    | 0x49 => s.resetPair
    | _ => s) s

/-! ## The effects of R101 and R526, at once -/

/-- What RESET_UNIT does to a host path: it is treated as lost, where it has not gone already (R101, R130). Its connection stays up. (DEDUCED,
log entry 53.) -/
def State.cutPath (s : State) (p : Path) : State := if s.pathLost p then s else s.dropPath p

/-- RESET_UNIT of HOSTIF: the rings stop, and the PCIe path is treated as lost. (DEDUCED, log entry 53.) -/
def State.resetHostif (s : State) : State := (s.dropUnit 0x01).cutPath .pcie

/-- RESET_UNIT of NET: both ports lose addresses and settings, and each is treated as a lost path. -/
def State.resetNet (s : State) : State :=
  let s := ((s.dropUnit 0x09).cutPath .eth0).cutPath .eth1
  { s with host := { s.host with sources := [], dropped0 := 0, dropped1 := 0, stale := 0 } }

/-- RESET_UNIT of CMD: every staged batch is discarded. -/
def State.resetCmd (s : State) : State :=
  let s := s.dropUnit 0x02
  { s with cmd := { s.cmd with batchPcie := [], batchEth0 := [], batchEth1 := [], batchRidge := [] } }

/-- RESET_UNIT of MEM: its counters clear. -/
def State.resetMem (s : State) : State := (s.dropUnit 0x04).keepField s F.MEM_STAT_REFRESH |>.keepField s F.MEM_STAT_TRAINED |>.keepField s F.MEM_STAT_MRAM_BUSY

/-- RESET_UNIT of TRACE: the capture ends, and the buffers are emptied. -/
def State.resetTrace (s : State) : State := { s.dropUnit 0x21 with trace := {} }

/-- RESET_UNIT of ERR: the queue is emptied, telemetry stops; open heads and the log are kept. -/
def State.resetErr (s : State) : State :=
  let opens := s.regs.filter (fun e => e.1 / 65536 == 0x68 && (e.1 % 65536 == 0x20 || decide (0x100 ≤ e.1 % 65536)))
  let s := forEach opens (fun e s => s.setReg e.1 e.2) (s.dropUnit 0x68)
  ({ s with err := { s.err with queue := [], dropEpisode := false, telBuf := [], telLost := 0 } }).showJournal.feedSync

/-- The refusals of R100. -/
def State.resetRefused (s : State) (u : Nat) : Bool :=
  let run := s.dev == 2 || s.dev == 3
  if u = 0x00 then run || s.dev == 4
  else if u = 0x60 then true
  else if u = 0x02 then
    run || !s.cmd.scheduled.isEmpty || s.cmd.inflight.any (fun x => match x.wait with
      | .cairn => true
      | .snapshot _ _ => true
      | _ => false)
  else if [0x10, 0x11, 0x18, 0x20, 0x28, 0x29, 0x30, 0x40, 0x48, 0x49, 0x08, 0x38, 0x39].contains u then run
  else false

/-- The unit's words return to their reset values and its running work ends, at once or at the next frame boundary (R101, R611). (DEDUCED, log entry 51.) -/
def State.resetUnit (s : State) (u : Nat) : State :=
  match u with
  | 0x00 => { s with cmd := { s.cmd with sysResetAt := some (s.time.clk + 2500) } }
  | 0x01 => s.resetHostif
  | 0x02 => s.resetCmd
  | 0x03 => s.dropUnit 0x03
  | 0x04 => s.resetMem
  | 0x09 => s.resetNet
  | 0x21 => s.resetTrace
  | 0x50 => s.thermReset
  | 0x51 => s.calReset
  | 0x58 => s.lightReset
  | 0x68 => s.resetErr
  | _ => { s.resetFields u false with cmd := { s.cmd with unitResets := s.cmd.unitResets ++ [(u, s.us + 1)] } }

/-- RESET_UNIT. Of a reset that takes the packet's own path, and of SYS, the reply goes out before it (R100, R101); the packet is then
answered here. (DEDUCED, log entry 74.) -/
def opResetUnit (p : InFlight) (s : State) : State × Verdict :=
  let t := p.target.toNat
  let u := t / 65536
  if !p.body.isEmpty ∨ t % 65536 ≠ 0 ∨ 2 ^ 24 ≤ t then (s, malformed 0x0202)
  else if !unitNumbers.contains u then (s, badAddress 0x0208)
  else if s.resetRefused u then (s, refused (u * 256 + 0xF5))
  else
    let s := s.bump.closeHead ⟨1, u⟩
    if u = 0x00 ∨ (u = 0x01 ∧ p.path = .pcie) ∨ (u = 0x09 ∧ (p.path = .eth0 ∨ p.path = .eth1)) then
      ((s.answer p 0 0 []).resetUnit u, .later .unstarted)
    else (s.resetUnit u, .done [])

end Sys2Proof.Machine
end

