-- ==== Sys2Proof/Machine/Step195.lean ====
section
/-!
DEFINITION. Sys2Proof/Machine/Step195.lean: the step of the time base (spec/06 R195) and what it does to all pending work, and the events
that step it: TIME_STEP and TIME_RESET (R219, R220), the first PTP step (R203) and a member's step (R215).
-/
namespace Sys2Proof.Machine

/-! ## Moving instants with the step

`d` is the number of whole µs by which instants that the device derives move: the step in ns divided by 1,000, rounded up to a frame
boundary. Intervals measured in ns move by the step in whole ns. -/

/-- An instant moved. -/
def moved (d : Int) (x : Nat) : Nat := ((x : Int) + d).toNat

/-- What a packet waits for, where the device derived the instant from its acceptance or start. -/
def Wait.moved (d : Int) : Wait → Wait
  | .read q => .read (Machine.moved d q)
  | .ledgerRead q => .ledgerRead (Machine.moved d q)
  | .axisAt f => .axisAt (Machine.moved d f)
  | w => w

/-- The work of a scan channel. -/
def SeqCh.moved (d : Int) (x : SeqCh) : SeqCh :=
  let at_ := fun (t : ChTrigger) => { t with at_ := Machine.moved d t.at_ }
  { x with
    yields := x.yields.map (Machine.moved d)
    markRun := Machine.moved d x.markRun
    holdFrom := x.holdFrom.map (Machine.moved d)
    requests := x.requests.map at_
    triggers := x.triggers.map at_
    next := x.next.map (fun e => (Machine.moved d e.1, e.2))
    park := x.park.map (fun (a : Active) => { a with seg := { a.seg with launch := fieldOf 48 ((a.seg.launch : Int) + d * 1000) } })
    parkLaunch := x.parkLaunch + d * 1000
    samples := x.samples.map (fun (q : Sample) => { q with f := Machine.moved d q.f })
    slips := x.slips.map (fun e => (Machine.moved d e.1, e.2))
    progress := x.progress.map (fun e => (Machine.moved d e.1, e.2))
    built := Machine.moved d x.built }

/-- A station link: its frames, its sideband request, and the loss of symbol lock. -/
def StnCh.moved (d ns : Int) (x : StnCh) : StnCh :=
  let frame := fun (r : InFrame) => { r with k := Machine.moved d r.k }
  { x with
    last := x.last.map frame
    prior := x.prior.map frame
    waiting := x.waiting.map (fun (w : SbWait) => { w with sent := Machine.moved d w.sent })
    lostAt := x.lostAt.map (Machine.moved ns)
    missFor := x.missFor.map (Machine.moved d) }

/-- Feedback of a machine axis. -/
def FbkCh.moved (d ns : Int) (x : FbkCh) : FbkCh :=
  { x with
    lastEdge := x.lastEdge.map (Machine.moved ns)
    busy := x.busy.map (Machine.moved d)
    reading := x.reading.map (fun e => (e.1, Machine.moved d e.2))
    shifts := x.shifts.map (fun e => (Machine.moved d e.1, e.2))
    samples := x.samples.map (fun e => (Machine.moved d e.1, e.2))
    armAt := x.armAt.map (Machine.moved d) }

/-- A machine axis. -/
def MaAxis.moved (d : Int) (x : MaAxis) : MaAxis :=
  { x with
    homeSince := Machine.moved d x.homeSince
    reqs := x.reqs.map (fun e => (Machine.moved d e.1, e.2))
    frames := x.frames.map (fun (g : AxFrame) => { g with f := Machine.moved d g.f })
    built := Machine.moved d x.built
    cmds := x.cmds.map (fun e => (Machine.moved d e.1, e.2)) }

/-- Every instant that the device derived moves by `d` µs, every interval measured in ns by `ns` (the second table of R195). (DEDUCED, log entry 109.) -/
def State.movePending (s : State) (d ns : Int) : State :=
  let dev := fun (t : DevTrigger) => { t with at_ := moved d t.at_ }
  { s with
    cmd := { s.cmd with
      inflight := s.cmd.inflight.map (fun (p : InFlight) => { p with wait := p.wait.moved d, acceptNs := moved ns p.acceptNs })
      unitResets := s.cmd.unitResets.map (fun e => (e.1, moved d e.2)) }
    sys := { s.sys with
      next := s.sys.next.map (fun e => (moved d e.1, e.2))
      triggers := s.sys.triggers.map dev
      requests := s.sys.requests.map dev
      safeEntry := s.sys.safeEntry.map (moved d)
      haltAt := s.sys.haltAt.map (moved d)
      built := moved d s.sys.built }
    err := { s.err with
      logTimes := s.err.logTimes.map (moved ns)
      rateEpisode := s.err.rateEpisode.map (moved ns)
      episodes := s.err.episodes.map (fun e => (e.1, moved ns e.2)) }
    journal := { s.journal with parkedAt := s.journal.parkedAt.map (moved d) }
    stream := { s.stream with
      staging := s.stream.staging.map (fun e => (e.1, e.2.map (fun (b : Staged) => { b with admitAt := moved d b.admitAt })))
      admittedAt := s.stream.admittedAt.map (fun e => (e.1, moved d e.2)) }
    seq := s.seq.map (fun e => (e.1, e.2.moved d))
    loop := { s.loop with
      ax := s.loop.ax.map (fun (e : Nat × AxLoop) => (e.1, { e.2 with crossings := e.2.crossings.map (moved d) }))
      ma := s.loop.ma.map (fun (e : Nat × MaLoop) => (e.1, { e.2 with lastEval := moved d e.2.lastEval })) }
    stn := s.stn.map (fun e => (e.1, e.2.moved d ns))
    power := s.power.map (fun (e : Nat × PowCh) => (e.1, { e.2 with
      evals := e.2.evals.map (fun (v : PowEval) => { v with f := moved d v.f })
      reads := e.2.reads.map (fun (r : GainRead) => { r with f := moved d r.f }) }))
    axis := { s.axis with
      fbk := s.axis.fbk.map (fun e => (e.1, e.2.moved d ns))
      ax := s.axis.ax.map (fun e => (e.1, e.2.moved d))
      waiting := s.axis.waiting.map (moved d)
      keeperAt := s.axis.keeperAt.map (moved d) }
    therm := { s.therm with
      power := s.therm.power.map (fun e => (moved d e.1, e.2))
      bandDue := s.therm.bandDue.map (fun e => (e.1, moved d e.2)) }
    light := { s.light with strings := s.light.strings.map (fun (e : Nat × LightStr) =>
      (e.1, { e.2 with rise := moved ns e.2.rise, fall := moved ns e.2.fall })) } }

/-! ## The step (R195) -/

/-- Packets whose named instant has not been reached end ABORTED with detail 0x0810, and so does every scheduled commit. -/
def State.abortNamed (s : State) : State :=
  let named := fun (p : InFlight) => match p.wait with
    | .commit _ => true
    | .snapshot _ _ => true
    | .ledgerFill _ => true
    | .restore _ => true
    | .pairAt _ => true
    | _ => false
  let swaps := s.cmd.inflight.filterMap (fun (p : InFlight) => match p.wait with
    | .pairAt v => some v
    | _ => none)
  let s := forEach (s.cmd.inflight.filter named) (fun p s => s.answer p 0x31 0x0810 []) s
  { s with
    cmd := { s.cmd with scheduled := [] }
    ledger := { s.ledger with fills := [] }
    pair := { s.pair with next := s.pair.next.filter (fun e => !swaps.contains e.1) } }

/-- The time base is stepped by `delta` / 2^32 ns in one TIME clock (R195). -/
def State.stepTime (s : State) (delta : Int) : State :=
  let old : Int := s.ns
  let s := s.abortNamed
  let s := { s with time := { s.time with now := (((s.time.now : Int) + delta) % (2 ^ 96 : Nat)).toNat } }
  let ns := (s.ns : Int) - old
  let s := s.movePending (-((-ns) / 1000)) ns
  let s := ((s.trigStep).lightStep).capStep
  s.emptyLedger s.ledgerWords s.us

/-- A first step: the state entered, its source (1 PTP, 2 ridge, 3 host), and the count of steps (R199, R221). -/
def State.firstStep (s : State) (delta : Int) (st cause source : Nat) : State :=
  let s := ((s.stepTime delta).enterTime st cause).put F.TIME_STATE_SOURCE source
  { s.count F.TIME_STATE_STEPS with time := { (s.count F.TIME_STATE_STEPS).time with firsts := [], goodRun := 0, adjSum := 0 } }

/-- PTP_FIRST_STEP: three consecutive measurements within JUMP_THRESH of one another; the step is by the third (R203). -/
def State.ptpFirstStep (s : State) : State :=
  match s.time.firsts with
  | [a, b, c] =>
    let hi := max a (max b c)
    let lo := min a (min b c)
    if s.ptpSource && s.get F.TIME_STATE == 0 && decide (hi - lo ≤ (s.get F.TIME_JUMP_THRESH : Int) * 2 ^ 32) then
      s.firstStep (-a) 1 0 1
    else s
  | _ => s

/-- MEMBER_STEP: markers have been valid for 1 ms (R215). -/
def State.memberStep (s : State) : State :=
  match s.time.markersSince with
  | some c =>
    if !s.isSummit && s.get F.TIME_STATE == 0 && decide (c + 250000 ≤ s.time.clk) then
      s.firstStep (-s.time.offset) 1 0 2
    else s
  | none => s

/-- The devices that no host may step (R219). -/
def State.timeRole (s : State) : Option Verdict :=
  if s.cascadeRole ≠ 1 then some (refused 0x08F1)
  else if 2 ≤ s.pairRole then some (refused 0x49F2)
  else none

/-- TIME_STEP (R219). -/
def opTimeStep (p : InFlight) (s : State) : State × Verdict :=
  let off := signedOf 64 (dword (p.body.getD 0 0) (p.body.getD 1 0))
  if p.target ≠ 0 then (s, malformed 0x08F6)
  else if p.body.length ≠ 3 then (s, malformed 0x0202)
  else match s.timeRole with
    | some v => (s, v)
    | none =>
      if s.get F.TIME_STATE ≠ 0 then (s, refused 0x0801)
      else (s.firstStep (off * 2 ^ 32 + (bodyWord p.body 2 : Int)) 2 1 3, .done [])

/-- This device may lose its time (R220). (DESIGN CHOICE, log entry 54.) -/
def State.mayResetTime (s : State) : Bool :=
  (s.dev == 1 || s.dev == 5)
    && (List.range 64).all (fun c => s.ch c != 2 && s.ch c != 3 && s.ch c != 4)
    && s.cmd.scheduled.isEmpty

/-- The other devices of the cascade, referees among them, are in READY or HALT as their heartbeats tell, and at rest (R220). -/
def State.othersMayReset (s : State) : Bool :=
  let others := s.ridge.map.filter (fun (n : RingNode) => n.serial != s.sys.serial)
  (others.isEmpty || Config.othersAtRest s.time.clk) && others.all (fun (n : RingNode) =>
    match s.ridge.seen.find? (fun (h : HbSeen) => h.serial == n.serial) with
    | some h => h.devState == 1 || h.devState == 5
    | none => false)

/-- The time base returns to UNSTEPPED; device time counts on (R220). -/
def State.resetTimeBase (s : State) : State :=
  let s := s.stepTime 0
  let s := (s.put F.TIME_RATE_ADJ 0).put F.TIME_RATE_I 0
  let s := ((s.put F.TIME_STATE_SLEWING 0).put F.TIME_STATE_JUMP_SEEN 0).put F.TIME_STATE_SOURCE 0
  let s := { s with time := { s.time with
    slewEnd := none, firsts := [], goodRun := 0, markersSince := none, adjSum := 0, markerSeen := false, misalignRun := 0, summitState := 0 } }
  s.enterTime 0 0

/-- TIME_RESET (R220). On the summit it goes to every device of the cascade. -/
def opTimeReset (p : InFlight) (s : State) : State × Verdict :=
  if p.target ≠ 0 then (s, malformed 0x08F6)
  else if !p.body.isEmpty then (s, malformed 0x0202)
  else match s.timeRole with
    | some v => (s, v)
    | none =>
      if !s.mayResetTime || !s.othersMayReset then (s, refused 0x0802)
      else (s.resetTimeBase.emitRidge 0x21 .all (.signal "TIME_RESET" []), .done [])

end Sys2Proof.Machine
end

