-- ==== Sys2Proof/Machine/Host.lean ====
section
/-!
DEFINITION. Sys2Proof/Machine/Host.lean: what CMD does with packets (spec/03 R86 to R96, R121 to R130; spec/13 R483): acceptance, the
order in which packets start, running an opcode, mirroring on a keeper, FORWARD, cairns, timeouts, and the paths
themselves: the command ring, datagrams, and ridge messages.
-/
namespace Sys2Proof.Machine

/-! ## Acceptance (R86 to R88) -/

/-- A packet's tag is in flight on its path (R86). -/
def State.tagBusy (s : State) (path : Path) (tag : Byte) : Bool :=
  s.cmd.inflight.any (fun (x : InFlight) => x.path == path && x.tag == tag && !x.orphan)
    || (path == .pcie && s.host.held.any (fun (r : Reply) => r.tag == tag))

/-- A packet as it is accepted now, with the next place in the acceptance order. -/
def State.newPacket (s : State) (path : Path) (tag op : Byte) (target : Word) (body : List Word) : InFlight :=
  { path := path, tag := tag, opcode := op, target := target, body := body, order := s.cmd.nextOrder, acceptClk := s.time.clk, acceptNs := s.ns
    acceptFlags := s.flags, mapAt := if op = 0x05 then s.mapPositions else [] }

/-- A packet joins those in flight. -/
def State.enlist (s : State) (p : InFlight) : State :=
  { s with cmd := { s.cmd with nextOrder := s.cmd.nextOrder + 1, inflight := s.cmd.inflight ++ [p] } }

/-- A delimited packet is accepted, or answered DUP_TAG (R87, R88). (DESIGN CHOICE, log entry 234.) -/
def State.accept (s : State) (p : InFlight) : State :=
  if p.path != .ridge && s.tagBusy p.path p.tag then s.answer p 0x23 0x0203 [] else s.enlist p

/-- A packet of the summit's FORWARD, on the ridge path (R127): `id` is the summit's number for it, `inner` the tag that the summit assigned,
`tag` the tag of host software. -/
def State.acceptRidge (s : State) (id : Nat) (inner op tag : Byte) (target : Word) (body : List Word) : State :=
  s.enlist { s.newPacket .ridge inner op target body with hostTag := tag, summitId := id }

/-! ## Running an opcode -/

/-- TRACE_READ (R312): answered at the next frame boundary. -/
def opTraceRead (p : InFlight) (s : State) : State × Verdict :=
  match traceReadError p s with
  | some v => (s, v)
  | none => if resultLimit p.path < 2 + bodyWord p.body 1 then (s, malformed 0x0204) else (s, .later (.read (s.us + 1)))

/-- Opcodes whose replies carry result words, which BCAST therefore excludes (R128). -/
def resultOps : List Nat :=
  [0x01, 0x02, 0x04, 0x05, 0x07, 0x08, 0x09, 0x11, 0x12, 0x18, 0x23, 0x30, 0x32, 0x42, 0x50, 0x60, 0x68, 0x69, 0x80, 0x89, 0x90, 0x92, 0x98
   , 0x99, 0x9B, 0x9C, 0x9D, 0x9E]

/-- FORWARD (R126 to R128): the inner packet goes to its position, or to every position; a part for this device is accepted on its ridge
path. (DEDUCED, log entries 60, 61.) -/
def opForward (p : InFlight) (s : State) : State × Verdict :=
  let t := p.target.toNat
  let h := bodyWord p.body 0
  let len := bitsOf h 16 16
  let op := bitsOf h 0 8
  let bcast := bitsOf t 8 1 == 1
  let pos := bitsOf t 0 4
  if !s.isSummit then (s, badOpcode 0x02C3)
  else if bitsOf t 4 4 ≠ 0 ∨ 512 ≤ t ∨ p.body.length < 2 ∨ 4092 < len ∨ p.body.length ≠ 2 + len then (s, malformed 0x0202)
  else if op = 8 then (s, malformed 0x0205)
  else if bcast && resultOps.contains op then (s, malformed 0x0202)
  else
    let opc : Byte := BitVec.ofNat 8 op
    let tag : Byte := BitVec.ofNat 8 (bitsOf h 8 8)
    let target := p.body.getD 1 0
    let body := p.body.drop 2
    let inner := s.freeInner.getD 0
    let s := s.giveInner p
    let s := if bcast || pos == s.position then s.acceptRidge p.order (BitVec.ofNat 8 inner) opc tag target body else s
    let s := if bcast || pos != s.position then
        s.emitRidge 0x21 (if bcast then .all else .position pos) (.bytes "FORWARD" [p.order, inner, if bcast then -1 else pos, op, tag.toNat, target.toNat] (bytesOfWords body)) else s
    (s, .later (.forward p.order bcast))

/-- R97: CMD's own opcodes. -/
def commandOps (op : Nat) (p : InFlight) (s : State) : State × Verdict :=
  match op with
  | 0x00 => opNop p s
  | 0x01 => opIdent p s
  | 0x02 => opGetParam p s
  | 0x03 => opSetParam p s
  | 0x04 => opCommit p s
  | 0x05 => opSnapshot p s
  | 0x06 => opResetUnit p s
  | 0x07 => opCairn p s
  | 0x08 => opForward p s
  | 0x09 => opDiscard p s
  | _ => (s, badOpcode 0x0201)

/-- R97: the opcodes of STREAM and PACK. -/
def streamOps (op : Nat) (p : InFlight) (s : State) : State × Verdict :=
  match op with
  | 0x10 => opStreamOpen p s
  | 0x11 => opStreamPush p s
  | 0x12 => opStreamFetch p s
  | 0x13 => opStreamClose p s
  | 0x18 => opPackJob p s
  | 0x19 => opCtxSeed p s
  | 0x1A => opCtxPersist p s
  | _ => (s, badOpcode 0x0201)

/-- R97: the opcodes of TIME and SEQ. -/
def instantOps (op : Nat) (p : InFlight) (s : State) : State × Verdict :=
  match op with
  | 0x20 => opTimeStep p s
  | 0x21 => opTimeReset p s
  | 0x22 => opTimeVerdict p s
  | 0x23 => opCapRead p s
  | 0x30 => opScanFlush p s
  | 0x31 => opScanTableLoad p s
  | 0x32 => opScanPlan p s
  | _ => (s, badOpcode 0x0201)

/-- R97: the opcodes of TRACE, LEDGER and COL. -/
def recordOps (op : Nat) (p : InFlight) (s : State) : State × Verdict :=
  match op with
  | 0x40 => opTraceArm p s
  | 0x41 => opTraceStop p s
  | 0x42 => opTraceRead p s
  | 0x43 => opTraceForce p s
  | 0x50 => opLedgerRead p s
  | 0x51 => opLedgerFill p s
  | 0x60 => opColRead p s
  | _ => (s, badOpcode 0x0201)

/-- R97: the opcodes of AXIS. -/
def axisOps (op : Nat) (p : InFlight) (s : State) : State × Verdict :=
  match op with
  | 0x68 => opAxisMove p s
  | 0x69 => opAxisStop p s
  | 0x6A => opAxisHome p s
  | 0x6B => opAxisClear p s
  | 0x6C => opAxisSetPos p s
  | 0x6D => opProbeArm p s
  | _ => (s, badOpcode 0x0201)

/-- R97: the opcodes of PAIR. -/
def pairOps (op : Nat) (p : InFlight) (s : State) : State × Verdict :=
  match op with
  | 0x70 => opPairJoin p s
  | 0x71 => opPairSwap p s
  | 0x72 => opPairVerdict p s
  | 0x73 => opPairDrop p s
  | _ => (s, badOpcode 0x0201)

/-- R97: the opcodes of CAL, THERM and LIGHT. -/
def plantOps (op : Nat) (p : InFlight) (s : State) : State × Verdict :=
  match op with
  | 0x80 => opCalRun p s
  | 0x81 => opSensorReadmit p s
  | 0x88 => opLightClear p s
  | 0x89 => opLightMeasure p s
  | _ => (s, badOpcode 0x0201)

/-- R97: the opcodes of HUSK. -/
def islandOps (op : Nat) (p : InFlight) (s : State) : State × Verdict :=
  match op with
  | 0x90 => opHuskInit p s
  | 0x91 => opHuskPolicy p s
  | 0x92 => opKeyLoad p s
  | 0x93 => opKeyClear p s
  | 0x94 => opHuskAck p s
  | 0x95 => opHuskZeroize p s
  | _ => (s, badOpcode 0x0201)

/-- R97: the opcodes of ERR. -/
def errorOps (op : Nat) (p : InFlight) (s : State) : State × Verdict :=
  match op with
  | 0x98 => opErrRead p s
  | 0x99 => opLogRead p s
  | 0x9A => opErrAck p s
  | 0x9B => opJournalInfo p s
  | 0x9C => opJournalRead p s
  | 0x9D => opJournalRestore p s
  | 0x9E => opCheckpoint p s
  | _ => (s, badOpcode 0x0201)

/-- The opcode table of R97, by the unit that executes the opcode; another opcode is BAD_OPCODE. -/
def runOp (op : Nat) (p : InFlight) (s : State) : State × Verdict :=
  if op < 0x10 then commandOps op p s
  else if op < 0x20 then streamOps op p s
  else if op < 0x40 then instantOps op p s
  else if op < 0x68 then recordOps op p s
  else if op < 0x70 then axisOps op p s
  else if op < 0x80 then pairOps op p s
  else if op < 0x90 then plantOps op p s
  else if op < 0x98 then islandOps op p s
  else errorOps op p s

/-- What the ROM answers before firmware has started: IDENT, and GET_PARAM of SYS words 0x0000 to 0x00FF, on PCIe (R69). -/
def romAnswers (p : InFlight) : Bool :=
  p.opcode == 0x01 || (p.opcode == 0x02 && decide (p.target.toNat < 0x100) && decide (p.target.toNat + bodyWord p.body 0 ≤ 0x100))

/-- Opcodes that a device in SHADOW or CANDIDATE role refuses (R16, R477, R502). -/
def writeOps : List Nat :=
  [0x03, 0x04, 0x06, 0x10, 0x11, 0x12, 0x13, 0x18, 0x19, 0x1A, 0x22, 0x30, 0x31, 0x51, 0x68, 0x69, 0x6A, 0x6B, 0x6C, 0x6D, 0x70, 0x71, 0x73
   , 0x88, 0x89, 0x9A, 0x9D, 0x9E]

/-- Opcodes whose accepted packets a keeper passes to its partner (R16, R483). A COMMIT passes the batch that it schedules. -/
def mirrorOps : List Nat :=
  [0x03, 0x04, 0x06, 0x30, 0x31, 0x51, 0x68, 0x69, 0x6A, 0x6B, 0x6C, 0x6D, 0x71, 0x73, 0x88, 0x89, 0x9A, 0x9E]

/-- Whether the keeper, or the ALONE device of a join, passes this packet on: a staged write only joins the keeper's own batch, and a reset of SYS is its own. (DEDUCED, log entry 56.) -/
def State.mirrors (s : State) (p : InFlight) : Bool :=
  s.passesOn && mirrorOps.contains p.opcode.toNat
    && !(p.opcode == 0x03 && bodyWord p.body 0 % 2 == 1) && !(p.opcode == 0x06 && p.target == 0)

/-- The state with what a packet in flight waits for. -/
def State.setWait (s : State) (order : Nat) (w : Wait) : State :=
  { s with cmd := { s.cmd with inflight := s.cmd.inflight.map (fun (x : InFlight) => if x.order == order then { x with wait := w } else x) } }

/-- The outcome of a packet that has run: its reply, or what it waits for. NOP carries the time of its acceptance (R81). -/
def finishOp (p : InFlight) (r : State × Verdict) : State :=
  match r.2 with
  | .bad st d => r.1.answer p st d []
  | .done res => if p.opcode = 0 then r.1.answerAt { p with flagsAt := some p.acceptFlags } 0 0 res p.acceptNs else r.1.answer p 0 0 res
  | .stopped d res => r.1.answer p 1 d res
  | .later w => r.1.setWait p.order w

/-- The MIRROR message of a packet (R483). -/
def State.sendMirror (s : State) (number : Nat) (p : InFlight) (batch : List StagedWrite) : State :=
  if p.opcode = 0x04 then s.emitRidge 0x20 .partner (.bytes "MIRROR_BATCH" [number, p.order, frameOfBody p.body 0] (writeBytes batch))
  else s.emitRidge 0x20 .partner (.bytes "MIRROR" [number, p.opcode.toNat, p.target.toNat, p.boundary] (bytesOfWords p.body))

/-- A keeper checks a write, sends it to its partner, and applies it once the partner has acknowledged it (R483). A COMMIT takes its path's
batch at its start, so that what the path stages from then on is another batch (R121). -/
def State.startMirror (s : State) (p : InFlight) : State :=
  if s.pair.noAck then s.answer p 0x10 0x4931 []
  else match (runOp p.opcode.toNat p s).2 with
    | .bad st d => s.answer p st d []
    | _ =>
      let n := s.pair.nextMirror
      let batch := if p.opcode = 0x04 then s.batch p.path else []
      let m : Mirrored := ⟨n, p.order, p.acceptClk, s.time.clk, batch⟩
      let s := { s with pair := { s.pair with nextMirror := n + 1, mirrored := s.pair.mirrored ++ [m] } }
      ((if p.opcode = 0x04 then s.setBatch p.path [] else s).sendMirror n p batch).setWait p.order (.mirror n)

/-- The ALONE device of a join applies a write at once, and sends it to the candidate as it would to a shadow (R494). (DESIGN CHOICE, log entry 198.) -/
def State.startPassed (s : State) (p : InFlight) : State :=
  let batch := if p.opcode = 0x04 then s.batch p.path else []
  let r := runOp p.opcode.toNat p s
  match r.2 with
  | .bad st d => r.1.answer p st d []
  | _ =>
    let n := s.pair.nextMirror
    let t := { r.1 with pair := { r.1.pair with nextMirror := n + 1 } }
    finishOp p (t.sendMirror n p batch, r.2)

/-- A packet starts (R121). -/
def State.startPacket (s : State) (p : InFlight) : State :=
  let p : InFlight := { p with startClk := some s.time.clk }
  let s := { s with cmd := { s.cmd with inflight := s.cmd.inflight.map (fun (x : InFlight) => if x.order == p.order then p else x) } }
  if !s.sys.firmware && !romAnswers p then s.answer p 0x10 0x00B0 []
  else if decide (2 ≤ s.pairRole) && writeOps.contains p.opcode.toNat then s.answer p 0x10 0x49F2 []
  else if s.mirrors p then (if s.pairRole = 1 then s.startMirror p else s.startPassed p)
  else finishOp p (runOp p.opcode.toNat p s)

/-! ## The order of starts (R121, R123) -/

/-- The unit that owns an opcode above 0x0F (R612). -/
def ownerUnit (op : Nat) : Nat :=
  if op < 0x18 then 0x10 else if op < 0x20 then 0x11 else if op < 0x30 then 0x08 else if op < 0x40 then 0x18
  else if op < 0x50 then 0x21 else if op < 0x60 then 0x29 else if op < 0x68 then 0x30 else if op < 0x70 then 0x38
  else if op < 0x80 then 0x49 else if op = 0x80 then 0x51 else if op < 0x88 then 0x50 else if op < 0x90 then 0x58
  else if op < 0x98 then 0x60 else 0x68

/-- The units that a packet names: those of its addresses, else the owner of its opcode. -/
def unitsNamed (p : InFlight) : List Nat :=
  let op := p.opcode.toNat
  if op = 2 ∨ op = 3 ∨ op = 6 then [p.target.toNat / 65536 % 256]
  else if op = 5 then (snapshotEntries p).map (fun (e : SnapEntry) => e.addr / 65536 % 256)
  else if op < 0x10 then []
  else [ownerUnit op]

/-- A cairn in flight that covers a packet accepted after it (R123). -/
def coversLater (q p : InFlight) : Bool :=
  q.opcode == 0x07 && q.body.length == 2 && decide (q.scope ≤ 2) && decide (q.order < p.order) && (q.scope != 0 || q.path == p.path)

/-- Two PACK_JOBs on different slots may run at the same time (R183). -/
def otherSlot (q p : InFlight) : Bool := q.opcode == 0x18 && p.opcode == 0x18 && q.target != p.target

/-- An earlier packet in flight keeps `p` from starting: a cairn, or a running packet of its path that names the same unit. (DEDUCED, log entries 35, 58.) -/
def keepsBack (q p : InFlight) : Bool :=
  coversLater q p
    || (decide (q.order < p.order) && q.path == p.path && q.startClk.isSome && !otherSlot q p
      && (unitsNamed q).any (fun u => (unitsNamed p).contains u))

/-- A packet accepted by a core that is restarting waits for it (R595). -/
def State.coreDown (s : State) (p : InFlight) : Bool :=
  !s.err.coresDown.isEmpty && s.err.coresDown.contains (Config.coreOf p.order).toNat

/-- Whether a packet may start now. One whose parts run on other devices needs an inner tag (R127). -/
def State.mayBegin (s : State) (p : InFlight) : Bool :=
  !s.coreDown p && !(p.onRidge && s.freeInner.isNone) && !s.cmd.inflight.any (fun (q : InFlight) => keepsBack q p)

/-- Packets that have not started, in acceptance order, each started if it may; one that may not holds up its path. -/
def State.startAll : List InFlight → List Path → State → State
  | [], _, s => s
  | p :: t, held, s =>
    if !s.cmd.inflight.any (fun (x : InFlight) => x.order == p.order && x.startClk.isNone) then s.startAll t held
    else if held.contains p.path || !s.mayBegin p then s.startAll t (p.path :: held)
    else (s.startPacket p).startAll t held

/-- Every packet that may start does. -/
def State.startReady (s : State) : State :=
  State.startAll (s.cmd.inflight.filter (fun (x : InFlight) => x.startClk.isNone)) [] s

/-! ## Replies of FORWARD (R126, R128) -/

/-- The reports gathered under a number. -/
def State.reports (s : State) (id : Nat) : List (Nat × Nat × List Word) := tabGet [] s.cmd.gathered id

/-- The state with a report gathered: position, time or status word, words. -/
def State.report (s : State) (id pos v : Nat) (ws : List Word) : State :=
  { s with cmd := { s.cmd with gathered := tabPut [] s.cmd.gathered id (s.reports id ++ [(pos, v, ws)]) } }

/-- The state without what was gathered under a number. -/
def State.dropReports (s : State) (id : Nat) : State := { s with cmd := { s.cmd with gathered := tabPut [] s.cmd.gathered id [] } }

/-- Every position of the ring map has reported under a number. -/
def State.allReported (s : State) (id : Nat) : Bool :=
  s.mapPositions.all (fun q => (s.reports id).any (fun e => e.1 == q))

/-- A FORWARD is answered once its inner replies are there. -/
def State.forwardDone (s : State) : State :=
  forEach s.cmd.inflight (fun (p : InFlight) s => match p.wait with
    | .forward id bcast =>
      if bcast then
        (if s.allReported id then
          let ws := (List.range 16).map (fun q => match (s.reports id).find? (fun e => e.1 == q) with
            | some e => word e.2.1
            | none => 0)
          (s.dropReports id).answer p 0 0 ws
        else s)
      else match s.reports id with
        | e :: _ => (s.dropReports id).answer p 0 0 e.2.2
        | [] => s
    | _ => s) s

/-- Whatever waits on the command just carried out goes on: packets that may start, those that a FORWARD has placed on the ridge path, and
FORWARD replies. -/
def State.pump (s : State) : State := (s.startReady.startReady).forwardDone

/-- A packet that CMD takes from a host path (R69, R88, R130): nothing arrives on a lost path, before the ROM answers, or on another path than
PCIe before firmware has started. PCIe accepts nothing either once PARSE_ERR or FETCH_ERR has stopped the fetch (R92). -/
def State.takePkt (s : State) (op : Byte) (p : Pkt) : State :=
  if p.path == .ridge || s.pathLost p.path || (p.path == .pcie && s.host.fetchStopped) || !s.sys.romUp || (p.path != .pcie && !s.sys.firmware) then s
  else (s.accept { s.newPacket p.path p.tag op p.target p.body with hostTag := p.tag }).pump

/-- A direct SET_PARAM of a write that has a row of its own. -/
def directPkt (h : Hdr) (addr : Nat) (body : List Word) : Pkt := ⟨h.path, h.tag, word addr, body⟩

/-- The same, of a CMD bit and nothing else. -/
def requestPkt (h : Hdr) (addr bit : Nat) : Pkt := directPkt h addr [2, word (2 ^ bit), word (2 ^ bit)]

/-! ## Reads at a frame boundary (R114, R115) -/

/-- The result words of a read packet at the boundary of `q` µs, and the state after it. -/
def State.readNow (s : State) (p : InFlight) (q : Nat) : State × List Word :=
  if p.opcode = 0x42 then (s, s.traceReadWords p) else s.readPacket p q

/-- The snapshot instant that a packet waits for and has not had yet. -/
def InFlight.readAt (p : InFlight) : Option Nat :=
  if p.taken.isSome then none else match p.wait with
  | .read q => some q
  | .snapshot f _ => some f
  | _ => none

/-- What a packet in flight is, changed by `g` where `q` holds of it. -/
def State.mapInflight (s : State) (q : InFlight → Bool) (g : InFlight → InFlight) : State :=
  { s with cmd := { s.cmd with inflight := s.cmd.inflight.map (fun (p : InFlight) => if q p then g p else p) } }

/-- The reads of snapshot instant `g` are taken (R114): every value as it stands after the last TIME clock before the boundary and after every
commit of a frame up to `g`. The RC fields read clear now, before what the boundary's own TIME clock adds (R9, R10). (DEDUCED, log entry 33.) -/
def State.takeReads (s : State) (g : Nat) : State :=
  let mine := s.cmd.inflight.filter (fun (p : InFlight) => p.readAt == some g)
  let take := fun (p : InFlight) (e : State × List (Nat × List Word)) =>
    let (v, ws) := e.1.readNow p g
    (v, e.2 ++ [(p.order, ws)])
  let got := (forEach mine take (s.applyDue g, [])).2
  let s := s.mapInflight (fun p => got.any (fun e => e.1 == p.order)) (fun p => { p with taken := (got.find? (fun e => e.1 == p.order)).map (fun e => e.2) })
  forEach mine (fun (p : InFlight) s => s.clearRead (readAddrs p)) s

/-- FLAGS and epoch of the reads just taken are those right after their snapshot instant (R85, R119). -/
def State.stampReads (s : State) : State :=
  s.mapInflight (fun p => p.taken.isSome && p.epochAt.isNone) (fun p => { p with flagsAt := some s.flags, epochAt := some s.cmd.epoch })

/-- The first instant up to `u` µs at which something has been decided to happen: a commit, a transition, or a read. -/
def State.nextInstant (s : State) (u : Nat) : Option Nat :=
  let all := s.cmd.scheduled.map (fun (b : Scheduled) => b.f) ++ s.sys.next.map (fun e => e.1)
    ++ s.seq.flatMap (fun e => e.2.next.map (fun t => t.1)) ++ s.cmd.inflight.filterMap InFlight.readAt
    ++ s.pair.streamWords.map (fun e => e.1)
  (all.filter (fun g => decide (g ≤ u))).foldl (fun m g => some (m.elim g (fun x => min x g))) none

/-- Device time at the last TIME clock before the boundary of `g` µs; unchanged where that has passed. -/
def State.reachBefore (s : State) (g : Nat) : State := s.reachClk ((s.reach (g * 1000)).time.clk - 1)

/-- Device time passes the instant of `g` µs: its reads, its commits, and then its transitions (R17, R19, R114, R118). -/
def State.instant (s : State) (g : Nat) : State :=
  let reads := s.cmd.inflight.any (fun (p : InFlight) => p.readAt == some g)
  let s := if reads then (s.reachBefore g).takeReads g else s
  let s := s.reach (g * 1000)
  let due := s.cmd.scheduled.any (fun (b : Scheduled) => decide (b.f ≤ g))
  let s := ((if due then (s.applyDue g).pump else s).settle).applyStreamWords g
  if reads then s.stampReads else s

/-- Device time passes the instants up to `u` µs at which something has been decided to happen, at most `n` of them. -/
def State.passInstants (u : Nat) : Nat → State → State
  | 0, s => s
  | n + 1, s => match s.nextInstant u with
    | none => s
    | some g => (s.instant g).passInstants u n

/-- Every instant up to `u` µs is passed. -/
def State.passTo (s : State) (u : Nat) : State :=
  s.passInstants u (s.cmd.scheduled.length + s.sys.next.length + (s.seq.flatMap (fun e => e.2.next)).length + s.cmd.inflight.length
    + s.pair.streamWords.length + 1)

/-- Device time moves on to `t` ns, and what was decided for instants up to then takes effect in their order. -/
def State.arrive (s : State) (t : Nat) : State := ((s.passTo (s.reach t).us).reach t).settle

/-- Device time moves on to the TIME clock numbered `c`, and what was decided for instants up to then takes effect in their order. -/
def State.waitClk (s : State) (c : Nat) : State := ((s.passTo (s.reachClk c).us).reachClk c).settle

/-- Reads whose snapshot instant has come are answered, in acceptance order. -/
def State.answerReads (s : State) (k : Nat) : State :=
  forEach s.cmd.inflight (fun (p : InFlight) s => match p.wait with
    | .read q => match p.taken with
      | some ws => if k < q then s else s.answerAt p 0 0 ws (q * 1000)
      | none => s
    | .ledgerRead q => if k < q then s else s.answerAt p 0 0 (s.ledgerReadWords q p.body) (q * 1000)
    | _ => s) s

/-! ## SNAPSHOT at a named frame (R116, R117) -/

/-- SNAPSHOT_AT_FRAME: the values taken at frame `f` are answered. Of a cascade snapshot the summit keeps its own, and a member sends its
values. -/
def State.snapshotAt (s : State) (f : Nat) : State :=
  forEach s.cmd.inflight (fun (p : InFlight) s => match p.wait, p.taken with
    | .snapshot g cascade, some ws =>
      if g ≠ f ∨ (s.reports p.order).any (fun e => e.1 == s.position) then s
      else if !cascade then s.answerAt p 0 0 ws (f * 1000)
      else if p.path = .ridge ∧ !s.isSummit then
        (s.retire p).emitRidge 0x21 .summit (.bytes "SNAPSHOT_REPLY" [p.summitId, s.position] (bytesOfWords ws))
      else s.report p.order s.position 0 ws
    | _, _ => s) s

/-- CASCADE_SNAPSHOT_DEADLINE: the summit replies, with absent positions marked (R117). (DEDUCED, log entry 62.) -/
def State.snapshotReply (s : State) (f : Nat) : State :=
  forEach s.cmd.inflight (fun (p : InFlight) s =>
    if p.wait = .snapshot f true then
      let got := (s.reports p.order).filter (fun e => p.mapAt.contains e.1)
      let ws := (List.range 16).flatMap (fun q => match got.find? (fun e => e.1 == q) with
        | some e => word (q + 16 + e.2.2.length * 65536) :: e.2.2
        | none => [word q])
      (s.dropReports p.order).answerAt p 0 0 ws (f * 1000)
    else s) s

/-! ## Cairns (R123 to R125) -/

/-- The cairn in flight with a tag. -/
def State.cairnOf (s : State) (path : Path) (tag : Byte) : Option InFlight :=
  s.cmd.inflight.find? (fun (p : InFlight) => p.path == path && p.tag == tag && p.opcode == 0x07)

/-- Every packet in the scope of a cairn that was accepted before it has completed here. -/
def State.cairnClear (s : State) (p : InFlight) : Bool :=
  !s.cmd.inflight.any (fun (x : InFlight) => decide (x.order < p.order) && (p.scope != 0 || x.path == p.path))

/-- Devices of the cascade at a position, this one apart: each of them reports a cairn (R124). -/
def State.devicesAt (s : State) (q : Nat) : Nat :=
  let n := (s.ridge.map.filter (fun (n : RingNode) => n.role != 2 && n.pos == q)).length
  if q = s.position then n - 1 else n

/-- Every other device of the cascade has reported under a number. -/
def State.othersReported (s : State) (id : Nat) : Bool :=
  s.mapPositions.all (fun q =>
    let n := ((s.reports id).filter (fun e => e.1 == q && e.2.2.isEmpty)).length
    decide (s.devicesAt q ≤ n))

/-- CAIRN_COMPLETE: the cairn replies, and what it held back starts. A member's part of a cascade cairn reports to the summit, which notes the
time at which its own part completes and replies with the latest of all. -/
def State.cairnDone (s : State) (path : Path) (tag : Byte) : State :=
  match s.cairnOf path tag with
  | none => s
  | some p =>
    if p.wait ≠ .cairn ∨ !s.cairnClear p then s
    else if p.scope = 2 ∧ !s.isSummit then ((s.retire p).emitRidge 0x21 .summit (.signal "CAIRN_DONE" [p.summitId, s.position, s.ns])).pump
    else
      let head := p.body.getD 1 0
      if p.scope ≠ 2 then (s.answer p 0 0 (head :: lowHigh s.ns)).pump
      else
        let own := fun (e : Nat × Nat × List Word) => !e.2.2.isEmpty
        let s := if (s.reports p.order).any own then s else s.report p.order s.position s.ns [1]
        if !s.othersReported p.order then s
        else
          let t := (s.reports p.order).foldl (fun m e => max m e.2.1) 0
          ((s.dropReports p.order).answer p 0 0 (head :: lowHigh t ++ [word (channelBits s.mapPositions)])).pump

/-- CAIRN_TIMEOUT in TIME clocks; 0 is treated as 1 (R113). -/
def State.cairnLimit (s : State) : Nat := (let v := s.get F.CMD_CAIRN_TIMEOUT; if v = 0 then 1 else v) * 250000

/-- CAIRN_TIMEOUT: the cairn is answered TIMEOUT, and every packet held behind it ABORTED (R125). (DEDUCED, log entry 63.) -/
def State.cairnLate (s : State) (path : Path) (tag : Byte) : State :=
  match s.cairnOf path tag with
  | none => s
  | some p =>
    if s.time.clk < p.acceptClk + s.cairnLimit then s
    else
      let held := s.cmd.inflight.filter (fun (x : InFlight) => x.startClk.isNone && coversLater p x)
      let member := p.scope == 2 && !s.othersReported p.order
      let s := if p.scope = 2 ∧ p.path = .ridge ∧ !s.isSummit then s.retire p
        else s.answer p 0x30 (if member then 0x02A2 else 0x02A3) []
      (forEach held (fun (x : InFlight) s => s.answer x 0x31 0x02C1 []) (s.dropReports p.order)).pump

/-! ## The packet execution limit (R129) -/

/-- Whether a packet has exceeded PKT_TIMEOUT: of a packet with a named instant from that instant, else from its start. Cairns, jobs and
calibration runs have limits of their own, a mirrored write that of R483; a job's runs from its acceptance (R184); of an inner packet the limit applies to the outer one (R127). -/
def State.pktLate (s : State) (p : InFlight) : Bool :=
  let from_ := fun (f : Nat) => decide (frameLead f s.ns ≤ -(s.pktTimeout * 4 : Nat))
  p.path != .ridge && match p.wait with
  | .unstarted => p.opcode == 0x18 && decide (p.acceptClk + s.pktTimeout ≤ s.time.clk)
  | .cairn => false
  | .job _ => false
  | .calRun _ => false
  | .mirror _ => false
  | .commit f => from_ f
  | .snapshot f _ => from_ f
  | .restore f => from_ f
  | .ledgerFill f => from_ f
  | .pairAt f => from_ f
  | _ => match p.startClk with
    | some c => decide (c + s.pktTimeout ≤ s.time.clk)
    | none => false

/-- What a started packet still intended is withdrawn (R104, R129). -/
def State.withdrawOwn (s : State) (p : InFlight) : State :=
  match p.wait with
  | .commit _ => { s with cmd := { s.cmd with scheduled := s.cmd.scheduled.filter (fun (b : Scheduled) => b.order != p.order) } }
  | .restore _ => { s with cmd := { s.cmd with scheduled := s.cmd.scheduled.filter (fun (b : Scheduled) => b.order != p.order) } }
  | .snapshot _ _ => s.dropReports p.order
  | .forward id _ => s.dropReports id
  | .fetch n _ => s.setStrm n { s.strm n with fetching := false }
  | .job n => s.dropJob n
  | .ledgerFill _ => { s with ledger := { s.ledger with fills := s.ledger.fills.filter (fun (x : Fill) => x.order != p.order) } }
  | .axisAt f =>
    let a := p.target.toNat
    s.setMx a { s.mx a with reqs := (s.mx a).reqs.filter (fun e => e.1 != f) }
  | .measure n => s.setLamp n { s.lamp n with ask := none }
  | .mirror n => { s with pair := { s.pair with mirrored := s.pair.mirrored.filter (fun (m : Mirrored) => m.number != n) } }
  | .pairAt v => { s with pair := { s.pair with next := s.pair.next.filter (fun e => e.1 != v) } }
  | _ => s

/-- An inner packet whose outer packet has timed out is withdrawn here, and leaves without a reply (R104, R129). -/
def State.withdrawInner (s : State) (id : Nat) : State :=
  forEach (s.cmd.inflight.filter (fun (p : InFlight) => p.path == .ridge && p.summitId == id)) (fun p s => (s.withdrawOwn p).retire p) s

/-- What a packet still intended is withdrawn: of a FORWARD also the inner packets (R129). -/
def State.withdraw (s : State) (p : InFlight) : State := match p.wait with
  | .forward id _ => ((s.withdrawOwn p).withdrawInner id).emitRidge 0x21 .all (.signal "FORWARD_WITHDRAW" [id])
  | _ => s.withdrawOwn p

/-- PACKET_TIMEOUT. (DEDUCED, log entry 36.) -/
def State.packetLate (s : State) (path : Path) (tag : Byte) : State :=
  match s.cmd.inflight.find? (fun (p : InFlight) => p.path == path && p.tag == tag && s.pktLate p) with
  | none => s
  | some p => ((s.withdraw p).answer p 0x30 0x02A1 []).pump

/-- CORE_RESTART_COMPLETE: packets that the core had started and that have not completed are answered TIMEOUT; those that it had accepted run
now (R595). (DEDUCED, log entry 64.) -/
def State.coreReturns (s : State) (n : Nat) : State :=
  if !s.err.coresDown.contains n then s
  else
    let lost := s.cmd.inflight.filter (fun (p : InFlight) => p.startClk.isSome && (Config.coreOf p.order).toNat == n)
    ((forEach lost (fun (p : InFlight) s => (s.withdraw p).answer p 0x30 0x02A1 []) s).coreBack n).pump

/-! ## PCIe: the rings (R89 to R92) -/

/-- Words of the command ring from index `i` on, `n` of them, wrapping at `size`. -/
def ringRead (ring : List Word) (size i n : Nat) : List Word := (List.range n).map (fun j => ring.getD ((i + j) % size) 0)

/-- Every whole packet that lies between the consumer and the producer index is fetched and accepted. -/
def State.fetchRing (ring : List Word) : Nat → State → State
  | 0, s => s
  | fuel + 1, s =>
    let size := ringWords (s.get F.HOSTIF_CRING_SIZE)
    let cons := s.get F.HOSTIF_CRING_CONS
    let avail := (s.get F.HOSTIF_CRING_PROD + size - cons) % size
    let head := ringRead ring size cons 2
    let h := bodyWord head 0
    let len := bitsOf h 16 16
    if avail = 0 then s
    else if 4094 < len then
      { s.mark F.HOSTIF_RING_STAT_PARSE_ERR with host := { s.host with fetchStopped := true } }
    else if avail < 2 + len then s
    else
      let body := ringRead ring size (cons + 2) len
      let s := s.put F.HOSTIF_CRING_CONS ((cons + 2 + len) % size)
      let p := s.newPacket .pcie (BitVec.ofNat 8 (bitsOf h 8 8)) (BitVec.ofNat 8 (bitsOf h 0 8)) (head.getD 1 0) body
      (s.accept p).fetchRing ring fuel

/-- The host's writes of ring words through BAR0, in order (R89): each is checked as a direct write is, and one that fails has no effect. -/
def State.barWrites (s : State) (ws : List (Fin 12 × Word)) : State :=
  if s.pathLost .pcie then s
  else forEach ws (fun e s =>
    let w : StagedWrite := ⟨0x010000 + e.1, BitVec.allOnes 32, e.2⟩
    if (s.writesError .pcie true [w]).isSome then s else s.takeWrites [w] 0) s

/-- CRING_DOORBELL: the host has moved CRING_PROD; `ring` is what the command ring holds in host memory. (DEDUCED, log entry 50.) -/
def State.doorbell (s : State) (prod : Nat) (ring : List Word) : State :=
  if s.pathLost .pcie then s else
  let s := s.put F.HOSTIF_CRING_PROD prod
  if !s.sys.romUp || !s.ringRuns || s.host.fetchStopped then s
  else (s.fetchRing ring (ringWords (s.get F.HOSTIF_CRING_SIZE))).pump

/-- REPLY_HELD_WRITE: the host has moved RRING_CONS, and held replies are written while there is room (R91). (DEDUCED, log entry 72.) -/
def State.replySpace (s : State) (cons : Nat) : State := (s.put F.HOSTIF_RRING_CONS cons).drainHeld s.host.held.length

/-- INTERRUPT_MODERATION_EXPIRY (R89). -/
def State.moderationEnds (s : State) : State := if s.host.irqPending then s.replyIrq else s

/-- RING_RESET through BAR0: only while ENABLE is 0 (R89). -/
def State.barRingReset (s : State) : State := if s.has F.HOSTIF_RING_CTRL_ENABLE then s else s.ringReset

/-- PERST_N is asserted (R58, R60, R61): HOSTIF is reset, and the PCIe path is lost. (DEDUCED, log entry 19.) -/
def State.perstAssert (s : State) : State :=
  if s.host.perst then s
  else
    let log := (s.losePath .pcie).reg F.HOSTIF_LOSS_LOG_VALID.addr
    let s := ((s.losePath .pcie).dropUnit 0x01).setReg F.HOSTIF_LOSS_LOG_VALID.addr log
    let h := s.host
    { s.mark F.SYS_RESET_CAUSE_PERST with host := { h with perst := true, fetchStopped := false, lastIrq := none, irqPending := false } }

/-! ## UDP (R93 to R96) -/

/-- The words of a payload, four bytes each, low byte first. -/
def wordsOf : List Byte → List Word
  | a :: b :: c :: d :: t => word (ofLE [a, b, c, d]) :: wordsOf t
  | _ => []

/-- The packets that words spell exactly: opcode, tag, TARGET and body. (DEDUCED, log entry 66.) -/
def packetsOf : Nat → List Word → Option (List (Byte × Byte × Word × List Word))
  | 0, ws => if ws.isEmpty then some [] else none
  | n + 1, ws =>
    let h := bodyWord ws 0
    let len := bitsOf h 16 16
    if ws.length < 2 + len ∨ 4094 < len then none
    else (packetsOf n (ws.drop (2 + len))).map (fun t =>
      (BitVec.ofNat 8 (bitsOf h 0 8), BitVec.ofNat 8 (bitsOf h 8 8), ws.getD 1 0, (ws.drop 2).take len) :: t)

/-- The packets of a datagram with a valid header, and its SEQ (R94). -/
def datagramPackets (b : List Byte) : Option (Word × List (Byte × Byte × Word × List Word)) :=
  let n := leAt b 8 2
  if b.length < 12 ∨ b.length % 4 ≠ 0 ∨ leAt b 0 2 ≠ 0x444C ∨ leAt b 2 1 ≠ 1 ∨ leAt b 3 1 ≠ 0 ∨ leAt b 10 2 ≠ 0 ∨ n = 0 then none
  else (packetsOf n (wordsOf (b.drop 12))).map (fun ps => (word (leAt b 4 4), ps))

/-- A datagram is dropped and counted (R94, R95). -/
def State.dropDatagram (s : State) (port : Bool) : State :=
  if port then { s with host := { s.host with dropped1 := s.host.dropped1 + 1 } } else { s with host := { s.host with dropped0 := s.host.dropped0 + 1 } }

/-- The signed difference of two sequence numbers (R96). -/
def seqDiff (a b : Word) : Int := (a - b).toInt

/-- The lowest sequence number kept. -/
def lowestSeq : List Kept → Option Word
  | [] => none
  | k :: t => match lowestSeq t with
    | none => some k.seq
    | some m => some (if seqDiff k.seq m < 0 then k.seq else m)

/-- The state with a source's kept sequences replaced. -/
def State.setKept (s : State) (src : Source) (ks : List Kept) : State :=
  { s with host := { s.host with sources := s.host.sources.map (fun (x : Source) =>
      if x.port == src.port && x.ip == src.ip && x.udp == src.udp then { x with kept := ks } else x) } }

/-- A datagram of a known source: repeated, stale, or accepted with its packets (R96). (DEDUCED, log entry 69.) -/
def State.takeDatagram (s : State) (src : Source) (d : UdpFrame) (seq : Word) (ps : List (Byte × Byte × Word × List Word)) : State :=
  let o : Origin := ⟨d.mac, d.srcIp, d.srcUdp, seq⟩
  match src.kept.find? (fun (k : Kept) => k.seq == seq) with
  | some k => forEach k.replies (fun (r : Reply) s => s.sendEth r (some o)) s
  | none =>
    let full := decide (1024 ≤ src.kept.length)
    let low := lowestSeq src.kept
    let stale := full && (match low with
      | some m => decide (seqDiff seq m < 0)
      | none => false)
    if stale then { s with host := { s.host with stale := s.host.stale + 1 } }
    else
      let ks := if full then src.kept.filter (fun (k : Kept) => some k.seq != low) else src.kept
      let s := s.setKept src (ks ++ [{ seq := seq }])
      let path : Path := if d.port then .eth1 else .eth0
      (forEach ps (fun e s => s.accept { s.newPacket path e.2.1 e.1 e.2.2.1 e.2.2.2 with origin := some o }) s).pump

/-- The address of a port (R93). -/
def State.portAddr (s : State) (port : Bool) : Word := word (s.get (if port then F.NET_IPV4_ADDR1 else F.NET_IPV4_ADDR0))

/-- A port accepts Dolyan datagrams: it has an address, its enable bit is set, and its path is not lost. -/
def State.portOpen (s : State) (port : Bool) : Bool :=
  s.sys.firmware && !s.pathLost (if port then .eth1 else .eth0) && s.portAddr port != 0
    && s.has (if port then F.NET_CMD_UDP_ENABLE1 else F.NET_CMD_UDP_ENABLE0)

/-- An Ethernet frame of at most 9,018 bytes is accepted (R93): its payload, with 14 bytes of Ethernet header, 20 of IPv4, 8 of UDP or ICMP and
4 of check sequence. (PRESUMED, log entry 67.) -/
def frameFits (payload : List Byte) : Bool := decide (payload.length + 46 ≤ 9018)

/-- UDP_DATAGRAM_RX. -/
def State.datagramRx (s : State) (d : UdpFrame) : State :=
  if !s.portOpen d.port || d.fragment || !frameFits d.payload || d.dstIp != s.portAddr d.port || d.dstUdp.toNat != s.get F.NET_CMD_UDP_PORT then s
  else match datagramPackets d.payload with
    | none => s.dropDatagram d.port
    | some (seq, ps) =>
      match s.host.sources.find? (fun (x : Source) => x.port == d.port && x.ip == d.srcIp && x.udp == d.srcUdp) with
      | some src => s.takeDatagram src d seq ps
      | none =>
        if 4 ≤ (s.host.sources.filter (fun (x : Source) => x.port == d.port)).length then s.dropDatagram d.port
        else
          let src : Source := { port := d.port, ip := d.srcIp, udp := d.srcUdp }
          { s with host := { s.host with sources := s.host.sources ++ [src] } }.takeDatagram src d seq ps

/-- ARP_REQUEST: answered for the port's own address (R93). -/
def State.arpRx (s : State) (port : Bool) (mac : BitVec 48) (src dst : Word) : State :=
  if s.sys.firmware && s.portAddr port != 0 && dst == s.portAddr port then
    s.emit (.signal "ARP_REPLY" [if port then 1 else 0, mac.toNat, src.toNat, dst.toNat])
  else s

/-- ICMP_ECHO: answered for the port's own address (R93). -/
def State.echoRx (s : State) (port : Bool) (mac : BitVec 48) (src dst : Word) (payload : List Byte) : State :=
  if s.sys.firmware && s.portAddr port != 0 && dst == s.portAddr port && frameFits payload then
    s.emit (.bytes "ICMP_ECHO_REPLY" [if port then 1 else 0, mac.toNat, src.toNat] payload)
  else s

/-! ## Ridge messages that carry packets (R111, R117, R124, R126, R127, R220) -/

/-- A batch that arrives on the ridge, with its place in the sender's acceptance order: scheduled for its frame where that has not passed. -/
def State.ridgeBatch (s : State) (rank f : Nat) (ws : List StagedWrite) (cascade : Bool) : State :=
  let b : Scheduled := { f := f, order := s.cmd.nextOrder, rank := rank, path := .ridge, tag := 0, writes := ws, cascade := cascade }
  { s with cmd := { s.cmd with nextOrder := s.cmd.nextOrder + 1 } }.schedule b

/-- A cascade batch on a member: a keeper passes it to its partner (R111, R483). -/
def State.cascadeBatch (s : State) (id f : Nat) (ws : List StagedWrite) : State :=
  if f * 1000 ≤ s.ns then s
  else
    let s := s.ridgeBatch id f (ws.filter (fun w => cascadeWord w.addr)) false
    let s := if s.passesOn then
        { s.emitRidge 0x20 .partner (.bytes "MIRROR_BATCH" [s.pair.nextMirror, id, f] (writeBytes ws)) with pair := { s.pair with nextMirror := s.pair.nextMirror + 1 } }
      else s
    s.emitRidge 0x21 .summit (.signal "CASCADE_CONFIRM" [id, s.position])

/-- A packet in flight has the acceptance number `id`. -/
def State.knows (s : State) (id : Nat) : Bool := s.cmd.inflight.any (fun (p : InFlight) => p.order == id)

/-- CASCADE_MSG_RX. Messages to a position act on its ALONE or KEEPER device; a broadcast, a cairn and the end of the time base reach every
device (R124, R128, R220). (DEDUCED, log entry 59.) -/
def State.cascadeMsg (s : State) : CascadeMsg → State
  | .timeReset => s.resetTimeBase
  | .forward id inner bcast op tag target body =>
    if (2 ≤ s.pairRole ∨ s.cascadeRole = 2) ∧ !bcast then s else (s.acceptRidge id inner op tag target body).pump
  | .withdraw id => (s.withdrawInner id).pump
  | .forwardReply id pos ws =>
    if !s.knows id then s
    else (s.report id pos (bitsOf (bodyWord ws 1) 0 24 + 2 ^ 24) ws).pump
  | .batch id f ws => if 2 ≤ s.pairRole then s else s.cascadeBatch id f ws
  | .confirm id pos =>
    { s with cmd := { s.cmd with scheduled := s.cmd.scheduled.map (fun (b : Scheduled) =>
        if b.order == id then { b with confirmed := word (b.confirmed.toNat ||| 2 ^ (pos % 16)) } else b) } }
  | .cairn id inner =>
    let p := s.newPacket .ridge inner 0x07 0 [2, 0]
    s.enlist { p with summitId := id, startClk := some s.time.clk, wait := .cairn }
  | .cairnDone id pos t => if s.knows id then s.report id pos t [] else s
  | .snapshot id inner f es =>
    if 2 ≤ s.pairRole then s
    else
      let p := s.newPacket .ridge inner 0x05 0 ([word (es.length / 2 + 0x300)] ++ lowHigh f ++ es)
      s.enlist { p with summitId := id, startClk := some s.time.clk, wait := .snapshot f true }
  | .snapshotReply id pos ws => if s.knows id then s.report id pos 0 ws else s

/-! ## Mirrored writes (R483) -/

/-- A MIRROR item takes effect at the partner. -/
def State.applyMirror (s : State) (number : Nat) (m : MirrorItem) : State :=
  match m with
  | .packet op target body q =>
    let p : InFlight := { s.newPacket (if op = 0x03 then .pcie else .ridge) 0 op target body with acceptNs := (q - 1) * 1000 }
    (runOp op.toNat p { s with cmd := { s.cmd with nextOrder := s.cmd.nextOrder + 1 } }).1
  | .batch rank f ws => s.ridgeBatch rank f ws false
  | m => s.mirrorItem number m

/-- MIRROR_RX: the partner applies an item once, and acknowledges every copy. A candidate keeps what is passed on after the cut instant until it
has loaded the capture of that instant (R483, R494). (DESIGN CHOICE, log entry 68.) -/
def State.mirrorRx (s : State) (number : Nat) (m : MirrorItem) : State :=
  if !s.followsPartner then s
  else if s.pair.applied.contains number then s.emitRidge 0x20 .partner (.signal "MIRROR_ACK" [number])
  else
    let waits := s.pairRole == 3 && s.get F.PAIR_PSTAT_JOIN_PHASE == 2 && s.pair.joinCut.any (fun c => decide (c ≤ s.us))
    let s := if waits then { s with pair := { s.pair with held := s.pair.held ++ [(number, m)] } } else s.applyMirror number m
    { s with pair := { s.pair with applied := (number :: s.pair.applied).take 1024 } }.emitRidge 0x20 .partner (.signal "MIRROR_ACK" [number])

/-- TRANSFER_RX: once the capture is loaded, what was passed on since its instant follows (R494). -/
def State.transferIn (s : State) (m : TransferItem) (bytes : Nat) : State :=
  let s := s.transferRx m bytes
  if !s.pair.loaded ∨ s.pair.held.isEmpty then s
  else
    let held := s.pair.held
    forEach held (fun e s => s.applyMirror e.1 e.2) { s with pair := { s.pair with held := [] } }

/-- The mirrored write with a number. -/
def State.mirroredOf (s : State) (number : Nat) : Option Mirrored := s.pair.mirrored.find? (fun (m : Mirrored) => m.number == number)

/-- The packet in flight of a mirrored write. -/
def State.mirroredPkt (s : State) (m : Mirrored) : Option InFlight := s.cmd.inflight.find? (fun (p : InFlight) => p.order == m.order)

/-- The state without a mirrored write. -/
def State.dropMirrored (s : State) (number : Nat) : State :=
  { s with pair := { s.pair with mirrored := s.pair.mirrored.filter (fun (m : Mirrored) => m.number != number) } }

/-- MIRROR_ACK_RX: the keeper applies the write and replies; the admission of a block is fixed (R482, R483). (DEDUCED, log entry 57.) -/
def State.mirrorAck (s : State) (number : Nat) : State :=
  let s := s.blockAcked number
  match s.mirroredOf number with
  | none => s
  | some m =>
    let s := s.dropMirrored number
    match s.mirroredPkt m with
    | none => s
    | some p =>
      if p.opcode ≠ 0x04 then (finishOp p (runOp p.opcode.toNat p s)).pump
      else
        let later := s.batch p.path
        let r := runOp 0x04 p (s.setBatch p.path m.batch)
        (finishOp p (r.1.setBatch p.path (r.1.batch p.path ++ later), r.2)).pump

/-- MIRROR_RESEND: every 50 µs an unacknowledged write is sent again. -/
def State.mirrorAgain (s : State) (number : Nat) : State :=
  match s.mirroredOf number with
  | none => s
  | some m =>
    if s.time.clk < m.sentClk + 12500 then s
    else match s.mirroredPkt m with
      | none => s
      | some p =>
        { s with pair := { s.pair with mirrored := s.pair.mirrored.map (fun (x : Mirrored) =>
            if x.number == number then { x with sentClk := s.time.clk } else x) } }.sendMirror number p m.batch

/-- MIRROR_ACK_TIMEOUT: 200 µs after acceptance the write is refused, and the pair has diverged. -/
def State.mirrorLost (s : State) (number : Nat) : State :=
  match s.mirroredOf number with
  | none => s
  | some m =>
    if s.time.clk < m.acceptClk + 50000 then s
    else
      let s := { s.dropMirrored number with pair := { (s.dropMirrored number).pair with noAck := true } }
      let s := match s.mirroredPkt m with
        | some p => (s.setBatch p.path (m.batch ++ s.batch p.path)).answer p 0x10 0x4931 []
        | none => s
      (s.diverge 5).pump

end Sys2Proof.Machine
end

