-- ==== Sys2Proof/Machine/Frame.lean ====
section
/-!
DEFINITION. Sys2Proof/Machine/Frame.lean: one frame end to end (spec/01 R38 to R42): the frame boundary, the computation of an apply
instant at the 900 ns point, transmission, and what acts at named apply instants. Also how every command of the
block begins and ends (`State.row`).
-/
namespace Sys2Proof.Machine

/-! ## How a command begins and ends -/

/-- Entering HALT ends TRIG and LIGHT pulses at once (R222, R539). -/
def haltEdge (old new : State) : State := if old.dev ≠ 5 ∧ new.dev = 5 then (new.trigHalt).lightHalt else new

/-- No command but a reset pin's touches the levels of the reset pins, and none touches the queue of commands. -/
def State.keepPins (s t : State) : State :=
  { t with pending := s.pending, sys := { t.sys with porst := s.sys.porst, sysrst := s.sys.sysrst } }

/-- What a command does outside reset; what a keeper's parser has done by it goes to its partner (R154). While PORST_N or SYSRST_N is asserted every unit is held in reset, and the command does nothing
(R58). -/
def State.row (s : State) (f : State → State) : State :=
  let s := s.begin
  if s.inReset then s else s.showOutputs (s.keepPins (s.mirrorStream (haltEdge s (f s))))

/-- What a change of a pin level or of the key island's surroundings does: `f` outside reset, `g` in reset, where it is seen too. (DESIGN CHOICE, log entry 229.) -/
def State.pinRow (s : State) (f g : State → State) : State :=
  let s := s.begin
  s.showOutputs (s.keepPins (if s.inReset then g s else haltEdge s (f s)))

/-- What a change of a reset pin, or the reset that RESET_UNIT of SYS asks for, does. -/
def State.resetRow (s : State) (f : State → State) : State := s.begin.showOutputs { f s.begin with pending := s.pending }

/-- One TIME clock passes. (DEDUCED, log entry 30.) -/
def State.tick (s : State) : State := s.pinRow (fun s => s.waitClk (s.time.clk + 1)) (fun s => s.clocks 1)

/-! ## The frame boundary (R38) -/

/-- FRAME_BOUNDARY: device time reaches `k` µs, where the reads of this boundary are taken and its commits apply (R19, R114). Then come the
feedback samples and the axes (R426, R443 to R457), the keeper's sample of the safety inputs (R484), the replies to the reads, the taps
(R521), the checkpoints asked for (R598), the effects of unit resets (R611), and what had waited for them. -/
def State.frameBoundary (s : State) (k : Nat) (lines : List (Nat × Bool × Bool)) : State :=
  let s := s.arrive (k * 1000)
  let s := s.axesBoundary k lines
  let s := if s.pairRole = 1 then s.safetySample k s.sys.estop (!s.sys.laserEnable) else s
  ((((s.answerReads k).calWalk).checkpointAsked k).unitResets k).pump

/-! ## The frame computation (R40) -/

/-- What is done for each local channel, in channel order (R282). -/
def forChannels (f : Nat → State → State) (s : State) : State := forEach (List.range 64) f s

/-- An uncorrectable error in the state of loop `i`, counted in the order of evaluation (R282): 192 scanner axes, 64 power loops, 16 machine
axes. DEVICE 0x20E0, and the loop is initialized at its next evaluation (R285). -/
def State.loopEcc (s : State) (i : Nat) : State :=
  let t : State := if i < 192 then { s with loop := { s.loop with ax := tabPut {} s.loop.ax i { tabGet {} s.loop.ax i with init := true } } }
    else if i < 256 then s.setPow (i - 192) { s.pow (i - 192) with init := true }
    else s.setMa (i - 256) { s.ma (i - 256) with init := true }
  t.devErr 0x20E0

/-- Corrected and uncorrectable errors met in the window (R285, R345). (DEDUCED, log entry 226.) -/
def State.memErrors (s : State) (f : Nat) (e : MemErrors) : State :=
  let s := forEach e.loopBad (fun i s => s.loopEcc (i % 272)) s
  let s := forEach e.ledgerBad (fun n s => s.ledgerEcc f n) s
  let s := s.count F.TRACE_ECC_CORRECTED e.loopFixed
  s.count F.MEM_ECC_CORRECTED e.ledgerFixed

/-- The machine axis loops, and the evaluations issued for `f` (R283, R315): four for each channel above OFFLINE, one for each machine
axis due, and the trace condition test (R309). -/
def State.loopsEnd (s w : State) (f : Nat) : State :=
  let (s, n) := s.maLoops w f
  let evals := 4 * ((List.range 64).filter (fun c => s.chAt c f != 0)).length + n
    + (if s.get F.TRACE_TSTAT_STATE = 1 ∧ f % s.get F.TRACE_DECIM = 0 then 1 else 0)
  let s := s.put F.TRACE_ENGINE_STAT_EVALS_LAST evals
  if s.get F.TRACE_ENGINE_STAT_EVALS_MAX < evals then s.put F.TRACE_ENGINE_STAT_EVALS_MAX evals else s

/-- The scanners count as parked at `f`: the reason 3 checkpoint, and HALT 100 µs later (R267, R598). -/
def State.scannersParked (s : State) (f : Nat) : State :=
  if s.devAt f = 4 ∧ s.sys.safeEntry.isSome ∧ s.sys.haltAt.isNone ∧ s.allParked f then
    let t := s.checkpoint f 3
    { t with sys := { t.sys with haltAt := some (f + 100) } }
  else s

/-- A layer is complete for the end of DRAIN: its programs are complete, and no more of them can come (R28, R270). (DEDUCED, log entry 217.) -/
def State.layerOver (s : State) (l : Layer) : Bool :=
  let st := s.strmState l.stream
  l.complete || ((l.old || l.closed || st == 0 || st == 3 || st == 4)
    && s.stream.programs.all (fun (p : Program) => !(p.stream == l.stream && p.layer == l.layer) || p.complete))

/-- In DRAIN, every program of every started layer is complete: READY follows (R28). (DEDUCED, log entry 106.) -/
def State.drainComplete (s : State) (f : Nat) : State :=
  let started := fun (l : Layer) => l.started || dueAt l.start 0 (f * 1000)
  if s.devAt f = 3 ∧ s.stream.layers.all (fun (l : Layer) => !started l || s.layerOver l) then s.triggerDev 1 4 else s

/-- The transitions of apply instant `f`: those of R42 and R264 to R267 are found, and each subject's triggers resolved together (R29,
R35). -/
def State.transitions (s : State) (k f : Nat) : State :=
  let s := (s.fillDeadline k).haltDecide f
  let s := forChannels (fun c s => (s.missRule c k).holdAtRest c f) s
  let s := s.resolveDev f
  let s := forChannels (fun c s => (s.safeDue c f).resolveCh c f) s
  let s := forEach s.stream.layers (fun (l : Layer) s => s.layerComplete l.stream l.layer) s
  s.localStop f

/-- The samples, predictions and loops of apply instant `f` under the words in force at it (R239, R282, R289, R303, R317, R340). (DEDUCED, log entry 29.) (DESIGN CHOICE, log entry 233.) -/
def State.evaluate (s : State) (f : Nat) (e : MemErrors) : State :=
  let w := s.inForce f
  let old := s
  let s := forChannels (fun c s => s.frameChannel w c f) s
  let s := if (List.range 64).any (fun c => decide ((s.sq c).slip < (old.sq c).slip)) then (s.trigSweepAll.strobeSweepAll).expoHits else s
  let s := s.axesAdvance f
  let s := forChannels (fun c s => if s.chAt c f = 0 then s else s.lookAhead w c f) s
  let s := (s.ledgerConfig w f).memErrors f e
  let s := forChannels (fun c s => s.loopChannel w c f) s
  let s := forChannels (fun c s => s.powerEval w c f) s
  let s := (s.ledgerOps f).loopsEnd w f
  if f % 10 = 0 then (s.keepColWords w f).digestBuild w f else s

/-- Everything of apply instant `f` is computed from the frames of f − 2. -/
def State.computeInstant (s : State) (f : Nat) (e : MemErrors) : State :=
  let s := { s with loop := { s.loop with tripSeen := false } }
  let s := (s.transitions (f - 2) f).evaluate f e
  let s := ((s.scannersParked f).checkpointLayer f).drainComplete f
  let s := (s.traceSample f).lockCrc f
  { s with sys := { s.sys with built := f } }

/-- FRAME_COMPUTE: at the 900 ns point of frame `k` everything of apply instant k + 2 is fixed. An instant already computed stays as it
is. A candidate that has the capture of a join computes in its replay. (DEDUCED, log entry 31.) (DESIGN CHOICE, log entry 231.) -/
def State.frameCompute (s : State) (k : Nat) (e : MemErrors) : State :=
  let s := forChannels (fun c s => s.logFrame c k) (s.arrive (k * 1000 + 900))
  if k + 2 ≤ s.sys.built ∨ s.pair.loaded ∧ s.get F.PAIR_PSTAT_JOIN_PHASE = 3 then s else s.computeInstant (k + 2) e

/-- A candidate computes one instant of its replay from the frames of f − 2, its own and those of the replay log (R494). -/
def State.replayInstant (s : State) (f : Nat) : State :=
  let frames := s.pair.replay.filter (fun (e : Nat × InFrame) => e.2.k + 2 == f)
  let s := forEach frames (fun e s => s.setLink e.1 { s.link e.1 with prior := (s.link e.1).last, last := some e.2 }) s
  s.computeInstant f {}

/-- JOIN_REPLAY_CAUGHT_UP: the instants from the cut on are computed, up to the last whose 900 ns point has passed, and the candidate names the
join cairn (R494). (DESIGN CHOICE, log entry 148.) -/
def State.replayAll (s : State) : State :=
  if s.pairRole ≠ 3 ∨ s.get F.PAIR_PSTAT_JOIN_PHASE ≠ 3 ∨ !s.pair.loaded then s
  else
    let last := (s.ns - 900) / 1000 + 2
    (forEach ((List.range (last - s.sys.built)).map (fun i => s.sys.built + 1 + i)) (fun f s => s.replayInstant f) s).nameCairn

/-- CHANNEL_MISS_SAFE: the third consecutive miss of channel `c`, at the deadline of frame `k` (R42). -/
def State.channelMissSafe (s : State) (c k : Nat) : State :=
  let s := s.arrive (k * 1000 + 900)
  if s.get (F.STN_LINK_STAT_MISS_RUN c) = 2 ∧ (s.inbound c k).isNone then s.missRule c k else s

/-- OUTBOUND_FRAME_TX: at 1,550 ns of frame `k` the packets for k + 2 go out, each with the TX_LAG `lag` of its lane (R40, R401). -/
def State.outboundTx (s : State) (k lag : Nat) : State :=
  forChannels (fun c s => s.sendFrame c (k + 2) lag) (s.arrive (k * 1000 + 1550))

/-! ## What acts at a named apply instant -/

/-- Device time before an apply instant's samples are fixed, where it has not passed (R40). -/
def State.ahead (s : State) (f : Nat) : State := s.arrive ((f - 2) * 1000)

/-- CH_REQUEST_ACT: the requests of channel `c` for apply instants up to `f` are tested again (R263): each lapses with INFO 0x1803 or
joins the triggers of the instant, and a HOLD with HOLD_AT = 1 waits for its instant (R264). -/
def State.chRequestAct (s : State) (c f : Nat) : State :=
  let x := s.sq c
  let due := x.requests.filter (fun (t : ChTrigger) => decide (t.at_ ≤ f))
  let s := s.setSq c { x with requests := x.requests.filter (fun (t : ChTrigger) => !decide (t.at_ ≤ f)) }
  forEach due (fun (t : ChTrigger) s =>
    if !s.requestOk c (s.chAt c f) f t.kind then s.info ⟨2, c⟩ 0x1803 [t.target]
    else if t.kind = 11 ∧ (s.inForce f).has (F.SEQ_RUN_CFG_HOLD_AT c) then s.setSq c { s.sq c with holdFrom := some f }
    else s.addChTrigger c { t with at_ := f }) s

end Sys2Proof.Machine
end

