-- ==== Sys2Proof/Machine/RowOps.lean ====
section
/-!
DEFINITION. Sys2Proof/Machine/RowOps.lean: what some commands need beside their units' operations: the device time at which a deadline
falls, the parameter words that requests with a row of their own write, and effects that join several units.
-/
namespace Sys2Proof.Machine

/-! ## Pins and reset -/

/-- Pin levels of SYS alone change. -/
def State.levels (s : State) (f : SysSt → SysSt) : State := { s with sys := f s.sys }

/-- The level of PERST_N. Its release alone does not bring the PCIe path back: the link must train (R72, R130). -/
def State.perstLevel (s : State) (b : Bool) : State :=
  { s with host := { s.host with perst := b, pcieLost := s.host.pcieLost || b } }

/-- The main PLL while SYSRST_N holds the device in reset: boot step 0 lasts until it is in lock (R66). While PORST_N is asserted it does
not run. -/
def State.pllHeld (s : State) (b : Bool) : State :=
  if s.sys.porst then s
  else { s with sys := { s.sys with pll := b, pllOnce := s.sys.pllOnce || b } }.put F.SYS_BOOT_STAT_STEP (if b then 1 else 0)

/-- The analog thermal trip while the device is held in reset: it is latched, but not while PORST_N is asserted, which ends it (R49). -/
def State.tripHeld (s : State) : State := if s.sys.porst then s else { s with sys := { s.sys with thermtripLow := true } }

/-- SYS_RESET_BEGIN: 10 µs after the reply to RESET_UNIT of SYS the reset acts as SYSRST_N (R100). -/
def State.sysResetBegin (s : State) : State :=
  match s.cmd.sysResetAt with
  | none => s
  | some c => (s.waitClk c).sysReset 8 false

/-- LANE_PLL_LOSS: each link that the PLL clocks follows its own loss rule (R39): a station port and a ridge link go down, and the PCIe link
too. An Ethernet port loses block lock, which is a loss of its path only after 10 ms (R130). -/
def State.lanesLost (s : State) (l : Lanes) : State :=
  let s := forEach l.stations (fun c s => s.symbolLost c) s
  let s := forEach l.ridge (fun k s => s.ridgeDown k) s
  if l.pcie then s.losePath .pcie else s

/-! ## Requests and writes with a row of their own -/

/-- A write of one CMD bit of CH_STATE (R31). -/
def chRequest (h : Hdr) (c : Chan) (bit : Nat) : Pkt := requestPkt h (chanAddr 0x18 c 0) bit

/-- A write of SB_CTRL with its GO bit (R418, R424). -/
def sbPkt (h : Hdr) (c : Chan) (v : Word) : Pkt :=
  directPkt h (F.STN_SB_CTRL_GO c).addr [0, v ||| word (2 ^ (F.STN_SB_CTRL_GO c).lo)]

/-- RING_RESET: by a packet, or through BAR0 (R89). -/
def State.ringResetRow (s : State) (via : Option Hdr) : State :=
  match via with
  | some h => s.takePkt 0x03 (requestPkt h 0x01000A 1)
  | none => s.barRingReset

/-! ## Deadlines -/

/-- INTERRUPT_MODERATION_EXPIRY: MOD_US after the latest reply interrupt (R89). -/
def State.moderationRow (s : State) : State :=
  match s.host.lastIrq with
  | some c => if s.host.irqPending then (s.waitClk (c + s.get F.HOSTIF_RING_CTRL_MOD_US * 250)).moderationEnds else s
  | none => s.moderationEnds

/-- SLEW_END falls at the TIME clock at which the slew has run its duration (R209). -/
def State.slewDeadline (s : State) : State := match s.time.slewEnd with
  | some c => (s.waitClk c).slewEnd
  | none => s

/-- ERR_RECORD_RELEASE: the next record in order, 20 µs after its TIME in TIME clocks (R588). -/
def State.errRelease (s : State) : State := match nextRecord s.err.held with
  | some r => (s.waitClk (r.clk + 5000)).releaseRecord r
  | none => s

/-- CAIRN_TIMEOUT falls CAIRN_TIMEOUT after the cairn's acceptance (R125). -/
def State.cairnDeadline (s : State) (path : Path) (tag : Byte) : State :=
  match s.cairnOf path tag with
  | none => s
  | some p => (s.waitClk (p.acceptClk + s.cairnLimit)).cairnLate path tag

/-- Device time at the end of a packet's execution limit (R129). -/
def State.pktDeadline (s : State) (p : InFlight) : State :=
  let at_ := fun (f : Nat) => s.arrive (f * 1000 + s.pktTimeout * 4)
  match p.wait with
  | .unstarted => if p.opcode = 0x18 then s.waitClk (p.acceptClk + s.pktTimeout) else s
  | .cairn => s
  | .job _ => s
  | .calRun _ => s
  | .mirror _ => s
  | .commit f => at_ f
  | .snapshot f _ => at_ f
  | .restore f => at_ f
  | .ledgerFill f => at_ f
  | .pairAt f => at_ f
  | _ => match p.startClk with
    | some c => s.waitClk (c + s.pktTimeout)
    | none => s

/-- PACKET_TIMEOUT falls at that limit (R129). -/
def State.packetDeadline (s : State) (path : Path) (tag : Byte) : State :=
  match s.cmd.inflight.find? (fun (p : InFlight) => p.path == path && p.tag == tag) with
  | none => s
  | some p => (s.pktDeadline p).packetLate path tag

/-- JOB_QUEUE_TIMEOUT falls PKT_TIMEOUT after the job's acceptance (R184). -/
def State.jobDeadline (s : State) (slot : Nat) : State :=
  match s.pack.jobs.find? (fun (j : Job) => j.slot == slot && j.engine.isNone) with
  | none => s
  | some j => ((s.waitClk (j.acceptClk + s.pktTimeout)).jobTimeout slot).pump

/-- SIDEBAND_TIMEOUT falls 16 ticks after a request was sent (R415). -/
def State.sbDeadline (s : State) (c : Nat) : State :=
  match (s.link c).waiting with
  | none => s
  | some q => if q.resend then s else (s.arrive ((q.sent + 16) * 1000)).sbTimeout c

/-- BAND_CHANGE takes effect 2 µs after the cycle that decided it (R506, R512). -/
def State.bandRow (s : State) : State :=
  match s.therm.bandDue with
  | none => s
  | some e => (s.arrive ((e.2 + 2) * 1000)).bandChange

/-! ## Effects that join several units -/

/-- ABSORB_APPLY_PENDING: once the channel is OFFLINE, IDLE or ARMED the pending amount is applied (R235). The fall in slip may leave TRIG
pulses, strobes and exposures behind (R224, R546). -/
def State.absorbRow (s : State) (c f : Nat) : State :=
  let s := s.ahead f
  if (s.sq c).built < f ∧ s.absorbDue (s.inForce f) c f then ((s.absorb c f).trigSweepAll.strobeSweepAll).expoHits else s

/-- A lost host path is back (R130): PCIe only once PERST_N has been released. -/
def State.pathReturns (s : State) (path : Path) : State :=
  if path = .pcie ∧ s.host.perst then s else s.setLost path false

/-- CONTEXT_JOURNAL_WRITE_DONE: the slot's image is in the journal, and CTX_PERSIST replies; one that clears persistence then does so (R173,
R178). -/
def State.contextWritten (s : State) (slot : Nat) : State :=
  let s := s.journalSlot slot
  let all := fun (w : Wait) (s : State) => forEach (s.cmd.inflight.filter (fun (p : InFlight) => p.wait == w)) (fun p s => s.answer p 0 0 []) s
  let s := all (.ctxJournal slot) s
  let s := if s.cmd.inflight.any (fun (p : InFlight) => p.wait == .ctxErase slot) then all (.ctxErase slot) (s.forgetSlot slot) else s
  s.pump

/-- RIDGE_DELAY_MEASURE: the one-way delay of a link in 0.1 ns (R214). (DEDUCED, log entry 151.) -/
def State.ridgeDelay (s : State) (k : Nat) (delay : Half) : State :=
  if s.linkUp k then s.put (F.RIDGE_LINK_STAT_DELAY k) delay.toNat else s

/-- FOLLOWING_ERROR_TRIP: an evaluation has found the condition of R306. -/
def State.followingTrip (s : State) (a : Nat) : State := if (s.ma a).feTrip then s.feError a false else s

/-- DIGEST_TRANSMIT: the own digest of period `d` leaves on the ridge ring in both directions (R367, R468). -/
def State.digestTransmit (s : State) (d : Nat) : State :=
  match s.ownDigest d with
  | none => s
  | some g => if s.sendsDigest d then s.emitRidge 0x07 .digest (.bytes "DIGEST" [d] g.bytes) else s

/-- DIGEST_DEADLINE: a device of a pair asks its partner for the digests that it lacks (R369); on any other their absence is counted
(R376). -/
def State.digestDeadline (s : State) (d : Nat) : State :=
  if s.paired then
    (match s.missingDigests d with
      | [] => s
      | qs => if s.buildsDigest s then s.emitRidge 0x14 .partner (.signal "DIGEST_REQ" ((d : Int) :: qs.map (fun (q : Nat) => (q : Int)))) else s)
  else s.countAbsences d

/-- PAIR_CHECKS_START: the exchange of R369 has ended, and the checks of period `d` are made (R360 to R372). -/
def State.checksStart (s : State) (d : Nat) : State := (s.countAbsences d).pairChecks d

/-- HOME_LEVEL_ACCEPT at the sample of `k` µs (R455). -/
def State.homeAccept (s : State) (a k : Nat) : State :=
  let s := s.arrive (k * 1000)
  s.acceptHome (s.inForce k) a k

/-- FBK_SAMPLE_RX: the keeper's sample, and with it the changes of its POWER band (R427, R484, R514). -/
def State.keeperFrame (s : State) (k : Nat) (m : KeeperSample) : State := (s.keeperSample k m).keeperBands s.therm.power

/-- PCIE_COMPLETION_TIMEOUT (R593). -/
def State.dmaTimeout (s : State) (user : DmaUser) : State :=
  match user with
  | .commandRing => s.ringTimeout false
  | .replyRing => s.ringTimeout true
  | .job slot input => (s.jobComplete slot input true).pump
  | .fetch path tag accepted =>
    match s.fetchPacket path tag with
    | none => s
    | some (p, n, k) =>
      let here := (s.strm n).fetching
      let s := s.setStrm n { s.strm n with fetching := false }
      let (s, m) := if s.strmState n = 1 ∧ here then s.feedStream n (accepted.take k) else (s, 0)
      (s.answer p 1 0x0130 [word m]).pump

end Sys2Proof.Machine
end

