-- ==== Sys2Proof/Machine/RowsAxis.lean ====
section
/-!
DEFINITION. Sys2Proof/Machine/RowsAxis.lean: the meanings of the commands of
feedback and machine axes (spec/12): one definition for each row of the table.
-/
namespace Sys2Proof.Machine

/-- QUADRATURE_CHANGE (R430). -/
def execQuadratureChange (t : Nat) (a : AxisNo) (la lb : Bool) (s : State) : Host.Outcome State Fault Refusal :=
  .next (s.row (fun s => (s.arrive t).quadChange a la lb))

/-- INDEX_EVENT (R432). -/
def execIndexEvent (t : Nat) (a : AxisNo) (s : State) : Host.Outcome State Fault Refusal :=
  .next (s.row (fun s => (s.arrive t).indexEvent a))

/-- HALL_CHANGE (R434). -/
def execHallChange (t : Nat) (a : AxisNo) (hall : Fin 8) (s : State) : Host.Outcome State Fault Refusal :=
  .next (s.row (fun s => (s.arrive t).hallChange a hall))

/-- SERIAL_FRAME_START (R436). -/
def execSerialFrameStart (t : Nat) (a : AxisNo) (s : State) : Host.Outcome State Fault Refusal :=
  .next (s.row (fun s => (s.arrive t).serialStart a t))

/-- SERIAL_READING_COMPLETE (R437). -/
def execSerialReadingComplete (t : Nat) (a : AxisNo) (code : Nat) (nE nW : Bool) (crc : Nat) (s : State) : Host.Outcome State Fault Refusal :=
  .next (s.row (fun s => (s.arrive t).serialComplete a code nE nW crc))

/-- SERIAL_READING_MISSING (R438). -/
def execSerialReadingMissing (t : Nat) (a : AxisNo) (s : State) : Host.Outcome State Fault Refusal :=
  .next (s.row (fun s => (s.arrive t).serialMissing a))

/-- SERIAL_FEEDBACK_LOST (R438). -/
def execSerialFeedbackLost (t : Nat) (a : AxisNo) (s : State) : Host.Outcome State Fault Refusal :=
  .next (s.row (fun s => (s.arrive t).serialLost a))

/-- SPEED_STILL (R440). -/
def execSpeedStill (t : Nat) (a : AxisNo) (s : State) : Host.Outcome State Fault Refusal :=
  .next (s.row (fun s => (s.arrive t).stillCheck a))

/-- PROBE_EDGE (R442). -/
def execProbeEdge (t : Nat) (a : AxisNo) (level : Bool) (s : State) : Host.Outcome State Fault Refusal :=
  .next (s.row (fun s => (s.arrive t).probeEdge a level))

/-- HOME_EDGE (R442). -/
def execHomeEdge (t : Nat) (a : AxisNo) (level : Bool) (s : State) : Host.Outcome State Fault Refusal :=
  .next (s.row (fun s => (s.arrive t).homeEdgeAt a level))

/-- HOME_LEVEL_ACCEPT (R455). -/
def execHomeLevelAccept (k : Nat) (a : AxisNo) (s : State) : Host.Outcome State Fault Refusal :=
  .next (s.row (fun s => s.homeAccept a k))

/-- AXIS_MOVE (R459). -/
def execAxisMove (p : Pkt) (s : State) : Host.Outcome State Fault Refusal :=
  .next (s.row (fun s => s.takePkt 0x68 p))

/-- AXIS_STOP (R458). -/
def execAxisStop (p : Pkt) (s : State) : Host.Outcome State Fault Refusal :=
  .next (s.row (fun s => s.takePkt 0x69 p))

/-- AXIS_HOME (R454). -/
def execAxisHome (p : Pkt) (s : State) : Host.Outcome State Fault Refusal :=
  .next (s.row (fun s => s.takePkt 0x6A p))

/-- AXIS_CLEAR (R453). -/
def execAxisClear (p : Pkt) (s : State) : Host.Outcome State Fault Refusal :=
  .next (s.row (fun s => s.takePkt 0x6B p))

/-- AXIS_SET_POS (R457). -/
def execAxisSetPos (p : Pkt) (s : State) : Host.Outcome State Fault Refusal :=
  .next (s.row (fun s => s.takePkt 0x6C p))

/-- PROBE_ARM (R442). -/
def execProbeArm (p : Pkt) (s : State) : Host.Outcome State Fault Refusal :=
  .next (s.row (fun s => s.takePkt 0x6D p))

/-- AXIS_REQUEST_ACT (R447). -/
def execAxisRequestAct (a : AxisNo) (f : Nat) (s : State) : Host.Outcome State Fault Refusal :=
  .next (s.row (fun s => ((s.ahead f).axisRequestAct a f).pump))

/-- FBK_SAMPLE_RX (R427). -/
def execFbkSampleRx (m : RidgeMsg) (k : Nat) (x : KeeperSample) (s : State) : Host.Outcome State Fault Refusal :=
  .next (s.row (fun s => (s.arrive m.t).ridgeIn 0x12 m (fun s => s.keeperFrame k x)))

/-- KEEPER_SAMPLE_MISSING (R427). -/
def execKeeperSampleMissing (k : Nat) (s : State) : Host.Outcome State Fault Refusal :=
  .next (s.row (fun s => (s.arrive (k * 1000 + 900)).keeperSilent k))

/-- EPISODE_END (R429). -/
def execEpisodeEnd (t : Nat) (s : State) : Host.Outcome State Fault Refusal :=
  .next (s.row (fun s => (s.arrive t).endEpisodes))

end Sys2Proof.Machine
end

