-- ==== Sys2Proof/Machine/RowsErr.lean ====
section
/-!
DEFINITION. Sys2Proof/Machine/RowsErr.lean: the meanings of the commands of
the key island, errors, memory, firmware cores and the journal (spec/16, spec/17): one definition for each row of the table.
-/
namespace Sys2Proof.Machine

/-- HUSK_INIT (R555). -/
def execHuskInit (p : Pkt) (s : State) : Host.Outcome State Fault Refusal :=
  .next (s.row (fun s => s.takePkt 0x90 p))

/-- HUSK_POLICY (R563). -/
def execHuskPolicy (p : Pkt) (s : State) : Host.Outcome State Fault Refusal :=
  .next (s.row (fun s => s.takePkt 0x91 p))

/-- KEY_LOAD (R557). -/
def execKeyLoad (p : Pkt) (s : State) : Host.Outcome State Fault Refusal :=
  .next (s.row (fun s => s.takePkt 0x92 p))

/-- KEY_CLEAR (R558). -/
def execKeyClear (p : Pkt) (s : State) : Host.Outcome State Fault Refusal :=
  .next (s.row (fun s => s.takePkt 0x93 p))

/-- HUSK_ACK (R572). -/
def execHuskAck (p : Pkt) (s : State) : Host.Outcome State Fault Refusal :=
  .next (s.row (fun s => s.takePkt 0x94 p))

/-- HUSK_ZEROIZE (R573). -/
def execHuskZeroize (p : Pkt) (s : State) : Host.Outcome State Fault Refusal :=
  .next (s.row (fun s => s.takePkt 0x95 p))

/-- MESH_CHECK (R562). -/
def execMeshCheck (t : Nat) (bad battery : Bool) (s : State) : Host.Outcome State Fault Refusal :=
  .next (s.pinRow (fun s => (s.arrive t).sourceCheckAt 0 bad battery) (fun s => (s.reach t).sourceCheckAt 0 bad battery))

/-- VOLT_ALARM (R562). -/
def execVoltAlarm (t : Nat) (s : State) : Host.Outcome State Fault Refusal :=
  .next (s.pinRow (fun s => if s.sys.pwrfail then s else (s.arrive t).alarm 1 false) (fun s => if s.sys.porst || s.sys.pwrfail then s else (s.reach t).alarm 1 false))

/-- CLOCK_ALARM (R562). -/
def execClockAlarm (t : Nat) (s : State) : Host.Outcome State Fault Refusal :=
  .next (s.pinRow (fun s => (s.arrive t).alarm 2 false) (fun s => if s.sys.porst then s else (s.reach t).alarm 2 false))

/-- TEMP_CHECK (R562). -/
def execTempCheck (t : Nat) (bad battery : Bool) (s : State) : Host.Outcome State Fault Refusal :=
  .next (s.pinRow (fun s => (s.arrive t).sourceCheckAt 3 bad battery) (fun s => (s.reach t).sourceCheckAt 3 bad battery))

/-- DEBUG_ALARM (R562). -/
def execDebugAlarm (t : Nat) (s : State) : Host.Outcome State Fault Refusal :=
  .next (s.pinRow (fun s => (s.arrive t).alarm 4 false) (fun s => if s.sys.porst then s else (s.reach t).alarm 4 false))

/-- AUTH_ALARM (R561). -/
def execAuthAlarm (t : Nat) (s : State) : Host.Outcome State Fault Refusal :=
  .next (s.row (fun s => (s.arrive t).authAlarm))

/-- ALARM_SOURCE_DEASSERT (R562). -/
def execAlarmSourceDeassert (t : Nat) (source : Fin 6) (s : State) : Host.Outcome State Fault Refusal :=
  .next (s.pinRow (fun s => (s.arrive t).deassert source) (fun s => (s.reach t).deassert source))

/-- ZEROIZATION_COMPLETE (R568). -/
def execZeroizationComplete (t : Nat) (s : State) : Host.Outcome State Fault Refusal :=
  .next (s.row (fun s => ((s.arrive t).zeroizeDone).pump))

/-- VBAT_CHECK (R553). -/
def execVbatCheck (t millivolts : Nat) (s : State) : Host.Outcome State Fault Refusal :=
  .next (s.row (fun s => (s.arrive t).vbatCheck millivolts))

/-- ERR_RECORD_RELEASE (R588). -/
def execErrRecordRelease (s : State) : Host.Outcome State Fault Refusal :=
  .next (s.row (fun s => (s.errRelease).settle))

/-- LOG_RATE_EPISODE_END (R587). -/
def execLogRateEpisodeEnd (t : Nat) (s : State) : Host.Outcome State Fault Refusal :=
  .next (s.row (fun s => (s.arrive t).rateEnd))

/-- LOG_WRITE_TIMEOUT (R587). -/
def execLogWriteTimeout (t : Nat) (s : State) : Host.Outcome State Fault Refusal :=
  .next (s.row (fun s => (s.arrive t).logTimeout))

/-- PCIE_COMPLETION_TIMEOUT (R593). -/
def execPcieCompletionTimeout (t : Nat) (user : DmaUser) (s : State) : Host.Outcome State Fault Refusal :=
  .next (s.row (fun s => (s.arrive t).dmaTimeout user))

/-- LPDDR5_TIMEOUT (R594). -/
def execLpddr5Timeout (t : Nat) (noData retryFailed : Bool) (region : MemRegion) (s : State) : Host.Outcome State Fault Refusal :=
  .next (s.row (fun s => ((s.arrive t).memTimeout noData retryFailed region).pump))

/-- WATCHDOG_EXPIRY (R595). -/
def execWatchdogExpiry (t : Nat) (core : Fin 4) (s : State) : Host.Outcome State Fault Refusal :=
  .next (s.row (fun s => (s.arrive t).coreRestart core))

/-- CORE_RESTART_COMPLETE (R595). -/
def execCoreRestartComplete (t : Nat) (core : Fin 4) (s : State) : Host.Outcome State Fault Refusal :=
  .next (s.row (fun s => (s.arrive t).coreReturns core))

/-- REPEATED_RESTART (R595). -/
def execRepeatedRestart (t : Nat) (core : Fin 4) (s : State) : Host.Outcome State Fault Refusal :=
  .next (s.row (fun s => (s.arrive t).repeatedRestart core))

/-- CHECKPOINT_PERIODIC (R598). -/
def execCheckpointPeriodic (k : Nat) (s : State) : Host.Outcome State Fault Refusal :=
  .next (s.row (fun s => (s.arrive (k * 1000)).checkpointPeriodic k))

/-- CHECKPOINT_PWRFAIL (R598). -/
def execCheckpointPwrfail (k : Nat) (s : State) : Host.Outcome State Fault Refusal :=
  .next (s.row (fun s => (s.arrive (k * 1000)).checkpointPwrfail k))

/-- CHECKPOINT_WRITE_DONE (R598). -/
def execCheckpointWriteDone (t : Nat) (s : State) : Host.Outcome State Fault Refusal :=
  .next (s.row (fun s => ((s.arrive t).checkpointDone).pump))

/-- BASE_WRITE_DONE (R597). -/
def execBaseWriteDone (t : Nat) (s : State) : Host.Outcome State Fault Refusal :=
  .next (s.row (fun s => (s.arrive t).baseDone))

/-- CHECKPOINT_WRITE_FAIL (R600). -/
def execCheckpointWriteFail (t : Nat) (s : State) : Host.Outcome State Fault Refusal :=
  .next (s.row (fun s => (s.arrive t).checkpointFail))

/-- ERR_READ (R605). -/
def execErrRead (p : Pkt) (s : State) : Host.Outcome State Fault Refusal :=
  .next (s.row (fun s => s.takePkt 0x98 p))

/-- LOG_READ (R605). -/
def execLogRead (p : Pkt) (s : State) : Host.Outcome State Fault Refusal :=
  .next (s.row (fun s => s.takePkt 0x99 p))

/-- ERR_ACK (R605). -/
def execErrAck (p : Pkt) (s : State) : Host.Outcome State Fault Refusal :=
  .next (s.row (fun s => s.takePkt 0x9A p))

/-- JOURNAL_INFO (R605). -/
def execJournalInfo (p : Pkt) (s : State) : Host.Outcome State Fault Refusal :=
  .next (s.row (fun s => s.takePkt 0x9B p))

/-- JOURNAL_READ (R605). -/
def execJournalRead (p : Pkt) (s : State) : Host.Outcome State Fault Refusal :=
  .next (s.row (fun s => s.takePkt 0x9C p))

/-- JOURNAL_RESTORE (R602). -/
def execJournalRestore (p : Pkt) (s : State) : Host.Outcome State Fault Refusal :=
  .next (s.row (fun s => s.takePkt 0x9D p))

/-- JOURNAL_RESTORE_APPLY (R601). -/
def execJournalRestoreApply (f : Nat) (s : State) : Host.Outcome State Fault Refusal :=
  .next (s.row (fun s => ((s.arrive (f * 1000)).applyDue f).pump))

/-- CHECKPOINT (R605). -/
def execCheckpoint (p : Pkt) (s : State) : Host.Outcome State Fault Refusal :=
  .next (s.row (fun s => s.takePkt 0x9E p))

end Sys2Proof.Machine
end

