-- ==== Sys2Proof/Machine/RowsFrame.lean ====
section
/-!
DEFINITION. Sys2Proof/Machine/RowsFrame.lean: the meanings of the commands of
one frame end to end, the channels and their station links (spec/01, spec/07, spec/11): one definition for each row of the table.
-/
namespace Sys2Proof.Machine

/-- ONLINE (R34). -/
def execOnline (h : Hdr) (c : Chan) (s : State) : Host.Outcome State Fault Refusal :=
  .next (s.row (fun s => s.takePkt 0x03 (chRequest h c 8)))

/-- ARM (R34). -/
def execArm (h : Hdr) (c : Chan) (s : State) : Host.Outcome State Fault Refusal :=
  .next (s.row (fun s => s.takePkt 0x03 (chRequest h c 9)))

/-- DISARM (R34). -/
def execDisarm (h : Hdr) (c : Chan) (s : State) : Host.Outcome State Fault Refusal :=
  .next (s.row (fun s => s.takePkt 0x03 (chRequest h c 10)))

/-- HOLD (R264). -/
def execHold (h : Hdr) (c : Chan) (s : State) : Host.Outcome State Fault Refusal :=
  .next (s.row (fun s => s.takePkt 0x03 (chRequest h c 11)))

/-- RELEASE (R265). -/
def execRelease (h : Hdr) (c : Chan) (s : State) : Host.Outcome State Fault Refusal :=
  .next (s.row (fun s => s.takePkt 0x03 (chRequest h c 12)))

/-- CLEAR (R34). -/
def execClear (h : Hdr) (c : Chan) (s : State) : Host.Outcome State Fault Refusal :=
  .next (s.row (fun s => s.takePkt 0x03 (chRequest h c 13)))

/-- OFF (R34). -/
def execOff (h : Hdr) (c : Chan) (s : State) : Host.Outcome State Fault Refusal :=
  .next (s.row (fun s => s.takePkt 0x03 (chRequest h c 14)))

/-- CH_REQUEST_ACT (R263). -/
def execChRequestAct (c : Chan) (f : Nat) (s : State) : Host.Outcome State Fault Refusal :=
  .next (s.row (fun s => ((s.ahead f).chRequestAct c f).settle))

/-- HOLD_AT_REST (R264). -/
def execHoldAtRest (c : Chan) (f : Nat) (s : State) : Host.Outcome State Fault Refusal :=
  .next (s.row (fun s => ((s.ahead f).holdAtRest c f).settle))

/-- FRAME_BOUNDARY (R38). -/
def execFrameBoundary (k : Nat) (lines : List (Nat × Bool × Bool)) (s : State) : Host.Outcome State Fault Refusal :=
  .next (s.row (fun s => s.frameBoundary k lines))

/-- INBOUND_FRAME_RX (R411). -/
def execInboundFrameRx (c : Chan) (t a : Nat) (bytes : List Byte) (s : State) : Host.Outcome State Fault Refusal :=
  .next (s.row (fun s => (s.arrive t).inboundFrame c a bytes))

/-- INBOUND_ARRIVAL_DEADLINE (R40). -/
def execInboundArrivalDeadline (k : Nat) (s : State) : Host.Outcome State Fault Refusal :=
  .next (s.row (fun s => (s.arrive (k * 1000 + 600)).fillRequest k))

/-- FRAME_COMPUTE (R40). -/
def execFrameCompute (k : Nat) (errors : MemErrors) (s : State) : Host.Outcome State Fault Refusal :=
  .next (s.row (fun s => s.frameCompute k errors))

/-- CHANNEL_MISS_SAFE (R42). -/
def execChannelMissSafe (c : Chan) (k : Nat) (s : State) : Host.Outcome State Fault Refusal :=
  .next (s.row (fun s => s.channelMissSafe c k))

/-- SAFE_STOP_50US_DEADLINE (R267). -/
def execSafeStopDeadline (f : Nat) (s : State) : Host.Outcome State Fault Refusal :=
  .next (s.row (fun s => ((s.ahead f).safeStopDeadline f).settle))

/-- OUTBOUND_FRAME_TX (R401). -/
def execOutboundFrameTx (k lag : Nat) (s : State) : Host.Outcome State Fault Refusal :=
  .next (s.row (fun s => s.outboundTx k lag))

/-- ABSORB_APPLY_PENDING (R235). -/
def execAbsorbApplyPending (c : Chan) (f : Nat) (s : State) : Host.Outcome State Fault Refusal :=
  .next (s.row (fun s => s.absorbRow c f))

/-- SYMBOL_LOCK_ACQUIRED (R394). -/
def execSymbolLockAcquired (t : Nat) (c : Chan) (s : State) : Host.Outcome State Fault Refusal :=
  .next (s.row (fun s => ((s.arrive t).symbolLock c).wantRun c))

/-- SYMBOL_LOCK_LOST (R422). -/
def execSymbolLockLost (t : Nat) (c : Chan) (s : State) : Host.Outcome State Fault Refusal :=
  .next (s.row (fun s => (s.arrive t).symbolLost c))

/-- LINK_OFFLINE_TIMEOUT (R34). -/
def execLinkOfflineTimeout (t : Nat) (c : Chan) (s : State) : Host.Outcome State Fault Refusal :=
  .next (s.row (fun s => (s.arrive t).linkOffline c))

/-- FRAME_LOCK_ENTRY (R421). -/
def execFrameLockEntry (c : Chan) (s : State) : Host.Outcome State Fault Refusal :=
  .next (s.row (fun s => s.frameLockEntry c))

/-- FRAME_LOCK_LOSS (R420). -/
def execFrameLockLoss (c : Chan) (s : State) : Host.Outcome State Fault Refusal :=
  .next (s.row (fun s => s.frameLockLoss c))

/-- SIDEBAND_REPLY_RX (R414). -/
def execSidebandReplyRx (t : Nat) (c : Chan) (bytes : List Byte) (s : State) : Host.Outcome State Fault Refusal :=
  .next (s.row (fun s => (s.arrive t).sbReply c bytes))

/-- SIDEBAND_TIMEOUT (R415). -/
def execSidebandTimeout (c : Chan) (s : State) : Host.Outcome State Fault Refusal :=
  .next (s.row (fun s => s.sbDeadline c))

/-- SB_GO (R418). -/
def execSbGo (h : Hdr) (c : Chan) (v : Word) (s : State) : Host.Outcome State Fault Refusal :=
  .next (s.row (fun s => s.takePkt 0x03 (sbPkt h c v)))

end Sys2Proof.Machine
end

