-- ==== Sys2Proof/Machine/RowsHost.lean ====
section
/-!
DEFINITION. Sys2Proof/Machine/RowsHost.lean: the meanings of the commands of
the host paths and the packets of CMD (spec/03): one definition for each row of the table.
-/
namespace Sys2Proof.Machine

/-- CRING_DOORBELL (R90). -/
def execCringDoorbell (t : Nat) (bell : Doorbell) (ring : List Word) (s : State) : Host.Outcome State Fault Refusal :=
  .next (s.row (fun s => ((s.arrive t).barWrites bell.setup).doorbell bell.prod ring))

/-- RING_RESET (R89). -/
def execRingReset (via : Option Hdr) (s : State) : Host.Outcome State Fault Refusal :=
  .next (s.row (fun s => s.ringResetRow via))

/-- REPLY_HELD_WRITE (R91). -/
def execReplyHeldWrite (t cons : Nat) (s : State) : Host.Outcome State Fault Refusal :=
  .next (s.row (fun s => (s.arrive t).replySpace cons))

/-- INTERRUPT_MODERATION_EXPIRY (R89). -/
def execInterruptModerationExpiry (s : State) : Host.Outcome State Fault Refusal :=
  .next (s.row (fun s => s.moderationRow))

/-- UDP_DATAGRAM_RX (R94). -/
def execUdpDatagramRx (t : Nat) (d : UdpFrame) (s : State) : Host.Outcome State Fault Refusal :=
  .next (s.row (fun s => (s.arrive t).datagramRx d))

/-- ARP_REQUEST (R93). -/
def execArpRequest (t : Nat) (port : Bool) (mac : BitVec 48) (src dst : Word) (s : State) : Host.Outcome State Fault Refusal :=
  .next (s.row (fun s => (s.arrive t).arpRx port mac src dst))

/-- ICMP_ECHO (R93). -/
def execIcmpEcho (t : Nat) (port : Bool) (mac : BitVec 48) (src dst : Word) (payload : List Byte) (s : State) : Host.Outcome State Fault Refusal :=
  .next (s.row (fun s => (s.arrive t).echoRx port mac src dst payload))

/-- NET_CMD_UDP_WRITE (R96). -/
def execNetCmdUdpWrite (h : Hdr) (n : Fin 3) (v : Word) (s : State) : Host.Outcome State Fault Refusal :=
  .next (s.row (fun s => s.takePkt 0x03 (directPkt h (0x090010 + n) [0, v])))

/-- NOP (R98). -/
def execNop (p : Pkt) (s : State) : Host.Outcome State Fault Refusal :=
  .next (s.row (fun s => s.takePkt 0x00 p))

/-- IDENT (R99). -/
def execIdent (p : Pkt) (s : State) : Host.Outcome State Fault Refusal :=
  .next (s.row (fun s => s.takePkt 0x01 p))

/-- GET_PARAM (R115). -/
def execGetParam (p : Pkt) (s : State) : Host.Outcome State Fault Refusal :=
  .next (s.row (fun s => s.takePkt 0x02 p))

/-- SET_PARAM (R105). -/
def execSetParam (p : Pkt) (s : State) : Host.Outcome State Fault Refusal :=
  .next (s.row (fun s => s.takePkt 0x03 p))

/-- COMMIT (R109). -/
def execCommit (p : Pkt) (s : State) : Host.Outcome State Fault Refusal :=
  .next (s.row (fun s => s.takePkt 0x04 p))

/-- COMMIT_APPLY (R19). -/
def execCommitApply (f : Nat) (s : State) : Host.Outcome State Fault Refusal :=
  .next (s.row (fun s => ((s.arrive (f * 1000)).applyDue f).pump))

/-- SNAPSHOT (R116). -/
def execSnapshot (p : Pkt) (s : State) : Host.Outcome State Fault Refusal :=
  .next (s.row (fun s => s.takePkt 0x05 p))

/-- SNAPSHOT_AT_FRAME (R114). -/
def execSnapshotAtFrame (f : Nat) (s : State) : Host.Outcome State Fault Refusal :=
  .next (s.row (fun s => (((s.arrive (f * 1000)).applyDue f).snapshotAt f).pump))

/-- CASCADE_SNAPSHOT_DEADLINE (R117). -/
def execCascadeSnapshotDeadline (f : Nat) (s : State) : Host.Outcome State Fault Refusal :=
  .next (s.row (fun s => ((s.arrive ((f + 20) * 1000)).snapshotReply f).pump))

/-- RESET_UNIT (R100). -/
def execResetUnit (p : Pkt) (s : State) : Host.Outcome State Fault Refusal :=
  .next (s.row (fun s => s.takePkt 0x06 p))

/-- CAIRN (R123). -/
def execCairn (p : Pkt) (s : State) : Host.Outcome State Fault Refusal :=
  .next (s.row (fun s => s.takePkt 0x07 p))

/-- CAIRN_COMPLETE (R123). -/
def execCairnComplete (path : Path) (tag : Byte) (s : State) : Host.Outcome State Fault Refusal :=
  .next (s.row (fun s => s.cairnDone path tag))

/-- CAIRN_TIMEOUT (R125). -/
def execCairnTimeout (path : Path) (tag : Byte) (s : State) : Host.Outcome State Fault Refusal :=
  .next (s.row (fun s => s.cairnDeadline path tag))

/-- FORWARD (R126). -/
def execForward (p : Pkt) (s : State) : Host.Outcome State Fault Refusal :=
  .next (s.row (fun s => s.takePkt 0x08 p))

/-- CASCADE_MSG_RX (R127). -/
def execCascadeMsgRx (m : RidgeMsg) (c : CascadeMsg) (s : State) : Host.Outcome State Fault Refusal :=
  .next (s.row (fun s => (s.arrive m.t).ridgeIn 0x21 m (fun s => s.firstCopy m c (fun s => s.cascadeMsg c))))

/-- DISCARD (R112). -/
def execDiscard (p : Pkt) (s : State) : Host.Outcome State Fault Refusal :=
  .next (s.row (fun s => s.takePkt 0x09 p))

/-- PACKET_TIMEOUT (R129). -/
def execPacketTimeout (path : Path) (tag : Byte) (s : State) : Host.Outcome State Fault Refusal :=
  .next (s.row (fun s => s.packetDeadline path tag))

/-- PCIE_PATH_LOSS (R130). -/
def execPciePathLoss (t : Nat) (s : State) : Host.Outcome State Fault Refusal :=
  .next (s.row (fun s => (s.arrive t).losePath .pcie))

/-- ETH_PATH_LOSS (R130). -/
def execEthPathLoss (t : Nat) (port : Bool) (s : State) : Host.Outcome State Fault Refusal :=
  .next (s.row (fun s => (s.arrive t).losePath (if port then .eth1 else .eth0)))

/-- HOST_PATH_RETURN (R130). -/
def execHostPathReturn (t : Nat) (path : Path) (s : State) : Host.Outcome State Fault Refusal :=
  .next (s.row (fun s => (s.arrive t).pathReturns path))

end Sys2Proof.Machine
end

