-- ==== Sys2Proof/Machine/RowsLoop.lean ====
section
/-!
DEFINITION. Sys2Proof/Machine/RowsLoop.lean: the meanings of the commands of
scan opcodes, servo supervision, trace, power, the ledger and col zones (spec/07 to spec/10): one definition for each row of the table.
-/
namespace Sys2Proof.Machine

/-- SCAN_FLUSH (R271). -/
def execScanFlush (p : Pkt) (s : State) : Host.Outcome State Fault Refusal :=
  .next (s.row (fun s => s.takePkt 0x30 p))

/-- SCAN_TABLE_LOAD (R275). -/
def execScanTableLoad (p : Pkt) (s : State) : Host.Outcome State Fault Refusal :=
  .next (s.row (fun s => s.takePkt 0x31 p))

/-- SCAN_PLAN (R279). -/
def execScanPlan (p : Pkt) (s : State) : Host.Outcome State Fault Refusal :=
  .next (s.row (fun s => s.takePkt 0x32 p))

/-- OSCILLATION_TRIP (R298). -/
def execOscillationTrip (c : Chan) (s : State) : Host.Outcome State Fault Refusal :=
  .next (s.row (fun s => s.supervisionTrip c true))

/-- SATURATION_TRIP (R299). -/
def execSaturationTrip (c : Chan) (s : State) : Host.Outcome State Fault Refusal :=
  .next (s.row (fun s => s.supervisionTrip c false))

/-- FOLLOWING_ERROR_TRIP (R305). -/
def execFollowingErrorTrip (a : AxisNo) (s : State) : Host.Outcome State Fault Refusal :=
  .next (s.row (fun s => s.followingTrip a))

/-- TRACE_ARM (R311). -/
def execTraceArm (p : Pkt) (s : State) : Host.Outcome State Fault Refusal :=
  .next (s.row (fun s => s.takePkt 0x40 p))

/-- TRACE_STOP (R311). -/
def execTraceStop (p : Pkt) (s : State) : Host.Outcome State Fault Refusal :=
  .next (s.row (fun s => s.takePkt 0x41 p))

/-- TRACE_READ (R312). -/
def execTraceRead (p : Pkt) (s : State) : Host.Outcome State Fault Refusal :=
  .next (s.row (fun s => s.takePkt 0x42 p))

/-- TRACE_FORCE (R311). -/
def execTraceForce (p : Pkt) (s : State) : Host.Outcome State Fault Refusal :=
  .next (s.row (fun s => s.takePkt 0x43 p))

/-- TRACE_DONE (R310). -/
def execTraceDone (s : State) : Host.Outcome State Fault Refusal :=
  .next (s.row (fun s => s.traceDone))

/-- EMISSION_MONITOR_TRIP (R328). -/
def execEmissionMonitorTrip (c : Chan) (s : State) : Host.Outcome State Fault Refusal :=
  .next (s.row (fun s => s.monitorTrip c))

/-- LEDGER_READ (R348). -/
def execLedgerRead (p : Pkt) (s : State) : Host.Outcome State Fault Refusal :=
  .next (s.row (fun s => s.takePkt 0x50 p))

/-- LEDGER_FILL (R349). -/
def execLedgerFill (p : Pkt) (s : State) : Host.Outcome State Fault Refusal :=
  .next (s.row (fun s => s.takePkt 0x51 p))

/-- LEDGER_FILL_APPLY (R349). -/
def execLedgerFillApply (h : Nat) (s : State) : Host.Outcome State Fault Refusal :=
  .next (s.row (fun s => ((s.arrive (h * 1000)).fillsReply h).pump))

/-- DIGEST_TRANSMIT (R358). -/
def execDigestTransmit (d : Nat) (s : State) : Host.Outcome State Fault Refusal :=
  .next (s.row (fun s => (s.arrive (d * 1000 - 400)).digestTransmit d))

/-- DIGEST_RX (R368). -/
def execDigestRx (h : RidgeHead) (payload : List Byte) (s : State) : Host.Outcome State Fault Refusal :=
  .next (s.row (fun s => (s.arrive h.t).ridgeIn 0x07 (h.msg payload) (fun s => s.digestRx payload)))

/-- DIGEST_DEADLINE (R376). -/
def execDigestDeadline (d : Nat) (s : State) : Host.Outcome State Fault Refusal :=
  .next (s.row (fun s => (s.arrive ((d + 8) * 1000)).digestDeadline d))

/-- DIGEST_FILL (R369). -/
def execDigestFill (m : RidgeMsg) (d : DigestFill) (s : State) : Host.Outcome State Fault Refusal :=
  .next (s.row (fun s => (s.arrive m.t).ridgeIn 0x14 m (fun s => s.digestFill d)))

/-- PAIR_CHECKS_START (R383). -/
def execPairChecksStart (d : Nat) (s : State) : Host.Outcome State Fault Refusal :=
  .next (s.row (fun s => (s.arrive ((d + 9) * 1000)).checksStart d))

/-- VERDICT_FIX (R374). -/
def execVerdictFix (d : Nat) (s : State) : Host.Outcome State Fault Refusal :=
  .next (s.row (fun s => (s.arrive ((d + 16) * 1000)).verdictFix d))

/-- YIELD_WARN (R382). -/
def execYieldWarn (c : Chan) (s : State) : Host.Outcome State Fault Refusal :=
  .next (s.row (fun s => s.yieldWarn c))

/-- COL_READ (R384). -/
def execColRead (p : Pkt) (s : State) : Host.Outcome State Fault Refusal :=
  .next (s.row (fun s => s.takePkt 0x60 p))

end Sys2Proof.Machine
end

