-- ==== Sys2Proof/Machine/RowsRidge.lean ====
section
/-!
DEFINITION. Sys2Proof/Machine/RowsRidge.lean: the meanings of the commands of
the ridge ring and redundant pairs (spec/13): one definition for each row of the table.
-/
namespace Sys2Proof.Machine

/-- RIDGE_LINK_UP (R464). -/
def execRidgeLinkUp (t : Nat) (link : Fin 4) (s : State) : Host.Outcome State Fault Refusal :=
  .next (s.row (fun s => ((s.arrive t).ridgeUp link).wantRun (64 + link)))

/-- RIDGE_LINK_DOWN (R469). -/
def execRidgeLinkDown (t : Nat) (link : Fin 4) (s : State) : Host.Outcome State Fault Refusal :=
  .next (s.row (fun s => (s.arrive t).ridgeDown link))

/-- HELLO_RX (R467). -/
def execHelloRx (h : RidgeHead) (payload : List Byte) (node : RingNode) (s : State) : Host.Outcome State Fault Refusal :=
  .next (s.row (fun s => (s.arrive h.t).ridgeIn 0x01 (h.msg payload) (fun s => s.helloRx h.link node)))

/-- DISCOVER_SEND (R472). -/
def execDiscoverSend (t : Nat) (s : State) : Host.Outcome State Fault Refusal :=
  .next (s.row (fun s => (s.arrive t).discoverSend))

/-- DISCOVER_RX (R472). -/
def execDiscoverRx (h : RidgeHead) (payload : List Byte) (ended : Bool) (nodes : List RingNode) (s : State) : Host.Outcome State Fault Refusal :=
  .next (s.row (fun s => (s.arrive h.t).ridgeIn 0x02 (h.msg payload) (fun s => s.discoverRx (h.msg payload).cw ended nodes)))

/-- NO_SUMMIT_TIMEOUT (R473). -/
def execNoSummitTimeout (t : Nat) (s : State) : Host.Outcome State Fault Refusal :=
  .next (s.row (fun s => (s.arrive t).noSummit))

/-- MAP_RX (R472). -/
def execMapRx (m : RidgeMsg) (at_ : Nat) (nodes : List RingNode) (s : State) : Host.Outcome State Fault Refusal :=
  .next (s.row (fun s => (s.arrive m.t).ridgeIn 0x03 m (fun s => s.mapRx at_ nodes)))

/-- MAP_APPLY (R478). -/
def execMapApply (f : Nat) (s : State) : Host.Outcome State Fault Refusal :=
  .next (s.row (fun s => (s.arrive (f * 1000)).mapApply))

/-- HEARTBEAT_TX (R487). A node looks for the summit's heartbeats as it sends its own (R469). -/
def execHeartbeatTx (n : Nat) (s : State) : Host.Outcome State Fault Refusal :=
  .next (s.row (fun s => ((s.arrive (n * 100000)).heartbeatTx n).splitCheck))

/-- HEARTBEAT_RX (R487). -/
def execHeartbeatRx (h : RidgeHead) (payload : List Byte) (s : State) : Host.Outcome State Fault Refusal :=
  .next (s.row (fun s => (s.arrive h.t).ridgeIn 0x05 (h.msg payload) (fun s => s.heartbeatRx payload)))

/-- PARTNER_HEARTBEAT_LOSS (R488). -/
def execPartnerHeartbeatLoss (n : Nat) (s : State) : Host.Outcome State Fault Refusal :=
  .next (s.row (fun s => (s.arrive ((n * 100 + 20) * 1000)).beatLoss n))

/-- FILL_REQ_RX (R480). -/
def execFillReqRx (h : RidgeHead) (payload : List Byte) (k : Nat) (s : State) : Host.Outcome State Fault Refusal :=
  .next (s.row (fun s => (s.arrive h.t).ridgeIn 0x10 (h.msg payload) (fun s => s.fillReqRx k (leAt payload 0 8))))

/-- FILL_DATA_RX (R481). -/
def execFillDataRx (h : RidgeHead) (payload : List Byte) (k : Nat) (s : State) : Host.Outcome State Fault Refusal :=
  .next (s.row (fun s => (s.arrive h.t).ridgeIn 0x11 (h.msg payload) (fun s => s.fillDataRx k (servedFrames payload))))

/-- ADMIT_RX (R482). -/
def execAdmitRx (m : RidgeMsg) (number q : Nat) (s : State) : Host.Outcome State Fault Refusal :=
  .next (s.row (fun s => (s.arrive m.t).ridgeIn 0x15 m (fun s => s.admitRx number q)))

/-- ADMIT_DEADLINE (R482). -/
def execAdmitDeadline (number f : Nat) (s : State) : Host.Outcome State Fault Refusal :=
  .next (s.row (fun s => (s.arrive (f * 1000 - 3000)).admitDeadline number f))

/-- MIRROR_RX (R483). -/
def execMirrorRx (m : RidgeMsg) (number : Nat) (x : MirrorItem) (s : State) : Host.Outcome State Fault Refusal :=
  .next (s.row (fun s => (s.arrive m.t).ridgeIn 0x20 m (fun s => s.mirrorRx number x)))

/-- MIRROR_ACK_RX (R483). -/
def execMirrorAckRx (m : RidgeMsg) (number : Nat) (s : State) : Host.Outcome State Fault Refusal :=
  .next (s.row (fun s => (s.arrive m.t).ridgeIn 0x20 m (fun s => s.mirrorAck number)))

/-- MIRROR_RESEND (R483). -/
def execMirrorResend (t number : Nat) (s : State) : Host.Outcome State Fault Refusal :=
  .next (s.row (fun s => (s.arrive t).mirrorAgain number))

/-- MIRROR_ACK_TIMEOUT (R483). -/
def execMirrorAckTimeout (t number : Nat) (s : State) : Host.Outcome State Fault Refusal :=
  .next (s.row (fun s => (s.arrive t).mirrorLost number))

/-- LOCK_CHECK_TX (R485). -/
def execLockCheckTx (m : Nat) (s : State) : Host.Outcome State Fault Refusal :=
  .next (s.row (fun s => (s.arrive ((10 * m + 9) * 1000)).lockCheckTx m))

/-- LOCK_CHECK_RX (R485). -/
def execLockCheckRx (h : RidgeHead) (payload : List Byte) (n : Nat) (s : State) : Host.Outcome State Fault Refusal :=
  .next (s.row (fun s => (s.arrive h.t).ridgeIn 0x13 (h.msg payload) (fun s => s.lockCheckRx n (crcsOf payload))))

/-- REFEREE_EVALUATION (R489). -/
def execRefereeEvaluation (n : Nat) (s : State) : Host.Outcome State Fault Refusal :=
  .next (s.row (fun s => (s.arrive ((n * 100 + 20) * 1000)).refereeEval n))

/-- VERDICT_RX (R490). -/
def execVerdictRx (h : RidgeHead) (payload : List Byte) (s : State) : Host.Outcome State Fault Refusal :=
  .next (s.row (fun s => (s.arrive h.t).ridgeIn 0x06 (h.msg payload) (fun s => s.verdictRx payload)))

/-- VERDICT_APPLY (R490). -/
def execVerdictApply (v : Nat) (s : State) : Host.Outcome State Fault Refusal :=
  .next (s.row (fun s => ((s.arrive (v * 1000)).verdictApply).pump))

/-- REFEREE_LOST (R492). -/
def execRefereeLost (t : Nat) (s : State) : Host.Outcome State Fault Refusal :=
  .next (s.row (fun s => (s.arrive t).refereeLost))

/-- PAIR_JOIN (R493). -/
def execPairJoin (p : Pkt) (s : State) : Host.Outcome State Fault Refusal :=
  .next (s.row (fun s => s.takePkt 0x70 p))

/-- AUTO_JOIN_START (R493). -/
def execAutoJoinStart (t : Nat) (s : State) : Host.Outcome State Fault Refusal :=
  .next (s.row (fun s => (s.arrive t).autoJoin))

/-- TRANSFER_RX (R494). -/
def execTransferRx (m : RidgeMsg) (x : TransferItem) (bytes : Nat) (s : State) : Host.Outcome State Fault Refusal :=
  .next (s.row (fun s => (s.arrive m.t).ridgeIn 0x30 m (fun s => s.transferIn x bytes)))

/-- JOIN_COPY_DONE (R494). -/
def execJoinCopyDone (t : Nat) (s : State) : Host.Outcome State Fault Refusal :=
  .next (s.row (fun s => (s.arrive t).joinCopyDone))

/-- JOIN_CUT (R494). -/
def execJoinCut (c : Nat) (s : State) : Host.Outcome State Fault Refusal :=
  .next (s.row (fun s => (s.arrive (c * 1000)).joinCut c))

/-- JOIN_REPLAY_CAUGHT_UP (R494). -/
def execJoinReplayCaughtUp (t : Nat) (s : State) : Host.Outcome State Fault Refusal :=
  .next (s.row (fun s => (s.arrive t).replayAll))

/-- JOIN_CAIRN (R495). -/
def execJoinCairn (l : Nat) (s : State) : Host.Outcome State Fault Refusal :=
  .next (s.row (fun s => (s.arrive (l * 1000)).joinCairn l))

/-- JOIN_ABORT (R496). -/
def execJoinAbort (t : Nat) (s : State) : Host.Outcome State Fault Refusal :=
  .next (s.row (fun s => (s.arrive t).joinAbort))

/-- JOIN_RETRY (R496). -/
def execJoinRetry (t : Nat) (s : State) : Host.Outcome State Fault Refusal :=
  .next (s.row (fun s => (s.arrive t).joinRetry))

/-- PAIR_SWAP (R497). -/
def execPairSwap (p : Pkt) (s : State) : Host.Outcome State Fault Refusal :=
  .next (s.row (fun s => s.takePkt 0x71 p))

/-- PAIR_SWAP_APPLY (R497). -/
def execPairSwapApply (v : Nat) (s : State) : Host.Outcome State Fault Refusal :=
  .next (s.row (fun s => ((s.arrive (v * 1000)).pairApply v [1, 2]).pump))

/-- PAIR_DROP (R498). -/
def execPairDrop (p : Pkt) (s : State) : Host.Outcome State Fault Refusal :=
  .next (s.row (fun s => s.takePkt 0x73 p))

/-- PAIR_DROP_APPLY (R498). -/
def execPairDropApply (v : Nat) (s : State) : Host.Outcome State Fault Refusal :=
  .next (s.row (fun s => ((s.arrive (v * 1000)).pairApply v [0, 3]).pump))

/-- PAIR_VERDICT (R491). -/
def execPairVerdict (p : Pkt) (s : State) : Host.Outcome State Fault Refusal :=
  .next (s.row (fun s => s.takePkt 0x72 p))

end Sys2Proof.Machine
end

