-- ==== Sys2Proof/Machine/RowsStream.lean ====
section
/-!
DEFINITION. Sys2Proof/Machine/RowsStream.lean: the meanings of the commands of
the build stream and compression (spec/04, spec/05): one definition for each row of the table.
-/
namespace Sys2Proof.Machine

/-- STREAM_OPEN (R132). -/
def execStreamOpen (p : Pkt) (s : State) : Host.Outcome State Fault Refusal :=
  .next (s.row (fun s => s.takePkt 0x10 p))

/-- STREAM_PUSH (R133). -/
def execStreamPush (p : Pkt) (s : State) : Host.Outcome State Fault Refusal :=
  .next (s.row (fun s => s.takePkt 0x11 p))

/-- STREAM_FETCH (R134). -/
def execStreamFetch (p : Pkt) (s : State) : Host.Outcome State Fault Refusal :=
  .next (s.row (fun s => s.takePkt 0x12 p))

/-- STREAM_FETCH_COMPLETE (R135). -/
def execStreamFetchComplete (path : Path) (tag : Byte) (bytes : List Byte) (s : State) : Host.Outcome State Fault Refusal :=
  .next (s.row (fun s => (s.fetchComplete path tag bytes).pump))

/-- STREAM_CLOSE (R137). -/
def execStreamClose (p : Pkt) (s : State) : Host.Outcome State Fault Refusal :=
  .next (s.row (fun s => s.takePkt 0x13 p))

/-- STREAM_HEADER_PARSE (R139). -/
def execStreamHeaderParse (n : StreamNo) (s : State) : Host.Outcome State Fault Refusal :=
  .next (s.row (fun s => s.headerParse n))

/-- CHUNK_PROCESS (R140). -/
def execChunkProcess (n : StreamNo) (s : State) : Host.Outcome State Fault Refusal :=
  .next (s.row (fun s => s.chunkProcess n))

/-- DECODE_RESUME (R172). -/
def execDecodeResume (n : StreamNo) (s : State) : Host.Outcome State Fault Refusal :=
  .next (s.row (fun s => s.decodeStream n))

/-- CONTAINER_PAD (R144). -/
def execContainerPad (n : StreamNo) (s : State) : Host.Outcome State Fault Refusal :=
  .next (s.row (fun s => s.containerPad n))

/-- CONTAINER_LAYER (R145). -/
def execContainerLayer (n : StreamNo) (s : State) : Host.Outcome State Fault Refusal :=
  .next (s.row (fun s => s.containerLayer n))

/-- CONTAINER_PROGRAM (R145). -/
def execContainerProgram (n : StreamNo) (s : State) : Host.Outcome State Fault Refusal :=
  .next (s.row (fun s => s.containerProgram n))

/-- CONTAINER_BLOCK (R144). -/
def execContainerBlock (n : StreamNo) (s : State) : Host.Outcome State Fault Refusal :=
  .next (s.row (fun s => s.containerBlock n))

/-- CONTAINER_STREAM_END (R145). -/
def execContainerStreamEnd (n : StreamNo) (s : State) : Host.Outcome State Fault Refusal :=
  .next (s.row (fun s => s.containerEnd n))

/-- CHANNEL_HOLD_TAKE (R146). -/
def execChannelHoldTake (n : StreamNo) (c : Chan) (s : State) : Host.Outcome State Fault Refusal :=
  .next (s.row (fun s => s.holdTake n c))

/-- BLOCK_STAGE (R152). -/
def execBlockStage (n : StreamNo) (s : State) : Host.Outcome State Fault Refusal :=
  .next (s.row (fun s => s.blockStage n))

/-- BLOCK_ADMISSION (R153). -/
def execBlockAdmission (c : Chan) (q : Nat) (s : State) : Host.Outcome State Fault Refusal :=
  .next (s.row (fun s => (s.arrive (q * 1000)).blockAdmission c q))

/-- BROKEN_PROGRAM_FAULT (R158). -/
def execBrokenProgramFault (c : Chan) (s : State) : Host.Outcome State Fault Refusal :=
  .next (s.row (fun s => s.brokenFault c))

/-- STREAM_DONE (R138). -/
def execStreamDone (n : StreamNo) (s : State) : Host.Outcome State Fault Refusal :=
  .next (s.row (fun s => s.streamDone n))

/-- LAYER_START (R268). -/
def execLayerStart (n : StreamNo) (layer : Word) (s : State) : Host.Outcome State Fault Refusal :=
  .next (s.row (fun s => s.layerStart n layer.toNat))

/-- PACK_JOB (R179). -/
def execPackJob (p : Pkt) (s : State) : Host.Outcome State Fault Refusal :=
  .next (s.row (fun s => s.takePkt 0x18 p))

/-- JOB_START (R189). -/
def execJobStart (s : State) : Host.Outcome State Fault Refusal :=
  .next (s.row (fun s => s.jobStart))

/-- JOB_QUEUE_TIMEOUT (R184). -/
def execJobQueueTimeout (slot : Fin 256) (s : State) : Host.Outcome State Fault Refusal :=
  .next (s.row (fun s => s.jobDeadline slot))

/-- JOB_COMPLETE (R181). -/
def execJobComplete (slot : Fin 256) (input : List Byte) (dmaFail : Bool) (s : State) : Host.Outcome State Fault Refusal :=
  .next (s.row (fun s => (s.jobComplete slot input dmaFail).pump))

/-- CTX_SEED (R177). -/
def execCtxSeed (p : Pkt) (s : State) : Host.Outcome State Fault Refusal :=
  .next (s.row (fun s => s.takePkt 0x19 p))

/-- CTX_PERSIST (R178). -/
def execCtxPersist (p : Pkt) (s : State) : Host.Outcome State Fault Refusal :=
  .next (s.row (fun s => s.takePkt 0x1A p))

/-- CONTEXT_JOURNAL_WRITE_DONE (R173). -/
def execContextJournalWriteDone (slot : Fin 256) (s : State) : Host.Outcome State Fault Refusal :=
  .next (s.row (fun s => s.contextWritten slot))

/-- ENGINE_SWITCH (R189). -/
def execEngineSwitch (e : Fin 6) (s : State) : Host.Outcome State Fault Refusal :=
  .next (s.row (fun s => s.engineSwitch e))

/-- TELEMETRY_CHUNK (R185). -/
def execTelemetryChunk (feed : Fin 16) (flush : Bool) (s : State) : Host.Outcome State Fault Refusal :=
  .next (s.row (fun s => s.telemetryChunk feed flush))

/-- TELEMETRY_FEED_START (R187). -/
def execTelemetryFeedStart (feed : Fin 16) (s : State) : Host.Outcome State Fault Refusal :=
  .next (s.row (fun s => s.feedStart feed))

end Sys2Proof.Machine
end

