-- ==== Sys2Proof/Machine/RowsSys.lean ====
section
/-!
DEFINITION. Sys2Proof/Machine/RowsSys.lean: the meanings of the commands of
the device state, the pins, reset and boot (spec/01, spec/02): one definition for each row of the table.
-/
namespace Sys2Proof.Machine

/-- GO_BUILD (R28). -/
def execGoBuild (h : Hdr) (s : State) : Host.Outcome State Fault Refusal :=
  .next (s.row (fun s => s.takePkt 0x03 (requestPkt h 0x000010 8)))

/-- DRAIN (R28). -/
def execDrain (h : Hdr) (s : State) : Host.Outcome State Fault Refusal :=
  .next (s.row (fun s => s.takePkt 0x03 (requestPkt h 0x000010 9)))

/-- STOP (R28). -/
def execStop (h : Hdr) (s : State) : Host.Outcome State Fault Refusal :=
  .next (s.row (fun s => s.takePkt 0x03 (requestPkt h 0x000010 10)))

/-- RESUME (R28). -/
def execResume (h : Hdr) (s : State) : Host.Outcome State Fault Refusal :=
  .next (s.row (fun s => s.takePkt 0x03 (requestPkt h 0x000010 11)))

/-- DEV_STATE_REQUEST_ACT (R614). -/
def execDevStateRequestAct (f : Nat) (s : State) : Host.Outcome State Fault Refusal :=
  .next (s.row (fun s => ((s.ahead f).requestsAct f).settle))

/-- HALT_AFTER_PARK (R598). -/
def execHaltAfterPark (f : Nat) (s : State) : Host.Outcome State Fault Refusal :=
  .next (s.row (fun s => (s.arrive (f * 1000)).haltAfterPark f))

/-- ESTOP_ASSERT (R30). -/
def execEstopAssert (t : Nat) (s : State) : Host.Outcome State Fault Refusal :=
  .next (s.pinRow (fun s => (s.arrive t).setEstop true) (fun s => (s.reach t).levels (fun y => { y with estop := true })))

/-- ESTOP_RELEASE (R47). -/
def execEstopRelease (t : Nat) (s : State) : Host.Outcome State Fault Refusal :=
  .next (s.pinRow (fun s => (s.arrive t).setEstop false) (fun s => (s.reach t).levels (fun y => { y with estop := false })))

/-- LASER_ENABLE_DEASSERT (R30). -/
def execLaserEnableDeassert (t : Nat) (s : State) : Host.Outcome State Fault Refusal :=
  .next (s.pinRow (fun s => (s.arrive t).setLaser false) (fun s => (s.reach t).levels (fun y => { y with laserEnable := false })))

/-- LASER_ENABLE_RELEASE (R47). -/
def execLaserEnableRelease (t : Nat) (s : State) : Host.Outcome State Fault Refusal :=
  .next (s.pinRow (fun s => (s.arrive t).setLaser true) (fun s => (s.reach t).levels (fun y => { y with laserEnable := true })))

/-- MAIN_PLL_LOSS (R39). -/
def execMainPllLoss (t : Nat) (s : State) : Host.Outcome State Fault Refusal :=
  .next (s.pinRow (fun s => (s.arrive t).pllLoss) (fun s => (s.reach t).pllHeld false))

/-- LANE_PLL_LOSS (R39). -/
def execLanePllLoss (t : Nat) (lanes : Lanes) (s : State) : Host.Outcome State Fault Refusal :=
  .next (s.row (fun s => (s.arrive t).lanesLost lanes))

/-- PORST_N_ASSERT (R58). -/
def execPorstAssert (t : Nat) (s : State) : Host.Outcome State Fault Refusal :=
  .next (s.resetRow (fun s => (s.arrive t).porstAssert))

/-- PORST_N_RELEASE (R66). -/
def execPorstRelease (t straps : Nat) (s : State) : Host.Outcome State Fault Refusal :=
  .next (s.resetRow (fun s => (s.arrive t).porstRelease straps))

/-- SYSRST_N_ASSERT (R58). -/
def execSysrstAssert (t : Nat) (s : State) : Host.Outcome State Fault Refusal :=
  .next (s.resetRow (fun s => (s.arrive t).sysReset 2 true))

/-- SYSRST_N_RELEASE (R194). -/
def execSysrstRelease (t : Nat) (s : State) : Host.Outcome State Fault Refusal :=
  .next (s.resetRow (fun s => (s.arrive t).sysrstRelease))

/-- PERST_N_ASSERT (R60). -/
def execPerstAssert (t : Nat) (s : State) : Host.Outcome State Fault Refusal :=
  .next (s.pinRow (fun s => (s.arrive t).perstAssert) (fun s => (s.reach t).perstLevel true))

/-- PERST_N_RELEASE (R72). -/
def execPerstRelease (t : Nat) (s : State) : Host.Outcome State Fault Refusal :=
  .next (s.pinRow (fun s => (s.arrive t).perstLevel false) (fun s => (s.reach t).perstLevel false))

/-- PWRFAIL_N_ASSERT (R53). -/
def execPwrfailAssert (t : Nat) (s : State) : Host.Outcome State Fault Refusal :=
  .next (s.pinRow (fun s => (s.arrive t).pwrfailAssert) (fun s => (s.reach t).levels (fun y => { y with pwrfail := true, pwrfailSeen := true })))

/-- PWRFAIL_N_RELEASE (R613). -/
def execPwrfailRelease (t : Nat) (s : State) : Host.Outcome State Fault Refusal :=
  .next (s.pinRow (fun s => (s.arrive t).pwrfailRelease) (fun s => (s.reach t).levels (fun y => { y with pwrfail := false })))

/-- STRAP_MISMATCH (R64). -/
def execStrapMismatch (t live : Nat) (s : State) : Host.Outcome State Fault Refusal :=
  .next (s.pinRow (fun s => (s.arrive t).strapsLive live) (fun s => (s.reach t).levels (fun y => { y with straps := live })))

/-- MAIN_PLL_LOCK (R66). -/
def execMainPllLock (t : Nat) (s : State) : Host.Outcome State Fault Refusal :=
  .next (s.pinRow (fun s => (s.arrive t).pllLock) (fun s => (s.reach t).pllHeld true))

/-- MAIN_PLL_RELOCK (R613). -/
def execMainPllRelock (t : Nat) (s : State) : Host.Outcome State Fault Refusal :=
  .next (s.pinRow (fun s => (s.arrive t).pllLock) (fun s => (s.reach t).pllHeld true))

/-- ROM_START_CHECK (R66). -/
def execRomStartCheck (t : Nat) (islandLost : Bool) (s : State) : Host.Outcome State Fault Refusal :=
  .next (s.row (fun s => (s.arrive t).romStart islandLost))

/-- IMAGE_READ_DONE (R66). -/
def execImageReadDone (t : Nat) (image : Machine.FwImage) (s : State) : Host.Outcome State Fault Refusal :=
  .next (s.row (fun s => (s.arrive t).imageRead image))

/-- IMAGE_AUTH_CHECK (R65). -/
def execImageAuthCheck (t : Nat) (s : State) : Host.Outcome State Fault Refusal :=
  .next (s.row (fun s => (s.arrive t).imageAuth))

/-- LPDDR5_TRAINING_DONE (R66). -/
def execLpddr5TrainingDone (t : Nat) (ok : Bool) (s : State) : Host.Outcome State Fault Refusal :=
  .next (s.row (fun s => (s.arrive t).trainingDone ok))

/-- FIRMWARE_START (R66). -/
def execFirmwareStart (t : Nat) (s : State) : Host.Outcome State Fault Refusal :=
  .next (s.row (fun s => (s.arrive t).firmwareStart))

/-- JOURNAL_SCAN (R68). -/
def execJournalScan (t : Nat) (ok : Bool) (s : State) : Host.Outcome State Fault Refusal :=
  .next (s.row (fun s => ((s.arrive t).journalScan ok).pump))

/-- BOOT_STEP_TIMEOUT (R67). -/
def execBootStepTimeout (t : Nat) (s : State) : Host.Outcome State Fault Refusal :=
  .next (s.row (fun s => (s.arrive t).bootTimeout))

/-- BOOT_WINDOW_START (R70). -/
def execBootWindowStart (t length : Nat) (s : State) : Host.Outcome State Fault Refusal :=
  .next (s.row (fun s => (s.arrive t).windowStart length))

/-- ANALOG_THERMAL_TRIP (R519). -/
def execAnalogThermalTrip (t : Nat) (logged : Bool) (s : State) : Host.Outcome State Fault Refusal :=
  .next (s.pinRow (fun s => (s.arrive t).analogTrip logged) (fun s => (s.reach t).tripHeld))

/-- SYS_RESET_BEGIN (R100). -/
def execSysResetBegin (s : State) : Host.Outcome State Fault Refusal :=
  .next (s.resetRow (fun s => s.sysResetBegin))

end Sys2Proof.Machine
end

