-- ==== Sys2Proof/Machine/RowsTherm.lean ====
section
/-!
DEFINITION. Sys2Proof/Machine/RowsTherm.lean: the meanings of the commands of
temperature, calibration and bed illumination (spec/14, spec/15): one definition for each row of the table.
-/
namespace Sys2Proof.Machine

/-- THERM_CYCLE (R506). -/
def execThermCycle (c : Nat) (raws : List (Option Int)) (diodes : List (Option Int)) (s : State) : Host.Outcome State Fault Refusal :=
  .next (s.row (fun s => ((s.arrive ((c + 2) * 1000)).thermCycle c raws diodes).derate))

/-- SENSOR_FAILED (R508). -/
def execSensorFailed (n : Fin 16) (s : State) : Host.Outcome State Fault Refusal :=
  .next (s.row (fun s => s.sensorFailed n))

/-- BAND_CHANGE (R512). -/
def execBandChange (s : State) : Host.Outcome State Fault Refusal :=
  .next (s.row (fun s => s.bandRow))

/-- POWER_BAND_APPLY (R514). -/
def execPowerBandApply (f : Nat) (s : State) : Host.Outcome State Fault Refusal :=
  .next (s.row (fun s => (s.arrive (f * 1000)).powerBand))

/-- THERMAL_SHUTDOWN_REQUEST (R516). -/
def execThermalShutdownRequest (s : State) : Host.Outcome State Fault Refusal :=
  .next (s.row (fun s => s.thermalShutdown))

/-- TCRIT_HALT (R518). -/
def execTcritHalt (s : State) : Host.Outcome State Fault Refusal :=
  .next (s.row (fun s => s.tcrit))

/-- SHUTDOWN_LIMIT_EXPIRY (R518). -/
def execShutdownLimitExpiry (t : Nat) (s : State) : Host.Outcome State Fault Refusal :=
  .next (s.row (fun s => (s.arrive t).shutLimit))

/-- THERMAL_CAUSE_CLEAR (R520). -/
def execThermalCauseClear (s : State) : Host.Outcome State Fault Refusal :=
  .next (s.row (fun s => s.thermalClear))

/-- CAL_RUN_START (R522). -/
def execCalRunStart (t : Nat) (s : State) : Host.Outcome State Fault Refusal :=
  .next (s.row (fun s => ((s.arrive t).calStart).pump))

/-- CAL_RUN_END (R523). -/
def execCalRunEnd (t : Nat) (target : Fin 84) (eye : EyeScan) (s : State) : Host.Outcome State Fault Refusal :=
  .next (s.row (fun s => ((s.arrive t).calEnd target eye).pump))

/-- CAL_RUN (R527). -/
def execCalRun (p : Pkt) (s : State) : Host.Outcome State Fault Refusal :=
  .next (s.row (fun s => s.takePkt 0x80 p))

/-- SENSOR_READMIT (R527). -/
def execSensorReadmit (p : Pkt) (s : State) : Host.Outcome State Fault Refusal :=
  .next (s.row (fun s => s.takePkt 0x81 p))

/-- PWM_PERIOD_START (R537). -/
def execPwmPeriodStart (t : Nat) (n : Fin 8) (s : State) : Host.Outcome State Fault Refusal :=
  .next (s.row (fun s => (s.arrive t).pwmStart n))

/-- PWM_OFF (R537). -/
def execPwmOff (t : Nat) (n : Fin 8) (s : State) : Host.Outcome State Fault Refusal :=
  .next (s.row (fun s => (s.arrive t).lampOff n))

/-- ROW_LOAD (R534). -/
def execRowLoad (t : Nat) (n : Fin 8) (s : State) : Host.Outcome State Fault Refusal :=
  .next (s.row (fun s => (s.arrive t).rowLoad n))

/-- STROBE_RISE (R538). -/
def execStrobeRise (t : Nat) (n : Fin 8) (s : State) : Host.Outcome State Fault Refusal :=
  .next (s.row (fun s => (s.arrive t).strobeRise n))

/-- STROBE_FALL (R538). -/
def execStrobeFall (t : Nat) (n : Fin 8) (s : State) : Host.Outcome State Fault Refusal :=
  .next (s.row (fun s => (s.arrive t).lampOff n))

/-- DIAGNOSTIC_PULSE_START (R546). -/
def execDiagnosticPulseStart (t : Nat) (n : Fin 8) (s : State) : Host.Outcome State Fault Refusal :=
  .next (s.row (fun s => (s.arrive t).diagnosticPulse n))

/-- LAMP_MEASUREMENT (R542). -/
def execLampMeasurement (t : Nat) (n : Fin 8) (codes : List (Fin 4096)) (s : State) : Host.Outcome State Fault Refusal :=
  .next (s.row (fun s => ((s.arrive t).lampMeasurement n (codes.map (fun v => v.val))).pump))

/-- LAMP_FAULT_DECLARE (R543). -/
def execLampFaultDeclare (n : Fin 8) (s : State) : Host.Outcome State Fault Refusal :=
  .next (s.row (fun s => s.lampDeclare n))

/-- LAMP_OFF_FAULT (R544). -/
def execLampOffFault (t : Nat) (n : Fin 8) (s : State) : Host.Outcome State Fault Refusal :=
  .next (s.row (fun s => (s.arrive t).lampOffFault n))

/-- LAMP_FAULT_CLEAR (R543). -/
def execLampFaultClear (n : Fin 8) (s : State) : Host.Outcome State Fault Refusal :=
  .next (s.row (fun s => s.lampClear n))

/-- STRETCH_STARVED (R545). -/
def execStretchStarved (n : Fin 8) (s : State) : Host.Outcome State Fault Refusal :=
  .next (s.row (fun s => s.stretchStarved n))

/-- LIGHT_CLEAR (R548). -/
def execLightClear (p : Pkt) (s : State) : Host.Outcome State Fault Refusal :=
  .next (s.row (fun s => s.takePkt 0x88 p))

/-- LIGHT_MEASURE (R548). -/
def execLightMeasure (p : Pkt) (s : State) : Host.Outcome State Fault Refusal :=
  .next (s.row (fun s => s.takePkt 0x89 p))

end Sys2Proof.Machine
end

