-- ==== Sys2Proof/Machine/RowsTime.lean ====
section
/-!
DEFINITION. Sys2Proof/Machine/RowsTime.lean: the meanings of the commands of
the time base, TRIG outputs and CAP inputs (spec/06): one definition for each row of the table.
-/
namespace Sys2Proof.Machine

/-- TIME_STEP (R219). -/
def execTimeStep (p : Pkt) (s : State) : Host.Outcome State Fault Refusal :=
  .next (s.row (fun s => s.takePkt 0x20 p))

/-- TIME_RESET (R220). -/
def execTimeReset (p : Pkt) (s : State) : Host.Outcome State Fault Refusal :=
  .next (s.row (fun s => s.takePkt 0x21 p))

/-- TIME_VERDICT (R209). -/
def execTimeVerdict (p : Pkt) (s : State) : Host.Outcome State Fault Refusal :=
  .next (s.row (fun s => s.takePkt 0x22 p))

/-- SLEW_END (R209). -/
def execSlewEnd (s : State) : Host.Outcome State Fault Refusal :=
  .next (s.row (fun s => s.slewDeadline))

/-- CAP_READ (R230). -/
def execCapRead (p : Pkt) (s : State) : Host.Outcome State Fault Refusal :=
  .next (s.row (fun s => s.takePkt 0x23 p))

/-- PTP_MESSAGE_RX (R200). -/
def execPtpMessageRx (t : Nat) (port : Bool) (m : PtpMsg) (stamp : Nat) (s : State) : Host.Outcome State Fault Refusal :=
  .next (s.row (fun s => (s.arrive t).ptpMessage port m stamp))

/-- PTP_SYNC_TX (R202). -/
def execPtpSyncTx (t stamp : Nat) (s : State) : Host.Outcome State Fault Refusal :=
  .next (s.row (fun s => (s.arrive t).ptpSyncTx stamp))

/-- DELAY_REQ_TX (R202). -/
def execDelayReqTx (t stamp : Nat) (s : State) : Host.Outcome State Fault Refusal :=
  .next (s.row (fun s => (s.arrive t).delayReqTx stamp))

/-- PTP_MEASUREMENT (R206). -/
def execPtpMeasurement (s : State) : Host.Outcome State Fault Refusal :=
  .next (s.row (fun s => s.ptpMeasurement))

/-- PTP_FIRST_STEP (R203). -/
def execPtpFirstStep (s : State) : Host.Outcome State Fault Refusal :=
  .next (s.row (fun s => (s.ptpFirstStep).pump))

/-- JUMP_REFUSED (R207). -/
def execJumpRefused (s : State) : Host.Outcome State Fault Refusal :=
  .next (s.row (fun s => s.refuseJump))

/-- HOLDOVER_EXIT (R199). -/
def execHoldoverExit (s : State) : Host.Outcome State Fault Refusal :=
  .next (s.row (fun s => s.leaveHoldover))

/-- ANNOUNCE_RECEIPT_TIMEOUT (R205). -/
def execAnnounceReceiptTimeout (t : Nat) (s : State) : Host.Outcome State Fault Refusal :=
  .next (s.row (fun s => (s.arrive t).announceLost))

/-- SYNC_LOSS (R205). -/
def execSyncLoss (t : Nat) (s : State) : Host.Outcome State Fault Refusal :=
  .next (s.row (fun s => (s.arrive t).syncLost))

/-- PTP_PORT_SWITCH (R204). -/
def execPtpPortSwitch (t : Nat) (s : State) : Host.Outcome State Fault Refusal :=
  .next (s.row (fun s => (s.arrive t).ptpSwitch))

/-- TIME_CFG_SOURCE_CHANGE (R221). -/
def execTimeCfgSourceChange (h : Hdr) (v : Word) (s : State) : Host.Outcome State Fault Refusal :=
  .next (s.row (fun s => s.takePkt 0x03 (directPkt h 0x080010 [0, v])))

/-- TRIG_PULSE_RISE (R223). -/
def execTrigPulseRise (t : Nat) (n : Fin 24) (s : State) : Host.Outcome State Fault Refusal :=
  .next (s.row (fun s => (s.arrive t).trigRise n))

/-- TRIG_PULSE_FALL (R223). -/
def execTrigPulseFall (t : Nat) (n : Fin 24) (s : State) : Host.Outcome State Fault Refusal :=
  .next (s.row (fun s => (s.arrive t).trigFall n))

/-- CAP_EDGE (R228). -/
def execCapEdge (t : Nat) (n : Fin 8) (rising : Bool) (s : State) : Host.Outcome State Fault Refusal :=
  .next (s.row (fun s => (s.arrive t).capEdge n rising))

/-- MARKER_SEND (R213). -/
def execMarkerSend (t : Nat) (s : State) : Host.Outcome State Fault Refusal :=
  .next (s.row (fun s => (s.arrive t).markerSend))

/-- MARKER_RX (R215). -/
def execMarkerRx (m : RidgeMsg) (k : Marker) (residence : Nat) (s : State) : Host.Outcome State Fault Refusal :=
  .next (s.row (fun s => (s.arrive m.t).ridgeIn 0x04 m (fun s => s.markerRx m.cw k residence)))

/-- MARKER_DIRECTION_CHANGE (R213). -/
def execMarkerDirectionChange (t : Nat) (s : State) : Host.Outcome State Fault Refusal :=
  .next (s.row (fun s => (s.arrive t).markerTurn))

/-- MARKER_LOSS_HOLDOVER (R213). -/
def execMarkerLossHoldover (t : Nat) (s : State) : Host.Outcome State Fault Refusal :=
  .next (s.row (fun s => (s.arrive t).markerLoss.splitCheck))

/-- MEMBER_STEP (R215). -/
def execMemberStep (s : State) : Host.Outcome State Fault Refusal :=
  .next (s.row (fun s => (s.memberStep).pump))

/-- MISALIGN (R216). -/
def execMisalign (s : State) : Host.Outcome State Fault Refusal :=
  .next (s.row (fun s => s.misalign))

/-- RIDGE_DELAY_MEASURE (R214). -/
def execRidgeDelayMeasure (t : Nat) (link : Fin 4) (delay : Half) (s : State) : Host.Outcome State Fault Refusal :=
  .next (s.row (fun s => (s.arrive t).ridgeDelay link delay))

end Sys2Proof.Machine
end

