-- ==== Sys2Proof/Machine/Dispatch.lean ====
section
/-!
DEFINITION. Sys2Proof/Machine/Dispatch.lean: one arm for each command, each one call of its meaning.
-/
namespace Sys2Proof.Machine

/-- What a command does to everything but the queue. -/
def exec (i : Instr) (s : State) : Host.Outcome State Fault Refusal :=
  match i with
  | .goBuild h => Sys2Proof.Machine.execGoBuild h s
  | .drain h => Sys2Proof.Machine.execDrain h s
  | .stop h => Sys2Proof.Machine.execStop h s
  | .resume h => Sys2Proof.Machine.execResume h s
  | .devStateRequestAct f => Sys2Proof.Machine.execDevStateRequestAct f s
  | .online h c => Sys2Proof.Machine.execOnline h c s
  | .arm h c => Sys2Proof.Machine.execArm h c s
  | .disarm h c => Sys2Proof.Machine.execDisarm h c s
  | .hold h c => Sys2Proof.Machine.execHold h c s
  | .release h c => Sys2Proof.Machine.execRelease h c s
  | .clear h c => Sys2Proof.Machine.execClear h c s
  | .off h c => Sys2Proof.Machine.execOff h c s
  | .chRequestAct c f => Sys2Proof.Machine.execChRequestAct c f s
  | .holdAtRest c f => Sys2Proof.Machine.execHoldAtRest c f s
  | .frameBoundary k lines => Sys2Proof.Machine.execFrameBoundary k lines s
  | .inboundFrameRx c t a bytes => Sys2Proof.Machine.execInboundFrameRx c t a bytes s
  | .inboundArrivalDeadline k => Sys2Proof.Machine.execInboundArrivalDeadline k s
  | .frameCompute k errors => Sys2Proof.Machine.execFrameCompute k errors s
  | .channelMissSafe c k => Sys2Proof.Machine.execChannelMissSafe c k s
  | .safeStopDeadline f => Sys2Proof.Machine.execSafeStopDeadline f s
  | .haltAfterPark f => Sys2Proof.Machine.execHaltAfterPark f s
  | .outboundFrameTx k lag => Sys2Proof.Machine.execOutboundFrameTx k lag s
  | .estopAssert t => Sys2Proof.Machine.execEstopAssert t s
  | .estopRelease t => Sys2Proof.Machine.execEstopRelease t s
  | .laserEnableDeassert t => Sys2Proof.Machine.execLaserEnableDeassert t s
  | .laserEnableRelease t => Sys2Proof.Machine.execLaserEnableRelease t s
  | .mainPllLoss t => Sys2Proof.Machine.execMainPllLoss t s
  | .lanePllLoss t lanes => Sys2Proof.Machine.execLanePllLoss t lanes s
  | .porstAssert t => Sys2Proof.Machine.execPorstAssert t s
  | .porstRelease t straps => Sys2Proof.Machine.execPorstRelease t straps s
  | .sysrstAssert t => Sys2Proof.Machine.execSysrstAssert t s
  | .sysrstRelease t => Sys2Proof.Machine.execSysrstRelease t s
  | .perstAssert t => Sys2Proof.Machine.execPerstAssert t s
  | .pwrfailAssert t => Sys2Proof.Machine.execPwrfailAssert t s
  | .strapMismatch t live => Sys2Proof.Machine.execStrapMismatch t live s
  | .mainPllLock t => Sys2Proof.Machine.execMainPllLock t s
  | .romStartCheck t islandLost => Sys2Proof.Machine.execRomStartCheck t islandLost s
  | .imageReadDone t image => Sys2Proof.Machine.execImageReadDone t image s
  | .imageAuthCheck t => Sys2Proof.Machine.execImageAuthCheck t s
  | .lpddr5TrainingDone t ok => Sys2Proof.Machine.execLpddr5TrainingDone t ok s
  | .firmwareStart t => Sys2Proof.Machine.execFirmwareStart t s
  | .journalScan t ok => Sys2Proof.Machine.execJournalScan t ok s
  | .bootStepTimeout t => Sys2Proof.Machine.execBootStepTimeout t s
  | .bootWindowStart t length => Sys2Proof.Machine.execBootWindowStart t length s
  | .analogThermalTrip t logged => Sys2Proof.Machine.execAnalogThermalTrip t logged s
  | .cringDoorbell t bell ring => Sys2Proof.Machine.execCringDoorbell t bell ring s
  | .ringReset via => Sys2Proof.Machine.execRingReset via s
  | .replyHeldWrite t cons => Sys2Proof.Machine.execReplyHeldWrite t cons s
  | .udpDatagramRx t d => Sys2Proof.Machine.execUdpDatagramRx t d s
  | .arpRequest t port mac src dst => Sys2Proof.Machine.execArpRequest t port mac src dst s
  | .icmpEcho t port mac src dst payload => Sys2Proof.Machine.execIcmpEcho t port mac src dst payload s
  | .netCmdUdpWrite h n v => Sys2Proof.Machine.execNetCmdUdpWrite h n v s
  | .nop p => Sys2Proof.Machine.execNop p s
  | .ident p => Sys2Proof.Machine.execIdent p s
  | .getParam p => Sys2Proof.Machine.execGetParam p s
  | .setParam p => Sys2Proof.Machine.execSetParam p s
  | .commit p => Sys2Proof.Machine.execCommit p s
  | .commitApply f => Sys2Proof.Machine.execCommitApply f s
  | .snapshot p => Sys2Proof.Machine.execSnapshot p s
  | .snapshotAtFrame f => Sys2Proof.Machine.execSnapshotAtFrame f s
  | .cascadeSnapshotDeadline f => Sys2Proof.Machine.execCascadeSnapshotDeadline f s
  | .resetUnit p => Sys2Proof.Machine.execResetUnit p s
  | .sysResetBegin => Sys2Proof.Machine.execSysResetBegin s
  | .cairn p => Sys2Proof.Machine.execCairn p s
  | .cairnComplete path tag => Sys2Proof.Machine.execCairnComplete path tag s
  | .cairnTimeout path tag => Sys2Proof.Machine.execCairnTimeout path tag s
  | .forward p => Sys2Proof.Machine.execForward p s
  | .cascadeMsgRx m c => Sys2Proof.Machine.execCascadeMsgRx m c s
  | .discard p => Sys2Proof.Machine.execDiscard p s
  | .packetTimeout path tag => Sys2Proof.Machine.execPacketTimeout path tag s
  | .pciePathLoss t => Sys2Proof.Machine.execPciePathLoss t s
  | .ethPathLoss t port => Sys2Proof.Machine.execEthPathLoss t port s
  | .hostPathReturn t path => Sys2Proof.Machine.execHostPathReturn t path s
  | .streamOpen p => Sys2Proof.Machine.execStreamOpen p s
  | .streamPush p => Sys2Proof.Machine.execStreamPush p s
  | .streamFetch p => Sys2Proof.Machine.execStreamFetch p s
  | .streamFetchComplete path tag bytes => Sys2Proof.Machine.execStreamFetchComplete path tag bytes s
  | .streamClose p => Sys2Proof.Machine.execStreamClose p s
  | .streamHeaderParse n => Sys2Proof.Machine.execStreamHeaderParse n s
  | .chunkProcess n => Sys2Proof.Machine.execChunkProcess n s
  | .decodeResume n => Sys2Proof.Machine.execDecodeResume n s
  | .containerPad n => Sys2Proof.Machine.execContainerPad n s
  | .containerLayer n => Sys2Proof.Machine.execContainerLayer n s
  | .containerProgram n => Sys2Proof.Machine.execContainerProgram n s
  | .containerBlock n => Sys2Proof.Machine.execContainerBlock n s
  | .containerStreamEnd n => Sys2Proof.Machine.execContainerStreamEnd n s
  | .channelHoldTake n c => Sys2Proof.Machine.execChannelHoldTake n c s
  | .blockStage n => Sys2Proof.Machine.execBlockStage n s
  | .blockAdmission c q => Sys2Proof.Machine.execBlockAdmission c q s
  | .brokenProgramFault c => Sys2Proof.Machine.execBrokenProgramFault c s
  | .streamDone n => Sys2Proof.Machine.execStreamDone n s
  | .packJob p => Sys2Proof.Machine.execPackJob p s
  | .jobStart => Sys2Proof.Machine.execJobStart s
  | .jobQueueTimeout slot => Sys2Proof.Machine.execJobQueueTimeout slot s
  | .jobComplete slot input dmaFail => Sys2Proof.Machine.execJobComplete slot input dmaFail s
  | .ctxSeed p => Sys2Proof.Machine.execCtxSeed p s
  | .ctxPersist p => Sys2Proof.Machine.execCtxPersist p s
  | .engineSwitch e => Sys2Proof.Machine.execEngineSwitch e s
  | .telemetryChunk feed flush => Sys2Proof.Machine.execTelemetryChunk feed flush s
  | .telemetryFeedStart feed => Sys2Proof.Machine.execTelemetryFeedStart feed s
  | .timeStep p => Sys2Proof.Machine.execTimeStep p s
  | .timeReset p => Sys2Proof.Machine.execTimeReset p s
  | .timeVerdict p => Sys2Proof.Machine.execTimeVerdict p s
  | .slewEnd => Sys2Proof.Machine.execSlewEnd s
  | .capRead p => Sys2Proof.Machine.execCapRead p s
  | .ptpMessageRx t port m stamp => Sys2Proof.Machine.execPtpMessageRx t port m stamp s
  | .ptpSyncTx t stamp => Sys2Proof.Machine.execPtpSyncTx t stamp s
  | .ptpMeasurement => Sys2Proof.Machine.execPtpMeasurement s
  | .ptpFirstStep => Sys2Proof.Machine.execPtpFirstStep s
  | .jumpRefused => Sys2Proof.Machine.execJumpRefused s
  | .holdoverExit => Sys2Proof.Machine.execHoldoverExit s
  | .announceReceiptTimeout t => Sys2Proof.Machine.execAnnounceReceiptTimeout t s
  | .syncLoss t => Sys2Proof.Machine.execSyncLoss t s
  | .ptpPortSwitch t => Sys2Proof.Machine.execPtpPortSwitch t s
  | .timeCfgSourceChange h v => Sys2Proof.Machine.execTimeCfgSourceChange h v s
  | .trigPulseRise t n => Sys2Proof.Machine.execTrigPulseRise t n s
  | .trigPulseFall t n => Sys2Proof.Machine.execTrigPulseFall t n s
  | .capEdge t n rising => Sys2Proof.Machine.execCapEdge t n rising s
  | .markerSend t => Sys2Proof.Machine.execMarkerSend t s
  | .markerRx m k residence => Sys2Proof.Machine.execMarkerRx m k residence s
  | .markerDirectionChange t => Sys2Proof.Machine.execMarkerDirectionChange t s
  | .markerLossHoldover t => Sys2Proof.Machine.execMarkerLossHoldover t s
  | .memberStep => Sys2Proof.Machine.execMemberStep s
  | .misalign => Sys2Proof.Machine.execMisalign s
  | .ridgeDelayMeasure t link delay => Sys2Proof.Machine.execRidgeDelayMeasure t link delay s
  | .absorbApplyPending c f => Sys2Proof.Machine.execAbsorbApplyPending c f s
  | .layerStart n layer => Sys2Proof.Machine.execLayerStart n layer s
  | .scanFlush p => Sys2Proof.Machine.execScanFlush p s
  | .scanTableLoad p => Sys2Proof.Machine.execScanTableLoad p s
  | .scanPlan p => Sys2Proof.Machine.execScanPlan p s
  | .oscillationTrip c => Sys2Proof.Machine.execOscillationTrip c s
  | .saturationTrip c => Sys2Proof.Machine.execSaturationTrip c s
  | .followingErrorTrip a => Sys2Proof.Machine.execFollowingErrorTrip a s
  | .traceArm p => Sys2Proof.Machine.execTraceArm p s
  | .traceStop p => Sys2Proof.Machine.execTraceStop p s
  | .traceRead p => Sys2Proof.Machine.execTraceRead p s
  | .traceForce p => Sys2Proof.Machine.execTraceForce p s
  | .traceDone => Sys2Proof.Machine.execTraceDone s
  | .emissionMonitorTrip c => Sys2Proof.Machine.execEmissionMonitorTrip c s
  | .ledgerRead p => Sys2Proof.Machine.execLedgerRead p s
  | .ledgerFill p => Sys2Proof.Machine.execLedgerFill p s
  | .ledgerFillApply h => Sys2Proof.Machine.execLedgerFillApply h s
  | .digestTransmit d => Sys2Proof.Machine.execDigestTransmit d s
  | .digestRx h payload => Sys2Proof.Machine.execDigestRx h payload s
  | .digestDeadline d => Sys2Proof.Machine.execDigestDeadline d s
  | .digestFill m d => Sys2Proof.Machine.execDigestFill m d s
  | .pairChecksStart d => Sys2Proof.Machine.execPairChecksStart d s
  | .verdictFix d => Sys2Proof.Machine.execVerdictFix d s
  | .yieldWarn c => Sys2Proof.Machine.execYieldWarn c s
  | .colRead p => Sys2Proof.Machine.execColRead p s
  | .symbolLockAcquired t c => Sys2Proof.Machine.execSymbolLockAcquired t c s
  | .symbolLockLost t c => Sys2Proof.Machine.execSymbolLockLost t c s
  | .linkOfflineTimeout t c => Sys2Proof.Machine.execLinkOfflineTimeout t c s
  | .frameLockEntry c => Sys2Proof.Machine.execFrameLockEntry c s
  | .frameLockLoss c => Sys2Proof.Machine.execFrameLockLoss c s
  | .sidebandReplyRx t c bytes => Sys2Proof.Machine.execSidebandReplyRx t c bytes s
  | .sidebandTimeout c => Sys2Proof.Machine.execSidebandTimeout c s
  | .sbGo h c v => Sys2Proof.Machine.execSbGo h c v s
  | .quadratureChange t a la lb => Sys2Proof.Machine.execQuadratureChange t a la lb s
  | .indexEvent t a => Sys2Proof.Machine.execIndexEvent t a s
  | .hallChange t a hall => Sys2Proof.Machine.execHallChange t a hall s
  | .serialFrameStart t a => Sys2Proof.Machine.execSerialFrameStart t a s
  | .serialReadingComplete t a code nE nW crc => Sys2Proof.Machine.execSerialReadingComplete t a code nE nW crc s
  | .serialReadingMissing t a => Sys2Proof.Machine.execSerialReadingMissing t a s
  | .serialFeedbackLost t a => Sys2Proof.Machine.execSerialFeedbackLost t a s
  | .speedStill t a => Sys2Proof.Machine.execSpeedStill t a s
  | .probeEdge t a level => Sys2Proof.Machine.execProbeEdge t a level s
  | .homeEdge t a level => Sys2Proof.Machine.execHomeEdge t a level s
  | .homeLevelAccept k a => Sys2Proof.Machine.execHomeLevelAccept k a s
  | .axisMove p => Sys2Proof.Machine.execAxisMove p s
  | .axisStop p => Sys2Proof.Machine.execAxisStop p s
  | .axisHome p => Sys2Proof.Machine.execAxisHome p s
  | .axisClear p => Sys2Proof.Machine.execAxisClear p s
  | .axisSetPos p => Sys2Proof.Machine.execAxisSetPos p s
  | .probeArm p => Sys2Proof.Machine.execProbeArm p s
  | .axisRequestAct a f => Sys2Proof.Machine.execAxisRequestAct a f s
  | .fbkSampleRx m k x => Sys2Proof.Machine.execFbkSampleRx m k x s
  | .keeperSampleMissing k => Sys2Proof.Machine.execKeeperSampleMissing k s
  | .episodeEnd t => Sys2Proof.Machine.execEpisodeEnd t s
  | .ridgeLinkUp t link => Sys2Proof.Machine.execRidgeLinkUp t link s
  | .ridgeLinkDown t link => Sys2Proof.Machine.execRidgeLinkDown t link s
  | .helloRx h payload node => Sys2Proof.Machine.execHelloRx h payload node s
  | .discoverSend t => Sys2Proof.Machine.execDiscoverSend t s
  | .discoverRx h payload ended nodes => Sys2Proof.Machine.execDiscoverRx h payload ended nodes s
  | .noSummitTimeout t => Sys2Proof.Machine.execNoSummitTimeout t s
  | .mapRx m at_ nodes => Sys2Proof.Machine.execMapRx m at_ nodes s
  | .mapApply f => Sys2Proof.Machine.execMapApply f s
  | .heartbeatTx n => Sys2Proof.Machine.execHeartbeatTx n s
  | .heartbeatRx h payload => Sys2Proof.Machine.execHeartbeatRx h payload s
  | .partnerHeartbeatLoss n => Sys2Proof.Machine.execPartnerHeartbeatLoss n s
  | .fillReqRx h payload k => Sys2Proof.Machine.execFillReqRx h payload k s
  | .fillDataRx h payload k => Sys2Proof.Machine.execFillDataRx h payload k s
  | .admitRx m number q => Sys2Proof.Machine.execAdmitRx m number q s
  | .admitDeadline number f => Sys2Proof.Machine.execAdmitDeadline number f s
  | .mirrorRx m number x => Sys2Proof.Machine.execMirrorRx m number x s
  | .mirrorAckRx m number => Sys2Proof.Machine.execMirrorAckRx m number s
  | .mirrorResend t number => Sys2Proof.Machine.execMirrorResend t number s
  | .mirrorAckTimeout t number => Sys2Proof.Machine.execMirrorAckTimeout t number s
  | .lockCheckTx m => Sys2Proof.Machine.execLockCheckTx m s
  | .lockCheckRx h payload n => Sys2Proof.Machine.execLockCheckRx h payload n s
  | .refereeEvaluation n => Sys2Proof.Machine.execRefereeEvaluation n s
  | .verdictRx h payload => Sys2Proof.Machine.execVerdictRx h payload s
  | .verdictApply v => Sys2Proof.Machine.execVerdictApply v s
  | .refereeLost t => Sys2Proof.Machine.execRefereeLost t s
  | .pairJoin p => Sys2Proof.Machine.execPairJoin p s
  | .autoJoinStart t => Sys2Proof.Machine.execAutoJoinStart t s
  | .transferRx m x bytes => Sys2Proof.Machine.execTransferRx m x bytes s
  | .joinCopyDone t => Sys2Proof.Machine.execJoinCopyDone t s
  | .joinCut c => Sys2Proof.Machine.execJoinCut c s
  | .joinReplayCaughtUp t => Sys2Proof.Machine.execJoinReplayCaughtUp t s
  | .joinCairn l => Sys2Proof.Machine.execJoinCairn l s
  | .joinAbort t => Sys2Proof.Machine.execJoinAbort t s
  | .joinRetry t => Sys2Proof.Machine.execJoinRetry t s
  | .pairSwap p => Sys2Proof.Machine.execPairSwap p s
  | .pairSwapApply v => Sys2Proof.Machine.execPairSwapApply v s
  | .pairDrop p => Sys2Proof.Machine.execPairDrop p s
  | .pairDropApply v => Sys2Proof.Machine.execPairDropApply v s
  | .pairVerdict p => Sys2Proof.Machine.execPairVerdict p s
  | .thermCycle c raws diodes => Sys2Proof.Machine.execThermCycle c raws diodes s
  | .sensorFailed n => Sys2Proof.Machine.execSensorFailed n s
  | .bandChange => Sys2Proof.Machine.execBandChange s
  | .powerBandApply f => Sys2Proof.Machine.execPowerBandApply f s
  | .thermalShutdownRequest => Sys2Proof.Machine.execThermalShutdownRequest s
  | .tcritHalt => Sys2Proof.Machine.execTcritHalt s
  | .shutdownLimitExpiry t => Sys2Proof.Machine.execShutdownLimitExpiry t s
  | .thermalCauseClear => Sys2Proof.Machine.execThermalCauseClear s
  | .calRunStart t => Sys2Proof.Machine.execCalRunStart t s
  | .calRunEnd t target eye => Sys2Proof.Machine.execCalRunEnd t target eye s
  | .calRun p => Sys2Proof.Machine.execCalRun p s
  | .sensorReadmit p => Sys2Proof.Machine.execSensorReadmit p s
  | .pwmPeriodStart t n => Sys2Proof.Machine.execPwmPeriodStart t n s
  | .pwmOff t n => Sys2Proof.Machine.execPwmOff t n s
  | .rowLoad t n => Sys2Proof.Machine.execRowLoad t n s
  | .strobeRise t n => Sys2Proof.Machine.execStrobeRise t n s
  | .strobeFall t n => Sys2Proof.Machine.execStrobeFall t n s
  | .lampMeasurement t n codes => Sys2Proof.Machine.execLampMeasurement t n codes s
  | .lampFaultDeclare n => Sys2Proof.Machine.execLampFaultDeclare n s
  | .lampOffFault t n => Sys2Proof.Machine.execLampOffFault t n s
  | .lampFaultClear n => Sys2Proof.Machine.execLampFaultClear n s
  | .stretchStarved n => Sys2Proof.Machine.execStretchStarved n s
  | .lightClear p => Sys2Proof.Machine.execLightClear p s
  | .lightMeasure p => Sys2Proof.Machine.execLightMeasure p s
  | .huskInit p => Sys2Proof.Machine.execHuskInit p s
  | .huskPolicy p => Sys2Proof.Machine.execHuskPolicy p s
  | .keyLoad p => Sys2Proof.Machine.execKeyLoad p s
  | .keyClear p => Sys2Proof.Machine.execKeyClear p s
  | .huskAck p => Sys2Proof.Machine.execHuskAck p s
  | .huskZeroize p => Sys2Proof.Machine.execHuskZeroize p s
  | .meshCheck t bad battery => Sys2Proof.Machine.execMeshCheck t bad battery s
  | .voltAlarm t => Sys2Proof.Machine.execVoltAlarm t s
  | .clockAlarm t => Sys2Proof.Machine.execClockAlarm t s
  | .tempCheck t bad battery => Sys2Proof.Machine.execTempCheck t bad battery s
  | .debugAlarm t => Sys2Proof.Machine.execDebugAlarm t s
  | .authAlarm t => Sys2Proof.Machine.execAuthAlarm t s
  | .zeroizationComplete t => Sys2Proof.Machine.execZeroizationComplete t s
  | .vbatCheck t millivolts => Sys2Proof.Machine.execVbatCheck t millivolts s
  | .errRecordRelease => Sys2Proof.Machine.execErrRecordRelease s
  | .logRateEpisodeEnd t => Sys2Proof.Machine.execLogRateEpisodeEnd t s
  | .logWriteTimeout t => Sys2Proof.Machine.execLogWriteTimeout t s
  | .pcieCompletionTimeout t user => Sys2Proof.Machine.execPcieCompletionTimeout t user s
  | .lpddr5Timeout t noData retryFailed region => Sys2Proof.Machine.execLpddr5Timeout t noData retryFailed region s
  | .watchdogExpiry t core => Sys2Proof.Machine.execWatchdogExpiry t core s
  | .coreRestartComplete t core => Sys2Proof.Machine.execCoreRestartComplete t core s
  | .repeatedRestart t core => Sys2Proof.Machine.execRepeatedRestart t core s
  | .checkpointPeriodic k => Sys2Proof.Machine.execCheckpointPeriodic k s
  | .checkpointPwrfail k => Sys2Proof.Machine.execCheckpointPwrfail k s
  | .checkpointWriteDone t => Sys2Proof.Machine.execCheckpointWriteDone t s
  | .baseWriteDone t => Sys2Proof.Machine.execBaseWriteDone t s
  | .checkpointWriteFail t => Sys2Proof.Machine.execCheckpointWriteFail t s
  | .errRead p => Sys2Proof.Machine.execErrRead p s
  | .logRead p => Sys2Proof.Machine.execLogRead p s
  | .errAck p => Sys2Proof.Machine.execErrAck p s
  | .journalInfo p => Sys2Proof.Machine.execJournalInfo p s
  | .journalRead p => Sys2Proof.Machine.execJournalRead p s
  | .journalRestore p => Sys2Proof.Machine.execJournalRestore p s
  | .journalRestoreApply f => Sys2Proof.Machine.execJournalRestoreApply f s
  | .checkpoint p => Sys2Proof.Machine.execCheckpoint p s
  | .pwrfailRelease t => Sys2Proof.Machine.execPwrfailRelease t s
  | .perstRelease t => Sys2Proof.Machine.execPerstRelease t s
  | .mainPllRelock t => Sys2Proof.Machine.execMainPllRelock t s
  | .alarmSourceDeassert t source => Sys2Proof.Machine.execAlarmSourceDeassert t source s
  | .delayReqTx t stamp => Sys2Proof.Machine.execDelayReqTx t stamp s
  | .contextJournalWriteDone slot => Sys2Proof.Machine.execContextJournalWriteDone slot s
  | .diagnosticPulseStart t n => Sys2Proof.Machine.execDiagnosticPulseStart t n s
  | .interruptModerationExpiry => Sys2Proof.Machine.execInterruptModerationExpiry s

end Sys2Proof.Machine
end

