-- ==== Sys2Proof/Machine/Step.lean ====
section
/-!
DEFINITION. Sys2Proof/Machine/Step.lean: one step of the block: the command at the front of the queue is carried out, and on an empty
queue one TIME clock passes.
-/
namespace Sys2Proof.Machine

/-- One step: the command at the front of the queue, carried out on the state with the rest of the queue. On an empty queue one TIME
clock of 4 ns passes, and what was decided for the device time reached takes effect. (DESIGN CHOICE, log entry 2.) -/
def step (s : State) : Host.Outcome State Fault Refusal :=
  match s.pending with
  | [] => .next s.tick
  | c :: rest => exec c { s with pending := rest }

/-- The command that a word spells, put at the front of the queue; the table gives its rows no bits, so the state is unchanged (log
entry 3). -/
def State.withFetchWord (s : State) (nbits w : Nat) : State :=
  match decodeTableWord nbits w with
  | some c => { s with pending := c :: s.pending }
  | none => s

end Sys2Proof.Machine
end

