-- ==== Sys2Proof/Safety.lean ====
section
/-!
DEFINITION. Sys2Proof/Safety.lean: what counts as a safe run, and the invariants in whose terms the claims speak.
-/
namespace Sys2Proof.Machine

/-- A step that goes on: no command of this block ends in a fault or a refusal. -/
def State.goesOn (s : State) : Prop := ∃ t, step s = .next t

/-- The words that a device in reset may show other than at their reset values (R58, R59, R61, R62, R553): those of HUSK, whose contents the
key island keeps, and of SYS the strap latch, the boot progress and the cause of the reset. -/
def resetShows (a : Nat) : Bool := a / 65536 == 0x60 || a == 0x20 || a == 0x21 || a == 0x22

/-- What reset leaves (R58, R59, R48): while PORST_N or SYSRST_N is asserted every unit of the frame path, of the host interface and of the
control units holds its reset contents, no firmware runs, FAULT_N is pulled low, and every word outside those of
`resetShows` reads its reset value. The key island, the MRAM journal and log, pin levels and fuses are not among
these. -/
structure State.Held (s : State) : Prop where
  cmd : s.cmd = {}
  stream : s.stream = {}
  pack : s.pack = {}
  seq : s.seq = []
  loop : s.loop = {}
  trace : s.trace = {}
  stn : s.stn = []
  power : s.power = []
  ledger : s.ledger = {}
  col : s.col = {}
  axis : s.axis = {}
  ridge : s.ridge = {}
  pair : s.pair = {}
  therm : s.therm = {}
  cal : s.cal = {}
  light : s.light = {}
  firmware : s.sys.firmware = false
  faultLow : s.sys.faultLow = true
  regs : ∀ e ∈ s.regs, resetShows e.1 = true

/-- The invariant of every step: a device in reset is held. -/
def State.ResetHolds (s : State) : Prop := s.inReset = true → s.Held

/-! ## The terms of the claims -/

/-- The command `i` goes on from `s`, to a state of which `P` holds. -/
def Runs (i : Instr) (s : State) (P : State → Prop) : Prop := ∃ u, exec i s = .next u ∧ P u

/-- The state in which a command of device time `t` ns acts: time has reached `t`, and what had been decided for instants up to then is in
effect. -/
def State.upTo (s : State) (t : Nat) : State := s.begin.arrive t

/-- A command of device time `t` acts in the state `a`: the block is out of reset, and it does not meet it on its way into HALT. -/
def State.Awake (s : State) (t : Nat) (a : State) : Prop := a = s.upTo t ∧ s.inReset = false ∧ (a.dev = 5 → s.dev = 5)

/-- A ridge message reaches this device and is its row's to act on: REACH is left for it, it is for this node or for all, its CRC is right, and
its type is the row's (R466 to R468). -/
def State.takes (s : State) (type : Nat) (m : RidgeMsg) : Bool :=
  (s.reachHere m).isSome && (m.dst == 0xFF || m.dst.toNat == s.get F.RIDGE_NODE_INDEX) && m.intact && m.type.toNat == type

/-- No transition and no word of a partner's stream has been decided for a later instant. -/
def State.quiet (s : State) : Bool :=
  s.sys.next.isEmpty && s.seq.all (fun e => e.2.next.isEmpty) && s.pair.streamWords.isEmpty

/-- A record of class `cls` with a detail and a subject has been raised and waits for its release (R588). -/
def State.Raised (s : State) (cls detail : Nat) (x : Subject) : Prop :=
  ∃ r ∈ s.err.held, r.cls = cls ∧ r.detail = detail ∧ r.subject = x

/-- The reply to a packet has been handed to its path, or waits for the reply ring (R86, R91). -/
def State.Answered (s : State) (path : Path) (tag : Byte) (status detail : Nat) : Prop :=
  ∃ r : Reply, (Output.reply r ∈ s.out ∨ r ∈ s.host.held) ∧ r.path = path ∧ r.tag = tag ∧ r.status.toNat = status ∧ r.detail.toNat = detail

/-- The same, of a reply of status DONE with these result words (R80, R82). -/
def State.Returned (s : State) (path : Path) (tag : Byte) (results : List Word) : Prop :=
  ∃ r : Reply, (Output.reply r ∈ s.out ∨ r ∈ s.host.held) ∧ r.path = path ∧ r.tag = tag ∧ r.status = 0 ∧ r.detail = 0 ∧ r.results = results

/-- CMD takes a packet of this path and tag, and nothing keeps it from starting and acting at once: the device is out of reset with its
firmware running, no partner and no join that it serves, the path is there, the tag is free, no packet is in flight, and no core restarts. -/
structure State.Serves (s : State) (path : Path) (tag : Byte) : Prop where
  up : s.inReset = false
  rom : s.sys.romUp = true
  firmware : s.sys.firmware = true
  alone : s.pairRole = 0
  unjoined : s.passesOn = false
  host : path ≠ .ridge
  live : s.pathLost path = false
  fetch : path = .pcie → s.host.fetchStopped = false
  idle : s.cmd.inflight = []
  free : s.tagBusy path tag = false
  cores : s.err.coresDown = []

/-- A packet waits for a later command, having been accepted and started as the next in the acceptance order. -/
def State.Waits (s : State) (order : Nat) (w : Wait) : Prop := ∃ p ∈ s.cmd.inflight, p.order = order ∧ p.startClk.isSome = true ∧ p.wait = w

/-- The parts of the state beside the parameter words, the queue of commands and the outputs. -/
inductive Part where
  | cmd | host | sys | err | journal | time | stream | pack | seq | loop | trace | stn | power | ledger | col | axis | husk | ridge
  | pair | therm | cal | light
deriving DecidableEq, Repr

/-- The part is the same in both states, if it is one of the host's side. -/
def Part.sameHost (p : Part) (a b : State) : Prop := match p with
  | .cmd => b.cmd = a.cmd
  | .host => b.host = a.host
  | .sys => b.sys = a.sys
  | .err => b.err = a.err
  | .journal => b.journal = a.journal
  | .stream => b.stream = a.stream
  | .pack => b.pack = a.pack
  | .husk => b.husk = a.husk
  | _ => True

/-- The part is the same in both states, if it is one of the frame path. -/
def Part.sameFrame (p : Part) (a b : State) : Prop := match p with
  | .seq => b.seq = a.seq
  | .loop => b.loop = a.loop
  | .trace => b.trace = a.trace
  | .stn => b.stn = a.stn
  | .power => b.power = a.power
  | .ledger => b.ledger = a.ledger
  | .col => b.col = a.col
  | _ => True

/-- The part is the same in both states. -/
def Part.same (p : Part) (a b : State) : Prop := match p with
  | .time => b.time = a.time
  | .axis => b.axis = a.axis
  | .ridge => b.ridge = a.ridge
  | .pair => b.pair = a.pair
  | .therm => b.therm = a.therm
  | .cal => b.cal = a.cal
  | .light => b.light = a.light
  | _ => p.sameHost a b ∧ p.sameFrame a b

/-- The state `b` but for the number of the next MIRROR message, where the device passes its work on: what a command does to layers, programs
and STREAM words goes to the partner by the way (R154). -/
def State.unmirrored (a b : State) : State :=
  if b.passesOn then { b with pair := { b.pair with nextMirror := a.pair.nextMirror } } else b

/-- From `a` to `b` nothing changes but the parts `ps`, the parameter words for which `ws` holds, and the outputs. -/
def State.Only (a b : State) (ps : List Part) (ws : Nat → Bool) : Prop :=
  (∀ p : Part, p ∉ ps → p.same a (a.unmirrored b)) ∧ (∀ w : Nat, ws w = false → b.reg w = a.reg w)
    ∧ (∀ e ∈ b.marks, e ∈ a.marks ∨ ws e.2.1 = true) ∧ b.pending = a.pending

/-- A packet that waits for the replies of its inner packets (R126). -/
def Wait.isForward : Wait → Bool
  | .forward _ _ => true
  | _ => false

/-- The commands that act on the levels of PORST_N and SYSRST_N, or reset the device (R58, R100). -/
def resets : Instr → Bool
  | .porstAssert _ => true
  | .porstRelease _ _ => true
  | .sysrstAssert _ => true
  | .sysrstRelease _ => true
  | .sysResetBegin => true
  | _ => false

/-- The commands that are seen while a reset pin is asserted: those of the reset pins, other changes of a pin's level, and what the key
island sees, which reset does not stop (R58, R62, R565). -/
def seenInReset : Instr → Bool
  | .perstAssert _ => true
  | .perstRelease _ => true
  | .estopAssert _ => true
  | .estopRelease _ => true
  | .laserEnableDeassert _ => true
  | .laserEnableRelease _ => true
  | .pwrfailAssert _ => true
  | .pwrfailRelease _ => true
  | .strapMismatch _ _ => true
  | .mainPllLock _ => true
  | .mainPllRelock _ => true
  | .mainPllLoss _ => true
  | .analogThermalTrip _ _ => true
  | .meshCheck _ _ _ => true
  | .voltAlarm _ => true
  | .clockAlarm _ => true
  | .tempCheck _ _ _ => true
  | .debugAlarm _ => true
  | .alarmSourceDeassert _ _ => true
  | i => resets i

/-- The list of parameter words is in its canonical form: addresses strictly rising, and no word listed at its reset value. -/
def State.wordsTidy (s : State) : Bool :=
  decide (s.regs.Pairwise (fun a b => a.1 < b.1)) && s.regs.all (fun e => e.2 != resetWord e.1)

/-- A parameter word of one of these units. -/
def inUnits (us : List Nat) (w : Nat) : Bool := us.contains (w / 65536)

end Sys2Proof.Machine
end

