-- ==== Sys2Proof/WellFormed.lean ====
section
/-!
DEFINITION. Sys2Proof/WellFormed.lean: which operands a command can have: what the spec's own limits on packets, frames, messages and
samples allow from outside. `exec` gives every term a meaning; an ill-formed one describes an input that
cannot occur.
-/
namespace Sys2Proof

/-- A packet comes on a host path (R86), with at most 4,094 body words (R79). -/
def Pkt.wf (p : Pkt) : Bool := p.path != .ridge && decide (p.body.length ≤ 4094)

/-- A register write comes on a host path (R86). -/
def Hdr.wf (h : Hdr) : Bool := h.path != .ridge

/-- Axis levels at a frame boundary: each axis once (R426). -/
def linesWf (l : List (Nat × Bool × Bool)) : Bool := l.all (fun e => decide (e.1 < 16)) && decide ((l.map (fun e => e.1)).Nodup)

/-- Memory errors name loops of 272 (R282). -/
def MemErrors.wf (e : MemErrors) : Bool := e.loopBad.all (fun i => decide (i < 272))

/-- A named apply instant has a frame two before it in which it is computed (R40). -/
def instant (f : Nat) : Bool := decide (2 ≤ f)

/-- A digest period is a multiple of 10 µs (R358). -/
def period (d : Nat) : Bool := d % 10 == 0

/-- A ridge message has at most 8,192 payload bytes (R466). -/
def RidgeMsg.wf (m : RidgeMsg) : Bool := decide (m.payload.length ≤ 8192)

/-- Whether a command's operands lie in their ranges. (DESIGN CHOICE, log entry 230.) -/
def Instr.wf : Instr → Bool
  | .goBuild h | .drain h | .stop h | .resume h => h.wf
  | .online h _ | .arm h _ | .disarm h _ | .hold h _ | .release h _ | .clear h _ | .off h _ => h.wf
  | .netCmdUdpWrite h _ _ | .timeCfgSourceChange h _ | .sbGo h _ _ => h.wf
  | .ringReset via => match via with
    | some h => h.wf
    | none => true
  | .nop p | .ident p | .getParam p | .setParam p | .commit p | .snapshot p | .resetUnit p | .cairn p | .forward p | .discard p => p.wf
  | .devStateRequestAct f | .chRequestAct _ f | .holdAtRest _ f | .safeStopDeadline f | .haltAfterPark f | .commitApply f => instant f
  | .journalRestoreApply f | .absorbApplyPending _ f | .axisRequestAct _ f | .ledgerFillApply f => instant f
  | .streamOpen p | .streamPush p | .streamFetch p | .streamClose p | .packJob p | .ctxSeed p | .ctxPersist p => p.wf
  | .frameBoundary _ lines => linesWf lines
  | .frameCompute _ e => e.wf
  | .timeStep p | .timeReset p | .timeVerdict p | .capRead p | .scanFlush p | .scanTableLoad p | .scanPlan p => p.wf
  | .outboundFrameTx _ lag => decide (lag < 8)
  | .porstRelease _ straps => decide (straps < 256)
  | .traceArm p | .traceStop p | .traceRead p | .traceForce p | .ledgerRead p | .ledgerFill p | .colRead p => p.wf
  | .strapMismatch _ live => decide (live < 256)
  | .axisMove p | .axisStop p | .axisHome p | .axisClear p | .axisSetPos p | .probeArm p => p.wf
  | .digestTransmit d | .digestDeadline d | .pairChecksStart d | .verdictFix d => period d
  | .pairJoin p | .pairSwap p | .pairDrop p | .pairVerdict p | .calRun p | .sensorReadmit p | .lightClear p | .lightMeasure p => p.wf
  | .lockCheckRx _ payload _ => payload.length == 40
  | .fbkSampleRx m _ x => m.wf && x.axes.length == 16
  | .huskInit p | .huskPolicy p | .keyLoad p | .keyClear p | .huskAck p | .huskZeroize p => p.wf
  | .cascadeMsgRx m _ | .markerRx m _ _ | .digestFill m _ | .mapRx m _ _ | .admitRx m _ _ | .mirrorRx m _ _ | .mirrorAckRx m _ => m.wf
  | .digestRx _ payload | .helloRx _ payload _ | .discoverRx _ payload _ _ | .heartbeatRx _ payload | .fillReqRx _ payload _
  | .fillDataRx _ payload _ | .verdictRx _ payload => payload.length ≤ 8192
  | .errRead p | .logRead p | .errAck p | .journalInfo p | .journalRead p | .journalRestore p | .checkpoint p => p.wf
  | .transferRx m _ _ => m.wf
  | .thermCycle c raws diodes => period c && raws.length == 16 && diodes.length == 4
  | .lampMeasurement _ _ codes => codes.length == 8
  | .serialReadingComplete _ _ _ _ _ crc => decide (crc < 64)
  | .cringDoorbell _ bell ring => decide (bell.prod < ring.length)
  | .inboundFrameRx _ _ _ _ | .inboundArrivalDeadline _ | .channelMissSafe _ _ | .estopAssert _ | .estopRelease _
  | .laserEnableDeassert _ | .laserEnableRelease _ | .mainPllLoss _ | .lanePllLoss _ _ | .porstAssert _ | .sysrstAssert _
  | .sysrstRelease _ | .perstAssert _ | .pwrfailAssert _ | .mainPllLock _ | .romStartCheck _ _ | .imageReadDone _ _
  | .imageAuthCheck _ | .lpddr5TrainingDone _ _ | .firmwareStart _ | .journalScan _ _ | .bootStepTimeout _ | .bootWindowStart _ _
  | .analogThermalTrip _ _ | .replyHeldWrite _ _ | .udpDatagramRx _ _ | .arpRequest _ _ _ _ _ | .icmpEcho _ _ _ _ _ _
  | .snapshotAtFrame _ | .cascadeSnapshotDeadline _ | .sysResetBegin | .cairnComplete _ _ | .cairnTimeout _ _
  | .packetTimeout _ _ | .pciePathLoss _ | .ethPathLoss _ _ | .hostPathReturn _ _ | .streamFetchComplete _ _ _
  | .streamHeaderParse _ | .chunkProcess _ | .decodeResume _ | .containerPad _ | .containerLayer _ | .containerProgram _
  | .containerBlock _ | .containerStreamEnd _ | .channelHoldTake _ _ | .blockStage _ | .blockAdmission _ _
  | .brokenProgramFault _ | .streamDone _ | .jobStart | .jobQueueTimeout _ | .jobComplete _ _ _ | .engineSwitch _
  | .telemetryChunk _ _ | .telemetryFeedStart _ | .slewEnd | .ptpMessageRx _ _ _ _ | .ptpSyncTx _ _ | .ptpMeasurement
  | .ptpFirstStep | .jumpRefused | .holdoverExit | .announceReceiptTimeout _ | .syncLoss _ | .ptpPortSwitch _
  | .trigPulseRise _ _ | .trigPulseFall _ _ | .capEdge _ _ _ | .markerSend _ | .markerDirectionChange _
  | .markerLossHoldover _ | .memberStep | .misalign | .ridgeDelayMeasure _ _ _ | .layerStart _ _ | .oscillationTrip _
  | .saturationTrip _ | .followingErrorTrip _ | .traceDone | .emissionMonitorTrip _
  | .yieldWarn _ | .symbolLockAcquired _ _ | .symbolLockLost _ _ | .linkOfflineTimeout _ _ | .frameLockEntry _ | .frameLockLoss _
  | .sidebandReplyRx _ _ _ | .sidebandTimeout _ | .quadratureChange _ _ _ _ | .indexEvent _ _ | .hallChange _ _ _
  | .serialFrameStart _ _ | .serialReadingMissing _ _ | .serialFeedbackLost _ _ | .speedStill _ _ | .probeEdge _ _ _
  | .homeEdge _ _ _ | .homeLevelAccept _ _ | .keeperSampleMissing _ | .episodeEnd _ | .ridgeLinkUp _ _ | .ridgeLinkDown _ _
  | .discoverSend _ | .noSummitTimeout _ | .mapApply _ | .heartbeatTx _
  | .partnerHeartbeatLoss _ | .admitDeadline _ _
  | .mirrorResend _ _ | .mirrorAckTimeout _ _ | .lockCheckTx _ | .refereeEvaluation _
  | .verdictApply _ | .refereeLost _ | .autoJoinStart _ | .joinCopyDone _ | .joinCut _
  | .joinReplayCaughtUp _ | .joinCairn _ | .joinAbort _ | .joinRetry _ | .pairSwapApply _ | .pairDropApply _ | .sensorFailed _
  | .bandChange | .powerBandApply _ | .thermalShutdownRequest | .tcritHalt | .shutdownLimitExpiry _ | .thermalCauseClear
  | .calRunStart _ | .calRunEnd _ _ _ | .pwmPeriodStart _ _ | .pwmOff _ _ | .rowLoad _ _ | .strobeRise _ _ | .strobeFall _ _
  | .lampFaultDeclare _ | .lampOffFault _ _ | .lampFaultClear _ | .stretchStarved _ | .meshCheck _ _ _ | .voltAlarm _
  | .clockAlarm _ | .tempCheck _ _ _ | .debugAlarm _ | .authAlarm _ | .zeroizationComplete _ | .vbatCheck _ _ | .errRecordRelease
  | .logRateEpisodeEnd _ | .logWriteTimeout _ | .pcieCompletionTimeout _ _ | .lpddr5Timeout _ _ _ _ | .watchdogExpiry _ _
  | .coreRestartComplete _ _ | .repeatedRestart _ _ | .checkpointPeriodic _ | .checkpointPwrfail _ | .checkpointWriteDone _
  | .baseWriteDone _ | .checkpointWriteFail _ | .pwrfailRelease _ | .perstRelease _ | .mainPllRelock _ | .alarmSourceDeassert _ _
  | .delayReqTx _ _ | .contextJournalWriteDone _ | .diagnosticPulseStart _ _ | .interruptModerationExpiry => true

end Sys2Proof
end

