-- ==== Sys2Proof/Certificates/Slice0/Obligations.lean ====
section
/-!
DEFINITION. Sys2Proof/Certificates/Slice0/Obligations.lean: the statements for the provers. A clause speaks of the state in which its
command acts: `s` itself, or the state `a` that device time has reached by then (`State.Awake`). `Runs i s P` says that the command answers
a next state and what it holds.
-/
open Sys2Proof Sys2Proof.Machine

/-- A write of a request bit of DEV_STATE, where R28 holds its transition and its conditions hold, is answered DONE, and the
request waits for apply instant q + 20, q being the first frame boundary after its acceptance. -/
def Obligations.DeviceRequestsAreAccepted : Prop :=
  (∀ (s : State) (h : Hdr),
    s.Serves h.path h.tag → s.dev = 1 → s.timeReady = true → 
    Runs (.goBuild h) s (fun u => u.sys.requests = s.sys.requests ++ [{ at_ := s.us + 21, target := 2, cause := 2, request := true }]
      ∧ u.journal.armed = true
      ∧ u.Answered h.path h.tag 0 0)) ∧
  (∀ (s : State) (h : Hdr),
    s.Serves h.path h.tag → s.dev = 2 → 
    Runs (.drain h) s (fun u => u.sys.requests = s.sys.requests ++ [{ at_ := s.us + 21, target := 3, cause := 3, request := true }]
      ∧ u.Answered h.path h.tag 0 0)) ∧
  (∀ (s : State) (h : Hdr),
    s.Serves h.path h.tag → (s.dev = 1 ∨ s.dev = 2 ∨ s.dev = 3) → 
    Runs (.stop h) s (fun u => u.sys.requests = s.sys.requests ++ [{ at_ := s.us + 21, target := 4, cause := 5, request := true }]
      ∧ u.Answered h.path h.tag 0 0)) ∧
  (∀ (s : State) (h : Hdr),
    s.Serves h.path h.tag → s.dev = 5 → s.standing = 0 → 
    Runs (.resume h) s (fun u => u.sys.requests = s.sys.requests ++ [{ at_ := s.us + 21, target := 1, cause := 0xB, request := true }]
      ∧ u.Answered h.path h.tag 0 0))

/-- DEV_STATE_REQUEST_ACT tests a waiting request against the state decided for its apply instant: a request that R28 holds joins
the triggers of that instant, another lapses with INFO 0x0013 and joins nothing. HALT_AFTER_PARK enters HALT with CAUSE 9 at the
instant that R598 has set, and FAULT_N is pulled low. -/
def Obligations.DeviceRequestsAct : Prop :=
  (∀ (s a : State) (f : Nat) (r : DevTrigger),
    s.Awake ((f - 2) * 1000) a → a.sys.requests = [r] → r.at_ ≤ f → a.requestCheck (requestBit r.cause) (a.devAt f) = none → 
    Runs (.devStateRequestAct f) s (fun u => u.sys.requests = []
      ∧ u.sys.triggers = a.sys.triggers ++ [{ r with at_ := f }])) ∧
  (∀ (s a : State) (f : Nat) (r : DevTrigger),
    s.Awake ((f - 2) * 1000) a → a.sys.requests = [r] → r.at_ ≤ f → (a.requestCheck (requestBit r.cause) (a.devAt f)).isSome = true → 
    Runs (.devStateRequestAct f) s (fun u => u.sys.requests = []
      ∧ u.sys.triggers = a.sys.triggers
      ∧ u.Raised 0 0x0013 ⟨0, 0⟩)) ∧
  (∀ (s a : State) (f : Nat),
    s.Awake (f * 1000) a → a.sys.haltAt = some f → a.devAt f = 4 → f ≤ a.us → 
    Runs (.haltAfterPark f) s (fun u => u.dev = 5
      ∧ u.get F.SYS_DEV_STATE_CAUSE = 9
      ∧ u.sys.faultLow = true))

/-- ESTOP_ASSERT, ESTOP_RELEASE, LASER_ENABLE_DEASSERT and LASER_ENABLE_RELEASE leave the block with the level that the pin has,
in reset and out of it. A protective edge on an ALONE device whose state decided for the first instant not yet fixed is BUILD or
DRAIN adds a trigger of SAFE_STOP with CAUSE 6 for that instant. -/
def Obligations.SafetyPinsAreFollowed : Prop :=
  (∀ (s : State) (t : Nat),
    
    Runs (.estopAssert t) s (fun u => u.sys.estop = true)) ∧
  (∀ (s a : State) (t : Nat),
    s.Awake t a → a.sys.estop = false → a.pairRole = 0 → (a.devAt a.nextFix = 2 ∨ a.devAt a.nextFix = 3) → 
    Runs (.estopAssert t) s (fun u => u.sys.triggers = a.sys.triggers ++ [{ at_ := a.nextFix, target := 4, cause := 6 }])) ∧
  (∀ (s : State) (t : Nat),
    
    Runs (.estopRelease t) s (fun u => u.sys.estop = false)) ∧
  (∀ (s : State) (t : Nat),
    
    Runs (.laserEnableDeassert t) s (fun u => u.sys.laserEnable = false)) ∧
  (∀ (s a : State) (t : Nat),
    s.Awake t a → a.sys.laserEnable = true → a.pairRole = 0 → (a.devAt a.nextFix = 2 ∨ a.devAt a.nextFix = 3) → 
    Runs (.laserEnableDeassert t) s (fun u => u.sys.triggers = a.sys.triggers ++ [{ at_ := a.nextFix, target := 4, cause := 6 }])) ∧
  (∀ (s : State) (t : Nat),
    
    Runs (.laserEnableRelease t) s (fun u => u.sys.laserEnable = true))

/-- The assertion of PORST_N or SYSRST_N, and the reset that RESET_UNIT of SYS asked for, leave every unit at its reset contents
with the cause recorded (Held). The release of PORST_N latches the straps. Both releases start device time at 0. PERST_N loses the
PCIe path and is recorded in RESET_CAUSE; its release is seen. -/
def Obligations.ResetsHoldTheBlock : Prop :=
  (∀ (s : State) (t : Nat),
    s.sys.porst = false → 
    Runs (.porstAssert t) s (fun u => u.Held
      ∧ u.sys.porst = true
      ∧ u.get F.SYS_RESET_CAUSE_POR = 1)) ∧
  (∀ (s : State) (t straps : Nat),
    s.sys.porst = true → 
    Runs (.porstRelease t straps) s (fun u => u.sys.porst = false
      ∧ u.time.now = 0
      ∧ u.get F.SYS_STRAPS_POS = straps % 16
      ∧ u.get F.SYS_STRAPS_ROLE = straps / 16 % 4
      ∧ u.get F.SYS_STRAPS_BOOT = straps / 64 % 4)) ∧
  (∀ (s : State) (t : Nat),
    s.sys.porst = false → s.sys.sysrst = false → 
    Runs (.sysrstAssert t) s (fun u => u.Held
      ∧ u.sys.sysrst = true
      ∧ u.get F.SYS_RESET_CAUSE_SYSRST = 1)) ∧
  (∀ (s : State) (t : Nat),
    s.sys.sysrst = true → s.sys.porst = false → 
    Runs (.sysrstRelease t) s (fun u => u.sys.sysrst = false
      ∧ u.time.now = 0)) ∧
  (∀ (s : State) (c : Nat),
    s.cmd.sysResetAt = some c → s.inReset = false → 
    Runs (.sysResetBegin) s (fun u => u.Held
      ∧ u.inReset = false
      ∧ u.get F.SYS_RESET_CAUSE_UNIT = 1)) ∧
  (∀ (s a : State) (t : Nat),
    s.Awake t a → a.host.perst = false → 
    Runs (.perstAssert t) s (fun u => u.host.perst = true
      ∧ u.pathLost .pcie = true
      ∧ u.get F.SYS_RESET_CAUSE_PERST = 1
      ∧ (∀ w : Nat, w / 65536 = 0x01 → w ≠ F.HOSTIF_LOSS_LOG_VALID.addr → u.reg w = resetWord w))) ∧
  (∀ (s : State) (t : Nat),
    
    Runs (.perstRelease t) s (fun u => u.host.perst = false))

/-- PWRFAIL_N raises DEVICE 0x0031 and asks for the checkpoint of R598, and its release is seen. The loss of a main PLL in lock,
and the analog trip, put the device in HALT with CAUSE 0xA; a lock is seen. The loss of the PCIe lane PLL loses the PCIe path. A
live strap that differs from its latch is recorded, once. -/
def Obligations.PowerAndClockEventsAreSeen : Prop :=
  (∀ (s a : State) (t : Nat),
    s.Awake t a → a.sys.pwrfail = false → 
    Runs (.pwrfailAssert t) s (fun u => u.sys.pwrfail = true
      ∧ u.sys.pwrfailSeen = true
      ∧ u.journal.pwrfailDue = true
      ∧ u.Raised 4 0x0031 ⟨0, 0⟩)) ∧
  (∀ (s : State) (t : Nat),
    
    Runs (.pwrfailRelease t) s (fun u => u.sys.pwrfail = false)) ∧
  (∀ (s a : State) (t : Nat),
    s.Awake t a → a.sys.pll = true → a.dev ≠ 5 → 
    Runs (.mainPllLoss t) s (fun u => u.sys.pll = false
      ∧ u.dev = 5
      ∧ u.get F.SYS_DEV_STATE_CAUSE = 0xA
      ∧ u.sys.faultLow = true)) ∧
  (∀ (s a : State) (t : Nat),
    s.Awake t a → 
    Runs (.mainPllRelock t) s (fun u => u.sys.pll = true
      ∧ (u.sys.pllOnce = true ∨ a.sys.pll = true))) ∧
  (∀ (s a : State) (t : Nat) (e0 e1 : Bool),
    s.Awake t a → 
    Runs (.lanePllLoss t ⟨[], [], e0, e1, true⟩) s (fun u => u.pathLost .pcie = true)) ∧
  (∀ (s a : State) (t live : Nat),
    s.Awake t a → live % 256 ≠ (a.reg F.SYS_STRAPS_POS.addr).toNat % 256 → a.sys.strapMismatch = false → 
    Runs (.strapMismatch t live) s (fun u => u.sys.straps = live
      ∧ (u.sys.strapMismatch = true)
      ∧ u.get F.SYS_STRAPS_MISMATCH = 1)) ∧
  (∀ (s a : State) (t : Nat) (logged : Bool),
    s.Awake t a → a.sys.thermtripLow = false → a.dev ≠ 5 → 
    Runs (.analogThermalTrip t logged) s (fun u => u.sys.thermtripLow = true
      ∧ u.dev = 5
      ∧ u.get F.SYS_DEV_STATE_CAUSE = 0xA))

/-- Each boot command, at its step, completes it: PLL lock ends step 0, ROM checks lead to step 2 or end the boot on bad straps,
an image read leads to step 3, its check to step 4 or 5 or back to step 2 with the next source or ends the boot, training and
firmware start are recorded, the journal scan enters READY at step 7, and a step that has passed its latest end ends the boot with
TIMEOUT. -/
def Obligations.BootAdvances : Prop :=
  (∀ (s a : State) (t : Nat),
    s.Awake t a → a.sys.pll = false → a.booting = true → a.step_ = 0 → 
    Runs (.mainPllLock t) s (fun u => u.sys.pll = true
      ∧ u.sys.pllOnce = true
      ∧ u.step_ = 1)) ∧
  (∀ (s a : State) (t : Nat) (lost : Bool),
    s.Awake t a → a.booting = true → a.step_ = 1 → a.get F.SYS_STRAPS_ROLE ≠ 3 → a.get F.SYS_STRAPS_BOOT ≠ 3 → 
    Runs (.romStartCheck t lost) s (fun u => u.step_ = 2
      ∧ u.sys.romUp = true
      ∧ (u.get F.SYS_BOOT_STAT_SLOT = (if a.get F.SYS_STRAPS_BOOT = 1 then 2 else 0)))) ∧
  (∀ (s a : State) (t : Nat) (lost : Bool),
    s.Awake t a → a.booting = true → a.step_ = 1 → (a.get F.SYS_STRAPS_ROLE = 3 ∨ a.get F.SYS_STRAPS_BOOT = 3) → 
    Runs (.romStartCheck t lost) s (fun u => u.step_ = 1
      ∧ u.sys.bootFailed = true
      ∧ u.get F.SYS_BOOT_STAT_STRAP_BAD = 1)) ∧
  (∀ (s a : State) (t : Nat) (image : FwImage),
    s.Awake t a → a.booting = true → a.step_ = 2 → a.get F.SYS_BOOT_STAT_SLOT ≠ 2 → 
    Runs (.imageReadDone t image) s (fun u => u.step_ = 3
      ∧ u.sys.image = some image)) ∧
  (∀ (s a : State) (t : Nat) (i : FwImage),
    s.Awake t a → a.sys.image = some i → a.booting = true → a.step_ = 3 → 
    Runs (.imageAuthCheck t) s (fun u => (u.step_ = (if a.imageGood i then (if a.sys.trained then 5 else 4) else if (a.nextSource (a.get F.SYS_BOOT_STAT_SLOT)).isSome then 2 else 3))
      ∧ u.sys.imageOk = (a.sys.imageOk || a.imageGood i)
      ∧ u.sys.bootFailed = (!a.imageGood i && (a.nextSource (a.get F.SYS_BOOT_STAT_SLOT)).isNone))) ∧
  (∀ (s a : State) (t : Nat),
    s.Awake t a → a.booting = true → a.sys.romUp = true → a.sys.trained = false → 
    Runs (.lpddr5TrainingDone t true) s (fun u => u.sys.trained = true
      ∧ u.get F.MEM_STAT_TRAINED = 1)) ∧
  (∀ (s a : State) (t : Nat),
    s.Awake t a → a.booting = true → a.sys.romUp = true → a.sys.trained = false → 
    Runs (.lpddr5TrainingDone t false) s (fun u => u.sys.bootFailed = true
      ∧ u.step_ = 4
      ∧ u.get F.SYS_BOOT_STAT_TRAIN_FAIL = 1)) ∧
  (∀ (s a : State) (t : Nat) (i : FwImage),
    s.Awake t a → a.sys.image = some i → a.booting = true → a.sys.imageOk = true → a.sys.trained = true → a.sys.firmware = false → 
    Runs (.firmwareStart t) s (fun u => u.sys.firmware = true
      ∧ u.sys.bar2 = false
      ∧ u.step_ = 6
      ∧ u.reg 0x000003 = i.fwRev)) ∧
  (∀ (s a : State) (t : Nat) (ok : Bool),
    s.Awake t a → a.booting = true → a.step_ = 6 → a.sys.firmware = true → a.sys.pll = true → a.cmd.inflight = [] → 
    Runs (.journalScan t ok) s (fun u => u.dev = 1
      ∧ u.get F.SYS_DEV_STATE_CAUSE = 1
      ∧ u.step_ = 7
      ∧ u.sys.readyOnce = true
      ∧ u.sys.faultLow = false)) ∧
  (∀ (s a : State) (t : Nat),
    s.Awake t a → a.booting = true → a.step_ ≤ 1 → a.sys.releaseClk + stepLimit a.step_ * 250 < a.time.clk → 
    Runs (.bootStepTimeout t) s (fun u => u.sys.bootFailed = true
      ∧ u.step_ = a.step_
      ∧ u.get F.SYS_BOOT_STAT_TIMEOUT = 1)) ∧
  (∀ (s a : State) (t length : Nat),
    s.Awake t a → a.booting = true → a.step_ = 2 → a.get F.SYS_BOOT_STAT_SLOT = 2 → a.sys.bar2 = true → a.host.perst = false → 
    Runs (.bootWindowStart t length) s (fun u => u.sys.windowStarted = true
      ∧ u.sys.image = some { length := length }))

/-- A write of a request bit of CH_STATE, in the channel states and under the conditions that R34 gives it, is answered DONE, and
the request waits for apply instant q + 20, q being the first frame boundary after its acceptance. An ONLINE that R34 does not
hold, or of a referee, is refused with 0x18F5. -/
def Obligations.ChannelRequestsAreAccepted : Prop :=
  (∀ (s : State) (h : Hdr) (c : Chan),
    s.Serves h.path h.tag → s.ch c = 0 → s.frameLock c = true → s.cascadeRole ≠ 2 → 
    Runs (.online h c) s (fun u => (u.sq c).requests = (s.sq c).requests ++ [{ at_ := s.us + 21, target := 1, cause := 0, kind := 8 }]
      ∧ u.Answered h.path h.tag 0 0)) ∧
  (∀ (s : State) (h : Hdr) (c : Chan),
    s.Serves h.path h.tag → (s.ch c ≠ 0 ∨ s.frameLock c = false ∨ s.cascadeRole = 2) → 
    Runs (.online h c) s (fun u => (u.sq c).requests = (s.sq c).requests
      ∧ u.Answered h.path h.tag 0x10 0x18F5)) ∧
  (∀ (s : State) (h : Hdr) (c : Chan),
    s.Serves h.path h.tag → s.ch c = 1 → s.sys.laserEnable = true → s.programQueued c = true → 
    Runs (.arm h c) s (fun u => (u.sq c).requests = (s.sq c).requests ++ [{ at_ := s.us + 21, target := 2, cause := 0, kind := 9 }]
      ∧ u.Answered h.path h.tag 0 0)) ∧
  (∀ (s : State) (h : Hdr) (c : Chan),
    s.Serves h.path h.tag → (s.ch c = 2 ∨ s.ch c = 4) → 
    Runs (.disarm h c) s (fun u => (u.sq c).requests = (s.sq c).requests ++ [{ at_ := s.us + 21, target := 1, cause := 0, kind := 10 }]
      ∧ u.Answered h.path h.tag 0 0)) ∧
  (∀ (s : State) (h : Hdr) (c : Chan),
    s.Serves h.path h.tag → s.ch c = 3 → 
    Runs (.hold h c) s (fun u => (u.sq c).requests = (s.sq c).requests ++ [{ at_ := s.us + 21, target := 4, cause := 0, kind := 11 }]
      ∧ u.Answered h.path h.tag 0 0)) ∧
  (∀ (s : State) (h : Hdr) (c : Chan),
    s.Serves h.path h.tag → s.ch c = 4 → 
    Runs (.release h c) s (fun u => (u.sq c).requests = (s.sq c).requests ++ [{ at_ := s.us + 21, target := 3, cause := 0, kind := 12 }]
      ∧ u.Answered h.path h.tag 0 0)) ∧
  (∀ (s : State) (h : Hdr) (c : Chan),
    s.Serves h.path h.tag → (s.ch c = 5 ∨ s.ch c = 6) → s.causeAbsent c s.us = true → 
    Runs (.clear h c) s (fun u => (u.sq c).requests = (s.sq c).requests ++ [{ at_ := s.us + 21, target := 1, cause := 0, kind := 13 }]
      ∧ u.Answered h.path h.tag 0 0)) ∧
  (∀ (s : State) (h : Hdr) (c : Chan),
    s.Serves h.path h.tag → 
    Runs (.off h c) s (fun u => (u.sq c).requests = (s.sq c).requests ++ [{ at_ := s.us + 21, target := 0, cause := 0, kind := 14 }]
      ∧ u.Answered h.path h.tag 0 0))

/-- CH_REQUEST_ACT turns a waiting request whose transition R34 holds into a trigger of its instant and lets another lapse with
INFO 0x1803. HOLD_AT_REST triggers HOLD where nothing is active or starts. The 50 µs rule of SAFE_STOP triggers SAFE for every
RUNNING channel. The third miss raises CHANNEL 0x4012 and triggers SAFE at k + 2; 100 µs without symbol lock trigger OFFLINE. A
pending absorption is used up on a channel that is OFFLINE or IDLE. -/
def Obligations.ChannelTransitionsAreDecided : Prop :=
  (∀ (s a : State) (c : Chan) (f : Nat) (r : ChTrigger),
    s.Awake ((f - 2) * 1000) a → (a.sq c).requests = [r] → r.at_ ≤ f → a.requestOk c (a.chAt c f) f r.kind = true → r.kind ≠ 11 → 
    Runs (.chRequestAct c f) s (fun u => (u.sq c).requests = []
      ∧ (u.sq c).triggers = (a.sq c).triggers ++ [{ r with at_ := f }])) ∧
  (∀ (s a : State) (c : Chan) (f : Nat) (r : ChTrigger),
    s.Awake ((f - 2) * 1000) a → (a.sq c).requests = [r] → r.at_ ≤ f → a.requestOk c (a.chAt c f) f r.kind = false → 
    Runs (.chRequestAct c f) s (fun u => (u.sq c).requests = []
      ∧ (u.sq c).triggers = (a.sq c).triggers
      ∧ u.Raised 0 0x1803 ⟨2, c⟩)) ∧
  (∀ (s a : State) (c : Chan) (f : Nat) (h : Nat),
    s.Awake ((f - 2) * 1000) a → (a.sq c).holdFrom = some h → h ≤ f → (a.sq c).built < f → a.us < f → a.chAt c f = 3 → (a.sq c).queue = [] → (a.sq c).active = [] → 
    Runs (.holdAtRest c f) s (fun u => (u.sq c).triggers = (a.sq c).triggers ++ [{ at_ := f, target := 4, cause := 0 }]
      ∧ (u.sq c).holdFrom = none)) ∧
  (∀ (s a : State) (f : Nat) (e : Nat),
    s.Awake ((f - 2) * 1000) a → a.sys.safeEntry = some e → e + 50 ≤ f → a.devAt f = 4 → 
    Runs (.safeStopDeadline f) s (fun u => (∀ c : Fin 64, a.chAt c f = 3 → (a.sq c).built < f → { at_ := f, target := 5, cause := 0 } ∈ (u.sq c).triggers))) ∧
  (∀ (s a : State) (c : Chan) (k : Nat),
    s.Awake (k * 1000 + 900) a → a.get (F.STN_LINK_STAT_MISS_RUN c) = 2 → a.inbound c k = none → (a.link c).missFor ≠ some k → a.get (F.STN_LINK_STAT_STATE c) ≠ 0 → (a.chAt c (k + 2) = 1 ∨ a.chAt c (k + 2) = 2 ∨ a.chAt c (k + 2) = 3 ∨ a.chAt c (k + 2) = 4) → 
    Runs (.channelMissSafe c k) s (fun u => u.get (F.STN_LINK_STAT_MISS_RUN c) = 3
      ∧ (u.sq c).triggers = (a.sq c).triggers ++ [{ at_ := k + 2, target := 5, cause := 0x4012 }]
      ∧ u.Raised 2 0x4012 ⟨2, c⟩)) ∧
  (∀ (s a : State) (t : Nat) (c : Chan) (l : Nat),
    s.Awake t a → (a.link c).lostAt = some l → l + 100000 ≤ a.ns → a.get (F.STN_LINK_STAT_STATE c) = 0 → a.chAt c a.nextFix ≠ 0 → 
    Runs (.linkOfflineTimeout t c) s (fun u => (u.sq c).triggers = (a.sq c).triggers ++ [{ at_ := a.nextFix, target := 0, cause := 0x4013 }])) ∧
  (∀ (s a : State) (c : Chan) (f : Nat),
    s.Awake ((f - 2) * 1000) a → (a.sq c).built < f → a.has (F.SEQ_ABSORB_STAT_PENDING c) = true → (a.chAt c f = 0 ∨ a.chAt c f = 1) → 
    Runs (.absorbApplyPending c f) s (fun u => (u.sq c).absorbPending = 0
      ∧ u.get (F.SEQ_ABSORB_STAT_PENDING c) = 0
      ∧ ((a.sq c).queue = [] → (u.sq c).slip = (a.sq c).slip - (a.sq c).absorbPending)))

/-- After FRAME_BOUNDARY of k no commit of a frame up to k is still scheduled and no unit reset waits for it. A station frame that
checks is accepted: its status word is shown and the miss run is 0; one with a wrong CRC is counted. At k + 600 ns a paired device
asks its partner for missing frames. FRAME_COMPUTE of k computes apply instant k + 2 for every channel. At 1,550 ns every port
with symbol lock sends a command frame above OFFLINE, else a sync packet, with the sideband slot that waits. -/
def Obligations.FramesRunEndToEnd : Prop :=
  (∀ (s a : State) (k : Nat) (lines : List (Nat × Bool × Bool)),
    s.Awake (k * 1000) a → a.cmd.inflight = [] → 
    Runs (.frameBoundary k lines) s (fun u => (∀ b ∈ u.cmd.scheduled, k < b.f)
      ∧ (∀ e ∈ u.cmd.unitResets, k < e.2))) ∧
  (∀ (s a : State) (c : Chan) (t arr : Nat) (bytes : List Byte),
    s.Awake t a → a.get (F.STN_LINK_STAT_STATE c) ≠ 0 → bytes.length = 42 → leAt bytes 0 1 % 32 = 0x11 → crc32 (bytes.take 38) = leAt bytes 38 4 → leAt bytes 2 4 = a.us % 2 ^ 32 → bitsOf (leAt bytes 1 1) 6 1 = 1 → leAt bytes 1 1 % 64 = c → a.ns ≤ a.us * 1000 + 600 → a.inbound c a.us = none → 
    Runs (.inboundFrameRx c t arr bytes) s (fun u => u.inbound c a.us = some (frameOf bytes a.us)
      ∧ u.get (F.STN_LINK_STAT_MISS_RUN c) = 0
      ∧ u.get (F.STN_ST_STATUS c) = leAt bytes 34 4)) ∧
  (∀ (s a : State) (c : Chan) (t arr : Nat) (bytes : List Byte),
    s.Awake t a → a.get (F.STN_LINK_STAT_STATE c) ≠ 0 → bytes.length = 42 → leAt bytes 0 1 % 32 = 0x11 → crc32 (bytes.take 38) ≠ leAt bytes 38 4 → 
    Runs (.inboundFrameRx c t arr bytes) s (fun u => u.get (F.STN_RX_ERR_CRC c) = satN 0xFFFF (a.get (F.STN_RX_ERR_CRC c) + 1)
      ∧ u.link c = a.link c)) ∧
  (∀ (s a : State) (k : Nat),
    s.Awake (k * 1000 + 600) a → a.paired = true → 
    Runs (.inboundArrivalDeadline k) s (fun u => u.pair.missing = some (k, channelBits ((List.range 64).filter (fun c => a.chAt c k != 0 && (a.inbound c k).isNone)))
      ∧ Output.bytes "FILL_REQ" [(k : Int)] (leBytes 8 (channelBits ((List.range 64).filter (fun c => a.chAt c k != 0 && (a.inbound c k).isNone)))) ∈ u.out)) ∧
  (∀ (s a : State) (k : Nat) (errors : MemErrors),
    s.Awake (k * 1000 + 900) a → a.sys.built < k + 2 → 
    Runs (.frameCompute k errors) s (fun u => u.sys.built = k + 2
      ∧ (∀ c : Fin 64, (u.sq c).built = k + 2))) ∧
  (∀ (s a : State) (k lag : Nat),
    s.Awake (k * 1000 + 1550) a → a.dev ≠ 0 → 
    Runs (.outboundFrameTx k lag) s (fun u => (∀ c : Fin 64, a.get (F.STN_LINK_STAT_STATE c) ≠ 0 → a.chAt c (k + 2) = 0 → Output.bytes "sync packet" [(c : Nat), (k + 2 : Nat)] (a.syncPacket c (k + 2) lag ++ (a.sbSlot c (k + 2)).2) ∈ u.out)
      ∧ (∀ c : Fin 64, a.get (F.STN_LINK_STAT_STATE c) ≠ 0 → a.chAt c (k + 2) ≠ 0 → a.roleAt (k + 2) ≠ 3 → a.has F.PAIR_PSTAT_LOCAL_STOP = false → Output.bytes "command frame" [(c : Nat), (k + 2 : Nat)] ((a.commandFrame c (k + 2) lag).2 ++ (a.sbSlot c (k + 2)).2) ∈ u.out)))

/-- Symbol lock takes an enabled port that is DOWN to SYMBOL, its loss takes a port to DOWN with WARN 0x4013; the conditions of
R421 take it from MEASURE to FRAME_LOCK and 64 missing frames back. A sideband reply ends the mailbox request with its data; a
request without one is sent again up to three times; GO sends a mailbox request. -/
def Obligations.StationLinksChangeState : Prop :=
  (∀ (s a : State) (t : Nat) (c : Chan),
    s.Awake t a → a.get (F.STN_LINK_STAT_STATE c) = 0 → a.has (F.STN_CFG_ENABLE c) = true → 
    Runs (.symbolLockAcquired t c) s (fun u => u.get (F.STN_LINK_STAT_STATE c) = 1
      ∧ (u.link c).lostAt = none)) ∧
  (∀ (s a : State) (t : Nat) (c : Chan),
    s.Awake t a → a.get (F.STN_LINK_STAT_STATE c) ≠ 0 → 
    Runs (.symbolLockLost t c) s (fun u => u.get (F.STN_LINK_STAT_STATE c) = 0
      ∧ (u.link c).lostAt = some a.ns
      ∧ (u.link c).waiting = none
      ∧ u.Raised 1 0x4013 ⟨2, c⟩)) ∧
  (∀ (s : State) (c : Chan) (d : Int),
    (s.link c).deltaAvg = some d → s.inReset = false → s.get (F.STN_LINK_STAT_STATE c) = 2 → (s.link c).turnRead = true → (s.link c).delayAcked = true → 8 ≤ (s.link c).goodRun → 10 ≤ s.get (F.STN_DELAY_TURN c) → s.get (F.STN_DELAY_TURN c) ≤ 40 → d ≤ 600 → 
    Runs (.frameLockEntry c) s (fun u => u.get (F.STN_LINK_STAT_STATE c) = 3)) ∧
  (∀ (s : State) (c : Chan),
    s.inReset = false → s.get (F.STN_LINK_STAT_STATE c) = 3 → 64 ≤ (s.link c).lostRun → 
    Runs (.frameLockLoss c) s (fun u => u.get (F.STN_LINK_STAT_STATE c) = 2
      ∧ (u.link c).lostRun = 0)) ∧
  (∀ (s a : State) (t : Nat) (c : Chan) (bytes : List Byte) (q : SbWait),
    s.Awake t a → (a.link c).waiting = some q → q.req.owner = 1 → bytes.length = 16 → crc32 (bytes.take 12) = leAt bytes 12 4 → leAt bytes 1 1 = q.sseq → leAt bytes 0 1 = 0x81 → a.get (F.STN_LINK_STAT_STATE c) ≠ 0 → 
    Runs (.sidebandReplyRx t c bytes) s (fun u => (u.link c).waiting = none
      ∧ u.get (F.STN_SB_STAT_BUSY c) = 0
      ∧ u.get (F.STN_SB_STAT_DONE c) = 1
      ∧ u.get (F.STN_SB_RESP_LO c) = leAt bytes 4 4
      ∧ u.get (F.STN_SB_RESP_HI c) = leAt bytes 8 4)) ∧
  (∀ (s : State) (c : Chan) (q : SbWait),
    (s.link c).waiting = some q → s.inReset = false → q.resend = false → q.tries < 3 → q.sent + 16 ≤ (s.upTo ((q.sent + 16) * 1000)).us → 
    Runs (.sidebandTimeout c) s (fun u => (u.link c).waiting = some { q with tries := q.tries + 1, resend := true })) ∧
  (∀ (s : State) (h : Hdr) (c : Chan) (v : Word),
    s.Serves h.path h.tag → s.has (F.STN_SB_STAT_BUSY c) = false → 2 ≤ s.get (F.STN_LINK_STAT_STATE c) → v.toNat % 2 ^ 17 < 2 ^ 16 → 
    Runs (.sbGo h c v) s (fun u => u.has (F.STN_SB_STAT_BUSY c) = true
      ∧ u.get (F.STN_SB_CTRL_ADDR c) = v.toNat % 2 ^ 16
      ∧ u.Answered h.path h.tag 0 0
      ∧ (s.link c).queue = [] → (u.link c).queue = [{ type := 1, addr := v.toNat % 2 ^ 16, owner := 1 }]))

/-- CRING_DOORBELL fetches a whole packet from the ring, accepts it and answers it. RING_RESET clears the four indices while the
rings are disabled. A held reply is written when the host makes room. The moderation expiry raises the interrupt that was
withheld. A datagram for the port's own address and port number has its packet accepted, and one with an invalid header is dropped
and counted. ARP and ICMP echo requests for the port's own address are answered. The NET words take their writes. -/
def Obligations.RingsAndPortsTakePackets : Prop :=
  (∀ (s a : State) (t : Nat) (bell : Doorbell) (ring : List Word),
    s.Awake t a → (a.barWrites bell.setup).pathLost .pcie = false → (a.barWrites bell.setup).sys.romUp = true → (a.barWrites bell.setup).sys.firmware = true → (a.barWrites bell.setup).ringRuns = true → (a.barWrites bell.setup).host.fetchStopped = false → (a.barWrites bell.setup).cmd.inflight = [] → (a.barWrites bell.setup).err.coresDown = [] → 14 ≤ (a.barWrites bell.setup).get F.HOSTIF_CRING_SIZE → (a.barWrites bell.setup).get F.HOSTIF_CRING_SIZE ≤ 22 → (a.barWrites bell.setup).get F.HOSTIF_CRING_CONS < ringWords ((a.barWrites bell.setup).get F.HOSTIF_CRING_SIZE) → bell.prod = ((a.barWrites bell.setup).get F.HOSTIF_CRING_CONS + 2) % ringWords ((a.barWrites bell.setup).get F.HOSTIF_CRING_SIZE) → ringRead ring (ringWords ((a.barWrites bell.setup).get F.HOSTIF_CRING_SIZE)) ((a.barWrites bell.setup).get F.HOSTIF_CRING_CONS) 2 = [0x0500, 0] → (a.barWrites bell.setup).tagBusy .pcie 5 = false → 
    Runs (.cringDoorbell t bell ring) s (fun u => u.get F.HOSTIF_CRING_PROD = bell.prod
      ∧ u.get F.HOSTIF_CRING_CONS = bell.prod
      ∧ u.cmd.inflight = []
      ∧ u.Answered .pcie 5 0 0)) ∧
  (∀ (s : State) (h : Hdr),
    s.Serves h.path h.tag → s.has F.HOSTIF_RING_CTRL_ENABLE = false → 
    Runs (.ringReset (some h)) s (fun u => u.get F.HOSTIF_CRING_PROD = 0
      ∧ u.get F.HOSTIF_CRING_CONS = 0
      ∧ u.get F.HOSTIF_RRING_PROD = 0
      ∧ u.get F.HOSTIF_RRING_CONS = 0
      ∧ u.Answered h.path h.tag 0 0)) ∧
  (∀ (s : State),
    s.inReset = false → s.has F.HOSTIF_RING_CTRL_ENABLE = false → 
    Runs (.ringReset none) s (fun u => u.get F.HOSTIF_CRING_PROD = 0
      ∧ u.get F.HOSTIF_CRING_CONS = 0
      ∧ u.get F.HOSTIF_RRING_PROD = 0
      ∧ u.get F.HOSTIF_RRING_CONS = 0
      ∧ u.host.fetchStopped = false)) ∧
  (∀ (s a : State) (t cons : Nat) (r : Reply),
    s.Awake t a → a.host.held = [r] → (a.put F.HOSTIF_RRING_CONS cons).ringTakes r = true → 
    Runs (.replyHeldWrite t cons) s (fun u => u.host.held = []
      ∧ Output.reply r ∈ u.out
      ∧ u.get F.HOSTIF_RING_STAT_HELD = 0)) ∧
  (∀ (s : State) (c : Nat),
    s.host.lastIrq = some c → s.inReset = false → s.host.irqPending = true → 
    Runs (.interruptModerationExpiry) s (fun u => u.host.irqPending = false
      ∧ Output.interrupt (s.get F.HOSTIF_RING_CTRL_VECTOR) ∈ u.out)) ∧
  (∀ (s a : State) (t : Nat) (d : UdpFrame) (seq : Word) (tag : Byte),
    s.Awake t a → datagramPackets d.payload = some (seq, [(0, tag, 0, [])]) → a.portOpen d.port = true → d.fragment = false → frameFits d.payload = true → d.dstIp = a.portAddr d.port → d.dstUdp.toNat = a.get F.NET_CMD_UDP_PORT → a.host.sources.length < 4 → a.host.sources.find? (fun x => x.port == d.port && x.ip == d.srcIp && x.udp == d.srcUdp) = none → a.cmd.inflight = [] → a.err.coresDown = [] → 
    Runs (.udpDatagramRx t d) s (fun u => (u.Answered (if d.port then .eth1 else .eth0) tag 0 0)
      ∧ u.host.sources.length = a.host.sources.length + 1)) ∧
  (∀ (s a : State) (t : Nat) (d : UdpFrame),
    s.Awake t a → a.portOpen d.port = true → d.fragment = false → frameFits d.payload = true → d.dstIp = a.portAddr d.port → d.dstUdp.toNat = a.get F.NET_CMD_UDP_PORT → datagramPackets d.payload = none → 
    Runs (.udpDatagramRx t d) s (fun u => u.host.dropped0 + u.host.dropped1 = a.host.dropped0 + a.host.dropped1 + 1
      ∧ u.cmd = a.cmd
      ∧ u.host.sources = a.host.sources)) ∧
  (∀ (s a : State) (t : Nat) (port : Bool) (mac : BitVec 48) (src dst : Word),
    s.Awake t a → a.sys.firmware = true → a.portAddr port ≠ 0 → dst = a.portAddr port → 
    Runs (.arpRequest t port mac src dst) s (fun u => (Output.signal "ARP_REPLY" [if port then 1 else 0, mac.toNat, src.toNat, dst.toNat] ∈ u.out))) ∧
  (∀ (s a : State) (t : Nat) (port : Bool) (mac : BitVec 48) (src dst : Word) (payload : List Byte),
    s.Awake t a → a.sys.firmware = true → a.portAddr port ≠ 0 → dst = a.portAddr port → payload.length ≤ 8972 → 
    Runs (.icmpEcho t port mac src dst payload) s (fun u => (Output.bytes "ICMP_ECHO_REPLY" [if port then 1 else 0, mac.toNat, src.toNat] payload ∈ u.out))) ∧
  (∀ (s : State) (h : Hdr) (n : Fin 3) (v : Word),
    s.Serves h.path h.tag → 
    Runs (.netCmdUdpWrite h n v) s (fun u => (n = 0 → u.get F.NET_IPV4_ADDR0 = v.toNat)
      ∧ (n = 1 → u.get F.NET_IPV4_ADDR1 = v.toNat)
      ∧ (n = 2 → u.get F.NET_CMD_UDP_PORT = v.toNat % 65536 ∧ u.get F.NET_CMD_UDP_ENABLE0 = v.toNat / 65536 % 2 ∧ u.get F.NET_CMD_UDP_ENABLE1 = v.toNat / 131072 % 2)
      ∧ u.Answered h.path h.tag 0 0))

/-- A packet that CMD serves at once and whose operands check is answered DONE, or waits as its opcode says: a read and a SNAPSHOT
for the next frame boundary, a COMMIT for its frame with its batch scheduled, a CAIRN for its scope, a FORWARD for its reply. A
direct SET_PARAM changes its word by the access codes, raises the epoch by 1 and leaves every word outside HOSTIF as it was; a
staged one joins the batch. RESET_UNIT waits for the next boundary. DISCARD empties the batch. -/
def Obligations.SystemPacketsRun : Prop :=
  (∀ (s : State) (p : Pkt),
    s.Serves p.path p.tag → p.target = 0 → p.body = [] → 
    Runs (.nop p) s (fun u => u.Returned p.path p.tag []
      ∧ u.cmd.inflight = [])) ∧
  (∀ (s : State) (p : Pkt),
    s.Serves p.path p.tag → p.target = 0 → p.body = [] → 
    Runs (.ident p) s (fun u => u.Waits s.cmd.nextOrder (.read (s.us + 1)))) ∧
  (∀ (s : State) (p : Pkt) (n : Word),
    s.Serves p.path p.tag → p.body = [n] → 1 ≤ n.toNat → n.toNat ≤ 1024 → rangeError p.target.toNat n.toNat = none → 
    Runs (.getParam p) s (fun u => u.Waits s.cmd.nextOrder (.read (s.us + 1)))) ∧
  (∀ (s : State) (p : Pkt) (v : Word) (r : RegWord),
    s.Serves p.path p.tag → p.body = [0, v] → findWord p.target.toNat = some r → p.target.toNat / 65536 ∈ [0x03, 0x20, 0x21, 0x28, 0x38, 0x50, 0x51, 0x58] → rangeError p.target.toNat 1 = none → s.writesError p.path true [⟨p.target.toNat, BitVec.allOnes 32, v⟩] = none → 
    Runs (.setParam p) s (fun u => u.reg p.target.toNat = writtenWord r (s.reg p.target.toNat) (BitVec.allOnes 32) v (s.marked p.target.toNat)
      ∧ u.cmd.epoch = (s.cmd.epoch + 1) % 2 ^ 64
      ∧ u.Returned p.path p.tag []
      ∧ (∀ w : Nat, w ≠ p.target.toNat → w / 65536 ≠ 0x01 → u.reg w = s.reg w))) ∧
  (∀ (s : State) (p : Pkt) (v : Word),
    s.Serves p.path p.tag → p.body = [1, v] → rangeError p.target.toNat 1 = none → s.writesError p.path false [⟨p.target.toNat, BitVec.allOnes 32, v⟩] = none → (s.batch p.path).length < 4096 → 
    Runs (.setParam p) s (fun u => u.batch p.path = s.batch p.path ++ [⟨p.target.toNat, BitVec.allOnes 32, v⟩]
      ∧ u.cmd.epoch = s.cmd.epoch
      ∧ u.Returned p.path p.tag []
      ∧ (∀ w : Nat, w / 65536 ≠ 0x01 → u.reg w = s.reg w))) ∧
  (∀ (s : State) (p : Pkt) (lo hi : Word),
    s.Serves p.path p.tag → p.body = [lo, hi] → p.target = 0 → s.ns + 10000 ≤ dword lo hi * 1000 → dword lo hi * 1000 ≤ s.ns + 10000000000 → s.cmd.scheduled.length < 16 → (s.batch p.path).any (fun w => cascadeWord w.addr) = false → s.crossError ((s.inForce (dword lo hi)).withWrites (s.batch p.path)) ((s.batch p.path).map (fun w => w.addr)) = none → 
    Runs (.commit p) s (fun u => u.batch p.path = []
      ∧ u.cmd.scheduled = insertBatch { f := dword lo hi, order := s.cmd.nextOrder, path := p.path, tag := p.tag, writes := s.batch p.path } s.cmd.scheduled
      ∧ u.Waits s.cmd.nextOrder (.commit (dword lo hi)))) ∧
  (∀ (s : State) (p : Pkt) (addr n : Word),
    s.Serves p.path p.tag → p.body = [1, addr, n] → p.target = 0 → n.toNat / 65536 = 1 → 1 ≤ n.toNat % 65536 → n.toNat % 65536 ≤ 1024 → rangeError addr.toNat (n.toNat % 65536) = none → 
    Runs (.snapshot p) s (fun u => u.Waits s.cmd.nextOrder (.read (s.us + 1)))) ∧
  (∀ (s : State) (p : Pkt),
    s.Serves p.path p.tag → p.body = [] → p.target.toNat % 65536 = 0 → p.target.toNat / 65536 ∈ [0x08, 0x10, 0x18, 0x20, 0x28, 0x29, 0x30, 0x38, 0x39, 0x40, 0x48, 0x49] → s.dev ≠ 2 → s.dev ≠ 3 → 
    Runs (.resetUnit p) s (fun u => u.cmd.unitResets = s.cmd.unitResets ++ [(p.target.toNat / 65536, s.us + 1)]
      ∧ u.headOpen ⟨1, p.target.toNat / 65536⟩ = false
      ∧ u.Returned p.path p.tag [])) ∧
  (∀ (s : State) (p : Pkt) (scope head : Word),
    s.Serves p.path p.tag → p.body = [scope, head] → p.target = 0 → scope.toNat ≤ 1 → 
    Runs (.cairn p) s (fun u => u.Waits s.cmd.nextOrder .cairn)) ∧
  (∀ (s : State) (p : Pkt) (h target : Word),
    s.Serves p.path p.tag → p.body = [h, target] → s.isSummit = true → p.target.toNat < 16 → p.target.toNat ≠ s.position → bitsOf h.toNat 16 16 = 0 → bitsOf h.toNat 0 8 ≠ 8 → 
    Runs (.forward p) s (fun u => u.Waits s.cmd.nextOrder (.forward s.cmd.nextOrder false)
      ∧ Output.bytes "FORWARD" [s.cmd.nextOrder, 0, p.target.toNat, bitsOf h.toNat 0 8, bitsOf h.toNat 8 8, target.toNat] [] ∈ u.out)) ∧
  (∀ (s : State) (p : Pkt),
    s.Serves p.path p.tag → p.target = 0 → p.body = [] → 
    Runs (.discard p) s (fun u => u.batch p.path = []
      ∧ u.Returned p.path p.tag [word (s.batch p.path).length]))

/-- A packet alone in flight that waits is answered by the command it waits for: a read by its frame boundary with the words as
they stand, a COMMIT by COMMIT_APPLY of its frame with its words written and the epoch raised by 1, a SNAPSHOT by its instant, a
cascade snapshot at its deadline, a CAIRN once its scope is clear or TIMEOUT 0x02A3 at its limit, any other packet TIMEOUT 0x02A1
at its limit. A member's confirmation is recorded. The loss of a path discards its batch; its return is seen. -/
def Obligations.WaitingPacketsComplete : Prop :=
  (∀ (s : State) (k : Nat) (lines : List (Nat × Bool × Bool)) (p : InFlight) (q : Nat),
    s.cmd.inflight = [p] → p.wait = .read q → s.inReset = false → s.quiet = true → s.cmd.scheduled = [] → s.cmd.unitResets = [] → p.taken = none → p.opcode = 2 → p.body = [1] → p.target.toNat / 65536 = 0x03 → q ≤ k → k * 1000 < 2 ^ 63 → p.path ≠ .ridge → p.orphan = false → 
    Runs (.frameBoundary k lines) s (fun u => u.Returned p.path p.tag [s.reg p.target.toNat]
      ∧ u.cmd.inflight = [])) ∧
  (∀ (s : State) (f : Nat) (b : Scheduled) (w : StagedWrite) (p : InFlight) (r : RegWord),
    s.cmd.scheduled = [b] → b.writes = [w] → s.cmd.inflight = [p] → findWord w.addr = some r → s.inReset = false → s.quiet = true → s.marks = [] → b.f ≤ f → f * 1000 < 2 ^ 63 → b.whole = none → b.cascade = false → w.addr / 65536 = 0x20 → p.order = b.order → p.wait = .commit b.f → p.path ≠ .ridge → p.orphan = false → 
    Runs (.commitApply f) s (fun u => u.cmd.scheduled = []
      ∧ u.cmd.epoch = (s.cmd.epoch + 1) % 2 ^ 64
      ∧ u.reg w.addr = writtenWord r (s.reg w.addr) w.mask w.value 0
      ∧ u.Returned p.path p.tag [1])) ∧
  (∀ (s : State) (f : Nat) (p : InFlight),
    s.cmd.inflight = [p] → s.inReset = false → s.quiet = true → s.cmd.scheduled = [] → p.taken = none → f * 1000 < 2 ^ 63 → p.wait = .snapshot f false → p.opcode = 5 → p.path ≠ .ridge → p.orphan = false → s.reports p.order = [] → 
    Runs (.snapshotAtFrame f) s (fun u => u.cmd.inflight = []
      ∧ u.Answered p.path p.tag 0 0)) ∧
  (∀ (s a : State) (f : Nat) (p : InFlight),
    s.Awake ((f + 20) * 1000) a → a.cmd.inflight = [p] → p.wait = .snapshot f true → p.path ≠ .ridge → p.orphan = false → 
    Runs (.cascadeSnapshotDeadline f) s (fun u => u.cmd.inflight = []
      ∧ u.reports p.order = []
      ∧ u.Answered p.path p.tag 0 0)) ∧
  (∀ (s : State) (path : Path) (tag : Byte) (p : InFlight),
    s.cmd.inflight = [p] → s.inReset = false → s.cairnOf path tag = some p → p.wait = .cairn → p.scope ≠ 2 → path ≠ .ridge → p.orphan = false → 
    Runs (.cairnComplete path tag) s (fun u => u.cmd.inflight = []
      ∧ u.Returned path tag (p.body.getD 1 0 :: lowHigh s.ns))) ∧
  (∀ (s : State) (path : Path) (tag : Byte) (p : InFlight),
    s.cmd.inflight = [p] → s.inReset = false → s.cairnOf path tag = some p → p.scope ≠ 2 → path ≠ .ridge → p.orphan = false → 
    Runs (.cairnTimeout path tag) s (fun u => u.cmd.inflight = []
      ∧ u.Answered path tag 0x30 0x02A3)) ∧
  (∀ (s : State) (path : Path) (tag : Byte) (p : InFlight) (q : Nat) (c : Nat),
    s.cmd.inflight = [p] → p.wait = .read q → p.startClk = some c → s.inReset = false → p.path = path → p.tag = tag → path ≠ .ridge → p.orphan = false → 
    Runs (.packetTimeout path tag) s (fun u => u.cmd.inflight = []
      ∧ u.Answered path tag 0x30 0x02A1)) ∧
  (∀ (s a : State) (m : Machine.RidgeMsg) (id pos : Nat) (b : Scheduled),
    s.Awake m.t a → a.cmd.scheduled = [b] → b.order = id → a.ridge.heard.contains (!m.cw, m.src, Machine.CascadeMsg.confirm id pos) = false → a.takes 0x21 m = true → 
    Runs (.cascadeMsgRx m (.confirm id pos)) s (fun u => u.cmd.scheduled = [{ b with confirmed := word (b.confirmed.toNat ||| 2 ^ (pos % 16)) }])) ∧
  (∀ (s a : State) (m : Machine.RidgeMsg) (c : Machine.CascadeMsg),
    s.Awake m.t a → a.takes 0x21 m = true → m.dst = 0xFF → a.ridge.heard.contains (!m.cw, m.src, c) = true → 
    Runs (.cascadeMsgRx m c) s (fun u => u.cmd = a.cmd
      ∧ u.ridge = { a.ridge with heard := a.ridge.heard.erase (!m.cw, m.src, c) })) ∧
  (∀ (s a : State) (t : Nat),
    s.Awake t a → a.pathLost .pcie = false → 
    Runs (.pciePathLoss t) s (fun u => u.pathLost .pcie = true
      ∧ u.batch .pcie = []
      ∧ u.host.held = []
      ∧ u.has F.HOSTIF_LOSS_LOG_VALID = true)) ∧
  (∀ (s a : State) (t : Nat) (port : Bool),
    s.Awake t a → a.pathLost (if port then .eth1 else .eth0) = false → 
    Runs (.ethPathLoss t port) s (fun u => (u.pathLost (if port then .eth1 else .eth0) = true)
      ∧ (u.batch (if port then .eth1 else .eth0) = []))) ∧
  (∀ (s a : State) (t : Nat) (path : Path),
    s.Awake t a → (path = .pcie → a.host.perst = false) → 
    Runs (.hostPathReturn t path) s (fun u => u.pathLost path = false))

/-- STREAM_OPEN takes a FREE stream to OPEN with empty buffers. STREAM_PUSH appends its bytes where the input buffer has room for
all of them, and so does the end of a STREAM_FETCH. STREAM_CLOSE with ABORT frees a stream. Each is answered DONE; STREAM_FETCH
waits for its DMA. -/
def Obligations.StreamPacketsRun : Prop :=
  (∀ (s : State) (p : Pkt),
    s.Serves p.path p.tag → p.target.toNat < 256 → p.body = [] → s.strmState p.target.toNat = 0 → 
    Runs (.streamOpen p) s (fun u => u.strmState p.target.toNat = 1
      ∧ u.strm p.target.toNat = {}
      ∧ u.get64 (F.STREAM_S_BYTES_LO p.target.toNat) (F.STREAM_S_BYTES_HI p.target.toNat) = 0
      ∧ u.Returned p.path p.tag [])) ∧
  (∀ (s : State) (p : Pkt) (k w : Word) (ws : List Word),
    s.Serves p.path p.tag → p.body = k :: w :: ws → p.target.toNat < 256 → 4 * ws.length < k.toNat → k.toNat ≤ 4 * (ws.length + 1) → allZero ((bytesOfWords (w :: ws)).drop k.toNat) = true → s.strmState p.target.toNat = 1 → (s.strm p.target.toNat).inbuf.length + k.toNat ≤ 1048576 → 
    Runs (.streamPush p) s (fun u => (u.strm p.target.toNat).inbuf = (s.strm p.target.toNat).inbuf ++ (bytesOfWords (w :: ws)).take k.toNat
      ∧ u.Returned p.path p.tag [k])) ∧
  (∀ (s : State) (p : Pkt) (lo hi k : Word),
    s.Serves p.path p.tag → p.body = [lo, hi, k, 0] → p.path = .pcie → p.target.toNat < 256 → 1 ≤ k.toNat → k.toNat ≤ 16777216 → s.strmState p.target.toNat = 1 → 
    Runs (.streamFetch p) s (fun u => (u.strm p.target.toNat).fetching = true
      ∧ Output.signal "DMA_READ" [lo.toNat, hi.toNat, k.toNat] ∈ u.out
      ∧ u.Waits s.cmd.nextOrder (.fetch p.target.toNat k.toNat))) ∧
  (∀ (s : State) (path : Path) (tag : Byte) (bytes : List Byte) (p : InFlight) (n k : Nat),
    s.cmd.inflight = [p] → p.wait = .fetch n k → s.inReset = false → p.path = path → p.tag = tag → path ≠ .ridge → p.orphan = false → s.strmState n = 1 → bytes.length = k → (s.strm n).inbuf.length + k ≤ 1048576 → (s.strm n).fetching = true → 
    Runs (.streamFetchComplete path tag bytes) s (fun u => (u.strm n).inbuf = (s.strm n).inbuf ++ bytes
      ∧ (u.strm n).fetching = false
      ∧ u.cmd.inflight = []
      ∧ u.Returned path tag [word k])) ∧
  (∀ (s : State) (p : Pkt) (b : Word),
    s.Serves p.path p.tag → p.body = [b] → p.target.toNat < 256 → (b.toNat = 1 ∨ b.toNat = 3) → s.strmState p.target.toNat ≠ 0 → 
    Runs (.streamClose p) s (fun u => u.strmState p.target.toNat = 0
      ∧ u.strm p.target.toNat = {}
      ∧ u.Returned p.path p.tag []))

/-- A valid plain header leaves the input buffer and takes hold of each free channel that it names; an invalid one stops the
stream with 0x1010. A plain chunk whose CRC matches leaves its payload in the plaintext buffer; another stops the stream with
0x1022. Decompression moves what it decodes. PAD, LAYER, PROGRAM and STREAM_END containers at the front take the effect that R144
and R145 give them. -/
def Obligations.StreamsAreParsed : Prop :=
  (∀ (s : State) (n : StreamNo),
    s.inReset = false → s.strmState n = 1 → (s.strm n).header = [] → 32 ≤ (s.strm n).inbuf.length → headerValid ((s.strm n).inbuf.take 32) = true → leAt ((s.strm n).inbuf.take 32) 5 1 = 0 → 
    Runs (.streamHeaderParse n) s (fun u => (u.strm n).header = (s.strm n).inbuf.take 32
      ∧ (u.strm n).inbuf = (s.strm n).inbuf.drop 32
      ∧ (∀ c : Fin 64, leAt ((s.strm n).inbuf.take 32) 20 8 / 2 ^ c.val % 2 = 1 → s.holder c = none → u.holder c = some n.val))) ∧
  (∀ (s : State) (n : StreamNo),
    s.inReset = false → s.strmState n = 1 → (s.strm n).header = [] → 32 ≤ (s.strm n).inbuf.length → headerValid ((s.strm n).inbuf.take 32) = false → 
    Runs (.streamHeaderParse n) s (fun u => u.strmState n = 3
      ∧ u.get (F.STREAM_S_STAT_DETAIL n) = 0x1010
      ∧ u.Raised 3 0x1010 ⟨1, 0x10⟩)) ∧
  (∀ (s : State) (n : StreamNo) (b : List Byte) (len : Nat),
    (s.strm n).inbuf = b → leAt b 0 4 = len → s.inReset = false → s.strmState n = 1 → (s.strm n).header ≠ [] → (s.strm n).flag 0 = false → (s.strm n).flag 1 = false → (s.strm n).lastChunk = false → (s.strm n).code = [] → (s.strm n).plain.length < 65536 → 1 ≤ len → len ≤ 65536 → leAt b 12 1 = 0 → leAt b 13 3 = 0 → 20 + len ≤ b.length → leAt b 4 8 = s.get64 (F.STREAM_S_CHUNK_LO n) (F.STREAM_S_CHUNK_HI n) → leAt b 4 8 + 1 < 2 ^ 64 → leAt b (16 + len) 4 = crc32 (b.take 16 ++ (b.drop 16).take len) → 
    Runs (.chunkProcess n) s (fun u => (u.strm n).plain = (s.strm n).plain ++ (b.drop 16).take len
      ∧ (u.strm n).inbuf = b.drop (20 + len)
      ∧ u.get64 (F.STREAM_S_CHUNK_LO n) (F.STREAM_S_CHUNK_HI n) = leAt b 4 8 + 1)) ∧
  (∀ (s : State) (n : StreamNo) (b : List Byte) (len : Nat),
    (s.strm n).inbuf = b → leAt b 0 4 = len → s.inReset = false → s.strmState n = 1 → (s.strm n).header ≠ [] → (s.strm n).flag 0 = false → (s.strm n).lastChunk = false → (s.strm n).code = [] → (s.strm n).plain.length < 65536 → 1 ≤ len → len ≤ 65536 → leAt b 12 1 = 0 → leAt b 13 3 = 0 → 20 + len ≤ b.length → leAt b 4 8 = s.get64 (F.STREAM_S_CHUNK_LO n) (F.STREAM_S_CHUNK_HI n) → leAt b (16 + len) 4 ≠ crc32 (b.take 16 ++ (b.drop 16).take len) → 
    Runs (.chunkProcess n) s (fun u => u.strmState n = 3
      ∧ u.get (F.STREAM_S_STAT_DETAIL n) = 0x1022
      ∧ u.Raised 3 0x1022 ⟨1, 0x10⟩)) ∧
  (∀ (s : State) (n : StreamNo) (e : Nat),
    s.takeEngine (s.strm n).context 0 = some e → s.inReset = false → s.strmState n = 1 → (s.strm n).flag 1 = true → (s.strm n).holdsSlot = true → (s.strm n).code ≠ [] → 
    Runs (.decodeResume n) s (fun u => (u.strm n).plain = (s.strm n).plain ++ (decode (s.slot (s.strm n).context) (s.strm n).code (65536 - (s.strm n).plain.length)).data
      ∧ (u.strm n).code = (decode (s.slot (s.strm n).context) (s.strm n).code (65536 - (s.strm n).plain.length)).rest)) ∧
  (∀ (s : State) (n : StreamNo),
    s.inReset = false → s.strmState n = 1 → (s.strm n).waiting = none → (s.strm n).padLeft = 0 → containerHeaderOk (s.strm n).plain = true → leAt (s.strm n).plain 0 1 = 0 → 4 + leAt (s.strm n).plain 2 2 ≤ (s.strm n).plain.length → 
    Runs (.containerPad n) s (fun u => (u.strm n).plain = (s.strm n).plain.drop (4 + leAt (s.strm n).plain 2 2)
      ∧ (u.strm n).padLeft = 0)) ∧
  (∀ (s : State) (n : StreamNo) (b : List Byte),
    s.front n = some (1, b) → s.inReset = false → s.stream.layers = [] → 1 ≤ leAt b 10 1 → leAt b 10 1 ≤ 64 → leAt b 11 5 = 0 → s.strmState n = 1 → 
    Runs (.containerLayer n) s (fun u => u.stream.layers = [{ stream := n, layer := leAt b 0 4, start := leAt b 4 6, programs := leAt b 10 1 }]
      ∧ u.get (F.STREAM_S_LAYER_PARSED n) = leAt b 0 4
      ∧ (u.strm n).plain = (s.strm n).plain.drop (4 + leAt (s.strm n).plain 2 2))) ∧
  (∀ (s : State) (n : StreamNo) (b : List Byte) (l : Layer),
    s.front n = some (2, b) → s.stream.layers = [l] → s.inReset = false → s.stream.programs = [] → l.stream = n.val → l.closed = false → l.layer = leAt b 0 4 → l.seen < l.programs → leAt b 4 1 ≤ 63 → leAt b 5 1 = 0 → leAt b 6 2 ≠ 0 → (s.strm n).channels / 2 ^ leAt b 4 1 % 2 = 1 → s.strmState n = 1 → 
    Runs (.containerProgram n) s (fun u => u.stream.programs = [{ stream := n, layer := leAt b 0 4, chan := leAt b 4 1, tag := leAt b 12 4, blocks := leAt b 6 2, records := leAt b 8 4, start := l.start }])) ∧
  (∀ (s : State) (n : StreamNo) (b : List Byte),
    s.front n = some (0x0F, b) → s.inReset = false → leAt b 0 4 = (s.strm n).layersSeen → s.openLayers n = [] → s.strmState n = 1 → 
    Runs (.containerStreamEnd n) s (fun u => u.strmState n = 2
      ∧ (u.strm n).ended = true))

/-- A block whose records parse waits for its channel; the hold is taken when the holder has ended; a block with hold and room
joins the staging area with its admission frame and then the queue of its channel. A broken program without records left raises
its channel fault once. A layer starts at its START with INFO 0x1840. An ENDED stream whose programs are complete is DONE. -/
def Obligations.BlocksReachTheirChannels : Prop :=
  (∀ (s : State) (n : StreamNo) (b : List Byte) (p : Program) (st : RecSt),
    s.front n = some (3, b) → s.program n (leAt b 0 4) (leAt b 4 1) = some p → recordsOf p.start (leAt b 8 2) (b.drop 12) { base := p.base, last := p.lastLaunch, ended := p.layerEnd } = .ok st → s.inReset = false → leAt b 4 1 ≤ 63 → leAt b 5 1 = 0 → leAt b 10 2 + 12 = b.length → 8 ≤ leAt b 10 2 → leAt b 10 2 ≤ 4096 → leAt b 10 2 % 4 = 0 → (s.openLayers n).any (fun l => l.layer == leAt b 0 4) = true → p.closed = false → p.broken = none → p.void = false → leAt b 6 2 = p.nextIndex → 1 ≤ leAt b 8 2 → leAt b 8 2 ≤ 512 → (p.blocksSeen + 1 = p.blocks → st.ended = true) → s.strmState n = 1 → 
    Runs (.containerBlock n) s (fun u => (u.strm n).waiting = some ⟨leAt b 4 1, { stream := n, layer := leAt b 0 4, index := leAt b 6 2, bytes := leAt b 10 2, admitAt := 0, records := st.out.map (fun r => { r with stream := n, layer := leAt b 0 4, tag := p.tag }) }⟩)) ∧
  (∀ (s : State) (n : StreamNo) (c : Chan) (w : ParsedBlock),
    (s.strm n).waiting = some w → s.inReset = false → w.chan = c.val → s.mayHold n c = true → 
    Runs (.channelHoldTake n c) s (fun u => u.holder c = some n.val)) ∧
  (∀ (s : State) (n : StreamNo) (w : ParsedBlock),
    (s.strm n).waiting = some w → s.inReset = false → s.mayHold n w.chan = true → s.stagingRoom w.chan w.block.bytes = true → s.pairRole ≠ 1 → 
    Runs (.blockStage n) s (fun u => u.staged w.chan = s.staged w.chan ++ [{ w.block with admitAt := s.admissionFrame, number := s.pair.nextMirror, admitted := true }]
      ∧ (u.strm n).waiting = none)) ∧
  (∀ (s a : State) (c : Chan) (q : Nat) (g : Staged) (r : Seg),
    s.Awake (q * 1000) a → a.staged c = [g] → g.records = [r] → g.admitted = true → g.admitAt ≤ q → a.stream.admittedAt.any (fun e => e.1 == c.val && decide (q ≤ e.2)) = false → (a.sq c).queue.length + (a.sq c).active.length < 1024 → 
    Runs (.blockAdmission c q) s (fun u => (u.sq c).queue = (a.sq c).queue ++ [{ seg := r }]
      ∧ u.staged c = [])) ∧
  (∀ (s : State) (c : Chan) (p : Program) (d : Nat),
    s.stream.programs = [p] → p.broken = some d → s.inReset = false → p.chan = c.val → p.faulted = false → p.complete = false → p.old = false → p.nextIndex ≠ 0 → s.recordsLeft p = false → 
    Runs (.brokenProgramFault c) s (fun u => u.stream.programs = [{ p with faulted := true }]
      ∧ u.Raised 2 d ⟨2, c⟩
      ∧ (u.sq c).triggers = (s.sq c).triggers ++ [{ at_ := s.nextFix, target := 6, cause := d }])) ∧
  (∀ (s : State) (n : StreamNo),
    s.inReset = false → s.strmState n = 2 → s.stream.programs.all (fun p => p.stream != n.val || p.complete || p.old) = true → 
    Runs (.streamDone n) s (fun u => u.strmState n = 4)) ∧
  (∀ (s : State) (n : StreamNo) (layer : Word) (l : Layer),
    s.stream.layers = [l] → s.inReset = false → l.stream = n.val → l.layer = layer.toNat → l.started = false → dueAt l.start 0 s.ns = true → 
    Runs (.layerStart n layer) s (fun u => u.stream.layers = [{ l with started := true }]
      ∧ u.Raised 0 0x1840 ⟨0, 0⟩))

/-- A PACK_JOB that checks holds its slot and waits; the earliest job starts on the engine that can take it, times out at its
limit, and at its end frees its slot and is answered. CTX_SEED seeds a slot; CTX_PERSIST marks it and waits for the journal write,
whose end answers it. Work without input leaves its engine. A feed takes a free slot, and a flushed chunk of the ERR feed goes out
with the next sequence number. -/
def Obligations.PackWorkRuns : Prop :=
  (∀ (s : State) (p : Pkt),
    s.Serves p.path p.tag → p.path = .pcie → p.target.toNat < 256 → (s.slot p.target.toNat).holder = 0 → p.body.length = 8 → 4 ≤ bodyWord p.body 0 → bodyWord p.body 0 < 8 → bodyWord p.body 7 = 0 → 1 ≤ bodyWord p.body 3 → bodyWord p.body 3 ≤ 16777216 → 65536 ≤ bodyWord p.body 6 → bodyWord p.body 6 ≤ 16777216 → 
    Runs (.packJob p) s (fun u => (u.slot p.target.toNat).holder = 2
      ∧ u.pack.jobs.length = s.pack.jobs.length + 1
      ∧ u.Waits s.cmd.nextOrder (.job p.target.toNat))) ∧
  (∀ (s : State) (j : Job) (e : Nat),
    s.pack.jobs = [j] → s.takeEngine j.slot 1 = some e → s.inReset = false → j.engine = none → 
    Runs (.jobStart) s (fun u => u.pack.jobs = [{ j with engine := some e }])) ∧
  (∀ (s : State) (slot : Fin 256) (j : Job) (p : InFlight),
    s.pack.jobs = [j] → s.cmd.inflight = [p] → s.inReset = false → j.engine = none → j.slot = slot.val → p.wait = .job slot.val → p.path ≠ .ridge → p.orphan = false → 
    Runs (.jobQueueTimeout slot) s (fun u => u.pack.jobs = []
      ∧ u.cmd.inflight = []
      ∧ u.Answered p.path p.tag 0x30 0x02A1)) ∧
  (∀ (s : State) (slot : Fin 256) (input : List Byte) (dmaFail : Bool) (j : Job) (e : Nat) (p : InFlight),
    s.pack.jobs = [j] → j.engine = some e → s.cmd.inflight = [p] → s.inReset = false → j.slot = slot.val → p.wait = .job slot.val → p.path ≠ .ridge → p.orphan = false → 
    Runs (.jobComplete slot input dmaFail) s (fun u => u.pack.jobs = []
      ∧ (u.slot slot).holder = 0
      ∧ u.cmd.inflight = []
      ∧ (dmaFail = true → u.Answered p.path p.tag 1 0x1130))) ∧
  (∀ (s : State) (p : Pkt),
    s.Serves p.path p.tag → p.target.toNat < 256 → (s.slot p.target.toNat).holder = 0 → 2 ≤ p.body.length → p.body.length = 2 + (3 * bodyWord p.body 1 + 3) / 4 → bodyWord p.body 0 ≤ 1 → allZero ((bytesOfWords (p.body.drop 2)).drop (3 * bodyWord p.body 1)) = true → seedValid (seedOf p.body) = true → 
    Runs (.ctxSeed p) s (fun u => (u.slot p.target.toNat).seed = seedOf p.body
      ∧ (u.slot p.target.toNat).state = 0
      ∧ (u.slot p.target.toNat).learned = []
      ∧ (u.slot p.target.toNat).width = startWidth (bodyWord p.body 1)
      ∧ u.Returned p.path p.tag [])) ∧
  (∀ (s : State) (p : Pkt),
    s.Serves p.path p.tag → p.target.toNat < 256 → (s.slot p.target.toNat).holder = 0 → p.body = [1] → s.persistentSlots < 8 → 
    Runs (.ctxPersist p) s (fun u => (u.slot p.target.toNat).persist = true
      ∧ tabGet [] u.pack.journaling p.target.toNat = (u.slot p.target.toNat).image
      ∧ u.Waits s.cmd.nextOrder (.ctxJournal p.target.toNat))) ∧
  (∀ (s : State) (slot : Fin 256) (image : List Byte) (p : InFlight),
    tabGet [] s.pack.journaling slot = image → s.cmd.inflight = [p] → s.inReset = false → image ≠ [] → (s.slot slot).persist = true → p.wait = .ctxJournal slot.val → p.path ≠ .ridge → p.orphan = false → 
    Runs (.contextJournalWriteDone slot) s (fun u => (u.slot slot).journalValid = true
      ∧ u.journal.contexts = tabPut [] s.journal.contexts slot ((image :: tabGet [] s.journal.contexts slot).take 2)
      ∧ u.cmd.inflight = []
      ∧ u.Answered p.path p.tag 0 0)) ∧
  (∀ (s : State) (e : Fin 6),
    s.inReset = false → (s.engine e).active = true → (s.engine e).cls ≠ 1 → s.stream.streams = [] → 
    Runs (.engineSwitch e) s (fun u => (u.engine e).active = false)) ∧
  (∀ (s : State) (feed : Fin 16),
    s.inReset = false → (s.feed feed).enabled = true → (s.feed feed).started = false → (s.slot (s.get F.PACK_TEL_CFG_FIRST_SLOT + feed)).holder = 0 → 
    Runs (.telemetryFeedStart feed) s (fun u => (u.feed feed).started = true
      ∧ (u.feed feed).slot = s.get F.PACK_TEL_CFG_FIRST_SLOT + feed
      ∧ (u.slot (s.get F.PACK_TEL_CFG_FIRST_SLOT + feed)).holder = 3)) ∧
  (∀ (s : State) (feed : Fin 16) (e : Nat),
    s.takeEngine (s.feed feed).slot 2 = some e → s.inReset = false → (s.feed feed).source = 2 → (s.feed feed).started = true → (s.feed feed).carry = [] → (s.feed feed).seq % (s.feed feed).resync ≠ 0 → s.err.telLost = 0 → s.err.telBuf ≠ [] → (encode (s.slot (s.feed feed).slot) s.err.telBuf true ((s.feed feed).chunkMax * 256)).data ≠ [] → s.pairRole < 2 → 
    Runs (.telemetryChunk feed true) s (fun u => (u.feed feed).seq = ((s.feed feed).seq + 1) % 2 ^ 32
      ∧ Output.bytes "TELEMETRY" [s.get F.ERR_TEL_PORT, s.get F.ERR_TEL_IP, s.get F.ERR_TEL_UDP] (chunkHeader feed (s.feed feed).seq (encode (s.slot (s.feed feed).slot) s.err.telBuf true ((s.feed feed).chunkMax * 256)).data.length false ++ (encode (s.slot (s.feed feed).slot) s.err.telBuf true ((s.feed feed).chunkMax * 256)).data) ∈ u.out))

/-- On the summit TIME_STEP in UNSTEPPED adds its operand to device time, enters HOLDOVER with cause 1 and source 3 and counts the
step. TIME_RESET enters UNSTEPPED with rate 0 and source 0 where no channel works and nothing is scheduled. Three PTP measurements
that agree step a summit to LOCKED with source 1, by the third. Markers valid for 1 ms step a member to LOCKED with source 2.
TIME_VERDICT 0 lets the device coast with cause 4, and 1 slews. -/
def Obligations.TimeBaseIsStepped : Prop :=
  (∀ (s : State) (p : Pkt) (lo hi fr : Word),
    s.Serves p.path p.tag → p.body = [lo, hi, fr] → p.target = 0 → s.cascadeRole = 1 → s.get F.TIME_STATE = 0 → 
    Runs (.timeStep p) s (fun u => u.time.now = (((s.time.now : Int) + (signedOf 64 (dword lo hi) * 2 ^ 32 + (fr.toNat : Int))) % (2 ^ 96 : Nat)).toNat
      ∧ u.get F.TIME_STATE = 2
      ∧ u.get F.TIME_STATE_HOLD_CAUSE = 1
      ∧ u.get F.TIME_STATE_SOURCE = 3
      ∧ u.get F.TIME_STATE_STEPS = satN 255 (s.get F.TIME_STATE_STEPS + 1)
      ∧ u.cmd.scheduled = []
      ∧ u.Answered p.path p.tag 0 0)) ∧
  (∀ (s : State) (p : Pkt),
    s.Serves p.path p.tag → p.target = 0 → p.body.length = 3 → s.cascadeRole = 1 → s.get F.TIME_STATE ≠ 0 → 
    Runs (.timeStep p) s (fun u => u.time = s.time
      ∧ u.Answered p.path p.tag 0x10 0x0801)) ∧
  (∀ (s : State) (p : Pkt),
    s.Serves p.path p.tag → p.target = 0 → p.body = [] → s.cascadeRole = 1 → s.mayResetTime = true → s.othersMayReset = true → 
    Runs (.timeReset p) s (fun u => u.get F.TIME_STATE = 0
      ∧ u.get F.TIME_STATE_SOURCE = 0
      ∧ u.get F.TIME_RATE_ADJ = 0
      ∧ u.get F.TIME_RATE_I = 0
      ∧ u.time.clk = s.time.clk
      ∧ u.Answered p.path p.tag 0 0)) ∧
  (∀ (s : State) (p : Pkt),
    s.Serves p.path p.tag → p.target = 0 → p.body = [0] → s.get F.TIME_STATE_HOLD_CAUSE = 3 → 
    Runs (.timeVerdict p) s (fun u => u.get F.TIME_STATE = 2
      ∧ u.get F.TIME_STATE_HOLD_CAUSE = 4
      ∧ u.Answered p.path p.tag 0 0)) ∧
  (∀ (s : State) (p : Pkt),
    s.Serves p.path p.tag → p.target = 0 → p.body = [1] → ((s.get F.TIME_STATE_HOLD_CAUSE = 3 ∨ s.get F.TIME_STATE_HOLD_CAUSE = 4)) → 
    Runs (.timeVerdict p) s (fun u => u.get F.TIME_STATE_SLEWING = 1
      ∧ u.time.slewEnd = some (s.time.clk + (roundHalfEven ((s.time.offset.natAbs : Int) * 1000000) (s.get F.TIME_SLEW_MAX * 2 ^ 32)).toNat * 250)
      ∧ u.Answered p.path p.tag 0 0)) ∧
  (∀ (s : State) (c : Nat),
    s.time.slewEnd = some c → s.inReset = false → 
    Runs (.slewEnd) s (fun u => u.time.slewEnd = none
      ∧ u.get F.TIME_STATE_SLEWING = 0
      ∧ u.time.goodRun = 0
      ∧ u.time.clk = max c s.time.clk)) ∧
  (∀ (s : State) (x y z : Int),
    s.time.firsts = [x, y, z] → s.inReset = false → s.cmd.inflight = [] → s.ptpSource = true → s.get F.TIME_STATE = 0 → max x (max y z) - min x (min y z) ≤ (s.get F.TIME_JUMP_THRESH : Int) * 2 ^ 32 → 
    Runs (.ptpFirstStep) s (fun u => u.get F.TIME_STATE = 1
      ∧ u.get F.TIME_STATE_SOURCE = 1
      ∧ u.time.now = (((s.time.now : Int) + -x) % (2 ^ 96 : Nat)).toNat
      ∧ u.get F.TIME_STATE_STEPS = satN 255 (s.get F.TIME_STATE_STEPS + 1))) ∧
  (∀ (s : State) (c : Nat),
    s.time.markersSince = some c → s.inReset = false → s.cmd.inflight = [] → s.isSummit = false → s.get F.TIME_STATE = 0 → c + 250000 ≤ s.time.clk → 
    Runs (.memberStep) s (fun u => u.get F.TIME_STATE = 1
      ∧ u.get F.TIME_STATE_SOURCE = 2
      ∧ u.time.now = (((s.time.now : Int) + -s.time.offset) % (2 ^ 96 : Nat)).toNat))

/-- A summit's Sync of the master followed, with the path delay known, gives a measurement; a message of another port is dropped
and counted; the answer to the peer delay request sets PATH_DELAY. Requests and Sync leave with the next sequence number. A
measurement within JUMP_THRESH is shown and clears JUMP_SEEN. At JUMP_COUNT the jump is refused into HOLDOVER with cause 3 and
WARN 0x0820. A lost master with no other announced, lost syncs, a summit's changed source or lost markers give HOLDOVER with cause
2 and WARN 0x0821, and enough good measurements give LOCKED. Markers are sent, forwarded and used. -/
def Obligations.TimeFollowsItsSource : Prop :=
  (∀ (s a : State) (t : Nat) (port : Bool) (m : PtpMsg) (stamp : Nat) (d : Int),
    s.Awake t a → a.time.ptpDelay = some d → port = a.ptpPort → a.ptpUp = true → m.l2 = a.has F.TIME_CFG_L2 → a.isSummit = true → ((a.time.ptpParent = none ∨ a.time.ptpParent = some m.source)) → m.kind = 0 → m.domain = a.get F.TIME_CFG_DOMAIN → a.time.ptpIsMaster = false → -4 ≤ m.logInterval → m.logInterval ≤ 1 → m.twoStep = false → 
    Runs (.ptpMessageRx t port m stamp) s (fun u => u.time.measured = some (((((stamp : Int) + a.tsCorr 1) - ((m.stamp : Int) + m.correction) - a.getI F.TIME_ASYM)) * 65536 - d, 16, 2 ^ (32 + (m.logInterval + 4).toNat))
      ∧ u.get F.TIME_STATE = a.get F.TIME_STATE)) ∧
  (∀ (s a : State) (t : Nat) (port : Bool) (m : PtpMsg) (stamp : Nat),
    s.Awake t a → a.ptpUp = true → ((port ≠ a.ptpPort ∨ m.domain ≠ a.get F.TIME_CFG_DOMAIN)) → 
    Runs (.ptpMessageRx t port m stamp) s (fun u => u.time = { a.time with ptpDropped := a.time.ptpDropped + 1 })) ∧
  (∀ (s a : State) (t : Nat) (port : Bool) (m : PtpMsg) (stamp : Nat) (q : Nat) (t1 : Int),
    s.Awake t a → a.time.ptpReq = some (q, t1) → port = a.ptpPort → a.ptpUp = true → m.l2 = a.has F.TIME_CFG_L2 → a.has F.TIME_CFG_P2P = true → m.seq = q → m.kind = 3 → m.domain = a.get F.TIME_CFG_DOMAIN → m.twoStep = false → 
    Runs (.ptpMessageRx t port m stamp) s (fun u => u.time.ptpReq = none
      ∧ u.time.ptpDelay = some (((stamp : Int) + a.tsCorr 1 - t1 - m.correction) * 32768)
      ∧ u.get F.TIME_PATH_DELAY = fieldOf 32 (roundHalfEven (((stamp : Int) + a.tsCorr 1 - t1 - m.correction) * 32768) (2 ^ 24)))) ∧
  (∀ (s a : State) (t stamp : Nat),
    s.Awake t a → a.time.ptpIsMaster = true → a.ptpUp = true → a.has F.TIME_CFG_ONE_STEP = true → 
    Runs (.ptpSyncTx t stamp) s (fun u => Output.signal "PTP_SYNC" [a.time.ptpSyncSeq, a.get F.TIME_CFG_DOMAIN, (stamp : Int) + a.tsCorr 0, a.ptpVia] ∈ u.out
      ∧ u.time.ptpSyncSeq = (a.time.ptpSyncSeq + 1) % 65536)) ∧
  (∀ (s a : State) (t stamp : Nat),
    s.Awake t a → a.time.ptpIsMaster = true → a.ptpUp = true → a.has F.TIME_CFG_ONE_STEP = false → 
    Runs (.ptpSyncTx t stamp) s (fun u => Output.signal "PTP_FOLLOW_UP" [a.time.ptpSyncSeq, (stamp : Int) + a.tsCorr 0, a.ptpVia] ∈ u.out
      ∧ Output.signal "PTP_SYNC" [a.time.ptpSyncSeq, a.get F.TIME_CFG_DOMAIN, 0, a.ptpVia] ∈ u.out
      ∧ u.time.ptpSyncSeq = (a.time.ptpSyncSeq + 1) % 65536)) ∧
  (∀ (s a : State) (t stamp : Nat),
    s.Awake t a → a.time.ptpIsMaster = false → a.isSummit = true → a.ptpUp = true → a.has F.TIME_CFG_P2P = false → 
    Runs (.delayReqTx t stamp) s (fun u => Output.signal "PTP_DELAY_REQ" [a.time.ptpDelaySeq, a.get F.TIME_CFG_DOMAIN, a.ptpVia] ∈ u.out
      ∧ u.time.ptpReq = some (a.time.ptpDelaySeq, (stamp : Int) + a.tsCorr 0)
      ∧ u.time.ptpDelaySeq = (a.time.ptpDelaySeq + 1) % 65536)) ∧
  (∀ (s : State) (theta : Int) (en ed : Nat),
    s.time.measured = some (theta, en, ed) → s.inReset = false → s.ptpSource = true → s.get F.TIME_STATE = 1 → s.inThreshold theta = true → 
    Runs (.ptpMeasurement) s (fun u => u.time.measured = none
      ∧ u.time.offset = theta
      ∧ u.getI F.TIME_OFFSET = clampI (-2147483648) 2147483647 (nsOf theta)
      ∧ u.get F.TIME_STATE_MASTER = 1
      ∧ u.get F.TIME_STATE_JUMP_SEEN = 0
      ∧ u.get F.TIME_STATE = 1)) ∧
  (∀ (s : State) (theta : Int) (en ed : Nat),
    s.time.measured = some (theta, en, ed) → s.inReset = false → s.ptpSource = true → s.get F.TIME_STATE = 1 → s.inThreshold theta = false → 
    Runs (.ptpMeasurement) s (fun u => u.get F.TIME_STATE_JUMP_SEEN = satN 15 (s.get F.TIME_STATE_JUMP_SEEN + 1)
      ∧ u.get F.TIME_RATE_ADJ = s.get F.TIME_RATE_ADJ
      ∧ u.get F.TIME_RATE_I = s.get F.TIME_RATE_I)) ∧
  (∀ (s : State),
    s.inReset = false → s.jumpDue = true → 
    Runs (.jumpRefused) s (fun u => u.get F.TIME_STATE = 2
      ∧ u.get F.TIME_STATE_HOLD_CAUSE = 3
      ∧ u.get F.TIME_STATE_JUMP_REFUSED = 1
      ∧ u.get F.TIME_STATE_JUMP_SEEN = 0
      ∧ u.getI F.TIME_REFUSED_OFFSET = s.getI F.TIME_OFFSET
      ∧ u.Raised 1 0x0820 ⟨1, 0x08⟩)) ∧
  (∀ (s : State),
    s.inReset = false → s.exitDue = true → 
    Runs (.holdoverExit) s (fun u => u.get F.TIME_STATE = 1
      ∧ u.get F.TIME_STATE_HOLD_CAUSE = 0
      ∧ (u.get F.TIME_STATE_SOURCE = (if s.isSummit then 1 else 2)))) ∧
  (∀ (s a : State) (t : Nat),
    s.Awake t a → a.time.ptpMaster = true → a.time.ptpAnnounceClk + a.announceTimeout ≤ a.time.clk → a.ptpSource = true → a.get F.TIME_STATE = 1 → a.time.ptpForeign = [] → 
    Runs (.announceReceiptTimeout t) s (fun u => u.time.ptpMaster = false
      ∧ u.time.ptpIsMaster = a.has F.TIME_CFG_MASTER_EN
      ∧ u.get F.TIME_STATE = 2
      ∧ u.get F.TIME_STATE_HOLD_CAUSE = 2
      ∧ u.get F.TIME_STATE_MASTER = 0
      ∧ u.Raised 1 0x0821 ⟨1, 0x08⟩)) ∧
  (∀ (s a : State) (t : Nat),
    s.Awake t a → a.ptpSource = true → a.get F.TIME_STATE = 1 → a.time.ptpMeasureClk * 16 + 4 * 2 ^ (a.time.ptpLogSync + 4).toNat * 250000000 ≤ a.time.clk * 16 → 
    Runs (.syncLoss t) s (fun u => u.get F.TIME_STATE = 2
      ∧ u.get F.TIME_STATE_HOLD_CAUSE = 2
      ∧ u.Raised 1 0x0821 ⟨1, 0x08⟩)) ∧
  (∀ (s a : State) (t : Nat),
    s.Awake t a → a.has F.TIME_CFG_AUTO_PORT = true → (if a.ptpPort then a.host.pcsLock1 else a.host.pcsLock0) = false → 
    Runs (.ptpPortSwitch t) s (fun u => u.ptpPort = !a.ptpPort
      ∧ u.get F.TIME_STATE_PORT_SWITCHED = 1
      ∧ u.time.ptpDelay = none)) ∧
  (∀ (s : State) (h : Hdr) (v : Word),
    s.Serves h.path h.tag → s.writesError h.path true [⟨0x080010, BitVec.allOnes 32, v⟩] = none → v.toNat % 2 ≠ s.get F.TIME_CFG_SOURCE → s.get F.TIME_STATE = 1 → s.isSummit = true → 
    Runs (.timeCfgSourceChange h v) s (fun u => u.get F.TIME_CFG_SOURCE = v.toNat % 2
      ∧ u.get F.TIME_STATE = 2
      ∧ u.get F.TIME_STATE_HOLD_CAUSE = 2
      ∧ u.Raised 1 0x0821 ⟨1, 0x08⟩
      ∧ u.Answered h.path h.tag 0 0)) ∧
  (∀ (s a : State) (t : Nat),
    s.Awake t a → a.isSummit = true → 
    Runs (.markerSend t) s (fun u => u.time = { a.time with nextMarker := (a.time.nextMarker + 1) % 2 ^ 32 }
      ∧ Output.signal "MARKER" [0, a.time.nextMarker, a.time.now, 0, a.getI F.TIME_RATE_ADJ, a.get F.TIME_STATE, a.get F.TIME_STATE_HOLD_CAUSE] ∈ u.out
      ∧ Output.signal "MARKER" [1, a.time.nextMarker, a.time.now, 0, a.getI F.TIME_RATE_ADJ, a.get F.TIME_STATE, a.get F.TIME_STATE_HOLD_CAUSE] ∈ u.out)) ∧
  (∀ (s a : State) (m : Machine.RidgeMsg) (k : Marker) (residence : Nat),
    s.Awake m.t a → a.isSummit = false → a.takes 0x04 m = true → 
    Runs (.markerRx m k residence) s (fun u => (Output.signal "MARKER" [if m.cw then 0 else 1, k.number, k.departure, ((k.correction + residence : Nat) : Int), k.adj, k.state, k.holdCause] ∈ u.out)
      ∧ u.time.now = a.time.now)) ∧
  (∀ (s a : State) (m : Machine.RidgeMsg) (k : Marker) (residence : Nat),
    s.Awake m.t a → a.isSummit = false → a.takes 0x04 m = true → m.cw = a.time.markerCw → k.departure + k.correction < a.time.now + 2 ^ 95 → a.time.now < k.departure + k.correction + 2 ^ 95 → 
    Runs (.markerRx m k residence) s (fun u => u.time.offset = (a.time.now : Int) - ((k.departure + k.correction : Nat) : Int)
      ∧ u.time.markerNumber = k.number
      ∧ u.time.summitState = k.state
      ∧ u.get F.TIME_STATE_MASTER = 1)) ∧
  (∀ (s a : State) (t : Nat) (c : Nat),
    s.Awake t a → (if a.time.markerCw then a.time.markerClkCw else a.time.markerClkCcw) = some c → a.isSummit = false → c + 75000 ≤ a.time.clk → 
    Runs (.markerDirectionChange t) s (fun u => u.time = { a.time with markerCw := !a.time.markerCw, markerMissed := 0 })) ∧
  (∀ (s a : State) (t : Nat) (c : Nat) (d : Nat),
    s.Awake t a → a.time.markerClkCw = some c → a.time.markerClkCcw = some d → a.isSummit = false → c + 250000 ≤ a.time.clk → d + 250000 ≤ a.time.clk → a.get F.TIME_STATE = 1 → 
    Runs (.markerLossHoldover t) s (fun u => u.get F.TIME_STATE = 2
      ∧ u.get F.TIME_STATE_HOLD_CAUSE = 2
      ∧ u.time.markersSince = none
      ∧ u.Raised 1 0x0821 ⟨1, 0x08⟩)) ∧
  (∀ (s : State),
    s.inReset = false → s.isSummit = false → 10 ≤ s.time.misalignRun → s.has F.TIME_STATE_MISALIGN = false → 
    Runs (.misalign) s (fun u => u.get F.TIME_STATE_MISALIGN = 1
      ∧ u.Raised 3 0x0822 ⟨1, 0x08⟩)) ∧
  (∀ (s a : State) (t : Nat) (link : Fin 4) (delay : Half),
    s.Awake t a → a.linkUp link = true → 
    Runs (.ridgeDelayMeasure t link delay) s (fun u => u.get (F.RIDGE_LINK_STAT_DELAY link) = delay.toNat))

/-- A pulse of a running TRIG program that is due and not past rises: the output is active, on the pin where the device drives it,
its fall is set WIDTH after the due instant, and the program goes on to the next pulse. At that instant the output goes inactive.
An enabled edge of a capture input joins its FIFO with the device time and its direction while there is room, and is counted as an
overflow otherwise. CAP_READ removes and returns the oldest entries in order. -/
def Obligations.TrigPulsesAndCaptures : Prop :=
  (∀ (s a : State) (t : Nat) (n : Fin 24),
    s.Awake t a → (a.trig n).active = true → a.dev ≠ 0 → a.dev ≠ 5 → a.trigAhead n (a.trig n).pulse a.ns ≤ 0 → -4 ≤ a.trigAhead n (a.trig n).pulse a.ns → 
    Runs (.trigPulseRise t n) s (fun u => (u.trig n).level = true
      ∧ (u.trig n).pulse = (a.trig n).pulse + 1
      ∧ (u.trig n).fallAt = ((a.ns : Int) + a.trigAhead n (a.trig n).pulse a.ns + a.get (F.TIME_TRIG_WIDTH n)).toNat
      ∧ (a.drivesOutputs = true → Output.signal "TRIG" [((n : Nat) : Int), 1, a.get (F.TIME_TRIG_CTRL_POL n)] ∈ u.out)
      ∧ u.get (F.TIME_TRIG_STAT_SKIPPED n) = a.get (F.TIME_TRIG_STAT_SKIPPED n))) ∧
  (∀ (s a : State) (t : Nat) (n : Fin 24),
    s.Awake t a → (a.trig n).level = true → (a.trig n).fallAt ≤ a.ns → 
    Runs (.trigPulseFall t n) s (fun u => u.trig n = { a.trig n with level := false }
      ∧ (a.drivesOutputs = true → Output.signal "TRIG" [((n : Nat) : Int), 0, a.get (F.TIME_TRIG_CTRL_POL n)] ∈ u.out))) ∧
  (∀ (s a : State) (t : Nat) (n : Fin 8) (rising : Bool),
    s.Awake t a → (if rising then a.get (F.TIME_CAP_CFG_EDGE n) % 2 = 1 else 2 ≤ a.get (F.TIME_CAP_CFG_EDGE n)) → (a.cap n).entries.length < 16 → 
    Runs (.capEdge t n rising) s (fun u => u.cap n = { entries := (a.cap n).entries ++ [⟨a.ns, rising, (a.cap n).overflowed⟩], overflowed := false }
      ∧ u.get (F.TIME_CAP_STAT_DEPTH n) = (a.cap n).entries.length + 1)) ∧
  (∀ (s a : State) (t : Nat) (n : Fin 8) (rising : Bool),
    s.Awake t a → (if rising then a.get (F.TIME_CAP_CFG_EDGE n) % 2 = 1 else 2 ≤ a.get (F.TIME_CAP_CFG_EDGE n)) → 16 ≤ (a.cap n).entries.length → 
    Runs (.capEdge t n rising) s (fun u => (u.cap n).entries = (a.cap n).entries
      ∧ (u.cap n).overflowed = true
      ∧ u.get (F.TIME_CAP_STAT_OVERFLOW n) = satN 65535 (a.get (F.TIME_CAP_STAT_OVERFLOW n) + 1))) ∧
  (∀ (s : State) (p : Pkt) (n : Word),
    s.Serves p.path p.tag → p.body = [n] → p.target.toNat < 8 → 1 ≤ n.toNat → n.toNat ≤ 16 → 
    Runs (.capRead p) s (fun u => (u.cap p.target.toNat).entries = (s.cap p.target.toNat).entries.drop n.toNat
      ∧ u.Returned p.path p.tag (((s.cap p.target.toNat).entries.take n.toNat).flatMap CapEntry.words)))

/-- SCAN_FLUSH of everything, on a channel that neither runs nor holds, leaves its queue and its staging empty. SCAN_TABLE_LOAD
writes its nodes into the named buffer, sets LOADED and shows the CRC of the whole buffer, and is refused with 0x1831 where the
buffer is in use. SCAN_PLAN answers and changes no channel. -/
def Obligations.QueuesAndTablesAreServed : Prop :=
  (∀ (s : State) (p : Pkt) (c : Nat),
    s.Serves p.path p.tag → p.target.toNat = c → c < 64 → p.body = [1] → s.ch c ≠ 3 → s.ch c ≠ 4 → 
    Runs (.scanFlush p) s (fun u => (u.sq c).queue = []
      ∧ tabGet [] u.stream.staging c = []
      ∧ u.Answered p.path p.tag 0 0)) ∧
  (∀ (s : State) (p : Pkt) (c : Nat) (v : Word),
    s.Serves p.path p.tag → p.target.toNat = c → p.body = [v] → c < 64 → v.toNat ≤ 1 → ((s.ch c = 3 ∨ s.ch c = 4)) → 
    Runs (.scanFlush p) s (fun u => u.seq = s.seq
      ∧ u.stream = s.stream
      ∧ u.Answered p.path p.tag 0x10 0x18F5)) ∧
  (∀ (s : State) (p : Pkt) (c : Nat) (first : Nat) (n : Nat),
    s.Serves p.path p.tag → p.target.toNat - 256 = c → (p.body.headD 0).toNat % 65536 = first → (p.body.headD 0).toNat / 65536 = n → c < 64 → p.target.toNat = 256 + c → 1 ≤ n → n ≤ 1364 → first + n ≤ 4225 → p.body.length = 1 + 3 * n → s.gridInUse c 1 = false → 
    Runs (.scanTableLoad p) s (fun u => u.get (F.SEQ_TABLE_STAT_LOADED1 c) = 1
      ∧ u.get (F.SEQ_TABLE_CRC1 c) = crc32 (gridBytes (u.sq c).grid1)
      ∧ (u.sq c).grid0 = (s.sq c).grid0
      ∧ (∀ j < n, tabGet (0, 0, 0) (u.sq c).grid1 (first + j) =
      ((p.body.getD (1 + 3 * j) 0).toInt, (p.body.getD (1 + 3 * j + 1) 0).toInt, (p.body.getD (1 + 3 * j + 2) 0).toInt))
      ∧ u.Answered p.path p.tag 0 0)) ∧
  (∀ (s : State) (p : Pkt) (c : Nat) (first : Nat) (n : Nat),
    s.Serves p.path p.tag → p.target.toNat - 256 = c → (p.body.headD 0).toNat % 65536 = first → (p.body.headD 0).toNat / 65536 = n → c < 64 → p.target.toNat = 256 + c → 1 ≤ n → n ≤ 1364 → first + n ≤ 4225 → p.body.length = 1 + 3 * n → s.gridInUse c 1 = true → 
    Runs (.scanTableLoad p) s (fun u => u.seq = s.seq
      ∧ u.Answered p.path p.tag 0x10 0x1831)) ∧
  (∀ (s : State) (p : Pkt) (v : Word),
    s.Serves p.path p.tag → p.body = [v] → p.target.toNat < 64 → 1 ≤ v.toNat → v.toNat ≤ 64 → 
    Runs (.scanPlan p) s (fun u => u.seq = s.seq
      ∧ u.Answered p.path p.tag 0 0))

/-- A trip found on a scanner axis sets its trip bit on every axis that shows it, raises 0x2010 or 0x2011 for the channel and asks
for SAFE at the next apply instant; a following error sets FE_TRIP and raises 0x2020 for the axis; an emission monitor trip warns
with 0x2801 or, with MON_ACT 2, raises 0x2802 and asks for SAFE. -/
def Obligations.SupervisionTripsAct : Prop :=
  (∀ (s : State) (c : Chan),
    s.inReset = false → ((∃ x : Fin 3, (s.ax c x).oscTrip = true)) → s.chAt c (s.sq c).built ≠ 5 → 
    Runs (.oscillationTrip c) s (fun u => u.Raised 2 0x2010 ⟨2, c⟩
      ∧ (∀ x : Fin 3, (s.ax c x).oscTrip = true → u.get (F.LOOP_AX_STAT_OSC_TRIP c x) = 1)
      ∧ { at_ := (s.sq c).built + 1, target := 5, cause := 0x2010, trip := true } ∈ (u.sq c).triggers)) ∧
  (∀ (s : State) (c : Chan),
    s.inReset = false → ((∃ x : Fin 3, (s.ax c x).satTrip = true)) → ((∀ x : Fin 3, (s.ax c x).oscTrip = false)) → s.chAt c (s.sq c).built ≠ 5 → 
    Runs (.saturationTrip c) s (fun u => u.Raised 2 0x2011 ⟨2, c⟩
      ∧ (∀ x : Fin 3, (s.ax c x).satTrip = true → u.get (F.LOOP_AX_STAT_SAT_TRIP c x) = 1)
      ∧ { at_ := (s.sq c).built + 1, target := 5, cause := 0x2011, trip := true } ∈ (u.sq c).triggers)) ∧
  (∀ (s : State) (n : AxisNo),
    s.inReset = false → (s.ma n).feTrip = true → 
    Runs (.followingErrorTrip n) s (fun u => u.get (F.AXIS_LSTAT_FE_TRIP n) = 1
      ∧ (u.ma n).feTrip = false
      ∧ u.Raised 2 0x2020 ⟨3, n⟩)) ∧
  (∀ (s : State) (c : Chan),
    s.inReset = false → (s.pow c).monActed = false → (s.inForce (s.sq c).built).has (F.POWER_PCTRL_MON_EN c) = true → (s.inForce (s.sq c).built).get (F.POWER_COUNTS_MON_COUNT c) ≤ s.get (F.POWER_P_STAT_MON_RUN c) → (s.inForce (s.sq c).built).get (F.POWER_PCTRL_MON_ACT c) = 1 → 
    Runs (.emissionMonitorTrip c) s (fun u => (u.pow c).monActed = true
      ∧ u.Raised 1 0x2801 ⟨2, c⟩)) ∧
  (∀ (s : State) (c : Chan),
    s.inReset = false → (s.pow c).monActed = false → (s.inForce (s.sq c).built).has (F.POWER_PCTRL_MON_EN c) = true → (s.inForce (s.sq c).built).get (F.POWER_COUNTS_MON_COUNT c) ≤ s.get (F.POWER_P_STAT_MON_RUN c) → (s.inForce (s.sq c).built).get (F.POWER_PCTRL_MON_ACT c) = 2 → 
    Runs (.emissionMonitorTrip c) s (fun u => u.get (F.POWER_P_STAT_MON_TRIP c) = 1
      ∧ { at_ := (s.sq c).built + 1, target := 5, cause := 0x2802 } ∈ (u.sq c).triggers
      ∧ u.Raised 2 0x2802 ⟨2, c⟩))

/-- TRACE_ARM empties the buffers and enters ARMED, and is refused with 0x21F5 while armed or triggered. TRACE_FORCE in ARMED
makes the next sampled instant the trigger. TRACE_STOP enters DONE with the samples stored, and so does the storing of the last
post-trigger sample. TRACE_READ of stored samples waits for the next frame boundary. -/
def Obligations.TraceRuns : Prop :=
  (∀ (s : State) (p : Pkt),
    s.Serves p.path p.tag → p.target = 0 → p.body = [] → s.get F.TRACE_TSTAT_STATE ≠ 1 → s.get F.TRACE_TSTAT_STATE ≠ 2 → 
    Runs (.traceArm p) s (fun u => u.get F.TRACE_TSTAT_STATE = 1
      ∧ u.trace = {}
      ∧ u.get F.TRACE_TCOUNT = 0
      ∧ u.Returned p.path p.tag [])) ∧
  (∀ (s : State) (p : Pkt),
    s.Serves p.path p.tag → p.target = 0 → p.body = [] → ((s.get F.TRACE_TSTAT_STATE = 1 ∨ s.get F.TRACE_TSTAT_STATE = 2)) → 
    Runs (.traceArm p) s (fun u => u.trace = s.trace
      ∧ u.Answered p.path p.tag 0x10 0x21F5)) ∧
  (∀ (s : State) (p : Pkt),
    s.Serves p.path p.tag → p.target = 0 → p.body = [] → s.get F.TRACE_TSTAT_STATE = 1 → 
    Runs (.traceForce p) s (fun u => u.trace = { s.trace with force := true }
      ∧ u.get F.TRACE_TSTAT_STATE = 1
      ∧ u.Returned p.path p.tag [])) ∧
  (∀ (s : State) (p : Pkt),
    s.Serves p.path p.tag → p.target = 0 → p.body = [] → ((s.get F.TRACE_TSTAT_STATE = 1 ∨ s.get F.TRACE_TSTAT_STATE = 2)) → 
    Runs (.traceStop p) s (fun u => u.trace = s.trace
      ∧ u.get F.TRACE_TSTAT_STATE = 3
      ∧ u.Returned p.path p.tag [])) ∧
  (∀ (s : State) (p : Pkt) (j n : Word),
    s.Serves p.path p.tag → p.body = [j, n] → p.target.toNat < 16 → 1 ≤ n.toNat → n.toNat ≤ 4088 → j.toNat + n.toNat ≤ s.trace.rows.length → 
    Runs (.traceRead p) s (fun u => u.trace = s.trace
      ∧ u.Waits s.cmd.nextOrder (.read (s.us + 1)))) ∧
  (∀ (s : State),
    s.inReset = false → s.get F.TRACE_TSTAT_STATE = 2 → s.trace.left = 0 → 
    Runs (.traceDone) s (fun u => u.get F.TRACE_TSTAT_STATE = 3
      ∧ u.trace = s.trace))

/-- LEDGER_READ of at most 8,176 cells waits for the next frame boundary. LEDGER_FILL with a valid rectangle and an instant 50 µs
to 10 s ahead joins the fills and waits for that instant, and with an instant out of that range it is refused with 0x2902. At the
instant every cell of the rectangle in the region holds the energy with the tick of the instant, the fill is gone, and the packet
is answered DONE. -/
def Obligations.LedgerAnswersAndFills : Prop :=
  (∀ (s : State) (p : Pkt) (o d : Word),
    s.Serves p.path p.tag → p.body = [o, d] → p.target = 0 → 1 ≤ (d.toNat % 65536) * (d.toNat / 65536) → (d.toNat % 65536) * (d.toNat / 65536) ≤ 8176 → 
    Runs (.ledgerRead p) s (fun u => u.ledger = s.ledger
      ∧ u.Waits s.cmd.nextOrder (.ledgerRead (s.us + 1)))) ∧
  (∀ (s : State) (p : Pkt) (lo hi o d e : Word),
    s.Serves p.path p.tag → p.body = [lo, hi, o, d, e] → p.target = 0 → 1 ≤ (d.toNat % 65536) * (d.toNat / 65536) → (d.toNat % 65536) * (d.toNat / 65536) ≤ 16384 → e.toNat < 65536 → s.ns + 50000 ≤ dword lo hi * 1000 → dword lo hi * 1000 ≤ s.ns + 10000000000 → 
    Runs (.ledgerFill p) s (fun u => u.ledger.fills = s.ledger.fills ++ [{ h := dword lo hi, i0 := signedOf 16 (o.toNat % 65536), j0 := signedOf 16 (o.toNat / 65536), w := d.toNat % 65536, hh := d.toNat / 65536, energy := e.toNat, order := s.cmd.nextOrder }]
      ∧ u.Waits s.cmd.nextOrder (.ledgerFill (dword lo hi)))) ∧
  (∀ (s : State) (p : Pkt) (lo hi o d e : Word),
    s.Serves p.path p.tag → p.body = [lo, hi, o, d, e] → p.target = 0 → 1 ≤ (d.toNat % 65536) * (d.toNat / 65536) → (d.toNat % 65536) * (d.toNat / 65536) ≤ 16384 → e.toNat < 65536 → ((dword lo hi * 1000 < s.ns + 50000 ∨ s.ns + 10000000000 < dword lo hi * 1000)) → 
    Runs (.ledgerFill p) s (fun u => u.ledger = s.ledger
      ∧ u.Answered p.path p.tag 0x10 0x2902)) ∧
  (∀ (s a : State) (h : Nat) (p : InFlight) (x : Fill),
    s.Awake (h * 1000) a → a.cmd.inflight = [p] → a.ledger.fills = [x] → p.wait = .ledgerFill h → p.path ≠ .ridge → p.orphan = false → x.h = h → x.done = false → 
    Runs (.ledgerFillApply h) s (fun u => u.ledger.fills = []
      ∧ (∀ n ∈ a.ledger.rectangle x.i0 x.j0 x.w x.hh, u.ledger.cell n = (x.energy, tickOf a.ledger.cfg h))
      ∧ u.cmd.inflight = []
      ∧ u.Answered p.path p.tag 0 0))

/-- The own digest of a period is sent at d - 400 ns. A valid digest of an expected position that arrives by d + 8 µs is held for
its period; one from outside POSITIONS is discarded, and a partner's copy fills a missing one and is counted. At the deadline a
device without a partner counts each absence. The checks of the period are made at their start, and the verdicts of every marked
beam are fixed at d + 16 µs; without checks 0x30E0 is raised. A run of losses is reported once. COL_READ returns the digest of the
latest checked period. -/
def Obligations.DigestsDecideTheYields : Prop :=
  (∀ (s a : State) (d : Nat) (g : Digest),
    s.Awake (d * 1000 - 400) a → a.ownDigest d = some g → a.sendsDigest d = true → 
    Runs (.digestTransmit d) s (fun u => Output.bytes "DIGEST" [(d : Int)] g.bytes ∈ u.out
      ∧ u.col = a.col)) ∧
  (∀ (s a : State) (m : Machine.RidgeMsg) (g : Digest),
    s.Awake m.t a → digestOf m.payload = some g → bitsOf ((a.atPeriod g.d).get F.COL_POSITIONS) g.pos 1 = 1 → g.pos ≠ a.position → g.d % 10 = 0 → a.ns ≤ (g.d + 8) * 1000 → g.d * 1000 ≤ a.ns + 2000 → a.heldDigest g.pos g.d = none → a.buildsDigest a = true → a.takes 0x07 m = true → 
    Runs (.digestRx m.toRidgeHead m.payload) s (fun u => u.heldDigest g.pos g.d = some g
      ∧ u.col.got = (g :: a.col.got).take 128)) ∧
  (∀ (s a : State) (m : Machine.RidgeMsg) (g : Digest),
    s.Awake m.t a → digestOf m.payload = some g → bitsOf ((a.atPeriod g.d).get F.COL_POSITIONS) g.pos 1 = 0 → g.pos ≠ a.position → a.takes 0x07 m = true → 
    Runs (.digestRx m.toRidgeHead m.payload) s (fun u => u.col.got = a.col.got
      ∧ u.col.discarded = a.col.discarded + 1
      ∧ u.ledger = a.ledger)) ∧
  (∀ (s a : State) (m : Machine.RidgeMsg) (bytes : List Byte) (g : Digest),
    s.Awake m.t a → digestOf bytes = some g → bitsOf ((a.atPeriod g.d).get F.COL_POSITIONS) g.pos 1 = 1 → g.pos ≠ a.position → a.ns ≤ (g.d + 9) * 1000 → a.heldDigest g.pos g.d = none → a.takes 0x14 m = true → 
    Runs (.digestFill m (.answer bytes)) s (fun u => u.heldDigest g.pos g.d = some { g with filled := true }
      ∧ u.get (F.COL_MISS_FILLS g.pos) = satN 65535 (a.get (F.COL_MISS_FILLS g.pos) + 1))) ∧
  (∀ (s a : State) (m : Machine.RidgeMsg) (d p : Nat) (g : Digest),
    s.Awake m.t a → a.heldDigest p d = some g → a.takes 0x14 m = true → 
    Runs (.digestFill m (.request d [p])) s (fun u => Output.bytes "DIGEST_FILL" [(d : Int), p] g.bytes ∈ u.out
      ∧ u.col = a.col)) ∧
  (∀ (s a : State) (d : Nat),
    s.Awake ((d + 8) * 1000) a → a.paired = false → a.buildsDigest (a.atPeriod d) = true → a.col.countedFor ≠ some d → 
    Runs (.digestDeadline d) s (fun u => u.col.countedFor = some d
      ∧ (∀ q ∈ a.missingDigests d, q ∈ u.col.absent ∧ u.get (F.COL_MISS_MISSED q) = satN 65535 (a.get (F.COL_MISS_MISSED q) + 1))
      ∧ (∀ q ∈ a.missingDigests d, q ∉ a.col.absent → u.Raised 1 0x3010 ⟨1, 0x30⟩))) ∧
  (∀ (s a : State) (d : Nat) (g : Digest),
    s.Awake ((d + 9) * 1000) a → a.ownDigest d = some g → 
    Runs (.pairChecksStart d) s (fun u => u.col.checked.map (fun x => x.1) = some d)) ∧
  (∀ (s a : State) (d : Nat) (g : Digest) (l : List Finding),
    s.Awake ((d + 16) * 1000) a → a.ownDigest d = some g → a.col.checked = some (d, l) → (a.atPeriod d).has F.COL_CFG_ENABLE = true → 
    Runs (.verdictFix d) s (fun u => u.get64 F.COL_CHK_LO F.COL_CHK_HI = d % 2 ^ 64
      ∧ u.col.checked = none
      ∧ (∀ c : Fin 64, g.entries.any (fun e => e.mark != 0 && e.ch == c) = true → u.col.verdicts.any (fun v => v.w == (d + 50) / 10 && v.ch == c) = true))) ∧
  (∀ (s a : State) (d : Nat) (g : Digest),
    s.Awake ((d + 16) * 1000) a → a.ownDigest d = some g → a.col.checked = none → (a.atPeriod d).has F.COL_CFG_ENABLE = true → 
    Runs (.verdictFix d) s (fun u => u.Raised 4 0x30E0 ⟨0, 0⟩
      ∧ (∀ c : Fin 64, g.entries.any (fun e => e.mark != 0 && e.ch == c) = true → u.col.verdicts.any (fun v => v.w == (d + 50) / 10 && v.ch == c && v.lose) = true))) ∧
  (∀ (s : State) (c : Chan),
    s.inReset = false → s.get F.COL_CFG_YIELD_WARN ≠ 0 → s.get F.COL_CFG_YIELD_WARN ≤ tabGet 0 s.col.loseRun c → s.col.warned.contains (c : Nat) = false → 
    Runs (.yieldWarn c) s (fun u => u.col.warned = (c : Nat) :: s.col.warned
      ∧ u.Raised 1 0x3011 ⟨2, c⟩)) ∧
  (∀ (s : State) (p : Pkt),
    s.Serves p.path p.tag → p.target.toNat < 16 → p.body = [] → s.heldDigest p.target.toNat (s.get64 F.COL_CHK_LO F.COL_CHK_HI) = none → 
    Runs (.colRead p) s (fun u => u.col = s.col
      ∧ u.Returned p.path p.tag (lowHigh (s.get64 F.COL_CHK_LO F.COL_CHK_HI) ++ [0]))) ∧
  (∀ (s : State) (p : Pkt) (g : Digest),
    s.Serves p.path p.tag → s.heldDigest p.target.toNat (s.get64 F.COL_CHK_LO F.COL_CHK_HI) = some g → p.target.toNat < 16 → p.body = [] → 
    Runs (.colRead p) s (fun u => u.col = s.col
      ∧ (u.Returned p.path p.tag (lowHigh (s.get64 F.COL_CHK_LO F.COL_CHK_HI) ++ [word (1 + (if g.filled then 2 else 0))] ++ wordsOfBytes g.bytes))))

/-- A change of one quadrature line moves POS by its sense, negated by INV, and clears STILL; a change of both is counted as QERR.
A change between adjacent hall states moves POS; 0 and 7 set HALL_BAD. A qualified index latches POS. A serial frame starts at its
scheduled microsecond; a valid reading moves POS by the signed difference from the one before, and a missing one is counted, sets
SER_FAIL and skips a start; after four the axis enters FAULT with 0x3906. No change for STILL_US sets SPEED 0 and STILL. -/
def Obligations.FeedbackCounts : Prop :=
  (∀ (s a : State) (t : Nat) (n : AxisNo) (la lb : Bool),
    s.Awake t a → a.get (F.FBK_FCFG_SRC n) = 1 → ((a.fb n).a != la) ≠ ((a.fb n).b != lb) → 
    Runs (.quadratureChange t n la lb) s (fun u => (u.fb n).a = la
      ∧ (u.fb n).b = lb
      ∧ (u.get (F.FBK_POS n) = fieldOf 32 ((a.get (F.FBK_POS n) : Int)
      + (if a.has (F.FBK_FCFG_INV n) then -(quadSense (a.fb n).a (a.fb n).b la lb) else quadSense (a.fb n).a (a.fb n).b la lb)))
      ∧ u.get (F.FBK_FSTAT_STILL n) = 0
      ∧ (u.fb n).lastEdge = some a.ns)) ∧
  (∀ (s a : State) (t : Nat) (n : AxisNo) (la lb : Bool),
    s.Awake t a → a.get (F.FBK_FCFG_SRC n) = 1 → (a.fb n).a ≠ la → (a.fb n).b ≠ lb → 
    Runs (.quadratureChange t n la lb) s (fun u => u.get (F.FBK_POS n) = a.get (F.FBK_POS n)
      ∧ u.get (F.FBK_ERR_A_QERR n) = satN 65535 (a.get (F.FBK_ERR_A_QERR n) + 1))) ∧
  (∀ (s a : State) (t : Nat) (n : AxisNo) (hall : Fin 8),
    s.Awake t a → a.get (F.FBK_FCFG_SRC n) = 2 → hall ≠ 0 → hall ≠ 7 → (a.fb n).hall ≠ 0 → (a.fb n).hall ≠ hall → hallSense (a.fb n).hall hall ≠ 0 → 
    Runs (.hallChange t n hall) s (fun u => u.get (F.FBK_FSTAT_HALL n) = hall
      ∧ u.get (F.FBK_FSTAT_HALL_BAD n) = 0
      ∧ (u.get (F.FBK_POS n) = fieldOf 32 ((a.get (F.FBK_POS n) : Int)
      + (if a.has (F.FBK_FCFG_INV n) then -(hallSense (a.fb n).hall hall) else hallSense (a.fb n).hall hall))))) ∧
  (∀ (s a : State) (t : Nat) (n : AxisNo) (hall : Fin 8),
    s.Awake t a → a.get (F.FBK_FCFG_SRC n) = 2 → ((hall = 0 ∨ hall = 7)) → 
    Runs (.hallChange t n hall) s (fun u => u.get (F.FBK_FSTAT_HALL_BAD n) = 1
      ∧ u.get (F.FBK_POS n) = a.get (F.FBK_POS n)
      ∧ u.get (F.FBK_ERR_A_HALL_ERR n) = satN 65535 (a.get (F.FBK_ERR_A_HALL_ERR n) + 1))) ∧
  (∀ (s a : State) (t : Nat) (n : AxisNo),
    s.Awake t a → a.has (F.FBK_FCFG_IDX_QUAL_EN n) = false → a.get (F.FBK_IDX_PERIOD n) = 0 → 
    Runs (.indexEvent t n) s (fun u => u.get (F.FBK_IDX_POS n) = a.get (F.FBK_POS n)
      ∧ (u.fb n).index = some (a.get (F.FBK_POS n))
      ∧ (u.fb n).idx = true
      ∧ u.get (F.FBK_POS n) = a.get (F.FBK_POS n))) ∧
  (∀ (s a : State) (t : Nat) (n : AxisNo),
    s.Awake t a → a.serialDue n t = true → (a.fb n).busy = none → (a.fb n).skip = false → 
    Runs (.serialFrameStart t n) s (fun u => u.fb n = { a.fb n with busy := some t }
      ∧ (a.drivesOutputs = true → Output.signal "AX_MA" [((n : Nat) : Int), t, a.get (F.FBK_SER_CFG_PROTO n), a.get (F.FBK_SER_CFG_BITS n), a.get (F.FBK_SER_CFG_CLK_DIV n), a.get (F.FBK_SER_CFG_TIMEOUT_US n)] ∈ u.out))) ∧
  (∀ (s a : State) (t : Nat) (n : AxisNo) (code : Nat) (nE nW : Bool) (crc : Nat) (b : Nat) (v0 t0 : Nat),
    s.Awake t a → (a.fb n).busy = some b → (a.fb n).reading = some (v0, t0) → a.get (F.FBK_FCFG_SRC n) = 3 → a.serialOk n code nE nW crc = true → a.get (F.FBK_SER_CFG_PROTO n) ≠ 2 → 
    Runs (.serialReadingComplete t n code nE nW crc) s (fun u => u.get (F.FBK_FSTAT_SER_FAIL n) = 0
      ∧ (u.fb n).busy = none
      ∧ (u.fb n).missing = 0
      ∧ (u.fb n).reading = some (code % 2 ^ a.get (F.FBK_SER_CFG_BITS n), b)
      ∧ u.get (F.FBK_POS n) = fieldOf 32 ((a.get (F.FBK_POS n) : Int) + signedOf (a.get (F.FBK_SER_CFG_BITS n))
      (fieldOf (a.get (F.FBK_SER_CFG_BITS n)) (((code % 2 ^ a.get (F.FBK_SER_CFG_BITS n) : Nat) : Int) - v0))))) ∧
  (∀ (s a : State) (t : Nat) (n : AxisNo),
    s.Awake t a → (a.fb n).busy.isSome = true → 
    Runs (.serialReadingMissing t n) s (fun u => (u.fb n).busy = none
      ∧ (u.fb n).skip = true
      ∧ (u.fb n).missing = (a.fb n).missing + 1
      ∧ u.get (F.FBK_ERR_B_SER_ERR n) = satN 65535 (a.get (F.FBK_ERR_B_SER_ERR n) + 1)
      ∧ u.get (F.FBK_FSTAT_SER_FAIL n) = 1)) ∧
  (∀ (s a : State) (t : Nat) (n : AxisNo),
    s.Awake t a → 4 ≤ (a.fb n).missing → (a.mx n).state ≠ 0 → (a.mx n).state ≠ 5 → 
    Runs (.serialFeedbackLost t n) s (fun u => (u.mx n).state = 5
      ∧ (u.mx n).v = 0
      ∧ (u.mx n).queue = []
      ∧ u.get (F.AXIS_LCMD n) = 0
      ∧ u.Raised 2 0x3906 ⟨3, n⟩)) ∧
  (∀ (s a : State) (t : Nat) (n : AxisNo) (e : Nat),
    s.Awake t a → (a.fb n).lastEdge = some e → ((a.get (F.FBK_FCFG_SRC n) = 1 ∨ a.get (F.FBK_FCFG_SRC n) = 2)) → e + a.get (F.FBK_STILL_US n) * 1000 ≤ a.ns → 
    Runs (.speedStill t n) s (fun u => u.get (F.FBK_SPEED n) = 0
      ∧ u.get (F.FBK_FSTAT_STILL n) = 1))

/-- The first matching probe edge after the arming instant latches POS and the device time, sets PROBE_HIT and disarms. A home
edge is latched with its position and time. The home input that has stood HOME_STAB µs at its awaited level is accepted, in phase
3 with the latch of its edge. A shadow uses the keeper's samples that arrive in time, and without them its own, counting the miss.
Episodes of which nothing has been seen for 1,000 µs end. -/
def Obligations.ProbesAndHomesLatch : Prop :=
  (∀ (s a : State) (t : Nat) (n : AxisNo) (level : Bool) (f : Nat),
    s.Awake t a → (a.fb n).armAt = some f → f ≤ a.us → (if level then a.get (F.FBK_FCFG_PROBE_EDGE n) % 2 = 1 else 2 ≤ a.get (F.FBK_FCFG_PROBE_EDGE n)) → 
    Runs (.probeEdge t n level) s (fun u => u.get (F.FBK_PROBE_POS n) = a.get (F.FBK_POS n)
      ∧ u.get64 (F.FBK_PROBE_T_LO n) (F.FBK_PROBE_T_HI n) = a.ns % 2 ^ 64
      ∧ u.get (F.FBK_FSTAT_PROBE_HIT n) = 1
      ∧ u.get (F.FBK_FSTAT_PROBE_ARMED n) = 0
      ∧ (u.fb n).armAt = none)) ∧
  (∀ (s a : State) (t : Nat) (n : AxisNo) (level : Bool),
    s.Awake t a → 
    Runs (.homeEdge t n level) s (fun u => u.fb n = { a.fb n with home := level, homeEdge := some (a.get (F.FBK_POS n), a.ns, level) }
      ∧ u.regs = a.regs)) ∧
  (∀ (s a : State) (k : Nat) (n : AxisNo),
    s.Awake (k * 1000) a → (a.mx n).phase = 3 → (a.mx n).homeLevel = false → (a.mx n).accepted = none → (a.mx n).homeSince + (a.inForce k).get (F.AXIS_HOME_CFG_HOME_STAB n) ≤ k → 
    Runs (.homeLevelAccept k n) s (fun u => u.mx n = { a.mx n with accepted := some false, homeLatch := (a.mx n).edgePos })) ∧
  (∀ (s a : State) (m : Machine.RidgeMsg) (k : Nat) (x : KeeperSample),
    s.Awake m.t a → a.pairRole = 2 → a.takes 0x12 m = true → a.ns ≤ k * 1000 + 900 → x.axes.length = 16 → 
    Runs (.fbkSampleRx m k x) s (fun u => u.axis.waiting = none
      ∧ u.axis.keeperAt = some k
      ∧ (∀ n : Fin 16, ((u.fb n).samples.head?).map (fun e => e.1) = some k))) ∧
  (∀ (s a : State) (k : Nat),
    s.Awake (k * 1000 + 900) a → a.pairRole = 2 → a.axis.waiting = some k → 
    Runs (.keeperSampleMissing k) s (fun u => u.axis.waiting = none
      ∧ (∀ n : Fin 16, u.get (F.FBK_PAIR_MISMATCH n) = satN 65535 (a.get (F.FBK_PAIR_MISMATCH n) + 1))
      ∧ u.pair.sampleMisses = a.pair.sampleMisses + 1)) ∧
  (∀ (s a : State) (t : Nat),
    s.Awake t a → 
    Runs (.episodeEnd t) s (fun u => u.err.episodes = a.err.episodes.filter (fun e => decide (a.ns < e.2 + 1000000))
      ∧ u.err.held = a.err.held
      ∧ u.regs = a.regs))

/-- An axis packet whose operands and state check is accepted as a request for the apply instant 20 µs after the first frame
boundary: AXIS_MOVE with all its moves where the queue has room for them; AXIS_STOP waits for that instant; the others are
answered DONE. In a state other than IDLE and MOVING, or in SAFE_STOP or HALT, AXIS_MOVE is refused with 0x38F5. At the instant a
hard stop ends motion and empties the queue, homing begins with phase 1, a clear takes a faulted axis to IDLE, and PROBE_ARM arms.
-/
def Obligations.AxisPacketsRun : Prop :=
  (∀ (s : State) (p : Pkt) (n : Nat) (x : Nat),
    s.Serves p.path p.tag → (p.body.headD 0).toNat = n → p.target.toNat = x → x < 16 → 1 ≤ n → n ≤ 16 → p.body.length = 1 + 7 * n → ((∀ j : Fin 16, (j : Nat) < n → (moveAt p.body j).vmax ≠ 0 ∧ (moveAt p.body j).acc ≠ 0 ∧ (moveAt p.body j).dec ≠ 0
      ∧ bodyWord p.body (1 + 7 * j) < 1024 ∧ bodyWord p.body (1 + 7 * j + 3) < 65536)) → ((s.get (F.AXIS_ASTAT_STATE x) = 1 ∨ s.get (F.AXIS_ASTAT_STATE x) = 2)) → s.dev ≠ 4 → s.dev ≠ 5 → (s.mx x).queue.length + (s.mx x).coming + n ≤ 16 → 
    Runs (.axisMove p) s (fun u => (u.mx x).reqs = (s.mx x).reqs ++ [(s.us + 21, .moves ((List.range n).map (moveAt p.body)))]
      ∧ u.Returned p.path p.tag [word n])) ∧
  (∀ (s : State) (p : Pkt) (n : Nat) (x : Nat),
    s.Serves p.path p.tag → (p.body.headD 0).toNat = n → p.target.toNat = x → x < 16 → 1 ≤ n → n ≤ 16 → p.body.length = 1 + 7 * n → ((∀ j : Fin 16, (j : Nat) < n → (moveAt p.body j).vmax ≠ 0 ∧ (moveAt p.body j).acc ≠ 0 ∧ (moveAt p.body j).dec ≠ 0
      ∧ bodyWord p.body (1 + 7 * j) < 1024 ∧ bodyWord p.body (1 + 7 * j + 3) < 65536)) → (((s.get (F.AXIS_ASTAT_STATE x) ≠ 1 ∧ s.get (F.AXIS_ASTAT_STATE x) ≠ 2) ∨ s.dev = 4 ∨ s.dev = 5)) → 
    Runs (.axisMove p) s (fun u => u.axis = s.axis
      ∧ u.Answered p.path p.tag 0x10 0x38F5)) ∧
  (∀ (s : State) (p : Pkt) (v : Word) (x : Nat),
    s.Serves p.path p.tag → p.body = [v] → p.target.toNat = x → x < 16 → v.toNat ≤ 1 → 
    Runs (.axisStop p) s (fun u => (u.mx x).reqs = (s.mx x).reqs ++ [(s.us + 21, .stop (v.toNat == 1))]
      ∧ u.Waits s.cmd.nextOrder (.axisAt (s.us + 21)))) ∧
  (∀ (s : State) (p : Pkt) (x : Nat),
    s.Serves p.path p.tag → p.target.toNat = x → x < 16 → p.body = [] → s.get (F.AXIS_ASTAT_STATE x) = 1 → s.dev ≠ 4 → s.dev ≠ 5 → 
    Runs (.axisHome p) s (fun u => (u.mx x).reqs = (s.mx x).reqs ++ [(s.us + 21, .home)]
      ∧ u.Returned p.path p.tag [])) ∧
  (∀ (s : State) (p : Pkt) (x : Nat),
    s.Serves p.path p.tag → p.target.toNat = x → x < 16 → p.body = [] → 
    Runs (.axisClear p) s (fun u => (u.mx x).reqs = (s.mx x).reqs ++ [(s.us + 21, .clear)]
      ∧ u.Returned p.path p.tag [])) ∧
  (∀ (s : State) (p : Pkt) (v : Word) (x : Nat),
    s.Serves p.path p.tag → p.body = [v] → p.target.toNat = x → x < 16 → s.get (F.AXIS_ASTAT_STATE x) ≤ 1 → 
    Runs (.axisSetPos p) s (fun u => (u.mx x).reqs = (s.mx x).reqs ++ [(s.us + 21, .setPos v.toInt)]
      ∧ u.Returned p.path p.tag [])) ∧
  (∀ (s : State) (p : Pkt) (x : Nat),
    s.Serves p.path p.tag → p.target.toNat = x → x < 16 → p.body = [] → 
    Runs (.probeArm p) s (fun u => (u.mx x).reqs = (s.mx x).reqs ++ [(s.us + 21, .probeArm)]
      ∧ u.Returned p.path p.tag [])) ∧
  (∀ (s a : State) (n : AxisNo) (f : Nat),
    s.Awake ((f - 2) * 1000) a → (a.mx n).reqs = [(f, .clear)] → (a.mx n).state = 5 → a.cmd.inflight = [] → 
    Runs (.axisRequestAct n f) s (fun u => (u.mx n).state = 1
      ∧ (u.mx n).reqs = []
      ∧ (u.mx n).v = 0
      ∧ (u.ma n).init = true)) ∧
  (∀ (s a : State) (n : AxisNo) (f : Nat),
    s.Awake ((f - 2) * 1000) a → (a.mx n).reqs = [(f, .home)] → (a.mx n).state = 1 → a.devAt f ≠ 4 → a.devAt f ≠ 5 → a.cmd.inflight = [] → 
    Runs (.axisRequestAct n f) s (fun u => (u.mx n).state = 4
      ∧ (u.mx n).phase = 1
      ∧ (u.mx n).homed = false)) ∧
  (∀ (s a : State) (n : AxisNo) (f : Nat),
    s.Awake ((f - 2) * 1000) a → (a.mx n).reqs = [(f, .stop true)] → (a.mx n).state = 2 → a.cmd.inflight = [] → 
    Runs (.axisRequestAct n f) s (fun u => (u.mx n).state = 1
      ∧ (u.mx n).v = 0
      ∧ (u.mx n).queue = []
      ∧ u.get (F.AXIS_EVENTS_FLUSHED n) = satN 65535 (a.get (F.AXIS_EVENTS_FLUSHED n) + (a.mx n).queue.length))) ∧
  (∀ (s a : State) (n : AxisNo) (f : Nat),
    s.Awake ((f - 2) * 1000) a → (a.mx n).reqs = [(f, .probeArm)] → a.cmd.inflight = [] → 
    Runs (.axisRequestAct n f) s (fun u => u.fb n = { a.fb n with armAt := some f, hitSinceArm := false }))

/-- A link that gains block lock is up and sends HELLO; one that loses it is down with PEER 0xFF and WARN 0x4820 or 0x4821. HELLO
is kept. The map maker sends DISCOVER in both directions; another node passes a copy on, and the returned copy forms a map for 1
ms ahead. A MAP is kept for its instant and passed on, and at it the map, its node count and the role of a new node are taken.
Heartbeats are sent, kept, and their loss is reported for the partner (0x4930) and the referee (0x4932). No summit within 1 s is
0x4810. -/
def Obligations.RingIsFormed : Prop :=
  (∀ (s a : State) (t : Nat) (link : Fin 4),
    s.Awake t a → a.linkUp link = false → a.sys.firmware = true → 
    Runs (.ridgeLinkUp t link) s (fun u => u.linkUp link = true
      ∧ Output.signal "HELLO" [((link : Nat) : Int), a.sys.serial, a.position, a.cascadeRole] ∈ u.out)) ∧
  (∀ (s a : State) (t : Nat) (link : Fin 4),
    s.Awake t a → a.linkUp link = true → 
    Runs (.ridgeLinkDown t link) s (fun u => u.linkUp link = false
      ∧ u.get (F.RIDGE_LINK_STAT_PEER link) = 0xFF
      ∧ (u.Raised 1 (if u.connUp link then 0x4820 else 0x4821) ⟨1, 0x48⟩))) ∧
  (∀ (s a : State) (m : Machine.RidgeMsg) (node : Machine.RingNode),
    s.Awake m.t a → a.linkUp m.link = true → a.takes 0x01 m = true → 
    Runs (.helloRx m.toRidgeHead m.payload node) s (fun u => tabGet none u.ridge.peers m.link = some node
      ∧ u.ridge.map = a.ridge.map)) ∧
  (∀ (s a : State) (t : Nat),
    s.Awake t a → a.makesMap = true → a.sys.firmware = true → a.ridge.mapNext = none → a.ridge.sentClk = none → a.ridge.findClk = none → 
    Runs (.discoverSend t) s (fun u => u.ridge.findClk = some a.time.clk
      ∧ u.ridge.sentClk = some a.time.clk
      ∧ Output.signal "DISCOVER" [0, a.sys.serial] ∈ u.out
      ∧ Output.signal "DISCOVER" [1, a.sys.serial] ∈ u.out)) ∧
  (∀ (s a : State) (m : Machine.RidgeMsg) (ended : Bool) (nodes : List Machine.RingNode) (sender : Machine.RingNode) (rest : List Machine.RingNode),
    s.Awake m.t a → nodes = sender :: rest → sender.serial ≠ a.sys.serial → a.takes 0x02 m = true → 
    Runs (.discoverRx m.toRidgeHead m.payload ended nodes) s (fun u => (Output.signal "DISCOVER" ((if m.cw then 0 else 1) :: (nodes ++ [a.ownNode]).map (fun n => (n.serial : Int))) ∈ u.out)
      ∧ u.ridge.map = a.ridge.map
      ∧ u.ridge.mapNext = a.ridge.mapNext)) ∧
  (∀ (s a : State) (m : Machine.RidgeMsg) (nodes : List Machine.RingNode) (sender : Machine.RingNode) (rest : List Machine.RingNode) (c : Nat),
    s.Awake m.t a → nodes = sender :: rest → a.ridge.findClk = some c → sender.serial = a.sys.serial → ((∀ n ∈ nodes, n.role = 1 → n.pos = a.position)) → a.makesMap = true → a.ridge.failRaised ≠ 0x4811 → a.takes 0x02 m = true → 
    Runs (.discoverRx m.toRidgeHead m.payload false nodes) s (fun u => u.ridge.mapNext.map (fun e => e.1) = some (a.us + 1000)
      ∧ u.ridge.findClk = none)) ∧
  (∀ (s a : State) (t : Nat) (c : Nat),
    s.Awake t a → a.ridge.trainClk = some c → a.cascadeRole ≠ 1 → a.ridge.map = [] → a.ridge.mapNext = none → c + 250000000 ≤ a.time.clk → a.ridge.failRaised ≠ 0x4810 → 
    Runs (.noSummitTimeout t) s (fun u => u.get F.RIDGE_CSTAT_MAP_DETAIL = 0x4810
      ∧ u.Raised 3 0x4810 ⟨1, 0x48⟩)) ∧
  (∀ (s a : State) (m : Machine.RidgeMsg) (at_ : Nat) (nodes : List Machine.RingNode),
    s.Awake m.t a → a.makesMap = false → a.takes 0x03 m = true → 
    Runs (.mapRx m at_ nodes) s (fun u => u.ridge.mapNext = some (at_, nodes.take 33))) ∧
  (∀ (s a : State) (m : Machine.RidgeMsg) (at_ : Nat) (nodes : List Machine.RingNode),
    s.Awake m.t a → m.type = 0x03 → m.reach = 0xFF → m.dst.toNat ≠ a.get F.RIDGE_NODE_INDEX → m.src.toNat ≠ a.get F.RIDGE_NODE_INDEX → a.connUp (if m.cw then 0 else 2) = true → 
    Runs (.mapRx m at_ nodes) s (fun u => Output.bytes "RIDGE" [-1] (m.header 0xFF ++ m.payload ++ leBytes 4 m.crc.toNat) ∈ u.out)) ∧
  (∀ (s a : State) (m : Machine.RidgeMsg) (node : Machine.RingNode),
    s.Awake m.t a → (a.reachHere m).isSome = true → m.dst = 0xFF → m.intact = false → 
    Runs (.helloRx m.toRidgeHead m.payload node) s (fun u => u.get (F.RIDGE_LINK_ERR_CRC m.link) = satN 0xFFFF (a.get (F.RIDGE_LINK_ERR_CRC m.link) + 1)
      ∧ u.ridge = a.ridge)) ∧
  (∀ (s a : State) (f : Nat) (g : Nat) (nodes : List Machine.RingNode) (me : Machine.RingNode),
    s.Awake (f * 1000) a → a.ridge.mapNext = some (g, nodes) → nodes.find? (fun n => n.serial == a.sys.serial) = some me → g ≤ a.us → nodes.length ≤ 33 → ((∀ m ∈ nodes, m.index < 33)) → a.mapNode = none → 
    Runs (.mapApply f) s (fun u => u.ridge.map = nodes
      ∧ u.ridge.mapNext = none
      ∧ u.get F.RIDGE_CSTAT_NODES = nodes.length
      ∧ u.get F.RIDGE_NODE_INDEX = me.index
      ∧ u.pairRole = mapRole me u.partner
      ∧ u.Raised 0 0x4910 ⟨1, 0x49⟩)) ∧
  (∀ (s a : State) (n : Nat),
    s.Awake (n * 100000) a → a.get F.RIDGE_NODE_INDEX ≠ 0x3F → 
    Runs (.heartbeatTx n) s (fun u => Output.bytes "HEARTBEAT" [(n : Int)] (a.heartbeat n) ∈ u.out
      ∧ u.ridge = a.ridge)) ∧
  (∀ (s a : State) (m : Machine.RidgeMsg) (h : HbSeen),
    s.Awake m.t a → hbOf m.payload a.time.clk = h → a.takes 0x05 m = true → m.payload.length = 32 → h.num = a.us / 100 % 2 ^ 32 → a.ns ≤ (a.us / 100 * 100 + 20) * 1000 → h.serial ≠ a.sys.serial → (a.beat h.serial).any (fun x => x.num == h.num) = false → 
    Runs (.heartbeatRx m.toRidgeHead m.payload) s (fun u => u.beat h.serial = some h
      ∧ (h.role = 2 → u.ridge.refClk = a.time.clk ∧ u.get F.PAIR_PSTAT_REF_LOST = 0))) ∧
  (∀ (s a : State) (n : Nat) (l : Nat),
    s.Awake ((n * 100 + 20) * 1000) a → a.pair.hbLast = some l → a.paired = true → l + a.get F.PAIR_CFG_HB_LOSS ≤ n → l ≠ n → a.has F.PAIR_PSTAT_PARTNER_LOST = false → 
    Runs (.partnerHeartbeatLoss n) s (fun u => u.get F.PAIR_PSTAT_PARTNER_LOST = 1
      ∧ u.Raised 1 0x4930 ⟨1, 0x49⟩)) ∧
  (∀ (s a : State) (t : Nat),
    s.Awake t a → a.has F.PAIR_CFG_REF_HOST = false → a.has F.PAIR_PSTAT_REF_LOST = false → a.ridge.refClk + 250000 ≤ a.time.clk → a.sys.firmware = true → 
    Runs (.refereeLost t) s (fun u => u.get F.PAIR_PSTAT_REF_LOST = 1
      ∧ u.Raised 1 0x4932 ⟨1, 0x49⟩))

/-- A device of a pair serves at most four requested channels from frames that it accepted directly, and takes a served frame that
checks as accepted. ADMIT fixes the admission of a staged block, and without it the block is dropped at its deadline and the pair
has diverged. A shadow applies a mirrored item once and acknowledges every copy; the keeper answers on the acknowledgement, sends
again after 50 µs, and refuses with 0x4931 after 200 µs. A lock check that differs is a divergence. -/
def Obligations.PairsMirrorTheirWork : Prop :=
  (∀ (s a : State) (m : Machine.RidgeMsg) (k : Nat),
    s.Awake m.t a → a.paired = true → a.takes 0x10 m = true → a.ns ≤ k * 1000 + 700 → 
    Runs (.fillReqRx m.toRidgeHead m.payload k) s (fun u => u.pair.partnerMissing = some (k, leAt m.payload 0 8)
      ∧ u.pair.served.length ≤ 4
      ∧ u.pair.served.all (fun c => bitsOf (leAt m.payload 0 8) c 1 == 1 && (a.inbound c k).any (fun r => !r.filled)) = true
      ∧ Output.bytes "FILL_DATA" [(k : Int)] (leBytes 8 (channelBits u.pair.served) ++ u.pair.served.flatMap (fun (c : Nat) => ((a.inbound c k).map (fun r => r.raw)).getD [])) ∈ u.out)) ∧
  (∀ (s a : State) (m : Machine.RidgeMsg) (k : Nat) (c : Nat) (b : List Byte),
    s.Awake m.t a → servedFrames m.payload = [(c, b)] → a.paired = true → a.takes 0x11 m = true → a.ns ≤ k * 1000 + 900 → b.length = 42 → crc32 (b.take 38) = leAt b 38 4 → leAt b 2 4 = k % 2 ^ 32 → a.inbound c k = none → 
    Runs (.fillDataRx m.toRidgeHead m.payload k) s (fun u => u.inbound c k = some { frameOf b k with filled := true }
      ∧ u.get F.PAIR_FILL_FILLED = satN 65535 (a.get F.PAIR_FILL_FILLED + 1))) ∧
  (∀ (s a : State) (m : Machine.RidgeMsg) (number q : Nat),
    s.Awake m.t a → a.pairRole = 2 → a.takes 0x15 m = true → 
    Runs (.admitRx m number q) s (fun u => tabGet 0 u.pair.admits number = q + 1
      ∧ (∀ c : Fin 64, ∀ g ∈ u.staged c, g.number = number → g.admitted = true))) ∧
  (∀ (s a : State) (number f : Nat),
    s.Awake (f * 1000 - 3000) a → a.pairRole = 2 → tabGet 0 a.pair.admits number = 0 → f * 1000 ≤ a.ns + 3000 → 
    Runs (.admitDeadline number f) s (fun u => (∀ c : Fin 64, ∀ g ∈ u.staged c, g.number = number → g.admitted = true)
      ∧ u.has F.PAIR_PSTAT_DIVERGED = true)) ∧
  (∀ (s a : State) (m : Machine.RidgeMsg) (number : Nat) (x : Machine.MirrorItem),
    s.Awake m.t a → a.pairRole = 2 → a.pair.applied.contains number = false → a.takes 0x20 m = true → 
    Runs (.mirrorRx m number x) s (fun u => u.pair.applied.head? = some number
      ∧ Output.signal "MIRROR_ACK" [(number : Int)] ∈ u.out)) ∧
  (∀ (s a : State) (m : Machine.RidgeMsg) (number : Nat) (x : Machine.MirrorItem),
    s.Awake m.t a → a.pairRole = 2 → a.pair.applied.contains number = true → a.takes 0x20 m = true → 
    Runs (.mirrorRx m number x) s (fun u => u.pair = a.pair
      ∧ u.regs = a.regs
      ∧ Output.signal "MIRROR_ACK" [(number : Int)] ∈ u.out)) ∧
  (∀ (s a : State) (m : Machine.RidgeMsg) (number : Nat) (x : Mirrored) (p : InFlight) (res : List Word),
    s.Awake m.t a → a.mirroredOf number = some x → a.cmd.inflight = [p] → (runOp p.opcode.toNat p ((a.blockAcked number).dropMirrored number)).2 = .done res → a.takes 0x20 m = true → p.order = x.order → p.opcode ≠ 4 → p.path ≠ .ridge → p.orphan = false → 
    Runs (.mirrorAckRx m number) s (fun u => u.Answered p.path p.tag 0 0)) ∧
  (∀ (s a : State) (t number : Nat) (m : Mirrored) (p : InFlight),
    s.Awake t a → a.mirroredOf number = some m → a.mirroredPkt m = some p → m.sentClk + 12500 ≤ a.time.clk → p.opcode ≠ 4 → 
    Runs (.mirrorResend t number) s (fun u => u.cmd = a.cmd
      ∧ Output.bytes "MIRROR" [(number : Int), p.opcode.toNat, p.target.toNat, p.boundary] (bytesOfWords p.body) ∈ u.out)) ∧
  (∀ (s a : State) (t number : Nat) (m : Mirrored) (p : InFlight),
    s.Awake t a → a.mirroredOf number = some m → a.cmd.inflight = [p] → p.order = m.order → p.path ≠ .ridge → p.orphan = false → m.acceptClk + 50000 ≤ a.time.clk → a.paired = true → 
    Runs (.mirrorAckTimeout t number) s (fun u => u.pair.noAck = true
      ∧ u.has F.PAIR_PSTAT_DIVERGED = true
      ∧ u.Answered p.path p.tag 0x10 0x4931)) ∧
  (∀ (s a : State) (m : Nat),
    s.Awake ((10 * m + 9) * 1000) a → a.paired = true → 
    Runs (.lockCheckTx m) s (fun u => u.pair.lockBad = a.pair.lockBad
      ∧ u.pair.lockLast = a.pair.lockLast
      ∧ Output.bytes "LOCK_CHECK" [(m : Int)] ((a.tenCrcs m).flatMap (leBytes 4)) ∈ u.out)) ∧
  (∀ (s a : State) (m : Machine.RidgeMsg) (n : Nat),
    s.Awake m.t a → a.paired = true → a.takes 0x13 m = true → crcsOf m.payload = a.tenCrcs n → 
    Runs (.lockCheckRx m.toRidgeHead m.payload n) s (fun u => u.pair.lockLast = some n
      ∧ u.pair.lockBad = a.pair.lockBad
      ∧ u.regs = a.regs)) ∧
  (∀ (s a : State) (m : Machine.RidgeMsg) (n : Nat),
    s.Awake m.t a → a.paired = true → a.takes 0x13 m = true → crcsOf m.payload ≠ a.tenCrcs n → 
    Runs (.lockCheckRx m.toRidgeHead m.payload n) s (fun u => u.pair.lockLast = some n
      ∧ u.pair.lockBad = some a.us
      ∧ u.has F.PAIR_PSTAT_DIVERGED = true))

/-- The referee shows which devices of each position it hears, and appoints a CANDIDATE that has stood alone for HB_LOSS
evaluations. A verdict with a higher number and the right source waits for its instant, and any other is ignored; at the instant
the appointed device is ALONE and a KEEPER or SHADOW not appointed becomes CANDIDATE. PAIR_SWAP and PAIR_DROP on a keeper that may
do so go to the partner first, and at their instant the role decided is taken and the packet answered. PAIR_VERDICT sends the
host's verdict on the ring. -/
def Obligations.PairRolesChange : Prop :=
  (∀ (s a : State) (n : Nat),
    s.Awake ((n * 100 + 20) * 1000) a → a.cascadeRole = 2 → 
    Runs (.refereeEvaluation n) s (fun u => (∀ p : Fin 16, u.has (F.PAIR_REF_VIEW_SIDE0_HB p) = a.ridge.map.any (fun m => m.pos == p && m.role != 2 && !m.excluded && !m.side && (a.beat m.serial).any (fun h => h.num == n % 2 ^ 32)))
      ∧ (∀ p : Fin 16, u.has (F.PAIR_REF_VIEW_SIDE1_HB p) = a.ridge.map.any (fun m => m.pos == p && m.role != 2 && !m.excluded && m.side && (a.beat m.serial).any (fun h => h.num == n % 2 ^ 32)))
      ∧ u.ridge = a.ridge)) ∧
  (∀ (s a : State) (n : Nat) (m : Machine.RingNode) (h : HbSeen),
    s.Awake ((n * 100 + 20) * 1000) a → a.ridge.map = [m] → a.beat m.serial = some h → a.cascadeRole = 2 → m.pos < 16 → m.role ≠ 2 → m.excluded = false → h.num = n % 2 ^ 32 → h.pairRole = 3 → a.get F.PAIR_CFG_HB_LOSS ≤ (tabGet {} a.pair.runs m.pos).candidateOnly + 1 → a.has F.PAIR_CFG_REF_HOST = false → 
    Runs (.refereeEvaluation n) s (fun u => tabGet {} u.pair.runs m.pos = { appointed := some m.serial }
      ∧ u.get (F.PAIR_REF_VIEW_VERDICTS m.pos) = satN 65535 (a.get (F.PAIR_REF_VIEW_VERDICTS m.pos) + 1)
      ∧ a.pair.issued < u.pair.issued)) ∧
  (∀ (s a : State) (m : Machine.RidgeMsg) (v : RoleVerdict),
    s.Awake m.t a → verdictOf m.payload = v → a.takes 0x06 m = true → m.payload.length = 32 → v.pos = a.position → a.cascadeRole ≠ 2 → a.get F.PAIR_VERDICT_NUM < v.number → v.source = a.get F.PAIR_CFG_REF_HOST → a.ns + 3000 ≤ v.at_ * 1000 → 
    Runs (.verdictRx m.toRidgeHead m.payload) s (fun u => u.pair.verdict = some v
      ∧ (v.at_, verdictRole (a.roleAt v.at_) (v.appoint == a.sys.serial)) ∈ u.pair.next
      ∧ u.regs = a.regs)) ∧
  (∀ (s a : State) (m : Machine.RidgeMsg) (v : RoleVerdict),
    s.Awake m.t a → verdictOf m.payload = v → a.takes 0x06 m = true → m.payload.length = 32 → v.pos = a.position → a.cascadeRole ≠ 2 → ((v.number ≤ a.get F.PAIR_VERDICT_NUM ∨ v.source ≠ a.get F.PAIR_CFG_REF_HOST)) → 
    Runs (.verdictRx m.toRidgeHead m.payload) s (fun u => u.pair.ignored = a.pair.ignored + 1
      ∧ u.pair.verdict = a.pair.verdict
      ∧ u.pair.next = a.pair.next
      ∧ u.regs = a.regs)) ∧
  (∀ (s a : State) (n : Nat) (v : RoleVerdict),
    s.Awake (n * 1000) a → a.pair.verdict = some v → v.at_ ≤ a.us → a.cmd.inflight = [] → 
    Runs (.verdictApply n) s (fun u => u.get F.PAIR_VERDICT_NUM = v.number % 2 ^ 32
      ∧ u.pair.verdict = none
      ∧ u.pairRole = verdictRole a.pairRole (v.appoint == a.sys.serial))) ∧
  (∀ (s : State) (p : Pkt) (lo hi : Word),
    p.body = [lo, hi] → s.inReset = false → s.sys.romUp = true → s.sys.firmware = true → s.pairRole = 1 → p.path ≠ .ridge → s.pathLost p.path = false → s.cmd.inflight = [] → s.tagBusy p.path p.tag = false → s.err.coresDown = [] → p.target = 0 → s.pair.noAck = false → s.maySwap = true → s.ns + 50000 ≤ dword lo hi * 1000 → dword lo hi * 1000 ≤ s.ns + 10000000000 → 
    Runs (.pairSwap p) s (fun u => u.Waits s.cmd.nextOrder (.mirror s.pair.nextMirror)
      ∧ u.pair.nextMirror = s.pair.nextMirror + 1
      ∧ Output.bytes "MIRROR" [(s.pair.nextMirror : Int), 0x71, 0, s.us + 1] (bytesOfWords [lo, hi]) ∈ u.out)) ∧
  (∀ (s : State) (p : Pkt) (lo hi : Word),
    p.body = [lo, hi] → s.inReset = false → s.sys.romUp = true → s.sys.firmware = true → s.pairRole = 1 → p.path ≠ .ridge → s.pathLost p.path = false → s.cmd.inflight = [] → s.tagBusy p.path p.tag = false → s.err.coresDown = [] → p.target = 0 → s.pair.noAck = false → s.hasShadow = true → s.ns + 50000 ≤ dword lo hi * 1000 → dword lo hi * 1000 ≤ s.ns + 10000000000 → 
    Runs (.pairDrop p) s (fun u => u.Waits s.cmd.nextOrder (.mirror s.pair.nextMirror)
      ∧ u.pair.nextMirror = s.pair.nextMirror + 1
      ∧ Output.bytes "MIRROR" [(s.pair.nextMirror : Int), 0x73, 0, s.us + 1] (bytesOfWords [lo, hi]) ∈ u.out)) ∧
  (∀ (s : State) (p : Pkt) (lo hi : Word),
    s.Serves p.path p.tag → p.body = [lo, hi] → p.target = 0 → s.ns + 50000 ≤ dword lo hi * 1000 → dword lo hi * 1000 ≤ s.ns + 10000000000 → 
    Runs (.pairSwap p) s (fun u => u.pair = s.pair
      ∧ u.Answered p.path p.tag 0x10 0x4953)) ∧
  (∀ (s a : State) (v : Nat) (p : InFlight) (r : Nat),
    s.Awake (v * 1000) a → a.cmd.inflight = [p] → (a.pair.next.find? (fun e => e.1 == v && [1, 2].contains e.2)).map (fun e => e.2) = some r → p.wait = .pairAt v → p.path ≠ .ridge → p.orphan = false → v ≤ a.us → 
    Runs (.pairSwapApply v) s (fun u => u.pairRole = r
      ∧ u.Answered p.path p.tag 0 0)) ∧
  (∀ (s a : State) (v : Nat) (p : InFlight) (r : Nat),
    s.Awake (v * 1000) a → a.cmd.inflight = [p] → (a.pair.next.find? (fun e => e.1 == v && [0, 3].contains e.2)).map (fun e => e.2) = some r → p.wait = .pairAt v → p.path ≠ .ridge → p.orphan = false → v ≤ a.us → 
    Runs (.pairDropApply v) s (fun u => u.pairRole = r
      ∧ u.Answered p.path p.tag 0 0)) ∧
  (∀ (s a : State) (v : Nat) (p : InFlight),
    s.Awake (v * 1000) a → a.cmd.inflight = [p] → a.pair.next = [] → p.wait = .pairAt v → p.path ≠ .ridge → p.orphan = false → v ≤ a.us → 
    Runs (.pairSwapApply v) s (fun u => u.pairRole = a.pairRole
      ∧ u.Answered p.path p.tag 0x10 0x4953)) ∧
  (∀ (s : State) (p : Pkt) (n alo ahi lo hi : Word),
    s.Serves p.path p.tag → p.body = [n, alo, ahi, lo, hi] → p.target.toNat < 16 → s.cascadeRole = 1 → s.has F.PAIR_CFG_REF_HOST = true → s.ns + 50000 ≤ dword lo hi * 1000 → dword lo hi * 1000 ≤ s.ns + 10000000000 → 
    Runs (.pairVerdict p) s (fun u => Output.bytes "VERDICT" [p.target.toNat, 0] (RoleVerdict.bytes ⟨p.target.toNat, 1, n.toNat, dword alo ahi, dword lo hi, 0⟩) ∈ u.out
      ∧ u.Answered p.path p.tag 0 0))

/-- PAIR_JOIN, AUTO_JOIN and the retry after an abort start COPY on an ALONE device that may join. At the end of the copy the
device names the cut, at least 1 ms ahead, and enters CUT; at the cut it captures, and the candidate that has replayed names the
join cairn. There the candidate becomes SHADOW and the other device KEEPER. Transferred state is taken by a candidate only. A join
that fails ends in phase 0 with WARN 0x4951 and a retry 1 s later. -/
def Obligations.JoinsGoThroughTheirPhases : Prop :=
  (∀ (s : State) (p : Pkt),
    s.Serves p.path p.tag → p.target = 0 → p.body = [] → s.mayJoin = true → 
    Runs (.pairJoin p) s (fun u => u.get F.PAIR_PSTAT_JOIN_PHASE = 1
      ∧ u.pair.joinLimit = some (s.time.clk + 2500000000)
      ∧ Output.signal "TRANSFER" [1] ∈ u.out
      ∧ u.Answered p.path p.tag 0 0)) ∧
  (∀ (s : State) (p : Pkt),
    s.Serves p.path p.tag → p.target = 0 → p.body = [] → s.mayJoin = false → 
    Runs (.pairJoin p) s (fun u => u.pair = s.pair
      ∧ u.Answered p.path p.tag 0x10 0x4952)) ∧
  (∀ (s a : State) (t : Nat),
    s.Awake t a → a.has F.PAIR_CFG_AUTO_JOIN = true → a.pair.retryClk = none → a.mayJoin = true → 
    Runs (.autoJoinStart t) s (fun u => u.get F.PAIR_PSTAT_JOIN_PHASE = 1
      ∧ u.pair.joinLimit = some (a.time.clk + 2500000000)
      ∧ Output.signal "TRANSFER" [1] ∈ u.out)) ∧
  (∀ (s a : State) (t : Nat) (c : Nat),
    s.Awake t a → a.pair.retryClk = some c → c ≤ a.time.clk → a.has F.PAIR_CFG_AUTO_JOIN = true → a.mayJoin = true → 
    Runs (.joinRetry t) s (fun u => u.get F.PAIR_PSTAT_JOIN_PHASE = 1
      ∧ u.pair.retryClk = none
      ∧ Output.signal "TRANSFER" [1] ∈ u.out)) ∧
  (∀ (s a : State) (m : Machine.RidgeMsg) (l : LedgerSt) (bytes : Nat),
    s.Awake m.t a → a.pairRole = 3 → a.takes 0x30 m = true → 
    Runs (.transferRx m (.ledger l) bytes) s (fun u => u.ledger = l
      ∧ u.pair.joinBytes = a.pair.joinBytes + bytes
      ∧ (a.get F.PAIR_PSTAT_JOIN_PHASE = 0 → u.get F.PAIR_PSTAT_JOIN_PHASE = 1))) ∧
  (∀ (s a : State) (m : Machine.RidgeMsg) (c : Chan) (blocks : List Staged) (bytes : Nat),
    s.Awake m.t a → a.pairRole = 3 → a.takes 0x30 m = true → 
    Runs (.transferRx m (.staging c blocks) bytes) s (fun u => u.staged c = blocks
      ∧ u.ledger = a.ledger)) ∧
  (∀ (s a : State) (m : Machine.RidgeMsg) (x : Capture) (bytes : Nat),
    s.Awake m.t a → a.pairRole = 3 → x.words = [] → a.takes 0x30 m = true → 
    Runs (.transferRx m (.capture x) bytes) s (fun u => u.pair.loaded = true
      ∧ u.seq = x.seq
      ∧ u.stream = x.stream
      ∧ u.cmd.epoch = x.epoch
      ∧ u.get F.PAIR_PSTAT_JOIN_PHASE = 3)) ∧
  (∀ (s a : State) (m : Machine.RidgeMsg) (l bytes : Nat),
    s.Awake m.t a → a.pairRole = 0 → a.get F.PAIR_PSTAT_JOIN_PHASE = 3 → a.takes 0x30 m = true → 
    Runs (.transferRx m (.cairn l) bytes) s (fun u => u.get F.PAIR_PSTAT_JOIN_PHASE = 4
      ∧ u.pair.joinAt = some l
      ∧ u.pair.next = a.pair.next ++ [(l, 1)])) ∧
  (∀ (s a : State) (t : Nat),
    s.Awake t a → a.pairRole = 0 → a.get F.PAIR_PSTAT_JOIN_PHASE = 1 → 
    Runs (.joinCopyDone t) s (fun u => u.get F.PAIR_PSTAT_JOIN_PHASE = 2
      ∧ u.pair.joinCut = some ((a.ns + 1000000 + 9999) / 10000 * 10))) ∧
  (∀ (s a : State) (c : Nat),
    s.Awake (c * 1000) a → a.pairRole = 0 → a.get F.PAIR_PSTAT_JOIN_PHASE = 2 → a.pair.joinCut = some c → 
    Runs (.joinCut c) s (fun u => u.get F.PAIR_PSTAT_JOIN_PHASE = 3
      ∧ Output.signal "TRANSFER" [3, (c : Int), a.cmd.epoch] ∈ u.out)) ∧
  (∀ (s a : State) (t : Nat),
    s.Awake t a → a.pairRole = 3 → a.get F.PAIR_PSTAT_JOIN_PHASE = 3 → a.pair.loaded = true → 
    Runs (.joinReplayCaughtUp t) s (fun u => u.get F.PAIR_PSTAT_JOIN_PHASE = 4
      ∧ u.pair.joinAt = some ((a.ns + 20000 + 999) / 1000)
      ∧ ((a.ns + 20000 + 999) / 1000, 2) ∈ u.pair.next)) ∧
  (∀ (s a : State) (l : Nat),
    s.Awake (l * 1000) a → a.pair.joinAt = some l → l ≤ a.us → a.pairRole = 3 → 
    Runs (.joinCairn l) s (fun u => u.pairRole = 2
      ∧ u.get F.PAIR_PSTAT_JOIN_PHASE = 0
      ∧ u.pair.joinDone = some l)) ∧
  (∀ (s a : State) (l : Nat),
    s.Awake (l * 1000) a → a.pair.joinAt = some l → l ≤ a.us → a.pairRole = 0 → 
    Runs (.joinCairn l) s (fun u => u.pairRole = 1
      ∧ u.get F.PAIR_PSTAT_JOIN_PHASE = 0
      ∧ u.Raised 0 0x4950 ⟨1, 0x49⟩)) ∧
  (∀ (s a : State) (t : Nat),
    s.Awake t a → a.joinFails = true → 
    Runs (.joinAbort t) s (fun u => u.get F.PAIR_PSTAT_JOIN_PHASE = 0
      ∧ u.pair.retryClk = some (a.time.clk + 250000000)
      ∧ u.Raised 1 0x4951 ⟨1, 0x49⟩))

/-- A cycle shows every reading in range as RAW, marks a sensor without one as failed, and marks an open diode. A sensor that has
deviated long enough is marked with WARN 0x5001. A decided band comes into force 2 µs after its cycle, with 0x5002 and the power
band named for 200 µs later, which its apply instant takes. A shutdown request latches SHUT_REQ, raises 0x5010 and asks for
SAFE_STOP; TCRIT and an overrun of SHUT_LIMIT halt with 0x5032 and 0x5031; after 100,000 cool cycles the cause is clear.
SENSOR_READMIT clears a mark. -/
def Obligations.TemperatureIsWatched : Prop :=
  (∀ (s a : State) (c : Nat) (raws diodes : List (Option Int)),
    s.Awake ((c + 2) * 1000) a → 
    Runs (.thermCycle c raws diodes) s (fun u => (∀ n : Fin 16, raws.getD n none = none → u.sensorBad n = true)
      ∧ (∀ k : Fin 4, diodes.getD k none = none → u.get (F.THERM_TD_VAL_OPEN k) = 1)
      ∧ u.therm.first = false
      ∧ (∀ n < 16, ∀ v : Int, raws.getD n none = some v → -960 ≤ v → v ≤ 2560 → u.raw n = v))) ∧
  (∀ (s : State) (n : Fin 16),
    s.inReset = false → s.therm.due.contains (n : Nat) = true → s.sensorBad n = false → 
    Runs (.sensorFailed n) s (fun u => u.sensorBad n = true
      ∧ u.Raised 1 0x5001 ⟨1, 0x50⟩)) ∧
  (∀ (s a : State) (b c : Nat),
    s.Awake (((s.therm.bandDue.map (fun e => e.2)).getD 0 + 2) * 1000) a → a.therm.bandDue = some (b, c) → s.therm.bandDue = a.therm.bandDue → b ≤ 4 → a.pairRole ≤ 1 → 
    Runs (.bandChange) s (fun u => u.get F.THERM_TSTAT_BAND = b
      ∧ u.therm.bandDue = none
      ∧ u.therm.power = a.therm.power ++ [(c + 200, b)]
      ∧ u.Raised 0 0x5002 ⟨1, 0x50⟩)) ∧
  (∀ (s a : State) (f : Nat) (g b : Nat),
    s.Awake (f * 1000) a → a.therm.power = [(g, b)] → g ≤ a.us → b ≤ 4 → 
    Runs (.powerBandApply f) s (fun u => u.get F.THERM_TSTAT_POWER_BAND = b
      ∧ u.therm.power = [])) ∧
  (∀ (s : State),
    s.inReset = false → s.therm.shutDue = true → devTransition (s.devAt s.nextFix) 7 = some 4 → 
    Runs (.thermalShutdownRequest) s (fun u => u.get F.THERM_TSTAT_SHUT_REQ = 1
      ∧ u.get F.THERM_TSTAT_CAUSE_CLEAR = 0
      ∧ u.therm.shutClk = some s.time.clk
      ∧ { at_ := s.nextFix, target := 4, cause := 7 } ∈ u.sys.triggers
      ∧ u.Raised 3 0x5010 ⟨1, 0x50⟩)) ∧
  (∀ (s : State),
    s.inReset = false → s.therm.critDue = true → s.dev ≠ 5 → 
    Runs (.tcritHalt) s (fun u => u.dev = 5
      ∧ u.sys.tcritHalt = true
      ∧ u.get F.THERM_TSTAT_CAUSE_CLEAR = 0
      ∧ u.Raised 5 0x5032 ⟨0, 0⟩)) ∧
  (∀ (s a : State) (t : Nat) (c : Nat),
    s.Awake t a → a.therm.shutClk = some c → c + a.get F.THERM_HYST_SHUT_LIMIT * 250000 ≤ a.time.clk → a.dev ≠ 5 → 
    Runs (.shutdownLimitExpiry t) s (fun u => u.dev = 5
      ∧ u.Raised 5 0x5031 ⟨0, 0⟩)) ∧
  (∀ (s : State),
    s.inReset = false → s.has F.THERM_TSTAT_SHUT_REQ = true → 100000 ≤ s.therm.coolRun → 
    Runs (.thermalCauseClear) s (fun u => u.get F.THERM_TSTAT_CAUSE_CLEAR = 1
      ∧ u.get F.THERM_TSTAT_SHUT_REQ = 1)) ∧
  (∀ (s : State) (p : Pkt) (n : Nat),
    s.Serves p.path p.tag → p.target.toNat = n → n < 16 → p.body = [] → 
    Runs (.sensorReadmit p) s (fun u => u.sensorBad n = false
      ∧ u.Returned p.path p.tag []))

/-- CAL_RUN of a target whose receiver is up queues a run, unless one is queued or running, and waits for its end. The first
queued run starts with at most eight at once. At its end the run is over, LAST_FAIL says whether the eye was narrower than
EYE_MIN, INFO 0x5101 or WARN 0x5102 is raised, and the packets that waited for it are answered. -/
def Obligations.CalibrationRuns : Prop :=
  (∀ (s : State) (p : Pkt) (n : Nat),
    s.Serves p.path p.tag → p.target.toNat = n → n < 84 → p.body = [] → s.calUp n = true → 
    Runs (.calRun p) s (fun u => ((u.calT n).queued || (u.calT n).started.isSome) = true
      ∧ u.Waits s.cmd.nextOrder (.calRun n))) ∧
  (∀ (s a : State) (t : Nat) (n : Nat),
    s.Awake t a → (List.range 84).find? (fun x => (a.calT x).queued) = some n → a.calOn = true → ((List.range 84).filter (fun x => (a.calT x).started.isSome)).length < 8 → a.calUp n = true → a.cmd.inflight = [] → 
    Runs (.calRunStart t) s (fun u => (u.calT n).started = some a.time.clk
      ∧ (u.calT n).queued = false
      ∧ u.get (F.CAL_T_STAT_RUNNING n) = 1)) ∧
  (∀ (s a : State) (t : Nat) (target : Fin 84) (eye : EyeScan) (c : Nat) (w : Nat) (p : InFlight),
    s.Awake t a → (a.calT target).started = some c → (eye.phase.map (fun e => e.2 + 1 - e.1)).getD 0 = w → a.cmd.inflight = [p] → p.wait = .calRun target → p.path ≠ .ridge → p.orphan = false → 
    Runs (.calRunEnd t target eye) s (fun u => (u.calT target).started = none
      ∧ u.has (F.CAL_T_STAT_LAST_FAIL target) = decide (w < a.get F.CAL_CFG_EYE_MIN)
      ∧ (u.Raised (if w < a.get F.CAL_CFG_EYE_MIN then 1 else 0) (if w < a.get F.CAL_CFG_EYE_MIN then 0x5102 else 0x5101) ⟨1, 0x51⟩)
      ∧ u.Answered p.path p.tag 0 0))

/-- A row is loaded in its turn into the latch of its string. A PWM period of at least 1,000 clocks on-time begins with a rise,
and the output falls when the on-time has passed; a due strobe pulse rises for its derated width and the program goes on; a due
diagnostic pulse lasts 4 µs. A measurement of a pulse shows the rounded mean of its codes and judges it. FAULT_CNT agreeing
measurements declare or clear a fault; a declared one holds the string low where LAMP_ACT says so; refused stretches are reported.
LIGHT_CLEAR clears the marks, and LIGHT_MEASURE waits for a pulse. -/
def Obligations.LampsAreDriven : Prop :=
  (∀ (s a : State) (t : Nat) (n : Fin 8),
    s.Awake t a → a.loadDue n = true → a.light.loadEnd ≤ a.ns → (a.lamp n).on = false → a.lightRuns = true → a.rowsLoaded = false → (List.range n).all (fun m => (a.lamp m).latch.isSome) = true → 
    Runs (.rowLoad t n) s (fun u => (u.lamp n).latch = some (a.get (F.LIGHT_STR_LAMP_PATTERN n), a.get (F.LIGHT_STR_LAMP_LAMPS n))
      ∧ u.get (F.LIGHT_S_STAT_LOAD_PEND n) = 0
      ∧ (a.lightDrives = true → Output.signal "LED_COL" [((n : Nat) : Int), bitsOf (a.get (F.LIGHT_STR_LAMP_PATTERN n)) 0 (a.get (F.LIGHT_STR_LAMP_LAMPS n))] ∈ u.out))) ∧
  (∀ (s a : State) (t : Nat) (n : Fin 8),
    s.Awake t a → a.get (F.LIGHT_STR_CTRL_MODE n) = 1 → a.lightRuns = true → a.toPeriod n = 0 → a.lampMay n = true → (a.lamp n).on = false → 1000 ≤ a.pwmOn n → a.has (F.LIGHT_S_STAT_LOAD_PEND n) = false → 
    Runs (.pwmPeriodStart t n) s (fun u => (u.lamp n).on = true
      ∧ (u.lamp n).rise = a.ns
      ∧ (u.lamp n).fall = a.ns + 4 * a.pwmOn n
      ∧ u.get (F.LIGHT_S_STAT_ON n) = 1)) ∧
  (∀ (s a : State) (t : Nat) (n : Fin 8),
    s.Awake t a → (a.lamp n).on = true → (a.lamp n).fall ≤ a.ns → 
    Runs (.pwmOff t n) s (fun u => u.lamp n = { a.lamp n with on := false }
      ∧ u.get (F.LIGHT_S_STAT_ON n) = 0
      ∧ (a.lightDrives = true → Output.signal "LED_PWM" [((n : Nat) : Int), 0] ∈ u.out))) ∧
  (∀ (s a : State) (t : Nat) (n : Fin 8),
    s.Awake t a → (a.lamp n).active = true → a.lightRuns = true → a.strobeAhead n (a.lamp n).pulse a.ns ≤ 0 → -4 ≤ a.strobeAhead n (a.lamp n).pulse a.ns → a.lampMay n = true → (a.lamp n).ask = none → 
    Runs (.strobeRise t n) s (fun u => (u.lamp n).on = true
      ∧ (u.lamp n).pulse = (a.lamp n).pulse + 1
      ∧ (u.lamp n).fall = a.ns + ((a.strobeWidth n : Int) + a.strobeAhead n (a.lamp n).pulse a.ns).toNat)) ∧
  (∀ (s a : State) (t : Nat) (n : Fin 8),
    s.Awake t a → (a.lamp n).on = true → (a.lamp n).fall ≤ a.ns → 
    Runs (.strobeFall t n) s (fun u => u.lamp n = { a.lamp n with on := false }
      ∧ u.get (F.LIGHT_S_STAT_ON n) = 0)) ∧
  (∀ (s a : State) (t : Nat) (n : Fin 8) (next : Int),
    s.Awake t a → a.strobeAhead n (a.lamp n).pulse a.ns = next → a.get (F.LIGHT_STR_CTRL_MODE n) = 3 → a.strobeWidth n < 4000 → a.lightRuns = true → a.lampMay n = true → (a.lamp n).on = false → (a.lamp n).active = true → (a.lamp n).pulse ≠ 0 → next ≤ (a.get (F.LIGHT_STR_PERIOD_NS n) : Int) / 2 → (a.get (F.LIGHT_STR_PERIOD_NS n) : Int) / 2 ≤ next + 4 → 4000 ≤ next → a.has (F.LIGHT_STR_CTRL_STRETCH_EN n) = true → 1024 ≤ (a.lamp n).periods → a.placeable = true → 
    Runs (.diagnosticPulseStart t n) s (fun u => (u.lamp n).on = true
      ∧ (u.lamp n).fall = a.ns + 4000
      ∧ (u.lamp n).periods = 0
      ∧ u.get (F.LIGHT_S_STAT_STARVED n) = 0)) ∧
  (∀ (s a : State) (t : Nat) (n : Fin 8) (codes : List (Fin 4096)) (j k : Nat),
    s.Awake t a → judgeLamp (roundHalfEven ((codes.map (fun v => v.val)).sum : Nat) 8).toNat (a.get (F.LIGHT_STR_SENSE_V0 n) + a.lit n * a.get (F.LIGHT_STR_SENSE_VF n)) (a.get (F.LIGHT_STR_SENSE_VF n)) = (j, k) → codes.length = 8 → a.get (F.LIGHT_STR_SENSE_VF n) ≠ 0 → (a.lamp n).on = true → (a.lamp n).rise + 4000 ≤ (a.lamp n).fall → (a.lamp n).rise + 4000 ≤ a.ns → (a.lamp n).measured = false → (a.lamp n).asked = false → a.cmd.inflight = [] → 
    Runs (.lampMeasurement t n codes) s (fun u => u.get (F.LIGHT_STR_MEAS_LAST_V n) = (roundHalfEven ((codes.map (fun v => v.val)).sum : Nat) 8).toNat
      ∧ (u.lamp n).measured = true
      ∧ (u.lamp n).judged = j
      ∧ (u.lamp n).count = k)) ∧
  (∀ (s : State) (n : Fin 8),
    s.inReset = false → s.lampAgreed n 1 = true → s.has (F.LIGHT_S_STAT_OPEN n) = false → s.pairRole ≠ 2 → 
    Runs (.lampFaultDeclare n) s (fun u => u.get (F.LIGHT_S_STAT_OPEN n) = 1
      ∧ u.Raised 1 0x5801 ⟨1, 0x58⟩)) ∧
  (∀ (s a : State) (t : Nat) (n : Fin 8),
    s.Awake t a → a.has (F.LIGHT_STR_CTRL_LAMP_ACT n) = true → a.has (F.LIGHT_S_STAT_OPEN n) = true → a.has (F.LIGHT_S_STAT_OFF_FAULT n) = false → 
    Runs (.lampOffFault t n) s (fun u => (u.lamp n).on = false
      ∧ u.get (F.LIGHT_S_STAT_OFF_FAULT n) = 1)) ∧
  (∀ (s : State) (n : Fin 8),
    s.inReset = false → s.lampAgreed n 0 = true → 
    Runs (.lampFaultClear n) s (fun u => u.get (F.LIGHT_S_STAT_OPEN n) = 0
      ∧ u.get (F.LIGHT_S_STAT_SHORT n) = 0
      ∧ u.get (F.LIGHT_S_STAT_SHORTS n) = 0)) ∧
  (∀ (s : State) (n : Fin 8),
    s.inReset = false → 1024 ≤ (s.lamp n).refused → s.has (F.LIGHT_S_STAT_STARVED n) = false → s.pairRole ≠ 2 → 
    Runs (.stretchStarved n) s (fun u => u.get (F.LIGHT_S_STAT_STARVED n) = 1
      ∧ u.Raised 1 0x5804 ⟨1, 0x58⟩)) ∧
  (∀ (s : State) (p : Pkt) (n : Nat),
    s.Serves p.path p.tag → p.target.toNat = n → n < 8 → p.body = [] → 
    Runs (.lightClear p) s (fun u => u.get (F.LIGHT_S_STAT_OPEN n) = 0
      ∧ u.get (F.LIGHT_S_STAT_SHORT n) = 0
      ∧ u.get (F.LIGHT_S_STAT_OFF_FAULT n) = 0
      ∧ (u.lamp n).run = 0
      ∧ u.Returned p.path p.tag [])) ∧
  (∀ (s : State) (p : Pkt) (n : Nat),
    s.Serves p.path p.tag → p.target.toNat = n → n < 8 → p.body = [] → s.get (F.LIGHT_STR_CTRL_MODE n) ≠ 0 → s.lit n ≠ 0 → s.get (F.LIGHT_STR_SENSE_VF n) ≠ 0 → s.has (F.LIGHT_S_STAT_OFF_FAULT n) = false → 
    Runs (.lightMeasure p) s (fun u => (u.lamp n).ask = some s.cmd.nextOrder
      ∧ u.Waits s.cmd.nextOrder (.measure n))) ∧
  (∀ (s : State) (p : Pkt) (n : Nat),
    s.Serves p.path p.tag → p.target.toNat = n → n < 8 → p.body = [] → s.lit n = 0 → 
    Runs (.lightMeasure p) s (fun u => u.light = s.light
      ∧ u.Answered p.path p.tag 0x10 0x5820))

/-- On PCIe HUSK_INIT in EMPTY or ERASED takes the device key, enters KEYED or ARMED and returns its check value. HUSK_POLICY in
KEYED takes the policy and enters ARMED. In ARMED, KEY_LOAD unwraps a key into its slot and returns its check value, or is refused
with 0x6032 where its integrity check fails, and KEY_CLEAR empties the slot. HUSK_ACK without a cause clears STOP. HUSK_ZEROIZE in
READY or HALT erases every key at once and stops; when the zeroization is complete the policy is 0, the state EMPTY, and the
packet is answered. -/
def Obligations.KeysAndPolicyAreHeld : Prop :=
  (∀ (s : State) (p : Pkt),
    s.Serves p.path p.tag → p.path = .pcie → p.target = 0 → p.body.length = 8 → s.get F.HUSK_STAT_STATE ≠ 1 → s.get F.HUSK_STAT_STATE ≠ 2 → 
    Runs (.huskInit p) s (fun u => u.husk.dk = some (bodyBytes p.body 32)
      ∧ (u.get F.HUSK_STAT_STATE = (if s.get F.HUSK_STAT_STATE = 0 then 1 else 2))
      ∧ u.Returned p.path p.tag [word (keyCheckValue (bodyBytes p.body 32))])) ∧
  (∀ (s : State) (p : Pkt),
    s.Serves p.path p.tag → p.path ≠ .pcie → 
    Runs (.huskInit p) s (fun u => u.husk = s.husk
      ∧ u.Answered p.path p.tag 0x21 0x6036)) ∧
  (∀ (s : State) (p : Pkt) (v : Word),
    s.Serves p.path p.tag → p.body = [v] → p.target = 0 → s.get F.HUSK_STAT_STATE = 1 → (List.range 6).all (fun k => bitsOf v.toNat (2 * k) 2 != 3) = true → bitsOf v.toNat 12 4 = 0 → v.toNat < 2 ^ 24 → 
    Runs (.huskPolicy p) s (fun u => u.get F.HUSK_POLICY = v.toNat + 2 ^ 31
      ∧ u.get F.HUSK_STAT_STATE = 2
      ∧ u.Returned p.path p.tag [])) ∧
  (∀ (s : State) (p : Pkt) (n : Nat),
    s.Serves p.path p.tag → p.target.toNat = n → 1 ≤ n → n ≤ 64 → p.body.length = 10 → s.get F.HUSK_STAT_STATE = 2 → s.has (F.HUSK_SLOT_IN_USE n) = false → 
    Runs (.keyLoad p) s (fun u => (∀ k, unwrapKey (s.husk.dk.getD []) (bodyBytes p.body 40) = some k → tabGet [] u.husk.keys n = k ∧ u.get F.HUSK_AUTH_FAILS_RUN = 0 ∧ u.Returned p.path p.tag [word (keyCheckValue k)])
      ∧ (unwrapKey (s.husk.dk.getD []) (bodyBytes p.body 40) = none → u.husk.keys = s.husk.keys ∧ u.Answered p.path p.tag 0x10 0x6032))) ∧
  (∀ (s : State) (p : Pkt) (n : Nat),
    s.Serves p.path p.tag → p.target.toNat = n → 1 ≤ n → n ≤ 64 → p.body = [] → s.get F.HUSK_STAT_STATE = 2 → s.has (F.HUSK_SLOT_IN_USE n) = false → 
    Runs (.keyClear p) s (fun u => tabGet [] u.husk.keys n = []
      ∧ u.get (F.HUSK_SLOT_LOADED n) = 0
      ∧ u.Returned p.path p.tag [])) ∧
  (∀ (s : State) (p : Pkt),
    s.Serves p.path p.tag → p.target = 0 → p.body = [] → s.stopAsserted = false → s.has F.HUSK_STAT_ZEROIZING = false → s.has F.HUSK_STAT_ZEROIZE_PENDING = false → 
    Runs (.huskAck p) s (fun u => u.get F.HUSK_STAT_STOP = 0
      ∧ u.husk.inForce = 0
      ∧ u.Returned p.path p.tag [])) ∧
  (∀ (s : State) (p : Pkt),
    s.Serves p.path p.tag → p.target = 0 → p.body = [0x4F52455A] → ((s.dev = 1 ∨ s.dev = 5)) → 
    Runs (.huskZeroize p) s (fun u => u.husk.dk = none
      ∧ u.husk.keys = []
      ∧ u.get F.HUSK_STAT_ZEROIZING = 1
      ∧ u.get F.HUSK_STAT_ZEROIZE_PENDING = 1
      ∧ u.get F.HUSK_STAT_STOP = 1
      ∧ u.Waits s.cmd.nextOrder .zeroize)) ∧
  (∀ (s a : State) (t : Nat) (p : InFlight),
    s.Awake t a → a.cmd.inflight = [p] → a.has F.HUSK_STAT_ZEROIZING = true → p.wait = .zeroize → p.path ≠ .ridge → p.orphan = false → 
    Runs (.zeroizationComplete t) s (fun u => u.get F.HUSK_STAT_STATE = 0
      ∧ u.get F.HUSK_POLICY = 0
      ∧ u.get F.HUSK_STAT_ZEROIZING = 0
      ∧ u.cmd.inflight = []
      ∧ u.Answered p.path p.tag 0 0))

/-- A newly asserted source is latched and logged, with WARN 0x6001. In EMPTY nothing follows. In KEYED every key is erased and
the state is EMPTY. With action STOP the gates close and 0x6010 is raised; with ERASE every key is erased, the state is ERASED,
zeroization begins and 0x6011 is raised. A check that finds nothing clears the assertion. AUTH is raised when RUN reaches
AUTH_LIMIT, and does not stay asserted. Zeroization ends. A low VBAT_KEY warns with 0x6002. -/
def Obligations.AlarmsAct : Prop :=
  (∀ (s a : State) (t : Nat),
    s.Awake t a → bitsOf (a.get F.HUSK_STAT_ASSERTED) 0 1 = 0 → a.get F.HUSK_STAT_STATE = 2 → bitsOf (a.get F.HUSK_POLICY) 0 2 = 1 → a.husk.inForce = 0 → 
    Runs (.meshCheck t true false) s (fun u => bitsOf (u.get F.HUSK_STAT_ASSERTED) 0 1 = 1
      ∧ bitsOf (u.get F.HUSK_LATCHED) 0 1 = 1
      ∧ u.get F.HUSK_STAT_STOP = 1
      ∧ u.husk.keys = a.husk.keys
      ∧ u.Raised 1 0x6001 ⟨1, 0x60⟩
      ∧ u.Raised 4 0x6010 ⟨0, 0⟩)) ∧
  (∀ (s a : State) (t : Nat) (battery : Bool),
    s.Awake t a → 
    Runs (.meshCheck t false battery) s (fun u => bitsOf (u.get F.HUSK_STAT_ASSERTED) 0 1 = 0
      ∧ u.get F.HUSK_LATCHED = a.get F.HUSK_LATCHED
      ∧ u.husk = a.husk)) ∧
  (∀ (s a : State) (t : Nat),
    s.Awake t a → s.sys.pwrfail = false → bitsOf (a.get F.HUSK_STAT_ASSERTED) 1 1 = 0 → a.get F.HUSK_STAT_STATE = 0 → 
    Runs (.voltAlarm t) s (fun u => bitsOf (u.get F.HUSK_LATCHED) 1 1 = 1
      ∧ u.get (F.HUSK_LOG_A_SOURCE (a.get F.HUSK_LOG_HEAD)) = 1
      ∧ u.get F.HUSK_STAT_STOP = a.get F.HUSK_STAT_STOP
      ∧ u.Raised 1 0x6001 ⟨1, 0x60⟩)) ∧
  (∀ (s a : State) (t : Nat),
    s.Awake t a → bitsOf (a.get F.HUSK_STAT_ASSERTED) 2 1 = 0 → a.get F.HUSK_STAT_STATE = 1 → 
    Runs (.clockAlarm t) s (fun u => u.husk.dk = none
      ∧ u.husk.keys = []
      ∧ u.get F.HUSK_STAT_STATE = 0
      ∧ u.Raised 1 0x6001 ⟨1, 0x60⟩)) ∧
  (∀ (s a : State) (t : Nat),
    s.Awake t a → bitsOf (a.get F.HUSK_STAT_ASSERTED) 3 1 = 0 → a.get F.HUSK_STAT_STATE = 2 → bitsOf (a.get F.HUSK_POLICY) 6 2 = 2 → a.husk.inForce < 2 → 
    Runs (.tempCheck t true false) s (fun u => u.husk.dk = none
      ∧ u.husk.keys = []
      ∧ u.get F.HUSK_STAT_STATE = 3
      ∧ u.get F.HUSK_STAT_ZEROIZING = 1
      ∧ u.get F.HUSK_STAT_STOP = 1
      ∧ u.Raised 4 0x6011 ⟨0, 0⟩)) ∧
  (∀ (s a : State) (t : Nat),
    s.Awake t a → bitsOf (a.get F.HUSK_STAT_ASSERTED) 4 1 = 0 → 
    Runs (.debugAlarm t) s (fun u => bitsOf (u.get F.HUSK_STAT_ASSERTED) 4 1 = 1
      ∧ bitsOf (u.get F.HUSK_LATCHED) 4 1 = 1
      ∧ u.get (F.HUSK_LOG_A_SOURCE (a.get F.HUSK_LOG_HEAD)) = 4
      ∧ u.Raised 1 0x6001 ⟨1, 0x60⟩)) ∧
  (∀ (s a : State) (t : Nat),
    s.Awake t a → bitsOf (a.get F.HUSK_POLICY) 16 8 ≠ 0 → bitsOf (a.get F.HUSK_POLICY) 16 8 ≤ a.get F.HUSK_AUTH_FAILS_RUN → bitsOf (a.get F.HUSK_STAT_ASSERTED) 5 1 = 0 → 
    Runs (.authAlarm t) s (fun u => u.get F.HUSK_AUTH_FAILS_RUN = 0
      ∧ bitsOf (u.get F.HUSK_LATCHED) 5 1 = 1
      ∧ bitsOf (u.get F.HUSK_STAT_ASSERTED) 5 1 = 0
      ∧ u.Raised 1 0x6001 ⟨1, 0x60⟩)) ∧
  (∀ (s a : State) (t : Nat) (source : Fin 6),
    s.Awake t a → 
    Runs (.alarmSourceDeassert t source) s (fun u => bitsOf (u.get F.HUSK_STAT_ASSERTED) source 1 = 0
      ∧ u.get F.HUSK_LATCHED = a.get F.HUSK_LATCHED
      ∧ u.husk = a.husk)) ∧
  (∀ (s a : State) (t : Nat),
    s.Awake t a → a.cmd.inflight = [] → a.has F.HUSK_STAT_ZEROIZING = true → 
    Runs (.zeroizationComplete t) s (fun u => u.get F.HUSK_STAT_ZEROIZING = 0
      ∧ u.get F.HUSK_STAT_ZEROIZE_PENDING = 0
      ∧ u.husk = a.husk)) ∧
  (∀ (s a : State) (t millivolts : Nat),
    s.Awake t a → millivolts < 2400 → a.has F.HUSK_STAT_VBAT_LOW = false → 
    Runs (.vbatCheck t millivolts) s (fun u => u.get F.HUSK_STAT_VBAT_LOW = 1
      ∧ u.Raised 1 0x6002 ⟨1, 0x60⟩))

/-- The next held record is released 20 µs after its time in TIME clocks: it takes the next number, joins the queue while that has
room, and a record of class 2 or higher joins the log. A failed log write leaves its record out and sets LOG_FAIL. The episode of
the rate limit ends after 10 ms. ERR_READ returns records from the front of the queue and removes them; LOG_READ returns logged
records from a number on; ERR_ACK closes an open UNIT head, and is refused with 0x6850 where none is open. -/
def Obligations.RecordsAreReleased : Prop :=
  (∀ (s : State) (r : ErrRec),
    nextRecord s.err.held = some r → s.inReset = false → 2 ≤ r.cls → (s.err.queue.filter (fun x => !x.isDrop)).length < 64 → 
    Runs (.errRecordRelease) s (fun u => u.err.queue = s.err.queue ++ [{ r with number := s.err.next }]
      ∧ u.err.held = s.err.held.erase r
      ∧ u.err.log.getLast? = some { r with number := s.err.next }
      ∧ u.err.next = (s.err.next + 1) % 2 ^ 32
      ∧ r.clk + 5000 ≤ u.time.clk)) ∧
  (∀ (s a : State) (t : Nat) (e : Nat),
    s.Awake t a → a.err.rateEpisode = some e → e + 10000000 ≤ a.ns → 
    Runs (.logRateEpisodeEnd t) s (fun u => u.err.rateEpisode = none
      ∧ u.err.log = a.err.log)) ∧
  (∀ (s a : State) (t : Nat),
    s.Awake t a → 
    Runs (.logWriteTimeout t) s (fun u => u.get F.ERR_LOG_STAT_LOG_FAIL = 1
      ∧ u.err.log = a.err.log.dropLast
      ∧ u.err.queue = a.err.queue)) ∧
  (∀ (s : State) (p : Pkt) (w : Word),
    s.Serves p.path p.tag → p.body = [w] → p.target = 0 → 1 ≤ w.toNat → w.toNat ≤ 64 → 
    Runs (.errRead p) s (fun u => u.err.queue = s.err.queue.drop w.toNat
      ∧ u.Returned p.path p.tag ((s.err.queue.take w.toNat).flatMap ErrRec.words))) ∧
  (∀ (s : State) (p : Pkt) (from_ n : Word),
    s.Serves p.path p.tag → p.body = [from_, n] → p.target = 0 → 1 ≤ n.toNat → n.toNat ≤ 64 → 
    Runs (.logRead p) s (fun u => u.err.log = s.err.log
      ∧ u.Returned p.path p.tag (((s.err.log.filter (fun r => decide (0 ≤ diff32 r.number from_.toNat))).take n.toNat).flatMap ErrRec.words))) ∧
  (∀ (s : State) (p : Pkt) (v : Nat),
    s.Serves p.path p.tag → p.target.toNat / 65536 = v → v < 256 → p.target.toNat = v * 65536 → p.body = [] → s.headOpen ⟨1, v⟩ = true → 
    Runs (.errAck p) s (fun u => u.headOpen ⟨1, v⟩ = false
      ∧ u.Returned p.path p.tag [])) ∧
  (∀ (s : State) (p : Pkt) (v : Nat),
    s.Serves p.path p.tag → p.target.toNat / 65536 = v → v < 256 → p.target.toNat = v * 65536 → p.body = [] → s.headOpen ⟨1, v⟩ = false → 
    Runs (.errAck p) s (fun u => u.headOpen ⟨1, v⟩ = false
      ∧ u.Answered p.path p.tag 0x10 0x6850))

/-- A completion timeout of the command ring sets FETCH_ERR and stops the fetching. An LPDDR5 timeout is counted; where the
repetition fails too, the owner of the region handles it: a failed firmware image raises 0x0425 and restarts its core. A core
whose watchdog expires is down, with 0x6840, until its restart is complete; the third restart within 1 s raises 0x6841. -/
def Obligations.TimeoutsAndRestartsAreHandled : Prop :=
  (∀ (s a : State) (t : Nat),
    s.Awake t a → 
    Runs (.pcieCompletionTimeout t .commandRing) s (fun u => u.get F.HOSTIF_RING_STAT_FETCH_ERR = 1
      ∧ u.host.fetchStopped = true
      ∧ u.cmd = a.cmd)) ∧
  (∀ (s a : State) (t : Nat) (region : MemRegion),
    s.Awake t a → a.cmd.inflight = [] → 
    Runs (.lpddr5Timeout t true false region) s (fun u => u.get F.MEM_TIMEOUTS_COUNT = satN 65535 (a.get F.MEM_TIMEOUTS_COUNT + 1)
      ∧ u.get F.MEM_TIMEOUTS_RETRY_FAIL = a.get F.MEM_TIMEOUTS_RETRY_FAIL
      ∧ u.err.held = a.err.held)) ∧
  (∀ (s a : State) (t : Nat) (noData : Bool) (core : Fin 4),
    s.Awake t a → a.err.coresDown.contains (core : Nat) = false → a.cmd.inflight = [] → 
    Runs (.lpddr5Timeout t noData true (.firmware core)) s (fun u => (u.get F.MEM_TIMEOUTS_RETRY_FAIL = (if noData then satN 65535 (a.get F.MEM_TIMEOUTS_RETRY_FAIL + 1) else a.get F.MEM_TIMEOUTS_RETRY_FAIL))
      ∧ (u.get F.MEM_TIMEOUTS_COUNT = (if noData then satN 65535 (a.get F.MEM_TIMEOUTS_COUNT + 1) else a.get F.MEM_TIMEOUTS_COUNT))
      ∧ (core : Nat) ∈ u.err.coresDown
      ∧ u.Raised 3 0x0425 ⟨1, 4⟩)) ∧
  (∀ (s a : State) (t : Nat) (core : Fin 4),
    s.Awake t a → a.err.coresDown.contains (core : Nat) = false → 
    Runs (.watchdogExpiry t core) s (fun u => (core : Nat) ∈ u.err.coresDown
      ∧ u.Raised 3 0x6840 ⟨1, 0x68⟩)) ∧
  (∀ (s a : State) (t : Nat) (core : Fin 4),
    s.Awake t a → a.err.coresDown.contains (core : Nat) = true → a.cmd.inflight = [] → 
    Runs (.coreRestartComplete t core) s (fun u => (core : Nat) ∉ u.err.coresDown
      ∧ u.err.held = a.err.held)) ∧
  (∀ (s a : State) (t : Nat) (core : Fin 4),
    s.Awake t a → 3 ≤ (a.err.restartsAt.filter (fun e => e.1 == (core : Nat) && decide (a.time.clk < e.2 + 250000000))).length → 
    Runs (.repeatedRestart t core) s (fun u => u.Raised 4 0x6841 ⟨0, 0⟩
      ∧ u.err.restartsAt = a.err.restartsAt.filter (fun e => e.1 != (core : Nat))))

/-- A periodic checkpoint, armed and due in BUILD or DRAIN, begins a RUN write of the machine as it stands, and one is taken after
a power failure. A completed write makes its copy the newest and answers the packets that wait for it; a failed one leaves the
copies as they were, with 0x6820. CHECKPOINT waits for the next frame boundary. JOURNAL_INFO and JOURNAL_READ return what the
newest RUN holds. JOURNAL_RESTORE in READY with no work schedules the newest BASE for its frame, where it takes effect and is
answered. -/
def Obligations.CheckpointsAreTaken : Prop :=
  (∀ (s a : State) (k : Nat),
    s.Awake (k * 1000) a → a.get F.ERR_CKPT_CFG_CKPT_MS ≠ 0 → k % (a.get F.ERR_CKPT_CFG_CKPT_MS * 1000) = 0 → a.journal.armed = true → ((a.devAt k = 2 ∨ a.devAt k = 3)) → 
    Runs (.checkpointPeriodic k) s (fun u => u.journal.writing = a.journal.writing ++ [a.runImage k 0]
      ∧ u.get F.ERR_JSTAT_WRITING = 1)) ∧
  (∀ (s a : State) (k : Nat),
    s.Awake (k * 1000) a → a.journal.pwrfailDue = true → 
    Runs (.checkpointPwrfail k) s (fun u => u.journal.pwrfailDue = false
      ∧ u.journal.writing.length = a.journal.writing.length + 1
      ∧ u.journal.writing.getLast?.map (fun r => r.reason) = some 2)) ∧
  (∀ (s a : State) (t : Nat) (r : RunImage) (rest : List RunImage) (p : InFlight),
    s.Awake t a → a.journal.writing = r :: rest → a.cmd.inflight = [p] → p.wait = .checkpoint r.number → p.path ≠ .ridge → p.orphan = false → 
    Runs (.checkpointWriteDone t) s (fun u => u.journal.writing = rest
      ∧ u.journal.runs = (r :: a.journal.runs).take 2
      ∧ u.get F.ERR_JSTAT_RUN_VALID = 1
      ∧ u.Returned p.path p.tag [word r.number])) ∧
  (∀ (s a : State) (t : Nat) (b : BaseImage),
    s.Awake t a → a.journal.writingBase = some b → 
    Runs (.baseWriteDone t) s (fun u => u.journal.writingBase = none
      ∧ u.journal.bases = (b :: a.journal.bases).take 2
      ∧ u.get F.ERR_JSTAT_BASE_VALID = 1)) ∧
  (∀ (s a : State) (t : Nat) (r : RunImage) (rest : List RunImage),
    s.Awake t a → a.journal.writing = r :: rest → 
    Runs (.checkpointWriteFail t) s (fun u => u.journal.writing = rest
      ∧ u.journal.runs = a.journal.runs
      ∧ u.get F.ERR_JSTAT_WRITE_FAIL = 1
      ∧ u.Raised 3 0x6820 ⟨1, 0x68⟩)) ∧
  (∀ (s : State) (p : Pkt),
    s.Serves p.path p.tag → p.target = 0 → p.body = [] → s.dev ≠ 0 → s.dev ≠ 5 → 
    Runs (.checkpoint p) s (fun u => u.journal = s.journal
      ∧ u.Waits s.cmd.nextOrder (.checkpoint 0))) ∧
  (∀ (s : State) (p : Pkt),
    s.Serves p.path p.tag → p.target = 0 → p.body = [] → s.journal.runs = [] → 
    Runs (.journalInfo p) s (fun u => u.journal = s.journal
      ∧ (u.Returned p.path p.tag (word (if s.journal.bases.isEmpty then 0 else 2) :: List.replicate 11 0)))) ∧
  (∀ (s : State) (p : Pkt) (o n : Word) (r : RunImage) (rest : List RunImage),
    s.Serves p.path p.tag → p.body = [o, n] → s.journal.runs = r :: rest → p.target = 0 → 1 ≤ n.toNat → o.toNat + n.toNat ≤ 2896 → 
    Runs (.journalRead p) s (fun u => u.journal = s.journal
      ∧ u.Returned p.path p.tag ((List.range n.toNat).map (fun j => r.word (o.toNat + j))))) ∧
  (∀ (s : State) (p : Pkt) (lo hi c : Word) (b : BaseImage) (rest : List BaseImage),
    s.Serves p.path p.tag → p.body = [lo, hi, c] → s.journal.bases = b :: rest → p.target = 0 → c = 0 → s.dev = 1 → ((∀ x : Fin 64, s.ch x ≤ 1)) → s.cmd.scheduled = [] → s.ns + 10000 ≤ dword lo hi * 1000 → dword lo hi * 1000 ≤ s.ns + 10000000000 → 
    Runs (.journalRestore p) s (fun u => u.journal.armed = true
      ∧ u.cmd.scheduled.map (fun x => x.f) = [dword lo hi]
      ∧ u.Waits s.cmd.nextOrder (.restore (dword lo hi)))) ∧
  (∀ (s : State) (f : Nat) (b : Scheduled) (p : InFlight),
    s.cmd.scheduled = [b] → s.cmd.inflight = [p] → s.inReset = false → s.quiet = true → b.f ≤ f → f * 1000 < 2 ^ 63 → b.whole = some false → b.cascade = false → p.order = b.order → p.wait = .restore b.f → p.path ≠ .ridge → p.orphan = false → 
    Runs (.journalRestoreApply f) s (fun u => u.cmd.scheduled = []
      ∧ u.Answered p.path p.tag 0 0))

/-- Frame: requests of DEV_STATE change only CMD, HOSTIF and the requests of SYS (GO_BUILD also the journal's arming); the safety
pins only SYS; PERST_N only HOSTIF, CMD and the words of SYS and HOSTIF; boot steps only SYS, the training of the ridge links and
the words of SYS, MEM and RIDGE; a PLL loss and the analog trip what entering HALT changes; a lane PLL loss only the links and
HOSTIF; DEV_STATE_REQUEST_ACT only SYS and the record it raises. -/
def Obligations.FrameOfSystem : Prop :=
  (∀ (s : State) (h : Hdr),
    s.Serves h.path h.tag → 
    ∀ i ∈ ([.goBuild h, .drain h, .stop h, .resume h] : List Instr), Runs i s (fun u => s.Only u [.cmd, .host, .sys, .journal] (inUnits [0x01]))) ∧
  (∀ (s a : State) (t length : Nat),
    s.Awake t a → 
    ∀ i ∈ ([.estopAssert t, .estopRelease t, .laserEnableDeassert t, .laserEnableRelease t, .pwrfailRelease t, .bootWindowStart t length] : List Instr), Runs i s (fun u => a.Only u [.sys] (inUnits []))) ∧
  (∀ (s a : State) (t : Nat) (image : Machine.FwImage) (ok : Bool),
    s.Awake t a → 
    ∀ i ∈ ([.mainPllLock t, .mainPllRelock t, .imageReadDone t image, .imageAuthCheck t, .lpddr5TrainingDone t ok, .firmwareStart t, .bootStepTimeout t] : List Instr), Runs i s (fun u => a.Only u [.ridge, .sys] (inUnits [0x00, 0x04, 0x48]))) ∧
  (∀ (s a : State) (t : Nat),
    s.Awake t a → 
    ∀ i ∈ ([.perstAssert t, .perstRelease t] : List Instr), Runs i s (fun u => a.Only u [.host, .cmd] (inUnits [0x00, 0x01]))) ∧
  (∀ (s a : State) (t live : Nat) (lost : Bool),
    s.Awake t a → 
    ∀ i ∈ ([.strapMismatch t live, .romStartCheck t lost] : List Instr), Runs i s (fun u => a.Only u [.sys, .husk, .err, .seq] (inUnits [0x00, 0x60, 0x68]))) ∧
  (∀ (s a : State) (f : Nat),
    s.Awake ((f - 2) * 1000) a → 
    ∀ i ∈ ([.devStateRequestAct f] : List Instr), Runs i s (fun u => a.Only u [.sys, .err, .seq] (inUnits [0x68]))) ∧
  (∀ (s a : State) (t : Nat),
    s.Awake t a → 
    ∀ i ∈ ([.pwrfailAssert t] : List Instr), Runs i s (fun u => a.Only u [.sys, .journal, .err, .seq] (inUnits [0x04, 0x68]))) ∧
  (∀ (s a : State) (t : Nat) (logged : Bool),
    s.Awake t a → 
    ∀ i ∈ ([.mainPllLoss t, .analogThermalTrip t logged] : List Instr), Runs i s (fun u => a.Only u [.sys, .cmd, .err, .seq, .therm, .time, .light] (inUnits [0x00, 0x08, 0x58, 0x68]))) ∧
  (∀ (s a : State) (t : Nat) (lanes : Lanes),
    s.Awake t a → 
    ∀ i ∈ ([.lanePllLoss t lanes] : List Instr), Runs i s (fun u => a.Only u [.sys, .cmd, .host, .stn, .ridge, .err, .seq] (inUnits [0x01, 0x40, 0x48, 0x68])))

/-- Frame: requests of CH_STATE change only CMD, HOSTIF and the requests of SEQ; what decides a channel's transition changes only
SEQ, the plans it starts, the layers it waits for and the records raised; a station's frame and the link's transitions change only
the link, the keeper's part of PAIR and STN's words, with the record raised; FRAME_COMPUTE leaves the packets, the streams' keys
and engines, the ring, the calibration and the thermal part alone; OUTBOUND_FRAME_TX changes only the links and the channel words.
-/
def Obligations.FrameOfChannels : Prop :=
  (∀ (s : State) (h : Hdr) (c : Chan),
    s.Serves h.path h.tag → 
    ∀ i ∈ ([.online h c, .arm h c, .disarm h c, .hold h c, .release h c, .clear h c, .off h c] : List Instr), Runs i s (fun u => s.Only u [.cmd, .host, .seq] (inUnits [0x01]))) ∧
  (∀ (s a : State) (c : Chan) (f : Nat),
    s.Awake ((f - 2) * 1000) a → 
    ∀ i ∈ ([.chRequestAct c f, .holdAtRest c f, .safeStopDeadline f] : List Instr), Runs i s (fun u => a.Only u [.cmd, .seq, .stream, .power, .loop, .err, .sys] (inUnits [0x10, 0x18, 0x28, 0x68]))) ∧
  (∀ (s a : State) (c : Chan) (f : Nat),
    s.Awake ((f - 2) * 1000) a → 
    ∀ i ∈ ([.absorbApplyPending c f] : List Instr), Runs i s (fun u => a.Only u [.seq, .time, .light, .err, .sys] (inUnits [0x08, 0x18, 0x58, 0x68]))) ∧
  (∀ (s a : State) (t : Nat) (c : Chan),
    s.Awake t a → 
    ∀ i ∈ ([.linkOfflineTimeout t c] : List Instr), Runs i s (fun u => a.Only u [.seq] (inUnits []))) ∧
  (∀ (s a : State) (t arr : Nat) (c : Chan) (bytes : List Byte),
    s.Awake t a → 
    ∀ i ∈ ([.inboundFrameRx c t arr bytes, .symbolLockLost t c, .sidebandReplyRx t c bytes] : List Instr), Runs i s (fun u => a.Only u [.stn, .pair, .sys, .err, .seq] (inUnits [0x40, 0x49, 0x68]))) ∧
  (∀ (s a : State) (t : Nat) (c : Chan),
    s.Awake t a → 
    ∀ i ∈ ([.symbolLockAcquired t c] : List Instr), Runs i s (fun u => a.Only u [.stn, .cal, .power, .seq, .stream, .err, .sys] (inUnits [0x10, 0x18, 0x40, 0x51, 0x68]))) ∧
  (∀ (s a : State) (c : Chan) (k : Nat),
    s.Awake (k * 1000 + 900) a → 
    ∀ i ∈ ([.channelMissSafe c k] : List Instr), Runs i s (fun u => a.Only u [.stn, .seq, .err, .sys] (inUnits [0x40, 0x68]))) ∧
  (∀ (s : State) (c : Chan),
    s.inReset = false → 
    ∀ i ∈ ([.frameLockEntry c, .frameLockLoss c] : List Instr), Runs i s (fun u => s.Only u [.stn] (inUnits [0x40]))) ∧
  (∀ (s a : State) (k : Nat) (errors : MemErrors),
    s.Awake (k * 1000 + 900) a → 
    ∀ i ∈ ([.frameCompute k errors] : List Instr), Runs i s (fun u => a.Only u [.axis, .cmd, .col, .err, .journal, .ledger, .light, .loop, .pair, .power, .seq, .stn, .stream, .sys, .time, .trace] (inUnits [0x04, 0x08, 0x10, 0x18, 0x20, 0x21, 0x28, 0x29, 0x30, 0x38, 0x40, 0x49, 0x58, 0x68]))) ∧
  (∀ (s a : State) (k lag : Nat),
    s.Awake (k * 1000 + 1550) a → 
    ∀ i ∈ ([.outboundFrameTx k lag] : List Instr), Runs i s (fun u => a.Only u [.stn] (inUnits [0x18]))) ∧
  (∀ (s a : State) (k : Nat),
    s.Awake (k * 1000 + 600) a → 
    ∀ i ∈ ([.inboundArrivalDeadline k] : List Instr), Runs i s (fun u => a.Only u [.pair] (inUnits [])))

/-- Frame: a packet that only reads (NOP, IDENT, GET_PARAM, SNAPSHOT, DISCARD, CAIRN, FORWARD, COMMIT, TRACE_READ, LEDGER_READ,
COL_READ, LOG_READ, JOURNAL_INFO, JOURNAL_READ, SCAN_PLAN) changes nothing but CMD's packets and batches and the host interface
with its ring words; TRACE_STOP besides only the TRACE words, ERR_ACK the ERR words, CAP_READ the TIME part and words, ERR_READ
the error records and ERR words; the loss and return of a host path, the ring's room and moderation, and ARP and ICMP messages
change at most CMD, HOSTIF and the words of HOSTIF and NET; a NET word's write changes only those; a deadline or completion of a
packet in flight, where no other packet waits for its start, changes only CMD and HOSTIF (a fetch also its stream, a ledger fill
the ledger). -/
def Obligations.FrameOfHostInterface : Prop :=
  (∀ (s : State) (p : Pkt),
    s.Serves p.path p.tag → 
    ∀ i ∈ ([.nop p, .ident p, .getParam p, .snapshot p, .discard p, .cairn p, .traceRead p, .ledgerRead p, .colRead p, .logRead p, .journalInfo p, .journalRead p, .scanPlan p, .forward p, .commit p] : List Instr), Runs i s (fun u => s.Only u [.cmd, .host] (inUnits [0x01]))) ∧
  (∀ (s : State) (p : Pkt),
    s.Serves p.path p.tag → 
    ∀ i ∈ ([.traceStop p, .errAck p, .capRead p, .errRead p] : List Instr), Runs i s (fun u => s.Only u [.cmd, .host, .time, .err] (inUnits [0x01, 0x08, 0x21, 0x68]))) ∧
  (∀ (s a : State) (t cons : Nat) (port : Bool) (path : Path),
    s.Awake t a → 
    ∀ i ∈ ([.pciePathLoss t, .ethPathLoss t port, .hostPathReturn t path, .replyHeldWrite t cons] : List Instr), Runs i s (fun u => a.Only u [.cmd, .host] (inUnits [0x01, 0x09]))) ∧
  (∀ (s a : State) (t : Nat) (port : Bool) (mac : BitVec 48) (src dst : Word) (payload : List Byte),
    s.Awake t a → 
    ∀ i ∈ ([.arpRequest t port mac src dst, .icmpEcho t port mac src dst payload] : List Instr), Runs i s (fun u => a.Only u [] (inUnits []))) ∧
  (∀ (s : State) (h : Hdr) (n : Fin 3) (v : Word),
    s.Serves h.path h.tag → 
    ∀ i ∈ ([.netCmdUdpWrite h n v, .ringReset (some h)] : List Instr), Runs i s (fun u => s.Only u [.cmd, .host] (inUnits [0x01, 0x09]))) ∧
  (∀ (s a : State) (t : Nat) (d : UdpFrame),
    s.Awake t a → datagramPackets d.payload = none → 
    ∀ i ∈ ([.udpDatagramRx t d] : List Instr), Runs i s (fun u => a.Only u [.host] (inUnits []))) ∧
  (∀ (s a : State) (f : Nat),
    s.Awake (f * 1000) a → a.cmd.inflight.all (fun p => p.startClk.isSome) = true → 
    ∀ i ∈ ([.ledgerFillApply f] : List Instr), Runs i s (fun u => a.Only u [.cmd, .host, .ledger] (inUnits [0x01]))) ∧
  (∀ (s a : State) (f : Nat),
    s.Awake ((f + 20) * 1000) a → a.cmd.inflight.all (fun p => p.startClk.isSome) = true → 
    ∀ i ∈ ([.cascadeSnapshotDeadline f] : List Instr), Runs i s (fun u => a.Only u [.cmd, .host] (inUnits [0x01]))) ∧
  (∀ (s : State) (path : Path) (tag : Byte) (bytes : List Byte),
    s.inReset = false → s.cmd.inflight.all (fun p => p.startClk.isSome) = true → 
    ∀ i ∈ ([.streamFetchComplete path tag bytes, .cairnComplete path tag] : List Instr), Runs i s (fun u => s.Only u [.cmd, .host, .stream] (inUnits [0x01, 0x10])))

/-- Frame: stream packets change only CMD, HOSTIF, STREAM, PACK (the context of a stream that closes) and their words; parsing,
decoding and containers change only STREAM, PACK, SYS, the counts of HUSK and the records raised, with their words; channel hold
and admission also the staged queue of SEQ; PACK's own commands only PACK, its words and, for CTX_PERSIST, the journal. -/
def Obligations.FrameOfStreams : Prop :=
  (∀ (s : State) (p : Pkt),
    s.Serves p.path p.tag → 
    ∀ i ∈ ([.streamOpen p, .streamPush p, .streamFetch p] : List Instr), Runs i s (fun u => s.Only u [.cmd, .host, .stream] (inUnits [0x01, 0x10]))) ∧
  (∀ (s : State) (p : Pkt),
    s.Serves p.path p.tag → 
    ∀ i ∈ ([.streamClose p] : List Instr), Runs i s (fun u => s.Only u [.cmd, .host, .stream, .pack, .sys, .err, .seq] (inUnits [0x01, 0x10, 0x11, 0x60, 0x68]))) ∧
  (∀ (s : State) (n : StreamNo) (c : Chan),
    s.inReset = false → 
    ∀ i ∈ ([.streamHeaderParse n, .chunkProcess n, .decodeResume n, .containerPad n, .containerLayer n, .containerProgram n, .containerBlock n, .containerStreamEnd n, .channelHoldTake n c, .streamDone n, .brokenProgramFault c] : List Instr), Runs i s (fun u => s.Only u [.stream, .pack, .sys, .err, .seq] (inUnits [0x10, 0x11, 0x60, 0x68]))) ∧
  (∀ (s : State) (n : StreamNo),
    s.inReset = false → 
    ∀ i ∈ ([.blockStage n] : List Instr), Runs i s (fun u => s.Only u [.stream, .pair, .sys, .err, .seq] (inUnits [0x10, 0x68]))) ∧
  (∀ (s a : State) (c : Chan) (q : Nat),
    s.Awake (q * 1000) a → q ≤ s.us → 
    ∀ i ∈ ([.blockAdmission c q] : List Instr), Runs i s (fun u => a.Only u [.stream, .sys, .err, .seq] (inUnits [0x10, 0x68]))) ∧
  (∀ (s : State) (p : Pkt),
    s.Serves p.path p.tag → 
    ∀ i ∈ ([.packJob p, .ctxSeed p, .ctxPersist p] : List Instr), Runs i s (fun u => s.Only u [.cmd, .host, .pack, .journal] (inUnits [0x01, 0x11]))) ∧
  (∀ (s : State) (e : Fin 6),
    s.inReset = false → 
    ∀ i ∈ ([.jobStart, .engineSwitch e] : List Instr), Runs i s (fun u => s.Only u [.pack, .stream, .sys, .err, .seq] (inUnits [0x10, 0x11, 0x68])))

/-- Frame: PTP and marker messages, the end of a slew, captures and pulses change only the TIME part and TIME's words; those that
raise a record change also what the record changes, and a member that loses its markers its CSTAT word of RIDGE; TIME_VERDICT
changes besides only CMD and HOSTIF; a ridge delay only RIDGE's words. -/
def Obligations.FrameOfTime : Prop :=
  (∀ (s a : State) (t stamp : Nat) (port : Bool) (m : PtpMsg) (n : Fin 24),
    s.Awake t a → 
    ∀ i ∈ ([.ptpMessageRx t port m stamp, .ptpSyncTx t stamp, .delayReqTx t stamp, .ptpPortSwitch t, .markerSend t, .markerDirectionChange t, .trigPulseFall t n] : List Instr), Runs i s (fun u => a.Only u [.time] (inUnits [0x08]))) ∧
  (∀ (s a : State) (m : Machine.RidgeMsg) (k : Marker) (residence : Nat),
    s.Awake m.t a → a.takes 0x04 m = true → 
    ∀ i ∈ ([.markerRx m k residence] : List Instr), Runs i s (fun u => a.Only u [.time] (inUnits [0x08]))) ∧
  (∀ (s a : State) (t : Nat) (n : Fin 24) (e : Fin 8) (rising : Bool),
    s.Awake t a → 
    ∀ i ∈ ([.announceReceiptTimeout t, .syncLoss t, .trigPulseRise t n, .capEdge t e rising] : List Instr), Runs i s (fun u => a.Only u [.time, .err, .sys, .seq] (inUnits [0x08, 0x68]))) ∧
  (∀ (s a : State) (t : Nat),
    s.Awake t a → 
    ∀ i ∈ ([.markerLossHoldover t] : List Instr), Runs i s (fun u => a.Only u [.time, .err, .sys, .seq] (inUnits [0x08, 0x48, 0x68]))) ∧
  (∀ (s : State),
    s.inReset = false → 
    ∀ i ∈ ([.ptpMeasurement, .jumpRefused, .holdoverExit, .misalign] : List Instr), Runs i s (fun u => s.Only u [.time, .err, .sys, .seq] (inUnits [0x08, 0x68]))) ∧
  (∀ (s : State) (p : Pkt),
    s.Serves p.path p.tag → 
    ∀ i ∈ ([.timeVerdict p] : List Instr), Runs i s (fun u => s.Only u [.cmd, .host, .time, .err, .sys, .seq] (inUnits [0x01, 0x08, 0x68]))) ∧
  (∀ (s a : State) (t : Nat) (link : Fin 4) (delay : Half),
    s.Awake t a → 
    ∀ i ∈ ([.ridgeDelayMeasure t link delay] : List Instr), Runs i s (fun u => a.Only u [] (inUnits [0x48])))

/-- Frame: SCAN_TABLE_LOAD and SCAN_FLUSH change only CMD, HOSTIF, SEQ (and, for a flush, the streams' programs, the checkpoint of
a completed layer, the STREAM words and the event) and SEQ's words; TRACE and LEDGER packets only their own part; loop and
emission trips only their loops, SEQ, POWER and the records; digests and their deadline only COL, the beams that the ledger shows
of others, and the records; LAYER_START only STREAM and the record. -/
def Obligations.FrameOfScanning : Prop :=
  (∀ (s : State) (p : Pkt),
    s.Serves p.path p.tag → 
    ∀ i ∈ ([.scanFlush p, .scanTableLoad p, .traceArm p, .traceForce p, .ledgerFill p] : List Instr), Runs i s (fun u => s.Only u [.cmd, .host, .seq, .stream, .journal, .trace, .ledger, .err, .sys] (inUnits [0x01, 0x10, 0x18, 0x21, 0x68]))) ∧
  (∀ (s : State) (c : Chan),
    s.inReset = false → 
    ∀ i ∈ ([.oscillationTrip c, .saturationTrip c, .emissionMonitorTrip c] : List Instr), Runs i s (fun u => s.Only u [.loop, .power, .seq, .err, .sys] (inUnits [0x20, 0x28, 0x68]))) ∧
  (∀ (s : State),
    s.inReset = false → 
    ∀ i ∈ ([.traceDone] : List Instr), Runs i s (fun u => s.Only u [] (inUnits [0x21]))) ∧
  (∀ (s : State) (n : StreamNo) (layer : Word),
    s.inReset = false → 
    ∀ i ∈ ([.layerStart n layer] : List Instr), Runs i s (fun u => s.Only u [.stream, .err, .sys, .seq] (inUnits [0x68]))) ∧
  (∀ (s a : State) (m : Machine.RidgeMsg) (d : DigestFill),
    s.Awake m.t a → 
    ∀ i ∈ ([.digestRx m.toRidgeHead m.payload, .digestFill m d] : List Instr), Runs i s (fun u => a.Only u [.col, .ledger, .err, .sys, .seq, .ridge] (inUnits [0x30, 0x48, 0x68]))) ∧
  (∀ (s : State) (c : Chan),
    s.inReset = false → 
    ∀ i ∈ ([.yieldWarn c] : List Instr), Runs i s (fun u => s.Only u [.col, .err, .sys, .seq] (inUnits [0x68]))) ∧
  (∀ (s a : State) (d : Nat),
    s.Awake ((d + 8) * 1000) a → 
    ∀ i ∈ ([.digestDeadline d] : List Instr), Runs i s (fun u => a.Only u [.col, .err, .sys, .seq] (inUnits [0x30, 0x68])))

/-- Frame: axis packets change only CMD, HOSTIF and AXIS; an encoder, Hall, index, serial, probe or home event changes only AXIS,
FBK's words and the records raised, with what those records change; a keeper's sample also SYS. -/
def Obligations.FrameOfAxes : Prop :=
  (∀ (s : State) (p : Pkt),
    s.Serves p.path p.tag → 
    ∀ i ∈ ([.axisMove p, .axisStop p, .axisHome p, .axisClear p, .axisSetPos p, .probeArm p] : List Instr), Runs i s (fun u => s.Only u [.cmd, .host, .axis] (inUnits [0x01]))) ∧
  (∀ (s a : State) (t code crc : Nat) (a_ : AxisNo) (la lb nE nW : Bool) (hall : Fin 8),
    s.Awake t a → 
    ∀ i ∈ ([.quadratureChange t a_ la lb, .hallChange t a_ hall, .indexEvent t a_, .serialFrameStart t a_, .serialReadingComplete t a_ code nE nW crc, .serialReadingMissing t a_, .speedStill t a_, .probeEdge t a_ la, .homeEdge t a_ la] : List Instr), Runs i s (fun u => a.Only u [.axis, .err, .sys, .seq] (inUnits [0x39, 0x68]))) ∧
  (∀ (s a : State) (t : Nat) (a_ : AxisNo),
    s.Awake t a → 
    ∀ i ∈ ([.serialFeedbackLost t a_] : List Instr), Runs i s (fun u => a.Only u [.axis, .loop, .cmd, .err, .sys, .seq] (inUnits [0x38, 0x68]))) ∧
  (∀ (s a : State) (t : Nat),
    s.Awake t a → 
    ∀ i ∈ ([.episodeEnd t] : List Instr), Runs i s (fun u => a.Only u [.err] (inUnits [])))

/-- Frame: messages of the ring change only RIDGE, its words and the records raised (a link's training also the calibration); a
partner's or the referee's messages and deadlines change only PAIR, its words and the records raised, filled frames also the
station links; the phases of a join change only PAIR and its words. -/
def Obligations.FrameOfRingAndPairs : Prop :=
  (∀ (s a : State) (t : Nat) (link : Fin 4),
    s.Awake t a → 
    ∀ i ∈ ([.ridgeLinkDown t link, .discoverSend t, .noSummitTimeout t] : List Instr), Runs i s (fun u => a.Only u [.ridge, .err, .sys, .seq] (inUnits [0x48, 0x68]))) ∧
  (∀ (s a : State) (m : Machine.RidgeMsg) (at_ : Nat) (node : Machine.RingNode) (ended : Bool) (nodes : List Machine.RingNode),
    s.Awake m.t a → 
    ∀ i ∈ ([.helloRx m.toRidgeHead m.payload node, .discoverRx m.toRidgeHead m.payload ended nodes, .mapRx m at_ nodes] : List Instr), Runs i s (fun u => a.Only u [.ridge, .err, .sys, .seq] (inUnits [0x48, 0x68]))) ∧
  (∀ (s a : State) (t : Nat) (link : Fin 4),
    s.Awake t a → 
    ∀ i ∈ ([.ridgeLinkUp t link] : List Instr), Runs i s (fun u => a.Only u [.ridge, .cal, .power, .seq, .stream, .err, .sys] (inUnits [0x10, 0x18, 0x48, 0x51, 0x68]))) ∧
  (∀ (s a : State) (t number : Nat),
    s.Awake t a → 
    ∀ i ∈ ([.mirrorResend t number, .refereeLost t] : List Instr), Runs i s (fun u => a.Only u [.pair, .err, .sys, .seq] (inUnits [0x49, 0x68]))) ∧
  (∀ (s a : State) (m : Machine.RidgeMsg) (k number q : Nat),
    s.Awake m.t a → 
    ∀ i ∈ ([.fillReqRx m.toRidgeHead m.payload k, .fillDataRx m.toRidgeHead m.payload k, .admitRx m number q, .lockCheckRx m.toRidgeHead m.payload k, .verdictRx m.toRidgeHead m.payload, .heartbeatRx m.toRidgeHead m.payload] : List Instr), Runs i s (fun u => a.Only u [.pair, .stream, .stn, .ridge, .err, .sys, .seq] (inUnits [0x10, 0x40, 0x48, 0x49, 0x68]))) ∧
  (∀ (s a : State) (t : Nat),
    s.Awake t a → 
    ∀ i ∈ ([.autoJoinStart t, .joinRetry t, .joinCopyDone t] : List Instr), Runs i s (fun u => a.Only u [.pair] (inUnits [0x49]))) ∧
  (∀ (s a : State) (t : Nat),
    s.Awake t a → 
    ∀ i ∈ ([.joinReplayCaughtUp t] : List Instr), Runs i s (fun u => a.Only u [.axis, .cmd, .col, .err, .journal, .ledger, .light, .loop, .pair, .power, .seq, .stn, .stream, .sys, .time, .trace] (inUnits [0x04, 0x08, 0x10, 0x18, 0x20, 0x21, 0x28, 0x29, 0x30, 0x38, 0x40, 0x49, 0x58, 0x68]))) ∧
  (∀ (s : State) (p : Pkt),
    s.Serves p.path p.tag → 
    ∀ i ∈ ([.pairSwap p, .pairDrop p, .pairJoin p, .pairVerdict p] : List Instr), Runs i s (fun u => s.Only u [.cmd, .host, .pair, .err, .sys, .seq] (inUnits [0x01, 0x49, 0x68])))

/-- Frame: thermal commands change only THERM, POWER's band, the stations' band and what the records raised change, with their
words; lamp commands only LIGHT, its words and the records raised; LIGHT and THERM packets besides only CMD and HOSTIF. -/
def Obligations.FrameOfThermalAndLight : Prop :=
  (∀ (s : State) (n : Fin 16),
    s.inReset = false → 
    ∀ i ∈ ([.sensorFailed n, .thermalShutdownRequest, .thermalCauseClear] : List Instr), Runs i s (fun u => s.Only u [.therm, .err, .sys, .seq] (inUnits [0x50, 0x68]))) ∧
  (∀ (s a : State) (f : Nat),
    s.Awake (f * 1000) a → 
    ∀ i ∈ ([.powerBandApply f] : List Instr), Runs i s (fun u => a.Only u [.power, .therm] (inUnits [0x50]))) ∧
  (∀ (s a : State) (t : Nat),
    s.Awake t a → 
    ∀ i ∈ ([.shutdownLimitExpiry t] : List Instr), Runs i s (fun u => a.Only u [.sys, .cmd, .err, .seq, .therm, .time, .light] (inUnits [0x00, 0x08, 0x58, 0x68]))) ∧
  (∀ (s a : State) (t : Nat) (n : Fin 8),
    s.Awake t a → 
    ∀ i ∈ ([.pwmPeriodStart t n, .pwmOff t n, .rowLoad t n, .strobeFall t n, .diagnosticPulseStart t n] : List Instr), Runs i s (fun u => a.Only u [.light] (inUnits [0x58]))) ∧
  (∀ (s a : State) (t : Nat) (n : Fin 8),
    s.Awake t a → 
    ∀ i ∈ ([.strobeRise t n, .lampOffFault t n] : List Instr), Runs i s (fun u => a.Only u [.light, .err, .sys, .seq] (inUnits [0x58, 0x68]))) ∧
  (∀ (s : State) (n : Fin 8),
    s.inReset = false → 
    ∀ i ∈ ([.lampFaultDeclare n, .lampFaultClear n, .stretchStarved n] : List Instr), Runs i s (fun u => s.Only u [.err, .sys, .seq] (inUnits [0x58, 0x68]))) ∧
  (∀ (s : State) (p : Pkt),
    s.Serves p.path p.tag → 
    ∀ i ∈ ([.lightClear p, .lightMeasure p, .sensorReadmit p] : List Instr), Runs i s (fun u => s.Only u [.cmd, .host, .light, .therm] (inUnits [0x01, 0x50, 0x58])))

/-- Frame: key packets change only CMD, HOSTIF, HUSK and its words; the end of an alarm source, and of a zeroization for which no
packet waits, only HUSK's words; the release of a record only ERR and the journal's log; core and memory supervision only ERR and
the records; checkpoints only the journal and the words of MEM and ERR, with the record raised. -/
def Obligations.FrameOfKeysAndErrors : Prop :=
  (∀ (s : State) (p : Pkt),
    s.Serves p.path p.tag → 
    ∀ i ∈ ([.huskInit p, .huskPolicy p, .keyLoad p, .keyClear p, .huskAck p, .checkpoint p] : List Instr), Runs i s (fun u => s.Only u [.cmd, .host, .husk, .journal] (inUnits [0x01, 0x04, 0x60, 0x68]))) ∧
  (∀ (s a : State) (t : Nat) (source : Fin 6),
    s.Awake t a → 
    ∀ i ∈ ([.alarmSourceDeassert t source] : List Instr), Runs i s (fun u => a.Only u [] (inUnits [0x60]))) ∧
  (∀ (s a : State) (t : Nat),
    s.Awake t a → a.cmd.inflight = [] → 
    ∀ i ∈ ([.zeroizationComplete t] : List Instr), Runs i s (fun u => a.Only u [] (inUnits [0x60]))) ∧
  (∀ (s a : State) (t millivolts : Nat),
    s.Awake t a → 
    ∀ i ∈ ([.vbatCheck t millivolts] : List Instr), Runs i s (fun u => a.Only u [.err, .sys, .seq] (inUnits [0x60, 0x68]))) ∧
  (∀ (s a : State) (t : Nat) (core : Fin 4),
    s.Awake t a → 
    ∀ i ∈ ([.logRateEpisodeEnd t, .logWriteTimeout t, .watchdogExpiry t core, .repeatedRestart t core] : List Instr), Runs i s (fun u => a.Only u [.err, .sys, .seq] (inUnits [0x68]))) ∧
  (∀ (s a : State) (t : Nat),
    s.Awake t a → 
    ∀ i ∈ ([.baseWriteDone t, .checkpointWriteFail t] : List Instr), Runs i s (fun u => a.Only u [.journal, .err, .sys, .seq] (inUnits [0x04, 0x68])))

/-- While a tag is in flight on a path, any packet that arrives there with the same tag is discarded unexecuted: the packets in
flight stay as they are, nothing but the packet interface and its ring words changes, and it is answered at once with DUP_TAG and
detail 0x0203. For every packet row, and for every row that is a direct write. -/
def Obligations.TagInFlightIsDuplicate : Prop :=
  (∀ (s : State) (p : Pkt),
    s.inReset = false → s.sys.romUp = true → s.sys.firmware = true → p.path ≠ .ridge → s.pathLost p.path = false → s.tagBusy p.path p.tag = true → s.cmd.inflight.all (fun q => q.startClk.isSome && decide (q.order < s.cmd.nextOrder) && !q.wait.isForward) = true → 
    ∀ i ∈ ([.nop p, .ident p, .getParam p, .setParam p, .commit p, .snapshot p, .resetUnit p, .cairn p, .forward p, .discard p, .streamOpen p, .streamPush p, .streamFetch p, .streamClose p, .packJob p, .ctxSeed p, .ctxPersist p, .timeStep p, .timeReset p, .timeVerdict p, .capRead p, .scanFlush p, .scanTableLoad p, .scanPlan p, .traceArm p, .traceStop p, .traceRead p, .traceForce p, .ledgerRead p, .ledgerFill p, .colRead p, .axisMove p, .axisStop p, .axisHome p, .axisClear p, .axisSetPos p, .probeArm p, .pairJoin p, .pairSwap p, .pairDrop p, .pairVerdict p, .calRun p, .sensorReadmit p, .lightClear p, .lightMeasure p, .huskInit p, .huskPolicy p, .keyLoad p, .keyClear p, .huskAck p, .huskZeroize p, .errRead p, .logRead p, .errAck p, .journalInfo p, .journalRead p, .journalRestore p, .checkpoint p] : List Instr), Runs i s (fun u => u.cmd.inflight = s.cmd.inflight
      ∧ u.Answered p.path p.tag 0x23 0x0203
      ∧ s.Only u [.cmd, .host] (inUnits [0x01]))) ∧
  (∀ (s : State) (h : Hdr) (c : Chan) (n : Fin 3) (v : Word),
    s.inReset = false → s.sys.romUp = true → s.sys.firmware = true → h.path ≠ .ridge → s.pathLost h.path = false → s.tagBusy h.path h.tag = true → s.cmd.inflight.all (fun q => q.startClk.isSome && decide (q.order < s.cmd.nextOrder) && !q.wait.isForward) = true → 
    ∀ i ∈ ([.goBuild h, .drain h, .stop h, .resume h, .online h c, .arm h c, .disarm h c, .hold h c, .release h c, .clear h c, .off h c, .netCmdUdpWrite h n v, .timeCfgSourceChange h v, .sbGo h c v, .ringReset (some h)] : List Instr), Runs i s (fun u => u.cmd.inflight = s.cmd.inflight
      ∧ u.Answered h.path h.tag 0x23 0x0203
      ∧ s.Only u [.cmd, .host] (inUnits [0x01])))

/-- A COMMIT whose named frame lies less than 10 µs after the device time at which CMD accepts it is answered REFUSED with detail
0x02E3; the path's batch stays staged, no batch is scheduled, and nothing but the packet interface and its ring words changes. -/
def Obligations.LateCommitIsRefused : Prop :=
  (∀ (s : State) (p : Pkt) (lo hi : Word),
    s.Serves p.path p.tag → p.body = [lo, hi] → p.target = 0 → dword lo hi * 1000 < s.ns + 10000 → 
    ∀ i ∈ ([.commit p] : List Instr), Runs i s (fun u => u.batch p.path = s.batch p.path
      ∧ u.cmd.scheduled = s.cmd.scheduled
      ∧ u.Answered p.path p.tag 0x10 0x02E3
      ∧ s.Only u [.cmd, .host] (inUnits [0x01])))

/-- DISCARD leaves its path without a staged batch, leaves the batches of the other paths as they are, and returns as its result
the number of writes discarded. -/
def Obligations.DiscardEmptiesTheBatch : Prop :=
  (∀ (s : State) (p : Pkt),
    s.Serves p.path p.tag → p.target = 0 → p.body = [] → 
    Runs (.discard p) s (fun u => u.batch p.path = []
      ∧ (∀ q ∈ [Path.pcie, .eth0, .eth1, .ridge], q ≠ p.path → u.batch q = s.batch q)
      ∧ u.Returned p.path p.tag [word (s.batch p.path).length]))

/-- For every command and state, the step of the state with that command at the front of its queue is exec of the command on the
state with the rest of the queue. On an empty queue the step passes one TIME clock, which is the model's choice (log entry 2): out
of reset the count of TIME clocks rises by 1. -/
def Obligations.StepTakesTheFirst : Prop :=
  (∀ (c : Instr) (q : List Instr) (s : State), step { s with pending := c :: q } = exec c { s with pending := q }) ∧
  (∀ s : State, s.pending = [] → s.inReset = false → ∃ t, step s = .next t ∧ t.pending = [] ∧ t.time.clk = s.time.clk + 1)

/-- No command of the block ends in a fault or a refusal, in any state: exec answers a next state in which the waiting commands
are those before. Only PORST_ASSERT, PORST_RELEASE, SYSRST_ASSERT, SYSRST_RELEASE and SYS_RESET_BEGIN can change whether PORST_N
or SYSRST_N is asserted. Every step goes on. -/
def Obligations.EveryCommandGoesOn : Prop :=
  (∀ (i : Instr) (s : State), Runs i s (fun t => t.pending = s.pending ∧ (resets i = false → t.sys.porst = s.sys.porst ∧ t.sys.sysrst = s.sys.sysrst))) ∧
  (∀ s : State, s.goesOn)

/-- While PORST_N or SYSRST_N is asserted, a command other than those of the reset pins, of another pin's level, of the main PLL's
lock or of the key island's watch leaves the state as it is, with nothing on the outputs. -/
def Obligations.InResetNothingElseHappens : Prop :=
  ∀ (i : Instr) (s : State), s.inReset = true → seenInReset i = false → exec i s = .next s.begin

/-- State.reset has PORST_N asserted, no command waiting, device time 0, and every parameter word at its reset value; it meets the
invariant ResetHolds. Reset values that the spec does not give are the model's choices (log entries named in NOTES.md). -/
def Obligations.ResetStateIsHeld : Prop :=
  State.reset.inReset = true ∧ State.reset.pending = [] ∧ State.reset.time.now = 0 ∧ (∀ w : Nat, State.reset.reg w = resetWord w) ∧ State.reset.ResetHolds

/-- Whenever a step leads from a state that meets ResetHolds to a next state, that state meets ResetHolds: while PORST_N or
SYSRST_N is asserted every unit of the frame path, of the host interface and of the control units holds its reset contents, no
firmware runs, FAULT_N is pulled low, and every word outside those that reset does not clear reads its reset value. -/
def Obligations.ResetHoldsTheDevice : Prop :=
  ∀ s t : State, s.ResetHolds → step s = .next t → t.ResetHolds

/-- After a word is written it reads that value and every other word reads as before; a written field that lies within its word
reads the low bits of the value written, every field of another word and every field that shares no bit with it reads as before,
and nothing outside the words changes. The list of words keeps its canonical form: addresses strictly rising, no word listed at
its reset value. -/
def Obligations.WordsHoldWhatIsWritten : Prop :=
  (∀ (s : State) (a b : Nat) (v : Word), (s.setReg a v).reg a = v ∧ (b ≠ a → (s.setReg a v).reg b = s.reg b) ∧ s = { s.setReg a v with regs := s.regs }) ∧
  (∀ (s : State) (f : Fld) (v : Nat), f.lo + f.width ≤ 32 → (s.put f v).get f = v % 2 ^ f.width) ∧
  (∀ (s : State) (f g : Fld) (v : Nat), f.lo + f.width ≤ 32 → (g.addr ≠ f.addr ∨ g.lo + g.width ≤ f.lo ∨ f.lo + f.width ≤ g.lo) →
  (s.put f v).get g = s.get g) ∧
  (∀ (s : State) (a : Nat) (v : Word), s.wordsTidy = true → (s.setReg a v).wordsTidy = true)

/-- A PTP port answers peer delay requests, announces itself as master and sends peer delay requests; in HOLDOVER a good
measurement counts towards the exit, and device time does not step there. When the master falls silent another that has announced
itself is followed. A member keeps its time source whatever CFG says, and turns to the other direction or to HOLDOVER when markers
fail. The referee shows which positions have two devices; the device that a verdict appoints becomes ALONE. PAIR_SWAP and
PAIR_DROP act once the partner has acknowledged them and are decided for their instant. A join starts, copies, cuts, replays and
ends as its rows say. -/
def Obligations.TimePairAndJoinRowsAct : Prop :=
  (∀ (s a : State) (t : Nat) (port : Bool) (m : PtpMsg) (stamp : Nat),
    s.Awake t a → port = a.ptpPort → a.ptpUp = true → m.l2 = a.has F.TIME_CFG_L2 → a.has F.TIME_CFG_P2P = true → a.has F.TIME_CFG_ONE_STEP = false → m.kind = 2 → m.domain = a.get F.TIME_CFG_DOMAIN → 
    Runs (.ptpMessageRx t port m stamp) s (fun u => Output.signal "PTP_PDELAY_RESP" [m.seq, (stamp : Int) + a.tsCorr 1, m.correction, a.ptpVia] ∈ u.out
      ∧ u.time = a.time
      ∧ u.regs = a.regs)) ∧
  (∀ (s a : State) (t stamp : Nat),
    s.Awake t a → a.time.ptpIsMaster = true → a.ptpUp = true → a.time.ptpAnnounceTx = none → 
    Runs (.ptpSyncTx t stamp) s (fun u => Output.signal "PTP_ANNOUNCE" ([(a.time.ptpAnnounceSeq : Int), a.get F.TIME_CFG_DOMAIN, a.ptpVia] ++ a.ptpRank.map (fun (v : Nat) => (v : Int))) ∈ u.out
      ∧ u.time.ptpAnnounceSeq = (a.time.ptpAnnounceSeq + 1) % 65536
      ∧ u.time.ptpSyncSeq = (a.time.ptpSyncSeq + 1) % 65536)) ∧
  (∀ (s a : State) (t stamp : Nat),
    s.Awake t a → a.ptpUp = true → a.has F.TIME_CFG_P2P = true → 
    Runs (.delayReqTx t stamp) s (fun u => Output.signal "PTP_PDELAY_REQ" [a.time.ptpDelaySeq, a.get F.TIME_CFG_DOMAIN, a.ptpVia] ∈ u.out
      ∧ u.time.ptpReq = some (a.time.ptpDelaySeq, (stamp : Int) + a.tsCorr 0))) ∧
  (∀ (s : State) (theta : Int) (en ed : Nat),
    s.time.measured = some (theta, en, ed) → s.inReset = false → s.ptpSource = true → s.get F.TIME_STATE = 2 → s.time.slewEnd = none → s.inThreshold theta = true → 
    Runs (.ptpMeasurement) s (fun u => u.time.goodRun = s.time.goodRun + 1
      ∧ u.time.offset = theta
      ∧ u.get F.TIME_STATE_JUMP_SEEN = 0
      ∧ u.get F.TIME_RATE_ADJ = s.get F.TIME_RATE_ADJ)) ∧
  (∀ (s : State),
    s.inReset = false → s.jumpDue = true → 
    Runs (.jumpRefused) s (fun u => u.time.now = s.time.now
      ∧ u.get F.TIME_STATE = 2
      ∧ u.get F.TIME_STATE_STEPS = s.get F.TIME_STATE_STEPS
      ∧ u.Raised 1 0x0820 ⟨1, 0x08⟩)) ∧
  (∀ (s : State),
    s.inReset = false → s.exitDue = true → 
    Runs (.holdoverExit) s (fun u => u.time.now = s.time.now
      ∧ u.get F.TIME_STATE = 1
      ∧ u.get F.TIME_STATE_STEPS = s.get F.TIME_STATE_STEPS)) ∧
  (∀ (s a : State) (t : Nat) (x : PtpForeign),
    s.Awake t a → a.time.ptpForeign = [x] → a.time.ptpMaster = true → a.time.ptpAnnounceClk + a.announceTimeout ≤ a.time.clk → a.time.clk < x.clk + 3 * 2 ^ x.logAnnounce * 250000000 → a.has F.TIME_CFG_MASTER_EN = false → 
    Runs (.announceReceiptTimeout t) s (fun u => u.time.ptpMaster = true
      ∧ u.time.ptpIsMaster = false
      ∧ u.time.ptpParent = some x.source)) ∧
  (∀ (s a : State) (t : Nat),
    s.Awake t a → a.ptpSource = true → a.get F.TIME_STATE = 1 → a.time.ptpMeasureClk * 16 + 4 * 2 ^ (a.time.ptpLogSync + 4).toNat * 250000000 ≤ a.time.clk * 16 → 
    Runs (.syncLoss t) s (fun u => u.time.now = a.time.now
      ∧ u.get F.TIME_STATE = 2
      ∧ u.get F.TIME_STATE_MASTER = 0)) ∧
  (∀ (s a : State) (t : Nat),
    s.Awake t a → a.has F.TIME_CFG_AUTO_PORT = true → (if a.ptpPort then a.host.pcsLock1 else a.host.pcsLock0) = false → 
    Runs (.ptpPortSwitch t) s (fun u => u.ptpPort = !a.ptpPort
      ∧ u.get F.TIME_STATE = a.get F.TIME_STATE
      ∧ u.time.now = a.time.now)) ∧
  (∀ (s : State) (h : Hdr) (v : Word),
    s.Serves h.path h.tag → s.writesError h.path true [⟨0x080010, BitVec.allOnes 32, v⟩] = none → v.toNat % 2 ≠ s.get F.TIME_CFG_SOURCE → s.isSummit = false → 
    Runs (.timeCfgSourceChange h v) s (fun u => u.get F.TIME_CFG_SOURCE = v.toNat % 2
      ∧ u.get F.TIME_STATE = s.get F.TIME_STATE
      ∧ u.Answered h.path h.tag 0 0)) ∧
  (∀ (s a : State) (t : Nat),
    s.Awake t a → a.isSummit = true → 
    Runs (.markerSend t) s (fun u => u.time.nextMarker = (a.time.nextMarker + 1) % 2 ^ 32
      ∧ u.time.now = a.time.now
      ∧ u.regs = a.regs)) ∧
  (∀ (s a : State) (m : Machine.RidgeMsg) (k : Marker) (residence : Nat),
    s.Awake m.t a → a.isSummit = false → a.takes 0x04 m = true → m.cw ≠ a.time.markerCw → 
    Runs (.markerRx m k residence) s (fun u => (Output.signal "MARKER" [if m.cw then 0 else 1, k.number, k.departure, ((k.correction + residence : Nat) : Int), k.adj, k.state, k.holdCause] ∈ u.out)
      ∧ u.time.offset = a.time.offset
      ∧ u.time.markerNumber = a.time.markerNumber)) ∧
  (∀ (s a : State) (t : Nat),
    s.Awake t a → a.isSummit = false → (if a.time.markerCw then a.time.markerClkCw else a.time.markerClkCcw) = none → 
    Runs (.markerDirectionChange t) s (fun u => u.time.markerCw = !a.time.markerCw
      ∧ u.get F.TIME_STATE = a.get F.TIME_STATE)) ∧
  (∀ (s a : State) (t : Nat),
    s.Awake t a → a.isSummit = false → a.time.markerClkCw = none → a.time.markerClkCcw = none → a.get F.TIME_STATE = 1 → 
    Runs (.markerLossHoldover t) s (fun u => u.get F.TIME_STATE = 2
      ∧ u.get F.TIME_STATE_HOLD_CAUSE = 2
      ∧ u.time.now = a.time.now)) ∧
  (∀ (s : State),
    s.inReset = false → s.isSummit = false → 10 ≤ s.time.misalignRun → s.has F.TIME_STATE_MISALIGN = false → 
    Runs (.misalign) s (fun u => u.get F.TIME_STATE_MISALIGN = 1
      ∧ u.get F.TIME_STATE = s.get F.TIME_STATE
      ∧ u.time = s.time)) ∧
  (∀ (s a : State) (t : Nat) (link : Fin 4) (delay : Half),
    s.Awake t a → a.linkUp link = true → 
    Runs (.ridgeDelayMeasure t link delay) s (fun u => u.get (F.RIDGE_LINK_STAT_DELAY link) = delay.toNat
      ∧ u.time = a.time)) ∧
  (∀ (s a : State) (n : Nat),
    s.Awake ((n * 100 + 20) * 1000) a → a.cascadeRole = 2 → 
    Runs (.refereeEvaluation n) s (fun u => (∀ p : Fin 16, u.has (F.PAIR_REF_VIEW_PAIRED p) = ((a.ridge.map.filter (fun (x : Machine.RingNode) => x.pos == p.val && x.role != 2 && !x.excluded)).length == 2)))) ∧
  (∀ (s a : State) (m : Machine.RidgeMsg) (v : RoleVerdict),
    s.Awake m.t a → verdictOf m.payload = v → a.takes 0x06 m = true → m.payload.length = 32 → v.pos = a.position → v.appoint = a.sys.serial → a.cascadeRole ≠ 2 → a.pair.verdict = none → a.get F.PAIR_VERDICT_NUM < v.number → v.source = a.get F.PAIR_CFG_REF_HOST → a.ns + 3000 ≤ v.at_ * 1000 → 
    Runs (.verdictRx m.toRidgeHead m.payload) s (fun u => u.pair.verdict = some v
      ∧ (v.at_, 0) ∈ u.pair.next)) ∧
  (∀ (s a : State) (n : Nat) (v : RoleVerdict),
    s.Awake (n * 1000) a → a.pair.verdict = some v → v.at_ ≤ a.us → v.appoint = a.sys.serial → a.cmd.inflight = [] → 
    Runs (.verdictApply n) s (fun u => u.pairRole = 0
      ∧ u.pair.verdict = none)) ∧
  (∀ (s : State) (p : Pkt) (lo hi : Word),
    p.body = [lo, hi] → s.inReset = false → s.sys.romUp = true → s.sys.firmware = true → s.pairRole = 1 → p.path ≠ .ridge → s.pathLost p.path = false → s.cmd.inflight = [] → s.tagBusy p.path p.tag = false → s.err.coresDown = [] → p.target = 0 → s.pair.noAck = false → s.maySwap = true → s.ns + 50000 ≤ dword lo hi * 1000 → dword lo hi * 1000 ≤ s.ns + 10000000000 → 
    Runs (.pairSwap p) s (fun u => u.Waits s.cmd.nextOrder (.mirror s.pair.nextMirror)
      ∧ u.pair.next = s.pair.next)) ∧
  (∀ (s a : State) (m : Machine.RidgeMsg) (number : Nat) (x : Mirrored) (p : InFlight) (lo hi : Word),
    s.Awake m.t a → a.mirroredOf number = some x → a.cmd.inflight = [p] → p.body = [lo, hi] → a.takes 0x20 m = true → p.order = x.order → p.opcode = 0x71 → p.target = 0 → a.pairRole = 1 → a.maySwap = true → 50000 ≤ frameLead (dword lo hi) p.acceptNs → frameLead (dword lo hi) p.acceptNs ≤ 10000000000 → 
    Runs (.mirrorAckRx m number) s (fun u => u.Waits p.order (.pairAt (dword lo hi))
      ∧ u.pair.next = a.pair.next ++ [(dword lo hi, 2)])) ∧
  (∀ (s : State) (p : Pkt) (lo hi : Word),
    p.body = [lo, hi] → s.inReset = false → s.sys.romUp = true → s.sys.firmware = true → s.pairRole = 1 → p.path ≠ .ridge → s.pathLost p.path = false → s.cmd.inflight = [] → s.tagBusy p.path p.tag = false → s.err.coresDown = [] → p.target = 0 → s.pair.noAck = false → s.hasShadow = true → s.ns + 50000 ≤ dword lo hi * 1000 → dword lo hi * 1000 ≤ s.ns + 10000000000 → 
    Runs (.pairDrop p) s (fun u => u.Waits s.cmd.nextOrder (.mirror s.pair.nextMirror)
      ∧ u.pair.next = s.pair.next)) ∧
  (∀ (s a : State) (m : Machine.RidgeMsg) (number : Nat) (x : Mirrored) (p : InFlight) (lo hi : Word),
    s.Awake m.t a → a.mirroredOf number = some x → a.cmd.inflight = [p] → p.body = [lo, hi] → a.takes 0x20 m = true → p.order = x.order → p.opcode = 0x73 → p.target = 0 → a.pairRole = 1 → a.hasShadow = true → 50000 ≤ frameLead (dword lo hi) p.acceptNs → frameLead (dword lo hi) p.acceptNs ≤ 10000000000 → 
    Runs (.mirrorAckRx m number) s (fun u => u.Waits p.order (.pairAt (dword lo hi))
      ∧ u.pair.next = a.pair.next ++ [(dword lo hi, 0)])) ∧
  (∀ (s a : State) (v : Nat) (r : Nat),
    s.Awake (v * 1000) a → (a.pair.next.find? (fun e => e.1 == v && [1, 2].contains e.2)).map (fun e => e.2) = some r → v ≤ a.us → a.cmd.inflight = [] → 
    Runs (.pairSwapApply v) s (fun u => u.pairRole = r)) ∧
  (∀ (s a : State) (v : Nat) (r : Nat),
    s.Awake (v * 1000) a → (a.pair.next.find? (fun e => e.1 == v && [0, 3].contains e.2)).map (fun e => e.2) = some r → v ≤ a.us → a.cmd.inflight = [] → 
    Runs (.pairDropApply v) s (fun u => u.pairRole = r)) ∧
  (∀ (s : State) (p : Pkt) (n alo ahi lo hi : Word),
    s.Serves p.path p.tag → p.body = [n, alo, ahi, lo, hi] → p.target.toNat < 16 → p.target.toNat ≠ s.position → s.cascadeRole = 1 → s.has F.PAIR_CFG_REF_HOST = true → s.ns + 50000 ≤ dword lo hi * 1000 → dword lo hi * 1000 ≤ s.ns + 10000000000 → 
    Runs (.pairVerdict p) s (fun u => u.pairRole = s.pairRole
      ∧ u.pair.verdict = s.pair.verdict
      ∧ u.Answered p.path p.tag 0 0)) ∧
  (∀ (s : State) (p : Pkt),
    s.Serves p.path p.tag → p.target = 0 → p.body = [] → s.mayJoin = true → 
    Runs (.pairJoin p) s (fun u => u.get F.PAIR_PSTAT_JOIN_PHASE = 1
      ∧ u.get F.PAIR_JOIN_MB = 0
      ∧ u.pairRole = 0
      ∧ u.Answered p.path p.tag 0 0)) ∧
  (∀ (s a : State) (t : Nat),
    s.Awake t a → a.has F.PAIR_CFG_AUTO_JOIN = true → a.pair.retryClk = none → a.mayJoin = true → 
    Runs (.autoJoinStart t) s (fun u => u.get F.PAIR_PSTAT_JOIN_PHASE = 1
      ∧ u.get F.PAIR_JOIN_MB = 0
      ∧ u.pairRole = 0)) ∧
  (∀ (s a : State) (t : Nat) (c : Nat),
    s.Awake t a → a.pair.retryClk = some c → c ≤ a.time.clk → a.has F.PAIR_CFG_AUTO_JOIN = true → a.mayJoin = true → 
    Runs (.joinRetry t) s (fun u => u.get F.PAIR_PSTAT_JOIN_PHASE = 1
      ∧ u.get F.PAIR_JOIN_MB = 0
      ∧ u.pairRole = 0)) ∧
  (∀ (s a : State) (m : Machine.RidgeMsg) (runs : List Machine.RunImage) (bases : List Machine.BaseImage) (bytes : Nat),
    s.Awake m.t a → a.pairRole = 3 → a.takes 0x30 m = true → 
    Runs (.transferRx m (.journal runs bases) bytes) s (fun u => u.journal.runs = runs
      ∧ u.journal.bases = bases
      ∧ u.get F.PAIR_JOIN_MB = (a.pair.joinBytes + bytes) / 1000000 % 2 ^ 32)) ∧
  (∀ (s a : State) (t : Nat),
    s.Awake t a → a.pairRole = 0 → a.get F.PAIR_PSTAT_JOIN_PHASE = 1 → 
    Runs (.joinCopyDone t) s (fun u => u.get F.PAIR_PSTAT_JOIN_PHASE = 2
      ∧ (∃ c : Nat, u.pair.joinCut = some c ∧ c % 10 = 0 ∧ a.ns + 1000000 ≤ c * 1000)
      ∧ u.pair.joinLimit = some (a.time.clk + 12500000))) ∧
  (∀ (s a : State) (c : Nat),
    s.Awake (c * 1000) a → a.pairRole = 0 → a.get F.PAIR_PSTAT_JOIN_PHASE = 2 → a.pair.joinCut = some c → 
    Runs (.joinCut c) s (fun u => u.get F.PAIR_PSTAT_JOIN_PHASE = 3
      ∧ u.pairRole = 0)) ∧
  (∀ (s a : State) (t : Nat),
    s.Awake t a → a.pairRole = 3 → a.get F.PAIR_PSTAT_JOIN_PHASE = 3 → a.pair.loaded = true → 
    Runs (.joinReplayCaughtUp t) s (fun u => u.get F.PAIR_PSTAT_JOIN_PHASE = 4
      ∧ (∃ l : Nat, u.pair.joinAt = some l ∧ a.ns + 20000 ≤ l * 1000 ∧ (l, 2) ∈ u.pair.next))) ∧
  (∀ (s a : State) (l : Nat),
    s.Awake (l * 1000) a → a.pair.joinAt = some l → l ≤ a.us → ((a.pairRole = 0 ∨ a.pairRole = 3)) → 
    Runs (.joinCairn l) s (fun u => (u.pairRole = (if a.pairRole = 3 then 2 else 1))
      ∧ u.get F.PAIR_PSTAT_JOIN_PHASE = 0)) ∧
  (∀ (s a : State) (t : Nat),
    s.Awake t a → a.joinFails = false → a.joinUnlocked = true → a.cmd.inflight = [] → 
    Runs (.joinAbort t) s (fun u => (u.pairRole = (if a.pairRole = 2 then 3 else 0))
      ∧ u.get F.PAIR_PSTAT_JOIN_PHASE = 0
      ∧ u.Raised 1 0x4951 ⟨1, 0x49⟩))
end

