-- ==== Sys2Proof/Laws/State.lean ====
section
/-!
SUPPORT. Sys2Proof/Laws/State.lean: what each update of the state leaves alone. There is one lemma for each update, a conjunction that `simp`
reads as one rewriting rule for each part of the state, so that no proof unfolds a record update. The proofs take the state apart first, and the
kernel never compares two states whose words it would have to compute.
-/
namespace Sys2Proof.Machine

/-- The parts that no update of this file touches are the same. -/
@[simp] abbrev State.SameInside (t s : State) : Prop :=
  t.pending = s.pending ∧ t.err = s.err ∧ t.journal = s.journal ∧ t.pack = s.pack ∧ t.loop = s.loop ∧ t.trace = s.trace
    ∧ t.power = s.power ∧ t.ledger = s.ledger ∧ t.col = s.col ∧ t.axis = s.axis ∧ t.husk = s.husk ∧ t.ridge = s.ridge ∧ t.pair = s.pair
    ∧ t.therm = s.therm ∧ t.cal = s.cal ∧ t.light = s.light

/-- Every part beside the words and their marks is the same. -/
@[simp] abbrev State.SameBesideWords (t s : State) : Prop :=
  t.SameInside s ∧ t.cmd = s.cmd ∧ t.host = s.host ∧ t.sys = s.sys ∧ t.time = s.time ∧ t.stream = s.stream ∧ t.seq = s.seq
    ∧ t.stn = s.stn ∧ t.out = s.out

@[simp] theorem State.setReg_rest (s : State) (a : Nat) (v : Word) : (s.setReg a v).SameBesideWords s := by
  cases s; and_intros <;> rfl

@[simp] theorem State.setSq_rest (s : State) (c : Nat) (x : SeqCh) :
    (s.setSq c x).SameInside s ∧ (s.setSq c x).regs = s.regs ∧ (s.setSq c x).cmd = s.cmd ∧ (s.setSq c x).host = s.host
      ∧ (s.setSq c x).sys = s.sys ∧ (s.setSq c x).time = s.time ∧ (s.setSq c x).stream = s.stream ∧ (s.setSq c x).stn = s.stn
      ∧ (s.setSq c x).out = s.out := by
  cases s; and_intros <;> rfl

/-- Writing a field, or counting in it, touches nothing beside the words and their marks. -/
@[simp] theorem State.put_rest (s : State) (f : Fld) (v : Nat) :
    (s.put f v).SameBesideWords s ∧ (s.count f v).SameBesideWords s ∧ (s.wrapCount f v).SameBesideWords s := by
  cases s; and_intros <;> rfl

@[simp] theorem State.setLink_rest (s : State) (c : Nat) (x : StnCh) :
    (s.setLink c x).SameInside s ∧ (s.setLink c x).regs = s.regs ∧ (s.setLink c x).cmd = s.cmd ∧ (s.setLink c x).host = s.host
      ∧ (s.setLink c x).sys = s.sys ∧ (s.setLink c x).time = s.time ∧ (s.setLink c x).stream = s.stream ∧ (s.setLink c x).seq = s.seq
      ∧ (s.setLink c x).out = s.out := by
  cases s; and_intros <;> rfl

@[simp] theorem State.emit_rest (s : State) (o : Output) :
    (s.emit o).SameInside s ∧ (s.emit o).regs = s.regs ∧ (s.emit o).cmd = s.cmd ∧ (s.emit o).host = s.host ∧ (s.emit o).sys = s.sys
      ∧ (s.emit o).time = s.time ∧ (s.emit o).stream = s.stream ∧ (s.emit o).seq = s.seq ∧ (s.emit o).stn = s.stn := by
  cases s; and_intros <;> rfl

/-- Writing a field of a signed value, saturating or not, touches nothing beside the words and their marks. -/
@[simp] theorem State.putI_rest (s : State) (f : Fld) (v : Int) :
    (s.putI f v).SameBesideWords s ∧ (s.putSat f v).SameBesideWords s := by
  cases s; and_intros <;> rfl

@[simp] theorem State.setStrm_rest (s : State) (n : Nat) (x : Stream) :
    (s.setStrm n x).SameInside s ∧ (s.setStrm n x).cmd = s.cmd ∧ (s.setStrm n x).host = s.host ∧ (s.setStrm n x).sys = s.sys
      ∧ (s.setStrm n x).time = s.time ∧ (s.setStrm n x).seq = s.seq ∧ (s.setStrm n x).stn = s.stn ∧ (s.setStrm n x).out = s.out := by
  cases s; and_intros <;> rfl

@[simp] theorem State.dropUnit_rest (s : State) (k : Nat) : (s.dropUnit k).SameBesideWords s := by
  cases s; and_intros <;> rfl

@[simp] theorem State.begin_rest (s : State) :
    (s.begin).SameInside s ∧ (s.begin).regs = s.regs ∧ (s.begin).cmd = s.cmd ∧ (s.begin).host = s.host ∧ (s.begin).sys = s.sys
      ∧ (s.begin).time = s.time ∧ (s.begin).stream = s.stream ∧ (s.begin).seq = s.seq ∧ (s.begin).stn = s.stn := by
  cases s; and_intros <;> rfl

@[simp] theorem State.putB_rest (s : State) (f : Fld) (b : Bool) : (s.putB f b).SameBesideWords s := by
  cases s; and_intros <;> rfl

@[simp] theorem State.clocks_rest (s : State) (n : Nat) :
    (s.clocks n).SameInside s ∧ (s.clocks n).regs = s.regs ∧ (s.clocks n).cmd = s.cmd ∧ (s.clocks n).host = s.host
      ∧ (s.clocks n).sys = s.sys ∧ (s.clocks n).stream = s.stream ∧ (s.clocks n).seq = s.seq ∧ (s.clocks n).stn = s.stn
      ∧ (s.clocks n).out = s.out := by
  cases s; and_intros <;> rfl

@[simp] theorem State.closeHead_rest (s : State) (x : Subject) : (s.closeHead x).SameBesideWords s := by
  cases s; and_intros <;> rfl

@[simp] theorem State.bump_rest (s : State) (n : Nat) :
    (s.bump n).SameInside s ∧ (s.bump n).regs = s.regs ∧ (s.bump n).host = s.host ∧ (s.bump n).sys = s.sys ∧ (s.bump n).time = s.time
      ∧ (s.bump n).stream = s.stream ∧ (s.bump n).seq = s.seq ∧ (s.bump n).stn = s.stn ∧ (s.bump n).out = s.out := by
  cases s; and_intros <;> rfl

@[simp] theorem State.put64_rest (s : State) (lo hi : Fld) (v : Nat) : (s.put64 lo hi v).SameBesideWords s := by
  cases s; and_intros <;> rfl

@[simp] theorem State.addDevTrigger_rest (s : State) (d : DevTrigger) :
    (s.addDevTrigger d).SameInside s ∧ (s.addDevTrigger d).regs = s.regs ∧ (s.addDevTrigger d).cmd = s.cmd
      ∧ (s.addDevTrigger d).host = s.host ∧ (s.addDevTrigger d).time = s.time ∧ (s.addDevTrigger d).stream = s.stream
      ∧ (s.addDevTrigger d).seq = s.seq ∧ (s.addDevTrigger d).stn = s.stn ∧ (s.addDevTrigger d).out = s.out := by
  cases s; and_intros <;> rfl

@[simp] theorem State.retire_rest (s : State) (p : InFlight) :
    (s.retire p).SameInside s ∧ (s.retire p).regs = s.regs ∧ (s.retire p).host = s.host ∧ (s.retire p).sys = s.sys
      ∧ (s.retire p).time = s.time ∧ (s.retire p).stream = s.stream ∧ (s.retire p).seq = s.seq ∧ (s.retire p).stn = s.stn
      ∧ (s.retire p).out = s.out := by
  cases s; and_intros <;> rfl

@[simp] theorem State.addChTrigger_rest (s : State) (c : Nat) (d : ChTrigger) :
    (s.addChTrigger c d).SameInside s ∧ (s.addChTrigger c d).regs = s.regs ∧ (s.addChTrigger c d).cmd = s.cmd
      ∧ (s.addChTrigger c d).host = s.host ∧ (s.addChTrigger c d).sys = s.sys ∧ (s.addChTrigger c d).time = s.time
      ∧ (s.addChTrigger c d).stream = s.stream ∧ (s.addChTrigger c d).stn = s.stn ∧ (s.addChTrigger c d).out = s.out := by
  cases s; and_intros <;> rfl

end Sys2Proof.Machine
end

