-- ==== Sys2Proof/Laws/Rows.lean ====
section
/-!
SUPPORT. Sys2Proof/Laws/Rows.lean: what every command's frame (Frame.lean) does: outside reset, in reset, to the queue of commands and to the
levels of the reset pins.
-/
namespace Sys2Proof.Machine

/-- What keeps the queue of commands and the levels of the reset pins keeps everything that a command's frame answers for. -/
@[simp] abbrev State.SamePins (t s : State) : Prop := t.pending = s.pending ∧ t.sys.porst = s.sys.porst ∧ t.sys.sysrst = s.sys.sysrst

@[simp] theorem State.keepPins_pins (s t : State) : (s.keepPins t).SamePins s := by cases t; and_intros <;> rfl

@[simp] theorem State.keepPins_rest (s t : State) : (s.keepPins t).regs = t.regs ∧ (s.keepPins t).out = t.out := by
  cases t; and_intros <;> rfl

/-- The levels of the reset pins decide whether the device is in reset, and nothing else does. -/
theorem State.inReset_of_pins (s t : State) (h : t.SamePins s) : t.inReset = s.inReset := by
  simp only [State.inReset, h.2.1, h.2.2]

@[simp] theorem State.begin_inReset (s : State) : s.begin.inReset = s.inReset := by cases s; rfl

@[simp] theorem State.keepPins_inReset (s t : State) : (s.keepPins t).inReset = s.inReset := State.inReset_of_pins s _ (by simp)

/-- Showing the outputs puts out at most one signal. -/
theorem State.showOutputs_cases (s t : State) : s.showOutputs t = t ∨ ∃ o, s.showOutputs t = t.emit o := by
  unfold State.showOutputs
  split
  · exact .inl rfl
  · exact .inr ⟨_, rfl⟩

@[simp] theorem State.showOutputs_rest (s t : State) :
    (s.showOutputs t).SameInside t ∧ (s.showOutputs t).regs = t.regs ∧ (s.showOutputs t).cmd = t.cmd ∧ (s.showOutputs t).host = t.host
      ∧ (s.showOutputs t).sys = t.sys ∧ (s.showOutputs t).time = t.time ∧ (s.showOutputs t).stream = t.stream
      ∧ (s.showOutputs t).seq = t.seq ∧ (s.showOutputs t).stn = t.stn := by
  rcases s.showOutputs_cases t with h | ⟨_, h⟩ <;> simp [h]

/-- What was put out is still put out once the outputs have been shown. -/
theorem State.showOutputs_out (s t : State) (o : Output) (h : o ∈ t.out) : o ∈ (s.showOutputs t).out := by
  rcases s.showOutputs_cases t with e | ⟨_, e⟩ <;> simp [e, h, State.emit]

/-- A device that passes nothing on mirrors nothing (R154). -/
theorem State.mirrorStream_alone (s t : State) (h : t.passesOn = false) : s.mirrorStream t = t := by
  simp [State.mirrorStream, h]

/-- A row in reset leaves everything but the outputs of the previous command. -/
theorem State.row_in_reset (s : State) (f : State → State) (h : s.inReset = true) : s.row f = s.begin := by
  simp [State.row, h]

/-- A row outside reset is its body, after which HALT's edge is taken, a keeper's partner is told, the queue and the reset pins are as before,
and a change of the outputs is shown. -/
theorem State.row_awake (s : State) (f : State → State) (h : s.inReset = false) :
    s.row f = s.begin.showOutputs (s.begin.keepPins (s.begin.mirrorStream (haltEdge s.begin (f s.begin)))) := by
  simp [State.row, h]

@[simp] theorem State.row_pins (s : State) (f : State → State) : (s.row f).SamePins s := by
  unfold State.row
  dsimp only
  split <;> simp

@[simp] theorem State.pinRow_pins (s : State) (f g : State → State) : (s.pinRow f g).SamePins s := by
  simp [State.pinRow]

theorem State.pinRow_in_reset (s : State) (f g : State → State) (h : s.inReset = true) :
    s.pinRow f g = s.begin.showOutputs (s.begin.keepPins (g s.begin)) := by simp [State.pinRow, h]

theorem State.pinRow_awake (s : State) (f g : State → State) (h : s.inReset = false) :
    s.pinRow f g = s.begin.showOutputs (s.begin.keepPins (haltEdge s.begin (f s.begin))) := by simp [State.pinRow, h]

@[simp] theorem State.resetRow_pending (s : State) (f : State → State) : (s.resetRow f).pending = s.pending := by
  simp [State.resetRow]

/-- HALT's edge is nothing where the state entered is not HALT, or was HALT before. -/
theorem haltEdge_of_not_entered (s t : State) (h : t.dev = 5 → s.dev = 5) : haltEdge s t = t := by
  unfold haltEdge
  split
  · rename_i hc
    exact absurd (h hc.2) hc.1
  · rfl

end Sys2Proof.Machine
end

