-- ==== Sys2Proof/Laws/Errors.lean ====
section
/-!
SUPPORT. Sys2Proof/Laws/Errors.lean: what raising a record does (R577, R582): it joins the records held for their release, and beside the
records, the head of its subject and what its class triggers nothing changes.
-/
namespace Sys2Proof.Machine

/-- The record that enters is held, with its class, subject, detail and arguments. -/
theorem State.enterRecord_held (s : State) (r : ErrRec) :
    ∃ x ∈ (s.enterRecord r).err.held, x.cls = r.cls ∧ x.detail = r.detail ∧ x.subject = r.subject ∧ x.args = r.args := by
  unfold State.enterRecord
  dsimp only
  split
  · split
    · exact ⟨_, List.mem_append_right _ (List.mem_singleton.mpr rfl), rfl, rfl, rfl, rfl⟩
    · refine ⟨_, List.mem_append_right _ (List.mem_singleton.mpr rfl), ?_⟩
      split
      · split <;> exact ⟨rfl, rfl, rfl, rfl⟩
      · exact ⟨rfl, rfl, rfl, rfl⟩
  · split
    · exact ⟨_, List.mem_append_right _ (List.mem_singleton.mpr rfl), rfl, rfl, rfl, rfl⟩
    · exact ⟨_, List.mem_append_right _ (List.mem_singleton.mpr rfl), rfl, rfl, rfl, rfl⟩

/-- A record that enters changes nothing but the records and the words. -/
theorem State.enterRecord_rest (s : State) (r : ErrRec) :
    s.enterRecord r = { s with regs := (s.enterRecord r).regs, err := (s.enterRecord r).err } := by
  unfold State.enterRecord
  dsimp only
  split
  · split <;> (cases s; rfl)
  · split <;> (cases s; rfl)

/-- The one word that a record's entry may change is its subject's OPEN word. -/
theorem State.enterRecord_regs (s : State) (r : ErrRec) :
    (s.enterRecord r).regs = s.regs ∨ ∃ v, (s.enterRecord r).regs = (s.setReg r.subject.openAddr v).regs := by
  unfold State.enterRecord
  dsimp only
  split
  · split <;> exact .inr ⟨_, rfl⟩
  · split
    · exact .inl rfl
    · exact .inr ⟨_, rfl⟩

/-- An INFO, WARN or UNIT record triggers nothing: raising it is its entry (R578). -/
theorem State.raise_low (s : State) (cls : Nat) (x : Subject) (d : Nat) (args : List Int) (h4 : cls ≠ 4) (h5 : cls ≠ 5) :
    s.raise cls false x d args = s.enterRecord
      { cls := cls, subject := x, detail := d, time := s.ns, clk := s.time.clk, epoch := s.cmd.epoch, unstepped := s.get F.TIME_STATE == 0, origin := s.originByte, args := args } := by
  unfold State.raise
  simp [h4, h5]

/-- An INFO, WARN or UNIT record that is raised waits for its release (R588). -/
theorem State.raise_low_raised (s : State) (cls : Nat) (x : Subject) (d : Nat) (args : List Int) (h4 : cls ≠ 4) (h5 : cls ≠ 5) :
    (s.raise cls false x d args).Raised cls d x := by
  rw [s.raise_low cls x d args h4 h5]
  obtain ⟨r, hr, hc, hd, hx, -⟩ := s.enterRecord_held { cls := cls, subject := x, detail := d, time := s.ns, clk := s.time.clk, epoch := s.cmd.epoch, unstepped := s.get F.TIME_STATE == 0, origin := s.originByte, args := args }
  exact ⟨r, hr, hc, hd, hx⟩

/-- Raising an INFO, WARN or UNIT record changes nothing but the records and the words. -/
theorem State.raise_low_rest (s : State) (cls : Nat) (x : Subject) (d : Nat) (args : List Int) (h4 : cls ≠ 4) (h5 : cls ≠ 5) :
    s.raise cls false x d args = { s with regs := (s.raise cls false x d args).regs, err := (s.raise cls false x d args).err } := by
  rw [s.raise_low cls x d args h4 h5]
  exact s.enterRecord_rest _

end Sys2Proof.Machine
end

