-- ==== Sys2Proof/Laws/Replies.lean ====
section
/-!
SUPPORT. Sys2Proof/Laws/Replies.lean: what answering a packet does (R80, R86, R91, R93): its reply is on the outputs or waits for the reply
ring, and beside the packet's place, the replies kept and the ring's words nothing changes.
-/
namespace Sys2Proof.Machine

theorem State.replyIrq_out (s : State) (o : Output) (h : o ∈ s.out) : o ∈ s.replyIrq.out := by
  unfold State.replyIrq
  dsimp only
  split <;> split <;> simp [State.emit, h]

/-- A reply that is sent is on the outputs, or waits for the reply ring. -/
theorem State.send_there (s : State) (r : Reply) (o : Option Origin) :
    Output.reply r ∈ (s.send r o).out ∨ r ∈ (s.send r o).host.held := by
  have eth : ∀ t : State, Output.reply r ∈ (t.sendEth r o).out := by
    intro t
    unfold State.sendEth
    dsimp only
    split <;> simp [State.emit]
  unfold State.send
  split
  · split
    · left
      exact State.replyIrq_out _ _ (by simp [State.emit])
    · right
      simp
  · exact .inl (eth _)

/-! ## What sending a reply leaves alone: everything but the host interface, its words and the outputs -/

/-- The units beside the host interface are as before. -/
@[simp] abbrev State.SameUnits (t s : State) : Prop :=
  t.SameInside s ∧ t.cmd = s.cmd ∧ t.sys = s.sys ∧ t.time = s.time ∧ t.stream = s.stream ∧ t.seq = s.seq ∧ t.stn = s.stn

@[simp] theorem State.replyIrq_rest (s : State) : s.replyIrq.SameUnits s := by
  unfold State.replyIrq
  dsimp only
  split <;> split <;> simp

@[simp] theorem State.ringWrite_rest (s : State) (r : Reply) : (s.ringWrite r).SameUnits s := by simp [State.ringWrite]

@[simp] theorem State.keep_rest (s : State) (o : Option Origin) (r : Reply) : (s.keep o r).SameUnits s := by
  cases o <;> cases s <;> and_intros <;> rfl

@[simp] theorem State.sendEth_rest (s : State) (r : Reply) (o : Option Origin) : (s.sendEth r o).SameUnits s := by
  cases o <;> cases s <;> and_intros <;> rfl

@[simp] theorem State.send_rest (s : State) (r : Reply) (o : Option Origin) : (s.send r o).SameUnits s := by
  unfold State.send
  split
  · split <;> simp
  · simp

/-- A packet of a host path that is answered has its reply there, with its status, detail and results. -/
theorem State.answer_there (s : State) (p : InFlight) (status : Byte) (d : Nat) (res : List Word) (hp : p.path ≠ .ridge)
    (ho : p.orphan = false) :
    Output.reply (s.mkReply p status d res s.ns) ∈ (s.answer p status d res).out ∨ s.mkReply p status d res s.ns ∈ (s.answer p status d res).host.held := by
  unfold State.answer State.answerAt
  simp only [hp, ho, if_false, Bool.false_eq_true]
  exact State.send_there _ _ _

end Sys2Proof.Machine
end

