-- ==== Sys2Proof/Laws/Packets.lean ====
section
/-!
SUPPORT. Sys2Proof/Laws/Packets.lean: what CMD does with a packet that nothing keeps from starting (R86, R121): it starts at once, runs its
opcode, and is answered or waits.
-/
namespace Sys2Proof.Machine

/-- A packet as it stands when it has been accepted and started in one clock. -/
def State.begun (s : State) (op : Byte) (p : Pkt) : InFlight :=
  { path := p.path, tag := p.tag, opcode := op, target := p.target, body := p.body, order := s.cmd.nextOrder, acceptClk := s.time.clk
    acceptNs := s.ns, startClk := some s.time.clk, hostTag := p.tag, acceptFlags := s.flags, mapAt := if op = 0x05 then s.mapPositions else [] }

/-- The state in which its opcode runs: it is the one packet in flight. -/
def State.entered (s : State) (op : Byte) (p : Pkt) : State :=
  { s with cmd := { s.cmd with nextOrder := s.cmd.nextOrder + 1, inflight := [s.begun op p] } }

/-- A packet that has not started uses no inner tag. -/
theorem State.freeInner_alone (t : State) (q : InFlight) (hi : t.cmd.inflight = [q]) (hw : q.wait = .unstarted) : t.freeInner.isSome = true := by
  simp [State.freeInner, hi, hw]
  exact ⟨0, by decide⟩

theorem State.mayBegin_alone (t : State) (q : InFlight) (hc : t.err.coresDown = []) (hi : t.cmd.inflight = [q]) (hw : q.wait = .unstarted) :
    t.mayBegin q = true := by
  simp [State.mayBegin, State.coreDown, hc, hi, keepsBack, coversLater, t.freeInner_alone q hi hw]

/-- The one packet in flight, not started yet, starts and runs its opcode. -/
theorem State.startReady_alone (t : State) (q : InFlight) (hi : t.cmd.inflight = [q]) (hn : q.startClk = none) (hc : t.err.coresDown = [])
    (hf : t.sys.firmware = true) (h0 : t.pairRole = 0) (hw : q.wait = .unstarted) (hj : t.passesOn = false) :
    t.startReady = finishOp { q with startClk := some t.time.clk } (runOp q.opcode.toNat { q with startClk := some t.time.clk }
      { t with cmd := { t.cmd with inflight := [{ q with startClk := some t.time.clk }] } }) := by
  have hb := t.mayBegin_alone q hc hi hw
  have hr : ∀ l : List InFlight, State.pairRole { t with cmd := { t.cmd with inflight := l } } = 0 := fun l => h0
  have hp : ∀ l : List InFlight, State.passesOn { t with cmd := { t.cmd with inflight := l } } = false := fun l => hj
  unfold State.startReady
  simp only [hi, List.filter_cons, hn, Option.isNone_none, if_true, List.filter_nil, State.startAll, List.any_cons, beq_self_eq_true,
    Bool.and_true, List.any_nil, Bool.or_false, Bool.not_true, Bool.false_eq_true, if_false, List.contains_nil, hb]
  unfold State.startPacket
  simp [hi, hf, hr, hp, State.mirrors]

/-- A packet that is served runs its opcode at once; then whatever waited on it goes on. -/
theorem State.takePkt_serves (s : State) (op : Byte) (p : Pkt) (h : s.Serves p.path p.tag) :
    s.takePkt op p = (finishOp (s.begun op p) (runOp op.toNat (s.begun op p) (s.entered op p))).startReady.forwardDone := by
  have hp : (p.path == Path.ridge) = false := by simpa using h.host
  have hs : (p.path == Path.pcie && s.host.fetchStopped) = false := by
    by_cases hq : p.path = .pcie
    · simp [h.fetch hq]
    · simp [hq]
  have he : s.accept { s.newPacket p.path p.tag op p.target p.body with hostTag := p.tag }
      = s.enlist { s.newPacket p.path p.tag op p.target p.body with hostTag := p.tag } := by
    unfold State.accept
    simp [State.newPacket, h.free]
  unfold State.takePkt
  simp only [hp, hs, h.live, h.rom, h.firmware, Bool.not_true, Bool.and_false, Bool.or_false, Bool.false_eq_true, if_false]
  rw [he, State.pump, State.startReady_alone (s.enlist { s.newPacket p.path p.tag op p.target p.body with hostTag := p.tag })
    { s.newPacket p.path p.tag op p.target p.body with hostTag := p.tag } (by simp [State.enlist, h.idle]) rfl h.cores h.firmware h.alone rfl h.unjoined]
  simp only [State.enlist, h.idle, List.nil_append, State.newPacket]
  rfl

/-- With no packet in flight nothing waits to go on. -/
theorem State.pump_idle (t : State) (h : t.cmd.inflight = []) : t.startReady.forwardDone = t := by
  simp [State.startReady, State.startAll, State.forwardDone, forEach, h]

/-- Answering the one packet in flight leaves none. -/
theorem State.answer_inflight (t : State) (q : InFlight) (st : Byte) (d : Nat) (res : List Word) (h : t.cmd.inflight = [q])
    (hp : q.path ≠ .ridge) (ho : q.orphan = false) : (t.answer q st d res).cmd.inflight = [] := by
  unfold State.answer State.answerAt
  simp [hp, ho, State.retire, h]

/-- A served packet whose opcode, not NOP's, is done at once is answered with its results and leaves nothing in flight. -/
theorem State.takePkt_done (s u : State) (op : Byte) (p : Pkt) (res : List Word) (h : s.Serves p.path p.tag)
    (h0 : op ≠ 0) (hr : runOp op.toNat (s.begun op p) (s.entered op p) = (u, .done res)) (hu : u.cmd.inflight = [s.begun op p]) :
    s.takePkt op p = u.answer (s.begun op p) 0 0 res := by
  have hf : finishOp (s.begun op p) (u, .done res) = u.answer (s.begun op p) 0 0 res := by
    exact if_neg h0
  rw [s.takePkt_serves op p h, hr, hf]
  exact State.pump_idle _ (State.answer_inflight u _ 0 0 res hu h.host rfl)

/-- A served packet whose opcode is turned away is answered with that status and detail and leaves nothing in flight. -/
theorem State.takePkt_bad (s u : State) (op : Byte) (p : Pkt) (st : Byte) (d : Nat) (h : s.Serves p.path p.tag)
    (hr : runOp op.toNat (s.begun op p) (s.entered op p) = (u, .bad st d)) (hu : u.cmd.inflight = [s.begun op p]) :
    s.takePkt op p = u.answer (s.begun op p) st d [] := by
  rw [s.takePkt_serves op p h, hr]
  exact State.pump_idle _ (State.answer_inflight u _ st d [] hu h.host rfl)

end Sys2Proof.Machine
end

