-- ==== Sys2Proof/Laws/Time.lean ====
section
/-!
SUPPORT. Sys2Proof/Laws/Time.lean: what the passing of device time alone does (R193, R196): it moves the TIME part and nothing else.
-/
namespace Sys2Proof.Machine

/-- Device time is reached by passing some number of clocks. -/
theorem State.reach_clocks (s : State) (t : Nat) : s.reach t = s ∨ ∃ n, s.reach t = s.clocks n := by
  unfold State.reach
  dsimp only
  split
  · exact .inl rfl
  · exact .inr ⟨_, rfl⟩

/-- A device time that has passed, or lies half the range or more ahead, is not reached (R196). -/
theorem State.reach_past (s : State) (t : Nat) (h : t * 2 ^ 32 ≤ s.time.now ∨ 2 ^ 95 ≤ t * 2 ^ 32 - s.time.now) : s.reach t = s := by
  unfold State.reach
  exact if_pos (h.imp_left Nat.sub_eq_zero_of_le)

/-- TIME clocks are counted one by one. -/
theorem State.clocks_clk (s : State) (n : Nat) : (s.clocks n).time.clk = s.time.clk + n := by cases s; rfl

/-- Reaching a device time moves nothing but the TIME part. -/
@[simp] theorem State.reach_rest (s : State) (t : Nat) :
    (s.reach t).SameInside s ∧ (s.reach t).regs = s.regs ∧ (s.reach t).cmd = s.cmd ∧ (s.reach t).host = s.host ∧ (s.reach t).sys = s.sys
      ∧ (s.reach t).stream = s.stream ∧ (s.reach t).seq = s.seq ∧ (s.reach t).stn = s.stn ∧ (s.reach t).out = s.out := by
  obtain h | ⟨n, h⟩ := s.reach_clocks t <;> simp [h]

end Sys2Proof.Machine
end

