-- ==== Sys2Proof/Laws/Words.lean ====
section
/-!
SUPPORT. Sys2Proof/Laws/Words.lean: what the sparse tables of Arith.lean and the bit fields of parameter words do: reading after writing,
what a write leaves alone, and the canonical form that every table operation keeps.
-/
namespace Sys2Proof.Machine

/-! ## Tables -/

/-- A table in its canonical form: keys strictly rising, and no entry equal to the default of its key. -/
def TabTidy {α : Type} (d : Nat → α) (t : Tab α) : Prop := t.Pairwise (fun a b => a.1 < b.1) ∧ ∀ e ∈ t, e.2 ≠ d e.1

theorem tabGet_insert_same {α : Type} (d : α) (k : Nat) (v : α) (t : Tab α) (h : ∀ e ∈ t, e.1 ≠ k) :
    tabGet d (tabInsert k v t) k = v := by
  induction t with
  | nil => simp [tabInsert, tabGet]
  | cons e t ih =>
    obtain ⟨k', v'⟩ := e
    have hk : k' ≠ k := h (k', v') (by simp)
    unfold tabInsert
    split
    · simp [tabGet]
    · simp only [tabGet, hk, if_false]
      exact ih (fun e he => h e (by simp [he]))

theorem tabGet_insert_ne {α : Type} (d : α) (k j : Nat) (v : α) (t : Tab α) (h : j ≠ k) :
    tabGet d (tabInsert k v t) j = tabGet d t j := by
  induction t with
  | nil => simp [tabInsert, tabGet, Ne.symm h]
  | cons e t ih =>
    obtain ⟨k', v'⟩ := e
    unfold tabInsert
    split
    · simp [tabGet, Ne.symm h]
    · simp only [tabGet, ih]

theorem tabGet_drop_same {α : Type} (d : α) (k : Nat) (t : Tab α) : tabGet d (tabDrop t k) k = d := by
  induction t with
  | nil => rfl
  | cons e t ih =>
    obtain ⟨k', v'⟩ := e
    by_cases hk : k' = k <;> simp_all [tabDrop, tabGet]

theorem tabGet_drop_ne {α : Type} (d : α) (k j : Nat) (t : Tab α) (h : j ≠ k) : tabGet d (tabDrop t k) j = tabGet d t j := by
  induction t with
  | nil => rfl
  | cons e t ih =>
    obtain ⟨k', v'⟩ := e
    by_cases hk : k' = k
    · subst hk
      simpa [tabDrop, tabGet, Ne.symm h] using ih
    · simp only [tabDrop, List.filter_cons, bne_iff_ne, ne_eq, hk, not_false_eq_true, if_true, tabGet] at ih ⊢
      rw [ih]

theorem tabDrop_keys {α : Type} (k : Nat) (t : Tab α) : ∀ e ∈ tabDrop t k, e.1 ≠ k := by
  intro e he
  simpa [tabDrop] using (List.mem_filter.mp he).2

/-- A table reads what was put. -/
theorem tabGet_put_same {α : Type} [DecidableEq α] (d : α) (t : Tab α) (k : Nat) (v : α) : tabGet d (tabPut d t k v) k = v := by
  unfold tabPut
  split
  · rename_i h
    rw [tabGet_drop_same, h]
  · exact tabGet_insert_same d k v _ (tabDrop_keys k t)

/-- A put leaves every other key alone, whatever default that key has. -/
theorem tabGet_put_ne {α : Type} [DecidableEq α] (d d' : α) (t : Tab α) (k j : Nat) (v : α) (h : j ≠ k) :
    tabGet d' (tabPut d t k v) j = tabGet d' t j := by
  unfold tabPut
  split
  · exact tabGet_drop_ne d' k j t h
  · rw [tabGet_insert_ne d' k j v _ h, tabGet_drop_ne d' k j t h]

theorem mem_tabInsert {α : Type} (k : Nat) (v : α) (t : Tab α) (e : Nat × α) : e ∈ tabInsert k v t ↔ e = (k, v) ∨ e ∈ t := by
  induction t with
  | nil => simp [tabInsert]
  | cons a t ih =>
    unfold tabInsert
    split
    · simp
    · simp only [List.mem_cons, ih]
      exact ⟨fun h => h.elim (fun h => .inr (.inl h)) (fun h => h.elim .inl (fun h => .inr (.inr h))),
        fun h => h.elim (fun h => .inr (.inl h)) (fun h => h.elim .inl (fun h => .inr (.inr h)))⟩

theorem tabInsert_pairwise {α : Type} (k : Nat) (v : α) (t : Tab α) (hs : t.Pairwise (fun a b => a.1 < b.1)) (h : ∀ e ∈ t, e.1 ≠ k) :
    (tabInsert k v t).Pairwise (fun a b => a.1 < b.1) := by
  induction t with
  | nil => simp [tabInsert]
  | cons a t ih =>
    have ha := List.pairwise_cons.mp hs
    have hk : a.1 ≠ k := h a (by simp)
    unfold tabInsert
    split
    · rename_i hlt
      refine List.pairwise_cons.mpr ⟨fun e he => ?_, hs⟩
      rcases List.mem_cons.mp he with rfl | he
      · exact hlt
      · exact Nat.lt_trans hlt (ha.1 e he)
    · rename_i hlt
      refine List.pairwise_cons.mpr ⟨fun e he => ?_, ih ha.2 (fun e he => h e (by simp [he]))⟩
      rcases (mem_tabInsert k v t e).mp he with rfl | he
      · exact Nat.lt_of_le_of_ne (Nat.le_of_not_lt hlt) hk
      · exact ha.1 e he

/-- A put keeps a table's canonical form. -/
theorem tabPut_tidy {α : Type} [DecidableEq α] (d : Nat → α) (t : Tab α) (k : Nat) (v : α) (h : TabTidy d t) :
    TabTidy d (tabPut (d k) t k v) := by
  have hd : TabTidy d (tabDrop t k) :=
    ⟨h.1.sublist List.filter_sublist, fun e he => h.2 e (List.mem_filter.mp he).1⟩
  unfold tabPut
  split
  · exact hd
  · rename_i hv
    refine ⟨tabInsert_pairwise k v _ hd.1 (tabDrop_keys k t), fun e he => ?_⟩
    rcases (mem_tabInsert k v _ e).mp he with rfl | he
    · exact hv
    · exact hd.2 e he

/-! ## Bit fields -/

/-- A field reads the low bits of what was put into it. -/
theorem bitsOf_withBits_same (v lo w x : Nat) : bitsOf (withBits v lo w x) lo w = x % 2 ^ w := by
  unfold bitsOf withBits
  have h1 : v % 2 ^ lo < 2 ^ lo := Nat.mod_lt _ (Nat.two_pow_pos lo)
  have h2 : x % 2 ^ w < 2 ^ w := Nat.mod_lt _ (Nat.two_pow_pos w)
  have e : v % 2 ^ lo + x % 2 ^ w * 2 ^ lo + v / 2 ^ (lo + w) * 2 ^ (lo + w)
      = v % 2 ^ lo + 2 ^ lo * (x % 2 ^ w + 2 ^ w * (v / 2 ^ (lo + w))) := by rw [Nat.pow_add]; ring
  rw [e, Nat.add_mul_div_left _ _ (Nat.two_pow_pos lo), Nat.div_eq_of_lt h1, Nat.zero_add, Nat.add_mul_mod_self_left, Nat.mod_eq_of_lt h2]

/-- A word keeps its width when a field within it is put. -/
theorem withBits_lt (v lo w x n : Nat) (hv : v < 2 ^ n) (hw : lo + w ≤ n) : withBits v lo w x < 2 ^ n := by
  unfold withBits
  have h1 : v % 2 ^ lo < 2 ^ lo := Nat.mod_lt _ (Nat.two_pow_pos lo)
  have h2 : x % 2 ^ w < 2 ^ w := Nat.mod_lt _ (Nat.two_pow_pos w)
  have h3 : v % 2 ^ lo + x % 2 ^ w * 2 ^ lo < 2 ^ (lo + w) := by
    rw [Nat.pow_add]
    calc v % 2 ^ lo + x % 2 ^ w * 2 ^ lo < 2 ^ lo + x % 2 ^ w * 2 ^ lo := by omega
      _ = 2 ^ lo * (x % 2 ^ w + 1) := by ring
      _ ≤ 2 ^ lo * 2 ^ w := Nat.mul_le_mul_left _ h2
  have h4 : v / 2 ^ (lo + w) < 2 ^ (n - (lo + w)) := by
    rw [Nat.div_lt_iff_lt_mul (Nat.two_pow_pos _), ← Nat.pow_add, Nat.sub_add_cancel hw]; exact hv
  have h5 : 2 ^ n = 2 ^ (n - (lo + w)) * 2 ^ (lo + w) := by rw [← Nat.pow_add, Nat.sub_add_cancel hw]
  calc v % 2 ^ lo + x % 2 ^ w * 2 ^ lo + v / 2 ^ (lo + w) * 2 ^ (lo + w)
      < 2 ^ (lo + w) + v / 2 ^ (lo + w) * 2 ^ (lo + w) := by omega
    _ = (v / 2 ^ (lo + w) + 1) * 2 ^ (lo + w) := by ring
    _ ≤ 2 ^ (n - (lo + w)) * 2 ^ (lo + w) := Nat.mul_le_mul_right _ h4
    _ = 2 ^ n := h5.symm

end Sys2Proof.Machine
end

