-- ==== Sys2Proof/Tests/Slice0.lean ====
section
/-!
SUPPORT. Sys2Proof/Tests/Slice0.lean: small checks of the model: ill-formed operands that WellFormed refuses, the spec's worked examples where
one operation decides them, and for every statement with hypotheses states and operands that meet them.
-/
open Sys2Proof Sys2Proof.Machine

section
set_option Elab.async false
set_option synthInstance.maxSize 1000

/-! ## Ill-formed operands are refused -/

theorem test_wf_packet_on_ridge : Instr.wf (.nop ⟨.ridge, 1, 0, []⟩) = false := by decide
theorem test_wf_packet_too_long : Instr.wf (.nop ⟨.pcie, 1, 0, List.replicate 4095 0⟩) = false := by decide +kernel
theorem test_wf_packet : Instr.wf (.nop ⟨.pcie, 1, 0, []⟩) = true := by decide
theorem test_wf_write_on_ridge : Instr.wf (.goBuild ⟨.ridge, 1⟩) = false := by decide
theorem test_wf_axis_levels_twice : Instr.wf (.frameBoundary 5 [(3, true, true), (3, false, true)]) = false := by decide
theorem test_wf_axis_level_out_of_range : Instr.wf (.frameBoundary 5 [(16, true, true)]) = false := by decide
theorem test_wf_loop_out_of_range : Instr.wf (.frameCompute 5 { loopBad := [272] }) = false := by decide
theorem test_wf_instant_too_early : Instr.wf (.commitApply 1) = false := by decide
theorem test_wf_lag : Instr.wf (.outboundFrameTx 5 8) = false := by decide
theorem test_wf_straps : Instr.wf (.porstRelease 0 256) = false := by decide
theorem test_wf_live_straps : Instr.wf (.strapMismatch 0 256) = false := by decide
theorem test_wf_period : Instr.wf (.verdictFix 5) = false := by decide
theorem test_wf_crc_blocks : Instr.wf (.lockCheckRx { t := 0, link := 2, type := 0x13, prioDir := 1, src := 1, dst := 0xFF, reach := 0xFF, crc := 0 } [1] 5) = false := by decide
theorem test_wf_sensors : Instr.wf (.thermCycle 10 [] []) = false := by decide
theorem test_wf_lamp_codes : Instr.wf (.lampMeasurement 0 3 []) = false := by decide
theorem test_wf_serial_crc : Instr.wf (.serialReadingComplete 0 3 0 false false 64) = false := by decide
theorem test_wf_doorbell : Instr.wf (.cringDoorbell 0 { prod := 4096 } [0]) = false := by decide
theorem test_wf_keeper_sample : Instr.wf (.fbkSampleRx { t := 0, link := 2, type := 0x31, prioDir := 1, src := 1, dst := 0xFF, reach := 0xFF, payload := [1], crc := 0 } 5 { axes := [], estop := false, laserOff := false }) = false := by decide

/-! ## Worked examples and known answers -/

/-- Chapter 5's worked example, first job: 18 bytes ABAB… into 8 bytes of output. -/
theorem test_encode_stopped : (encode {} (List.flatten (List.replicate 9 [0x41, 0x42])) false 8).data = [0x41, 0x84, 0x0C, 0x2C, 0x48, 0xF0, 0xA0, 0x40] := by
  decide +kernel

/-- The same example: 12 bytes are consumed. -/
theorem test_encode_consumed : (encode {} (List.flatten (List.replicate 9 [0x41, 0x42])) false 8).consumed = 12 := by decide +kernel

/-- The same example: its 12 bytes decode to the 18. -/
theorem test_decode_example :
    (decode {} [0x41, 0x84, 0x0C, 0x2C, 0x48, 0xF0, 0xA0, 0x40, 0x06, 0x07, 0x0A, 0x04] 64).data = List.flatten (List.replicate 9 [0x41, 0x42]) := by
  decide +kernel

/-- Chapter 9's worked example: 18,000 decayed over 150 ticks with a half-life of 100 ticks is 6,364. -/
theorem test_decay_example : decay 100 18000 150 = 6364 := by decide +kernel

/-- The check value of the CRC-32 of R140 (the polynomial of IEEE 802.3). -/
theorem test_crc32_known : crc32 [0x31, 0x32, 0x33, 0x34, 0x35, 0x36, 0x37, 0x38, 0x39] = 0xCBF43926 := by decide +kernel

/-- Chapter 18's example of decoding: address 0x0028_9402 is POWER, channel 37, word 2. -/
theorem test_address_example : splitAddr 0x00289402 = (0x28, 37, 2) := by decide

/-- R6: a word that no address table names reads 0. -/
theorem test_reserved_word_reads_zero : State.reset.reg 0x00FF = 0 := by decide +kernel

/-- The table gives its rows no bits. -/
theorem test_no_word_spells_a_command : decodeTableWord 32 0 = none := by decide

/-! ## States of the tests -/

/-- A device out of reset whose ROM answers, with the main PLL in lock, in boot. -/
def booting : State := { State.reset with sys := { State.reset.sys with porst := false, pll := true, pllOnce := true } }

/-- A device in READY with its firmware running and its safety inputs at their permissive levels. -/
def ready : State :=
  { State.reset with sys := { State.reset.sys with
      porst := false, pll := true, pllOnce := true, romUp := true, firmware := true, estop := false, laserEnable := true, faultLow := false } }.put
    F.SYS_DEV_STATE_STATE 1

/-- The same in BUILD. -/
def building : State := ready.put F.SYS_DEV_STATE_STATE 2

/-- A station's frame for channel `c` and sample instant `k`, all values 0 (R403). -/
def stationFrame (c k : Nat) : List Byte :=
  let b := leBytes 1 0x11 ++ leBytes 1 (64 + c) ++ leBytes 4 k ++ leBytes 32 0
  b ++ leBytes 4 (crc32 b)

/-- A sideband slot of a type, number and data (R413). -/
def sidebandSlot (type sseq lo hi : Nat) : List Byte := SbReq.slot { type := type, addr := 0, lo := lo, hi := hi } sseq

/-- A ridge message of a type that has come clockwise from node 1 for every node, with its CRC (R466). -/
def ridgeMsg (t type : Nat) (payload : List Byte) : Machine.RidgeMsg :=
  let m : Machine.RidgeMsg := { t := t, link := 2, type := BitVec.ofNat 8 type, prioDir := 1, src := 1, dst := 0xFF, reach := 0xFF, payload := payload, crc := 0 }
  { m with crc := word (crc32 (m.header 0xFF ++ payload)) }

/-- The device ready, with channel 3 in a state and its link in another. -/
def chanReady (ch link : Nat) : State := ((ready.put (F.SEQ_CH_STATE_STATE 3) ch).put (F.STN_CFG_ENABLE 3) 1).put (F.STN_LINK_STAT_STATE 3) link

/-- A packet in flight that has started and waits. -/
def waiter (op : Byte) (target : Word) (body : List Word) (w : Wait) : InFlight :=
  { path := .pcie, tag := 9, opcode := op, target := target, body := body, order := 0, acceptClk := 0, startClk := some 0, wait := w }

/-- The device ready with that packet in flight. -/
def waiting (op : Byte) (target : Word) (body : List Word) (w : Wait) : State :=
  { ready with cmd := { nextOrder := 1, inflight := [waiter op target body w] } }

/-- The device ready as the summit of a cascade. -/
def summit : State := ready.put F.SYS_STRAPS_ROLE 1

/-- The summit with PTP as its source, over Ethernet. -/
def ptpReady : State := (summit.put F.TIME_CFG_SOURCE 1).put F.TIME_CFG_L2 1

/-- The device ready with its rings running. -/
def ringed : State := ready.put F.HOSTIF_RING_CTRL_ENABLE 1

/-- The device ready with an address and datagrams enabled on port 0. -/
def netReady : State := (ready.put F.NET_IPV4_ADDR0 0x0A000001).put F.NET_CMD_UDP_ENABLE0 1

/-- A datagram with one NOP of tag 5 (R94). -/
def nopDatagram : UdpFrame :=
  { port := false, mac := 1, srcIp := 0x0A000002, srcUdp := 7, dstIp := 0x0A000001, dstUdp := 47056, fragment := false
    payload := leBytes 2 0x444C ++ leBytes 2 1 ++ leBytes 4 1 ++ leBytes 4 1 ++ leBytes 4 0x500 ++ leBytes 4 0 }

/-- The device ready with stream 7 in a state, and its buffers as given. -/
def streaming (st : Nat) (x : Stream) : State := (ready.put (F.STREAM_S_STAT_STATE 7) st).setStrm 7 x

/-- A valid plain stream header for channels 0 and 3 (R139). -/
def plainHeader : List Byte := leBytes 4 0x53425A4D ++ leBytes 1 1 ++ leBytes 11 0 ++ leBytes 4 5 ++ leBytes 8 9 ++ leBytes 4 0

/-- A chunk of four bytes with its check sequence (R140). -/
def plainChunk : List Byte :=
  let b := leBytes 4 4 ++ leBytes 8 0 ++ leBytes 4 0 ++ [1, 2, 3, 4]
  b ++ leBytes 4 (crc32 b)

/-- A container of a KIND (R144). -/
def container (kind : Nat) (body : List Byte) : List Byte := leBytes 1 kind ++ leBytes 1 0 ++ leBytes 2 body.length ++ body

/-- A program of layer 1 of stream 7 on channel 3. -/
def program3 : Program := { stream := 7, layer := 1, chan := 3, tag := 0, blocks := 1, records := 2, start := 1000 }

/-- Its layer. -/
def layer1 : Layer := { stream := 7, layer := 1, start := 1000, programs := 1, seen := 1 }

/-- A block of a LAUNCH and a LAYER_END record (R148). -/
def blockBody : List Byte :=
  leBytes 4 1 ++ leBytes 1 3 ++ leBytes 1 0 ++ leBytes 2 0 ++ leBytes 2 2 ++ leBytes 2 20
    ++ (leBytes 1 5 ++ leBytes 1 3 ++ leBytes 2 0 ++ leBytes 6 1000 ++ leBytes 2 0) ++ (leBytes 1 7 ++ leBytes 1 2 ++ leBytes 2 0 ++ leBytes 4 5)

/-- A staged block of one record for channel 3. -/
def block3 : Staged := { stream := 7, layer := 1, index := 0, bytes := 16, admitAt := 20, records := [{ type := 3, launch := 900000, duration := 1000 }] }

/-- A job on slot 70 on engine `e`. -/
def job70 (e : Option Nat) : Job :=
  { path := .pcie, tag := 9, slot := 70, decode := false, final := true, fresh := true, inLen := 2, outAddr := 0, outLen := 64, order := 0
    acceptClk := 0, engine := e }


/-! ## Hypotheses are met -/

/-- States and operands that meet the hypotheses of `Obligations.DeviceRequestsAreAccepted`. -/
theorem witness_DeviceRequestsAreAccepted :
    (∃ (s : State) (h : Hdr), s.Serves h.path h.tag ∧ s.dev = 1 ∧ s.timeReady = true) ∧
    (∃ (s : State) (h : Hdr), s.Serves h.path h.tag ∧ s.dev = 2) ∧
    (∃ (s : State) (h : Hdr), s.Serves h.path h.tag ∧ (s.dev = 1 ∨ s.dev = 2 ∨ s.dev = 3)) ∧
    (∃ (s : State) (h : Hdr), s.Serves h.path h.tag ∧ s.dev = 5 ∧ s.standing = 0) :=
  ⟨⟨ready.put F.TIME_STATE 1, ⟨.pcie, 7⟩, by constructor <;> decide +kernel, by decide +kernel⟩,
    ⟨building, ⟨.pcie, 7⟩, by constructor <;> decide +kernel, by decide +kernel⟩,
    ⟨building, ⟨.eth0, 255⟩, by constructor <;> decide +kernel, by decide +kernel⟩,
    ⟨(ready.put F.SYS_DEV_STATE_STATE 5).put F.THERM_TSTAT_VALID 16, ⟨.pcie, 7⟩, by constructor <;> decide +kernel, by decide +kernel⟩⟩

/-- States and operands that meet the hypotheses of `Obligations.DeviceRequestsAct`. -/
theorem witness_DeviceRequestsAct :
    (∃ (s : State) (a : State) (f : Nat) (r : DevTrigger), s.Awake ((f - 2) * 1000) a ∧ a.sys.requests = [r] ∧ r.at_ ≤ f ∧ a.requestCheck (requestBit r.cause) (a.devAt f) = none) ∧
    (∃ (s : State) (a : State) (f : Nat) (r : DevTrigger), s.Awake ((f - 2) * 1000) a ∧ a.sys.requests = [r] ∧ r.at_ ≤ f ∧ (a.requestCheck (requestBit r.cause) (a.devAt f)).isSome = true) ∧
    (∃ (s : State) (a : State) (f : Nat), s.Awake (f * 1000) a ∧ a.sys.haltAt = some f ∧ a.devAt f = 4 ∧ f ≤ a.us) :=
  ⟨⟨{ building with sys := { building.sys with requests := [{ at_ := 25, target := 4, cause := 5, request := true }] } }, _, 25, { at_ := 25, target := 4, cause := 5, request := true }, ⟨rfl, by decide +kernel, by decide +kernel⟩, by decide +kernel⟩,
    ⟨{ building with sys := { building.sys with requests := [{ at_ := 25, target := 2, cause := 2, request := true }] } }, _, 25, { at_ := 25, target := 2, cause := 2, request := true }, ⟨rfl, by decide +kernel, by decide +kernel⟩, by decide +kernel⟩,
    ⟨{ (ready.put F.SYS_DEV_STATE_STATE 4) with sys := { ready.sys with haltAt := some 50 } }, _, 50, ⟨rfl, by decide +kernel, by decide +kernel⟩, by decide +kernel⟩⟩

/-- States and operands that meet the hypotheses of `Obligations.SafetyPinsAreFollowed`. -/
theorem witness_SafetyPinsAreFollowed :
    (∃ (s : State) (a : State) (t : Nat), s.Awake (t) a ∧ a.sys.estop = false ∧ a.pairRole = 0 ∧ (a.devAt a.nextFix = 2 ∨ a.devAt a.nextFix = 3)) ∧
    (∃ (s : State) (a : State) (t : Nat), s.Awake (t) a ∧ a.sys.laserEnable = true ∧ a.pairRole = 0 ∧ (a.devAt a.nextFix = 2 ∨ a.devAt a.nextFix = 3)) :=
  ⟨⟨building, _, 5000, ⟨rfl, by decide +kernel, by decide +kernel⟩, by decide +kernel⟩,
    ⟨building, _, 5000, ⟨rfl, by decide +kernel, by decide +kernel⟩, by decide +kernel⟩⟩

/-- States and operands that meet the hypotheses of `Obligations.ResetsHoldTheBlock`. -/
theorem witness_ResetsHoldTheBlock :
    (∃ (s : State), s.sys.porst = false) ∧
    (∃ (s : State), s.sys.porst = true) ∧
    (∃ (s : State), s.sys.porst = false ∧ s.sys.sysrst = false) ∧
    (∃ (s : State), s.sys.sysrst = true ∧ s.sys.porst = false) ∧
    (∃ (s : State) (c : Nat), s.cmd.sysResetAt = some c ∧ s.inReset = false) ∧
    (∃ (s : State) (a : State) (t : Nat), s.Awake (t) a ∧ a.host.perst = false) :=
  ⟨⟨building, by decide +kernel⟩,
    ⟨State.reset, by decide +kernel⟩,
    ⟨building, by decide +kernel⟩,
    ⟨{ ready with sys := { ready.sys with sysrst := true } }, by decide +kernel⟩,
    ⟨{ ready with cmd := { sysResetAt := some 2500 } }, 2500, by decide +kernel⟩,
    ⟨building, _, 5000, ⟨rfl, by decide +kernel, by decide +kernel⟩, by decide +kernel⟩⟩

/-- States and operands that meet the hypotheses of `Obligations.PowerAndClockEventsAreSeen`. -/
theorem witness_PowerAndClockEventsAreSeen :
    (∃ (s : State) (a : State) (t : Nat), s.Awake (t) a ∧ a.sys.pwrfail = false) ∧
    (∃ (s : State) (a : State) (t : Nat), s.Awake (t) a ∧ a.sys.pll = true ∧ a.dev ≠ 5) ∧
    (∃ (s : State) (a : State) (t : Nat), s.Awake (t) a) ∧
    (∃ (s : State) (a : State) (t : Nat), s.Awake (t) a) ∧
    (∃ (s : State) (a : State) (t : Nat) (live : Nat), s.Awake (t) a ∧ live % 256 ≠ (a.reg F.SYS_STRAPS_POS.addr).toNat % 256 ∧ a.sys.strapMismatch = false) ∧
    (∃ (s : State) (a : State) (t : Nat), s.Awake (t) a ∧ a.sys.thermtripLow = false ∧ a.dev ≠ 5) :=
  ⟨⟨building, _, 5000, ⟨rfl, by decide +kernel, by decide +kernel⟩, by decide +kernel⟩,
    ⟨building, _, 5000, ⟨rfl, by decide +kernel, by decide +kernel⟩, by decide +kernel⟩,
    ⟨ready, _, 5000, ⟨rfl, by decide +kernel, by decide +kernel⟩⟩,
    ⟨ready, _, 5000, ⟨rfl, by decide +kernel, by decide +kernel⟩⟩,
    ⟨ready, _, 5000, 1, ⟨rfl, by decide +kernel, by decide +kernel⟩, by decide +kernel⟩,
    ⟨building, _, 5000, ⟨rfl, by decide +kernel, by decide +kernel⟩, by decide +kernel⟩⟩

/-- States and operands that meet the hypotheses of `Obligations.BootAdvances`. -/
theorem witness_BootAdvances :
    (∃ (s : State) (a : State) (t : Nat), s.Awake (t) a ∧ a.sys.pll = false ∧ a.booting = true ∧ a.step_ = 0) ∧
    (∃ (s : State) (a : State) (t : Nat), s.Awake (t) a ∧ a.booting = true ∧ a.step_ = 1 ∧ a.get F.SYS_STRAPS_ROLE ≠ 3 ∧ a.get F.SYS_STRAPS_BOOT ≠ 3) ∧
    (∃ (s : State) (a : State) (t : Nat), s.Awake (t) a ∧ a.booting = true ∧ a.step_ = 1 ∧ (a.get F.SYS_STRAPS_ROLE = 3 ∨ a.get F.SYS_STRAPS_BOOT = 3)) ∧
    (∃ (s : State) (a : State) (t : Nat), s.Awake (t) a ∧ a.booting = true ∧ a.step_ = 2 ∧ a.get F.SYS_BOOT_STAT_SLOT ≠ 2) ∧
    (∃ (s : State) (a : State) (t : Nat) (i : FwImage), s.Awake (t) a ∧ a.sys.image = some i ∧ a.booting = true ∧ a.step_ = 3) ∧
    (∃ (s : State) (a : State) (t : Nat), s.Awake (t) a ∧ a.booting = true ∧ a.sys.romUp = true ∧ a.sys.trained = false) ∧
    (∃ (s : State) (a : State) (t : Nat), s.Awake (t) a ∧ a.booting = true ∧ a.sys.romUp = true ∧ a.sys.trained = false) ∧
    (∃ (s : State) (a : State) (t : Nat) (i : FwImage), s.Awake (t) a ∧ a.sys.image = some i ∧ a.booting = true ∧ a.sys.imageOk = true ∧ a.sys.trained = true ∧ a.sys.firmware = false) ∧
    (∃ (s : State) (a : State) (t : Nat), s.Awake (t) a ∧ a.booting = true ∧ a.step_ = 6 ∧ a.sys.firmware = true ∧ a.sys.pll = true ∧ a.cmd.inflight = []) ∧
    (∃ (s : State) (a : State) (t : Nat), s.Awake (t) a ∧ a.booting = true ∧ a.step_ ≤ 1 ∧ a.sys.releaseClk + stepLimit a.step_ * 250 < a.time.clk) ∧
    (∃ (s : State) (a : State) (t : Nat), s.Awake (t) a ∧ a.booting = true ∧ a.step_ = 2 ∧ a.get F.SYS_BOOT_STAT_SLOT = 2 ∧ a.sys.bar2 = true ∧ a.host.perst = false) :=
  ⟨⟨{ booting with sys := { booting.sys with pll := false } }, _, 5000, ⟨rfl, by decide +kernel, by decide +kernel⟩, by decide +kernel⟩,
    ⟨booting.put F.SYS_BOOT_STAT_STEP 1, _, 5000, ⟨rfl, by decide +kernel, by decide +kernel⟩, by decide +kernel⟩,
    ⟨(booting.put F.SYS_BOOT_STAT_STEP 1).put F.SYS_STRAPS_ROLE 3, _, 5000, ⟨rfl, by decide +kernel, by decide +kernel⟩, by decide +kernel⟩,
    ⟨booting.put F.SYS_BOOT_STAT_STEP 2, _, 5000, ⟨rfl, by decide +kernel, by decide +kernel⟩, by decide +kernel⟩,
    ⟨{ (booting.put F.SYS_BOOT_STAT_STEP 3) with sys := { booting.sys with image := some { length := 4096 } } }, _, 5000, { length := 4096 }, ⟨rfl, by decide +kernel, by decide +kernel⟩, by decide +kernel⟩,
    ⟨{ booting with sys := { booting.sys with romUp := true } }, _, 5000, ⟨rfl, by decide +kernel, by decide +kernel⟩, by decide +kernel⟩,
    ⟨{ booting with sys := { booting.sys with romUp := true } }, _, 5000, ⟨rfl, by decide +kernel, by decide +kernel⟩, by decide +kernel⟩,
    ⟨{ booting with sys := { booting.sys with image := some { length := 4096, fwRev := 3 }, imageOk := true, trained := true } }, _, 5000, { length := 4096, fwRev := 3 }, ⟨rfl, by decide +kernel, by decide +kernel⟩, by decide +kernel⟩,
    ⟨{ (booting.put F.SYS_BOOT_STAT_STEP 6) with sys := { booting.sys with firmware := true } }, _, 5000, ⟨rfl, by decide +kernel, by decide +kernel⟩, by decide +kernel⟩,
    ⟨booting.put F.SYS_BOOT_STAT_STEP 1, _, 1000004, ⟨rfl, by decide +kernel, by decide +kernel⟩, by decide +kernel⟩,
    ⟨(booting.put F.SYS_BOOT_STAT_STEP 2).put F.SYS_BOOT_STAT_SLOT 2, _, 5000, ⟨rfl, by decide +kernel, by decide +kernel⟩, by decide +kernel⟩⟩

/-- States and operands that meet the hypotheses of `Obligations.ChannelRequestsAreAccepted`. -/
theorem witness_ChannelRequestsAreAccepted :
    (∃ (s : State) (h : Hdr) (c : Chan), s.Serves h.path h.tag ∧ s.ch c = 0 ∧ s.frameLock c = true ∧ s.cascadeRole ≠ 2) ∧
    (∃ (s : State) (h : Hdr) (c : Chan), s.Serves h.path h.tag ∧ (s.ch c ≠ 0 ∨ s.frameLock c = false ∨ s.cascadeRole = 2)) ∧
    (∃ (s : State) (h : Hdr) (c : Chan), s.Serves h.path h.tag ∧ s.ch c = 1 ∧ s.sys.laserEnable = true ∧ s.programQueued c = true) ∧
    (∃ (s : State) (h : Hdr) (c : Chan), s.Serves h.path h.tag ∧ (s.ch c = 2 ∨ s.ch c = 4)) ∧
    (∃ (s : State) (h : Hdr) (c : Chan), s.Serves h.path h.tag ∧ s.ch c = 3) ∧
    (∃ (s : State) (h : Hdr) (c : Chan), s.Serves h.path h.tag ∧ s.ch c = 4) ∧
    (∃ (s : State) (h : Hdr) (c : Chan), s.Serves h.path h.tag ∧ (s.ch c = 5 ∨ s.ch c = 6) ∧ s.causeAbsent c s.us = true) ∧
    (∃ (s : State) (h : Hdr), s.Serves h.path h.tag) :=
  ⟨⟨chanReady 0 3, ⟨.pcie, 9⟩, 3, by constructor <;> decide +kernel, by decide +kernel⟩,
    ⟨chanReady 1 3, ⟨.pcie, 9⟩, 3, by constructor <;> decide +kernel, by decide +kernel⟩,
    ⟨(chanReady 1 3).setSq 3 { queue := [{ seg := { type := 3, duration := 1000 } }] }, ⟨.pcie, 9⟩, 3, by constructor <;> decide +kernel, by decide +kernel⟩,
    ⟨chanReady 2 3, ⟨.pcie, 9⟩, 3, by constructor <;> decide +kernel, by decide +kernel⟩,
    ⟨chanReady 3 3, ⟨.pcie, 9⟩, 3, by constructor <;> decide +kernel, by decide +kernel⟩,
    ⟨chanReady 4 3, ⟨.pcie, 9⟩, 3, by constructor <;> decide +kernel, by decide +kernel⟩,
    ⟨chanReady 6 3, ⟨.pcie, 9⟩, 3, by constructor <;> decide +kernel, by decide +kernel⟩,
    ⟨chanReady 2 3, ⟨.pcie, 9⟩, by constructor <;> decide +kernel⟩⟩

/-- States and operands that meet the hypotheses of `Obligations.ChannelTransitionsAreDecided`. -/
theorem witness_ChannelTransitionsAreDecided :
    (∃ (s : State) (a : State) (c : Chan) (f : Nat) (r : ChTrigger), s.Awake ((f - 2) * 1000) a ∧ (a.sq c).requests = [r] ∧ r.at_ ≤ f ∧ a.requestOk c (a.chAt c f) f r.kind = true ∧ r.kind ≠ 11) ∧
    (∃ (s : State) (a : State) (c : Chan) (f : Nat) (r : ChTrigger), s.Awake ((f - 2) * 1000) a ∧ (a.sq c).requests = [r] ∧ r.at_ ≤ f ∧ a.requestOk c (a.chAt c f) f r.kind = false) ∧
    (∃ (s : State) (a : State) (c : Chan) (f : Nat) (h : Nat), s.Awake ((f - 2) * 1000) a ∧ (a.sq c).holdFrom = some h ∧ h ≤ f ∧ (a.sq c).built < f ∧ a.us < f ∧ a.chAt c f = 3 ∧ (a.sq c).queue = [] ∧ (a.sq c).active = []) ∧
    (∃ (s : State) (a : State) (f : Nat) (e : Nat), s.Awake ((f - 2) * 1000) a ∧ a.sys.safeEntry = some e ∧ e + 50 ≤ f ∧ a.devAt f = 4) ∧
    (∃ (s : State) (a : State) (c : Chan) (k : Nat), s.Awake (k * 1000 + 900) a ∧ a.get (F.STN_LINK_STAT_MISS_RUN c) = 2 ∧ a.inbound c k = none ∧ (a.link c).missFor ≠ some k ∧ a.get (F.STN_LINK_STAT_STATE c) ≠ 0 ∧ (a.chAt c (k + 2) = 1 ∨ a.chAt c (k + 2) = 2 ∨ a.chAt c (k + 2) = 3 ∨ a.chAt c (k + 2) = 4)) ∧
    (∃ (s : State) (a : State) (t : Nat) (c : Chan) (l : Nat), s.Awake (t) a ∧ (a.link c).lostAt = some l ∧ l + 100000 ≤ a.ns ∧ a.get (F.STN_LINK_STAT_STATE c) = 0 ∧ a.chAt c a.nextFix ≠ 0) ∧
    (∃ (s : State) (a : State) (c : Chan) (f : Nat), s.Awake ((f - 2) * 1000) a ∧ (a.sq c).built < f ∧ a.has (F.SEQ_ABSORB_STAT_PENDING c) = true ∧ (a.chAt c f = 0 ∨ a.chAt c f = 1)) :=
  ⟨⟨(chanReady 2 3).setSq 3 { requests := [{ at_ := 25, target := 1, cause := 0, kind := 10 }] }, _, 3, 25, { at_ := 25, target := 1, cause := 0, kind := 10 }, ⟨rfl, by decide +kernel, by decide +kernel⟩, by decide +kernel⟩,
    ⟨(chanReady 2 3).setSq 3 { requests := [{ at_ := 25, target := 4, cause := 0, kind := 11 }] }, _, 3, 25, { at_ := 25, target := 4, cause := 0, kind := 11 }, ⟨rfl, by decide +kernel, by decide +kernel⟩, by decide +kernel⟩,
    ⟨(chanReady 3 3).setSq 3 { holdFrom := some 20 }, _, 3, 25, 20, ⟨rfl, by decide +kernel, by decide +kernel⟩, by decide +kernel⟩,
    ⟨(let b := (chanReady 3 3).put F.SYS_DEV_STATE_STATE 4
      { b with sys := { b.sys with safeEntry := some 10 } }), _, 60, 10, ⟨rfl, by decide +kernel, by decide +kernel⟩, by decide +kernel⟩,
    ⟨(chanReady 3 3).put (F.STN_LINK_STAT_MISS_RUN 3) 2, _, 3, 40, ⟨rfl, by decide +kernel, by decide +kernel⟩, by decide +kernel⟩,
    ⟨(chanReady 3 0).setLink 3 { lostAt := some 1000 }, _, 101000, 3, 1000, ⟨rfl, by decide +kernel, by decide +kernel⟩, by decide +kernel⟩,
    ⟨((chanReady 1 3).setSq 3 { absorbPending := 500, slip := 2000 }).put (F.SEQ_ABSORB_STAT_PENDING 3) 1, _, 3, 25, ⟨rfl, by decide +kernel, by decide +kernel⟩, by decide +kernel⟩⟩

/-- States and operands that meet the hypotheses of `Obligations.FramesRunEndToEnd`. -/
theorem witness_FramesRunEndToEnd :
    (∃ (s : State) (a : State) (k : Nat), s.Awake (k * 1000) a ∧ a.cmd.inflight = []) ∧
    (∃ (s : State) (a : State) (c : Chan) (t : Nat) (bytes : List Byte), s.Awake (t) a ∧ a.get (F.STN_LINK_STAT_STATE c) ≠ 0 ∧ bytes.length = 42 ∧ leAt bytes 0 1 % 32 = 0x11 ∧ crc32 (bytes.take 38) = leAt bytes 38 4 ∧ leAt bytes 2 4 = a.us % 2 ^ 32 ∧ bitsOf (leAt bytes 1 1) 6 1 = 1 ∧ leAt bytes 1 1 % 64 = c ∧ a.ns ≤ a.us * 1000 + 600 ∧ a.inbound c a.us = none) ∧
    (∃ (s : State) (a : State) (c : Chan) (t : Nat) (bytes : List Byte), s.Awake (t) a ∧ a.get (F.STN_LINK_STAT_STATE c) ≠ 0 ∧ bytes.length = 42 ∧ leAt bytes 0 1 % 32 = 0x11 ∧ crc32 (bytes.take 38) ≠ leAt bytes 38 4) ∧
    (∃ (s : State) (a : State) (k : Nat), s.Awake (k * 1000 + 600) a ∧ a.paired = true) ∧
    (∃ (s : State) (a : State) (k : Nat), s.Awake (k * 1000 + 900) a ∧ a.sys.built < k + 2) ∧
    (∃ (s : State) (a : State) (k : Nat), s.Awake (k * 1000 + 1550) a ∧ a.dev ≠ 0) :=
  ⟨⟨{ ready with cmd := { scheduled := [{ f := 20, order := 0, path := .pcie, tag := 1, writes := [], cascade := false }], unitResets := [(0x20, 20)] } }, _, 20, ⟨rfl, by decide +kernel, by decide +kernel⟩, by decide +kernel⟩,
    ⟨chanReady 3 3, _, 3, 20400, stationFrame 3 20, ⟨rfl, by decide +kernel, by decide +kernel⟩, by decide +kernel⟩,
    ⟨chanReady 3 3, _, 3, 20400, leBytes 42 0x11, ⟨rfl, by decide +kernel, by decide +kernel⟩, by decide +kernel⟩,
    ⟨(chanReady 3 3).put F.PAIR_PSTAT_ROLE 2, _, 20, ⟨rfl, by decide +kernel, by decide +kernel⟩, by decide +kernel⟩,
    ⟨chanReady 3 3, _, 20, ⟨rfl, by decide +kernel, by decide +kernel⟩, by decide +kernel⟩,
    ⟨chanReady 3 3, _, 20, ⟨rfl, by decide +kernel, by decide +kernel⟩, by decide +kernel⟩⟩

/-- States and operands that meet the hypotheses of `Obligations.StationLinksChangeState`. -/
theorem witness_StationLinksChangeState :
    (∃ (s : State) (a : State) (t : Nat) (c : Chan), s.Awake (t) a ∧ a.get (F.STN_LINK_STAT_STATE c) = 0 ∧ a.has (F.STN_CFG_ENABLE c) = true) ∧
    (∃ (s : State) (a : State) (t : Nat) (c : Chan), s.Awake (t) a ∧ a.get (F.STN_LINK_STAT_STATE c) ≠ 0) ∧
    (∃ (s : State) (c : Chan) (d : Int), (s.link c).deltaAvg = some d ∧ s.inReset = false ∧ s.get (F.STN_LINK_STAT_STATE c) = 2 ∧ (s.link c).turnRead = true ∧ (s.link c).delayAcked = true ∧ 8 ≤ (s.link c).goodRun ∧ 10 ≤ s.get (F.STN_DELAY_TURN c) ∧ s.get (F.STN_DELAY_TURN c) ≤ 40 ∧ d ≤ 600) ∧
    (∃ (s : State) (c : Chan), s.inReset = false ∧ s.get (F.STN_LINK_STAT_STATE c) = 3 ∧ 64 ≤ (s.link c).lostRun) ∧
    (∃ (s : State) (a : State) (t : Nat) (c : Chan) (bytes : List Byte) (q : SbWait), s.Awake (t) a ∧ (a.link c).waiting = some q ∧ q.req.owner = 1 ∧ bytes.length = 16 ∧ crc32 (bytes.take 12) = leAt bytes 12 4 ∧ leAt bytes 1 1 = q.sseq ∧ leAt bytes 0 1 = 0x81 ∧ a.get (F.STN_LINK_STAT_STATE c) ≠ 0) ∧
    (∃ (s : State) (c : Chan) (q : SbWait), (s.link c).waiting = some q ∧ s.inReset = false ∧ q.resend = false ∧ q.tries < 3 ∧ q.sent + 16 ≤ (s.upTo ((q.sent + 16) * 1000)).us) ∧
    (∃ (s : State) (h : Hdr) (c : Chan) (v : Word), s.Serves h.path h.tag ∧ s.has (F.STN_SB_STAT_BUSY c) = false ∧ 2 ≤ s.get (F.STN_LINK_STAT_STATE c) ∧ v.toNat % 2 ^ 17 < 2 ^ 16) :=
  ⟨⟨chanReady 0 0, _, 5000, 3, ⟨rfl, by decide +kernel, by decide +kernel⟩, by decide +kernel⟩,
    ⟨chanReady 3 3, _, 5000, 3, ⟨rfl, by decide +kernel, by decide +kernel⟩, by decide +kernel⟩,
    ⟨((chanReady 0 2).put (F.STN_DELAY_TURN 3) 40).setLink 3 { deltaAvg := some 600, turnRead := true, delayAcked := true, goodRun := 8 }, 3, 600, by decide +kernel⟩,
    ⟨(chanReady 1 3).setLink 3 { lostRun := 64 }, 3, by decide +kernel⟩,
    ⟨(chanReady 1 3).setLink 3 { waiting := some ⟨{ type := 1, addr := 2, owner := 1 }, 5, 10, 0, false⟩ }, _, 20000, 3, sidebandSlot 0x81 5 77 88, ⟨{ type := 1, addr := 2, owner := 1 }, 5, 10, 0, false⟩, ⟨rfl, by decide +kernel, by decide +kernel⟩, by decide +kernel⟩,
    ⟨(chanReady 1 3).setLink 3 { waiting := some ⟨{ type := 1, addr := 2, owner := 1 }, 5, 10, 2, false⟩ }, 3, ⟨{ type := 1, addr := 2, owner := 1 }, 5, 10, 2, false⟩, by decide +kernel⟩,
    ⟨chanReady 1 3, ⟨.pcie, 9⟩, 3, 0x1002, by constructor <;> decide +kernel, by decide +kernel⟩⟩

/-- States and operands that meet the hypotheses of `Obligations.RingsAndPortsTakePackets`. -/
theorem witness_RingsAndPortsTakePackets :
    (∃ (s : State) (a : State) (t : Nat) (bell : Doorbell) (ring : List Word), s.Awake (t) a ∧ (a.barWrites bell.setup).pathLost .pcie = false ∧ (a.barWrites bell.setup).sys.romUp = true ∧ (a.barWrites bell.setup).sys.firmware = true ∧ (a.barWrites bell.setup).ringRuns = true ∧ (a.barWrites bell.setup).host.fetchStopped = false ∧ (a.barWrites bell.setup).cmd.inflight = [] ∧ (a.barWrites bell.setup).err.coresDown = [] ∧ 14 ≤ (a.barWrites bell.setup).get F.HOSTIF_CRING_SIZE ∧ (a.barWrites bell.setup).get F.HOSTIF_CRING_SIZE ≤ 22 ∧ (a.barWrites bell.setup).get F.HOSTIF_CRING_CONS < ringWords ((a.barWrites bell.setup).get F.HOSTIF_CRING_SIZE) ∧ bell.prod = ((a.barWrites bell.setup).get F.HOSTIF_CRING_CONS + 2) % ringWords ((a.barWrites bell.setup).get F.HOSTIF_CRING_SIZE) ∧ ringRead ring (ringWords ((a.barWrites bell.setup).get F.HOSTIF_CRING_SIZE)) ((a.barWrites bell.setup).get F.HOSTIF_CRING_CONS) 2 = [0x0500, 0] ∧ (a.barWrites bell.setup).tagBusy .pcie 5 = false) ∧
    (∃ (s : State) (h : Hdr), s.Serves h.path h.tag ∧ s.has F.HOSTIF_RING_CTRL_ENABLE = false) ∧
    (∃ (s : State), s.inReset = false ∧ s.has F.HOSTIF_RING_CTRL_ENABLE = false) ∧
    (∃ (s : State) (a : State) (t : Nat) (cons : Nat) (r : Reply), s.Awake (t) a ∧ a.host.held = [r] ∧ (a.put F.HOSTIF_RRING_CONS cons).ringTakes r = true) ∧
    (∃ (s : State) (c : Nat), s.host.lastIrq = some c ∧ s.inReset = false ∧ s.host.irqPending = true) ∧
    (∃ (s : State) (a : State) (t : Nat) (d : UdpFrame) (seq : Word) (tag : Byte), s.Awake (t) a ∧ datagramPackets d.payload = some (seq, [(0, tag, 0, [])]) ∧ a.portOpen d.port = true ∧ d.fragment = false ∧ frameFits d.payload = true ∧ d.dstIp = a.portAddr d.port ∧ d.dstUdp.toNat = a.get F.NET_CMD_UDP_PORT ∧ a.host.sources.length < 4 ∧ a.host.sources.find? (fun x => x.port == d.port && x.ip == d.srcIp && x.udp == d.srcUdp) = none ∧ a.cmd.inflight = [] ∧ a.err.coresDown = []) ∧
    (∃ (s : State) (a : State) (t : Nat) (d : UdpFrame), s.Awake (t) a ∧ a.portOpen d.port = true ∧ d.fragment = false ∧ frameFits d.payload = true ∧ d.dstIp = a.portAddr d.port ∧ d.dstUdp.toNat = a.get F.NET_CMD_UDP_PORT ∧ datagramPackets d.payload = none) ∧
    (∃ (s : State) (a : State) (t : Nat) (port : Bool) (dst : Word), s.Awake (t) a ∧ a.sys.firmware = true ∧ a.portAddr port ≠ 0 ∧ dst = a.portAddr port) ∧
    (∃ (s : State) (a : State) (t : Nat) (port : Bool) (dst : Word) (payload : List Byte), s.Awake (t) a ∧ a.sys.firmware = true ∧ a.portAddr port ≠ 0 ∧ dst = a.portAddr port ∧ payload.length ≤ 8972) ∧
    (∃ (s : State) (h : Hdr), s.Serves h.path h.tag) :=
  ⟨⟨ready, _, 5000, { setup := [(10, 1)], prod := 2 }, [0x0500, 0], ⟨rfl, by decide +kernel, by decide +kernel⟩, by decide +kernel⟩,
    ⟨ready.put F.HOSTIF_CRING_PROD 12, ⟨.eth1, 4⟩, by constructor <;> decide +kernel, by decide +kernel⟩,
    ⟨ready.put F.HOSTIF_CRING_PROD 12, by decide +kernel⟩,
    ⟨{ ringed with host := { held := [⟨.pcie, 0, 5, 0, 0, 0, 0, 0, []⟩] } }, _, 5000, 100, ⟨.pcie, 0, 5, 0, 0, 0, 0, 0, []⟩, ⟨rfl, by decide +kernel, by decide +kernel⟩, by decide +kernel⟩,
    ⟨{ (ringed.put F.HOSTIF_RING_CTRL_MOD_US 20) with host := { lastIrq := some 100, irqPending := true } }, 100, by decide +kernel⟩,
    ⟨netReady, _, 5000, nopDatagram, 1, 5, ⟨rfl, by decide +kernel, by decide +kernel⟩, by decide +kernel⟩,
    ⟨netReady, _, 5000, { nopDatagram with payload := leBytes 16 0 }, ⟨rfl, by decide +kernel, by decide +kernel⟩, by decide +kernel⟩,
    ⟨netReady, _, 5000, false, 0x0A000001, ⟨rfl, by decide +kernel, by decide +kernel⟩, by decide +kernel⟩,
    ⟨netReady, _, 5000, false, 0x0A000001, [1, 2], ⟨rfl, by decide +kernel, by decide +kernel⟩, by decide +kernel⟩,
    ⟨ready, ⟨.pcie, 9⟩, by constructor <;> decide +kernel⟩⟩

/-- States and operands that meet the hypotheses of `Obligations.SystemPacketsRun`. -/
theorem witness_SystemPacketsRun :
    (∃ (s : State) (p : Pkt), s.Serves p.path p.tag ∧ p.target = 0 ∧ p.body = []) ∧
    (∃ (s : State) (p : Pkt), s.Serves p.path p.tag ∧ p.target = 0 ∧ p.body = []) ∧
    (∃ (s : State) (p : Pkt) (n : Word), s.Serves p.path p.tag ∧ p.body = [n] ∧ 1 ≤ n.toNat ∧ n.toNat ≤ 1024 ∧ rangeError p.target.toNat n.toNat = none) ∧
    (∃ (s : State) (p : Pkt) (v : Word) (r : RegWord), s.Serves p.path p.tag ∧ p.body = [0, v] ∧ findWord p.target.toNat = some r ∧ p.target.toNat / 65536 ∈ [0x03, 0x20, 0x21, 0x28, 0x38, 0x50, 0x51, 0x58] ∧ rangeError p.target.toNat 1 = none ∧ s.writesError p.path true [⟨p.target.toNat, BitVec.allOnes 32, v⟩] = none) ∧
    (∃ (s : State) (p : Pkt) (v : Word), s.Serves p.path p.tag ∧ p.body = [1, v] ∧ rangeError p.target.toNat 1 = none ∧ s.writesError p.path false [⟨p.target.toNat, BitVec.allOnes 32, v⟩] = none ∧ (s.batch p.path).length < 4096) ∧
    (∃ (s : State) (p : Pkt) (lo : Word) (hi : Word), s.Serves p.path p.tag ∧ p.body = [lo, hi] ∧ p.target = 0 ∧ s.ns + 10000 ≤ dword lo hi * 1000 ∧ dword lo hi * 1000 ≤ s.ns + 10000000000 ∧ s.cmd.scheduled.length < 16 ∧ (s.batch p.path).any (fun w => cascadeWord w.addr) = false ∧ s.crossError ((s.inForce (dword lo hi)).withWrites (s.batch p.path)) ((s.batch p.path).map (fun w => w.addr)) = none) ∧
    (∃ (s : State) (p : Pkt) (addr : Word) (n : Word), s.Serves p.path p.tag ∧ p.body = [1, addr, n] ∧ p.target = 0 ∧ n.toNat / 65536 = 1 ∧ 1 ≤ n.toNat % 65536 ∧ n.toNat % 65536 ≤ 1024 ∧ rangeError addr.toNat (n.toNat % 65536) = none) ∧
    (∃ (s : State) (p : Pkt), s.Serves p.path p.tag ∧ p.body = [] ∧ p.target.toNat % 65536 = 0 ∧ p.target.toNat / 65536 ∈ [0x08, 0x10, 0x18, 0x20, 0x28, 0x29, 0x30, 0x38, 0x39, 0x40, 0x48, 0x49] ∧ s.dev ≠ 2 ∧ s.dev ≠ 3) ∧
    (∃ (s : State) (p : Pkt) (scope : Word) (head : Word), s.Serves p.path p.tag ∧ p.body = [scope, head] ∧ p.target = 0 ∧ scope.toNat ≤ 1) ∧
    (∃ (s : State) (p : Pkt) (h : Word) (target : Word), s.Serves p.path p.tag ∧ p.body = [h, target] ∧ s.isSummit = true ∧ p.target.toNat < 16 ∧ p.target.toNat ≠ s.position ∧ bitsOf h.toNat 16 16 = 0 ∧ bitsOf h.toNat 0 8 ≠ 8) ∧
    (∃ (s : State) (p : Pkt), s.Serves p.path p.tag ∧ p.target = 0 ∧ p.body = []) :=
  ⟨⟨ready, ⟨.pcie, 9, 0, []⟩, by constructor <;> decide +kernel, by decide +kernel⟩,
    ⟨ready, ⟨.eth0, 9, 0, []⟩, by constructor <;> decide +kernel, by decide +kernel⟩,
    ⟨ready, ⟨.pcie, 9, 0x20, [3]⟩, 3, by constructor <;> decide +kernel, by decide +kernel⟩,
    ⟨ready, ⟨.pcie, 9, 0x030110, [0, 5]⟩, 5, (findWord 0x030110).getD ⟨0, false, [], false, []⟩, by constructor <;> decide +kernel, by decide +kernel⟩,
    ⟨ready, ⟨.pcie, 9, 0x200041, [1, 5]⟩, 5, by constructor <;> decide +kernel, by decide +kernel⟩,
    ⟨{ ready with cmd := { batchPcie := [⟨0x200041, BitVec.allOnes 32, 5⟩] } }, ⟨.pcie, 9, 0, [10, 0]⟩, 10, 0, by constructor <;> decide +kernel, by decide +kernel⟩,
    ⟨ready, ⟨.pcie, 9, 0, [1, 0x20, 0x10003]⟩, 0x20, 0x10003, by constructor <;> decide +kernel, by decide +kernel⟩,
    ⟨ready, ⟨.pcie, 9, 0x390000, []⟩, by constructor <;> decide +kernel, by decide +kernel⟩,
    ⟨ready, ⟨.pcie, 9, 0, [1, 77]⟩, 1, 77, by constructor <;> decide +kernel, by decide +kernel⟩,
    ⟨summit, ⟨.pcie, 9, 3, [0x0500, 0]⟩, 0x0500, 0, by constructor <;> decide +kernel, by decide +kernel⟩,
    ⟨{ ready with cmd := { batchPcie := [⟨0x200041, BitVec.allOnes 32, 5⟩] } }, ⟨.pcie, 9, 0, []⟩, by constructor <;> decide +kernel, by decide +kernel⟩⟩

/-- States and operands that meet the hypotheses of `Obligations.WaitingPacketsComplete`. -/
theorem witness_WaitingPacketsComplete :
    (∃ (s : State) (k : Nat) (p : InFlight) (q : Nat), s.cmd.inflight = [p] ∧ p.wait = .read q ∧ s.inReset = false ∧ s.quiet = true ∧ s.cmd.scheduled = [] ∧ s.cmd.unitResets = [] ∧ p.taken = none ∧ p.opcode = 2 ∧ p.body = [1] ∧ p.target.toNat / 65536 = 0x03 ∧ q ≤ k ∧ k * 1000 < 2 ^ 63 ∧ p.path ≠ .ridge ∧ p.orphan = false) ∧
    (∃ (s : State) (f : Nat) (b : Scheduled) (w : StagedWrite) (p : InFlight) (r : RegWord), s.cmd.scheduled = [b] ∧ b.writes = [w] ∧ s.cmd.inflight = [p] ∧ findWord w.addr = some r ∧ s.inReset = false ∧ s.quiet = true ∧ s.marks = [] ∧ b.f ≤ f ∧ f * 1000 < 2 ^ 63 ∧ b.whole = none ∧ b.cascade = false ∧ w.addr / 65536 = 0x20 ∧ p.order = b.order ∧ p.wait = .commit b.f ∧ p.path ≠ .ridge ∧ p.orphan = false) ∧
    (∃ (s : State) (f : Nat) (p : InFlight), s.cmd.inflight = [p] ∧ s.inReset = false ∧ s.quiet = true ∧ s.cmd.scheduled = [] ∧ p.taken = none ∧ f * 1000 < 2 ^ 63 ∧ p.wait = .snapshot f false ∧ p.opcode = 5 ∧ p.path ≠ .ridge ∧ p.orphan = false ∧ s.reports p.order = []) ∧
    (∃ (s : State) (a : State) (f : Nat) (p : InFlight), s.Awake ((f + 20) * 1000) a ∧ a.cmd.inflight = [p] ∧ p.wait = .snapshot f true ∧ p.path ≠ .ridge ∧ p.orphan = false) ∧
    (∃ (s : State) (path : Path) (tag : Byte) (p : InFlight), s.cmd.inflight = [p] ∧ s.inReset = false ∧ s.cairnOf path tag = some p ∧ p.wait = .cairn ∧ p.scope ≠ 2 ∧ path ≠ .ridge ∧ p.orphan = false) ∧
    (∃ (s : State) (path : Path) (tag : Byte) (p : InFlight), s.cmd.inflight = [p] ∧ s.inReset = false ∧ s.cairnOf path tag = some p ∧ p.scope ≠ 2 ∧ path ≠ .ridge ∧ p.orphan = false) ∧
    (∃ (s : State) (path : Path) (tag : Byte) (p : InFlight) (q : Nat) (c : Nat), s.cmd.inflight = [p] ∧ p.wait = .read q ∧ p.startClk = some c ∧ s.inReset = false ∧ p.path = path ∧ p.tag = tag ∧ path ≠ .ridge ∧ p.orphan = false) ∧
    (∃ (s : State) (a : State) (m : Machine.RidgeMsg) (id : Nat) (pos : Nat) (b : Scheduled), s.Awake (m.t) a ∧ a.cmd.scheduled = [b] ∧ b.order = id ∧ a.ridge.heard.contains (!m.cw, m.src, Machine.CascadeMsg.confirm id pos) = false ∧ a.takes 0x21 m = true) ∧
    (∃ (s : State) (a : State) (m : Machine.RidgeMsg) (c : Machine.CascadeMsg), s.Awake (m.t) a ∧ a.takes 0x21 m = true ∧ m.dst = 0xFF ∧ a.ridge.heard.contains (!m.cw, m.src, c) = true) ∧
    (∃ (s : State) (a : State) (t : Nat), s.Awake (t) a ∧ a.pathLost .pcie = false) ∧
    (∃ (s : State) (a : State) (t : Nat) (port : Bool), s.Awake (t) a ∧ a.pathLost (if port then .eth1 else .eth0) = false) ∧
    (∃ (s : State) (a : State) (t : Nat) (path : Path), s.Awake (t) a ∧ (path = .pcie → a.host.perst = false)) :=
  ⟨⟨waiting 2 0x030110 [1] (.read 20), 20, waiter 2 0x030110 [1] (.read 20), 20, by decide +kernel⟩,
    ⟨(let b := waiting 4 0 [20, 0] (.commit 20)
      { b with cmd := { b.cmd with scheduled := [{ f := 20, order := 0, path := .pcie, tag := 9, writes := [⟨0x200040, BitVec.allOnes 32, 5⟩] }] } }), 20, { f := 20, order := 0, path := .pcie, tag := 9, writes := [⟨0x200040, BitVec.allOnes 32, 5⟩] }, ⟨0x200040, BitVec.allOnes 32, 5⟩, waiter 4 0 [20, 0] (.commit 20), (findWord 0x200040).getD ⟨0, false, [], false, []⟩, by decide +kernel⟩,
    ⟨waiting 5 0 [0x101, 20, 0, 0x20, 0x10003] (.snapshot 20 false), 20, waiter 5 0 [0x101, 20, 0, 0x20, 0x10003] (.snapshot 20 false), by decide +kernel⟩,
    ⟨waiting 5 0 [0x301, 20, 0, 0x20, 0x10003] (.snapshot 20 true), _, 20, { waiter 5 0 [0x301, 20, 0, 0x20, 0x10003] (.snapshot 20 true) with taken := some [0, 0, 1], flagsAt := some 1, epochAt := some 0 }, ⟨rfl, by decide +kernel, by decide +kernel⟩, by decide +kernel⟩,
    ⟨waiting 7 0 [1, 77] .cairn, .pcie, 9, waiter 7 0 [1, 77] .cairn, by decide +kernel⟩,
    ⟨waiting 7 0 [1, 77] .cairn, .pcie, 9, waiter 7 0 [1, 77] .cairn, by decide +kernel⟩,
    ⟨waiting 2 0x20 [1] (.read 20), .pcie, 9, waiter 2 0x20 [1] (.read 20), 20, 0, by decide +kernel⟩,
    ⟨{ summit with cmd := { scheduled := [{ f := 90, order := 4, path := .pcie, tag := 9, writes := [], cascade := true }] } }, _, ridgeMsg 5000 0x21 [], 4, 3, { f := 90, order := 4, path := .pcie, tag := 9, writes := [], cascade := true }, ⟨rfl, by decide +kernel, by decide +kernel⟩, by decide +kernel⟩,
    ⟨{ summit with ridge := { heard := [(false, 1, .timeReset)] } }, _, ridgeMsg 5000 0x21 [], .timeReset, ⟨rfl, by decide +kernel, by decide +kernel⟩, by decide +kernel⟩,
    ⟨{ ready with cmd := { batchPcie := [⟨0x200041, BitVec.allOnes 32, 5⟩] } }, _, 5000, ⟨rfl, by decide +kernel, by decide +kernel⟩, by decide +kernel⟩,
    ⟨ready, _, 5000, true, ⟨rfl, by decide +kernel, by decide +kernel⟩, by decide +kernel⟩,
    ⟨{ ready with host := { pcsLock0 := false } }, _, 5000, .eth0, ⟨rfl, by decide +kernel, by decide +kernel⟩, by decide +kernel⟩⟩

/-- States and operands that meet the hypotheses of `Obligations.StreamPacketsRun`. -/
theorem witness_StreamPacketsRun :
    (∃ (s : State) (p : Pkt), s.Serves p.path p.tag ∧ p.target.toNat < 256 ∧ p.body = [] ∧ s.strmState p.target.toNat = 0) ∧
    (∃ (s : State) (p : Pkt) (k : Word) (w : Word) (ws : List Word), s.Serves p.path p.tag ∧ p.body = k :: w :: ws ∧ p.target.toNat < 256 ∧ 4 * ws.length < k.toNat ∧ k.toNat ≤ 4 * (ws.length + 1) ∧ allZero ((bytesOfWords (w :: ws)).drop k.toNat) = true ∧ s.strmState p.target.toNat = 1 ∧ (s.strm p.target.toNat).inbuf.length + k.toNat ≤ 1048576) ∧
    (∃ (s : State) (p : Pkt) (lo : Word) (hi : Word) (k : Word), s.Serves p.path p.tag ∧ p.body = [lo, hi, k, 0] ∧ p.path = .pcie ∧ p.target.toNat < 256 ∧ 1 ≤ k.toNat ∧ k.toNat ≤ 16777216 ∧ s.strmState p.target.toNat = 1) ∧
    (∃ (s : State) (path : Path) (tag : Byte) (bytes : List Byte) (p : InFlight) (n : Nat) (k : Nat), s.cmd.inflight = [p] ∧ p.wait = .fetch n k ∧ s.inReset = false ∧ p.path = path ∧ p.tag = tag ∧ path ≠ .ridge ∧ p.orphan = false ∧ s.strmState n = 1 ∧ bytes.length = k ∧ (s.strm n).inbuf.length + k ≤ 1048576 ∧ (s.strm n).fetching = true) ∧
    (∃ (s : State) (p : Pkt) (b : Word), s.Serves p.path p.tag ∧ p.body = [b] ∧ p.target.toNat < 256 ∧ (b.toNat = 1 ∨ b.toNat = 3) ∧ s.strmState p.target.toNat ≠ 0) :=
  ⟨⟨ready, ⟨.pcie, 9, 255, []⟩, by constructor <;> decide +kernel, by decide +kernel⟩,
    ⟨streaming 1 { inbuf := [9] }, ⟨.eth0, 9, 7, [5, 0x04030201, 5]⟩, 5, 0x04030201, [5], by constructor <;> decide +kernel, by decide +kernel⟩,
    ⟨streaming 1 { inbuf := [9] }, ⟨.pcie, 9, 7, [0x1000, 0, 64, 0]⟩, 0x1000, 0, 64, by constructor <;> decide +kernel, by decide +kernel⟩,
    ⟨{ (streaming 1 { fetching := true }) with cmd := (waiting 0x12 7 [0, 0, 2, 0] (.fetch 7 2)).cmd }, .pcie, 9, [1, 2], waiter 0x12 7 [0, 0, 2, 0] (.fetch 7 2), 7, 2, by decide +kernel⟩,
    ⟨streaming 1 { inbuf := [9] }, ⟨.pcie, 9, 7, [1]⟩, 1, by constructor <;> decide +kernel, by decide +kernel⟩⟩

/-- States and operands that meet the hypotheses of `Obligations.StreamsAreParsed`. -/
theorem witness_StreamsAreParsed :
    (∃ (s : State) (n : StreamNo), s.inReset = false ∧ s.strmState n = 1 ∧ (s.strm n).header = [] ∧ 32 ≤ (s.strm n).inbuf.length ∧ headerValid ((s.strm n).inbuf.take 32) = true ∧ leAt ((s.strm n).inbuf.take 32) 5 1 = 0) ∧
    (∃ (s : State) (n : StreamNo), s.inReset = false ∧ s.strmState n = 1 ∧ (s.strm n).header = [] ∧ 32 ≤ (s.strm n).inbuf.length ∧ headerValid ((s.strm n).inbuf.take 32) = false) ∧
    (∃ (s : State) (n : StreamNo) (b : List Byte) (len : Nat), (s.strm n).inbuf = b ∧ leAt b 0 4 = len ∧ s.inReset = false ∧ s.strmState n = 1 ∧ (s.strm n).header ≠ [] ∧ (s.strm n).flag 0 = false ∧ (s.strm n).flag 1 = false ∧ (s.strm n).lastChunk = false ∧ (s.strm n).code = [] ∧ (s.strm n).plain.length < 65536 ∧ 1 ≤ len ∧ len ≤ 65536 ∧ leAt b 12 1 = 0 ∧ leAt b 13 3 = 0 ∧ 20 + len ≤ b.length ∧ leAt b 4 8 = s.get64 (F.STREAM_S_CHUNK_LO n) (F.STREAM_S_CHUNK_HI n) ∧ leAt b 4 8 + 1 < 2 ^ 64 ∧ leAt b (16 + len) 4 = crc32 (b.take 16 ++ (b.drop 16).take len)) ∧
    (∃ (s : State) (n : StreamNo) (b : List Byte) (len : Nat), (s.strm n).inbuf = b ∧ leAt b 0 4 = len ∧ s.inReset = false ∧ s.strmState n = 1 ∧ (s.strm n).header ≠ [] ∧ (s.strm n).flag 0 = false ∧ (s.strm n).lastChunk = false ∧ (s.strm n).code = [] ∧ (s.strm n).plain.length < 65536 ∧ 1 ≤ len ∧ len ≤ 65536 ∧ leAt b 12 1 = 0 ∧ leAt b 13 3 = 0 ∧ 20 + len ≤ b.length ∧ leAt b 4 8 = s.get64 (F.STREAM_S_CHUNK_LO n) (F.STREAM_S_CHUNK_HI n) ∧ leAt b (16 + len) 4 ≠ crc32 (b.take 16 ++ (b.drop 16).take len)) ∧
    (∃ (s : State) (n : StreamNo) (e : Nat), s.takeEngine (s.strm n).context 0 = some e ∧ s.inReset = false ∧ s.strmState n = 1 ∧ (s.strm n).flag 1 = true ∧ (s.strm n).holdsSlot = true ∧ (s.strm n).code ≠ []) ∧
    (∃ (s : State) (n : StreamNo), s.inReset = false ∧ s.strmState n = 1 ∧ (s.strm n).waiting = none ∧ (s.strm n).padLeft = 0 ∧ containerHeaderOk (s.strm n).plain = true ∧ leAt (s.strm n).plain 0 1 = 0 ∧ 4 + leAt (s.strm n).plain 2 2 ≤ (s.strm n).plain.length) ∧
    (∃ (s : State) (n : StreamNo) (b : List Byte), s.front n = some (1, b) ∧ s.inReset = false ∧ s.stream.layers = [] ∧ 1 ≤ leAt b 10 1 ∧ leAt b 10 1 ≤ 64 ∧ leAt b 11 5 = 0 ∧ s.strmState n = 1) ∧
    (∃ (s : State) (n : StreamNo) (b : List Byte) (l : Layer), s.front n = some (2, b) ∧ s.stream.layers = [l] ∧ s.inReset = false ∧ s.stream.programs = [] ∧ l.stream = n.val ∧ l.closed = false ∧ l.layer = leAt b 0 4 ∧ l.seen < l.programs ∧ leAt b 4 1 ≤ 63 ∧ leAt b 5 1 = 0 ∧ leAt b 6 2 ≠ 0 ∧ (s.strm n).channels / 2 ^ leAt b 4 1 % 2 = 1 ∧ s.strmState n = 1) ∧
    (∃ (s : State) (n : StreamNo) (b : List Byte), s.front n = some (0x0F, b) ∧ s.inReset = false ∧ leAt b 0 4 = (s.strm n).layersSeen ∧ s.openLayers n = [] ∧ s.strmState n = 1) :=
  ⟨⟨streaming 1 { inbuf := plainHeader ++ [5] }, 7, by decide +kernel⟩,
    ⟨streaming 1 { inbuf := leBytes 32 0 }, 7, by decide +kernel⟩,
    ⟨streaming 1 { header := plainHeader, inbuf := plainChunk }, 7, plainChunk, 4, by decide +kernel⟩,
    ⟨streaming 1 { header := plainHeader, inbuf := plainChunk.take 20 ++ leBytes 4 0 }, 7, plainChunk.take 20 ++ leBytes 4 0, 4, by decide +kernel⟩,
    ⟨streaming 1 { header := leBytes 5 0 ++ [2], code := [65, 0, 0], holdsSlot := true }, 7, 0, by decide +kernel⟩,
    ⟨streaming 1 { header := plainHeader, plain := container 0 [1, 2, 3] ++ [5] }, 7, by decide +kernel⟩,
    ⟨streaming 1 { header := plainHeader, plain := container 1 (leBytes 4 1 ++ leBytes 6 1000 ++ leBytes 6 1) }, 7, leBytes 4 1 ++ leBytes 6 1000 ++ leBytes 6 1, by decide +kernel⟩,
    ⟨{ (streaming 1 { header := plainHeader, plain := container 2 (leBytes 4 1 ++ leBytes 2 3 ++ leBytes 2 1 ++ leBytes 8 2) }) with stream := { (streaming 1 { header := plainHeader, plain := container 2 (leBytes 4 1 ++ leBytes 2 3 ++ leBytes 2 1 ++ leBytes 8 2) }).stream with layers := [{ layer1 with seen := 0 }] } }, 7, leBytes 4 1 ++ leBytes 2 3 ++ leBytes 2 1 ++ leBytes 8 2, { layer1 with seen := 0 }, by decide +kernel⟩,
    ⟨streaming 1 { header := plainHeader, plain := container 0x0F (leBytes 4 0) }, 7, leBytes 4 0, by decide +kernel⟩⟩

/-- States and operands that meet the hypotheses of `Obligations.BlocksReachTheirChannels`. -/
theorem witness_BlocksReachTheirChannels :
    (∃ (s : State) (n : StreamNo) (b : List Byte) (p : Program) (st : RecSt), s.front n = some (3, b) ∧ s.program n (leAt b 0 4) (leAt b 4 1) = some p ∧ recordsOf p.start (leAt b 8 2) (b.drop 12) { base := p.base, last := p.lastLaunch, ended := p.layerEnd } = .ok st ∧ s.inReset = false ∧ leAt b 4 1 ≤ 63 ∧ leAt b 5 1 = 0 ∧ leAt b 10 2 + 12 = b.length ∧ 8 ≤ leAt b 10 2 ∧ leAt b 10 2 ≤ 4096 ∧ leAt b 10 2 % 4 = 0 ∧ (s.openLayers n).any (fun l => l.layer == leAt b 0 4) = true ∧ p.closed = false ∧ p.broken = none ∧ p.void = false ∧ leAt b 6 2 = p.nextIndex ∧ 1 ≤ leAt b 8 2 ∧ leAt b 8 2 ≤ 512 ∧ (p.blocksSeen + 1 = p.blocks → st.ended = true) ∧ s.strmState n = 1) ∧
    (∃ (s : State) (n : StreamNo) (c : Chan) (w : ParsedBlock), (s.strm n).waiting = some w ∧ s.inReset = false ∧ w.chan = c.val ∧ s.mayHold n c = true) ∧
    (∃ (s : State) (n : StreamNo) (w : ParsedBlock), (s.strm n).waiting = some w ∧ s.inReset = false ∧ s.mayHold n w.chan = true ∧ s.stagingRoom w.chan w.block.bytes = true ∧ s.pairRole ≠ 1) ∧
    (∃ (s : State) (a : State) (c : Chan) (q : Nat) (g : Staged) (r : Seg), s.Awake (q * 1000) a ∧ a.staged c = [g] ∧ g.records = [r] ∧ g.admitted = true ∧ g.admitAt ≤ q ∧ a.stream.admittedAt.any (fun e => e.1 == c.val && decide (q ≤ e.2)) = false ∧ (a.sq c).queue.length + (a.sq c).active.length < 1024) ∧
    (∃ (s : State) (c : Chan) (p : Program) (d : Nat), s.stream.programs = [p] ∧ p.broken = some d ∧ s.inReset = false ∧ p.chan = c.val ∧ p.faulted = false ∧ p.complete = false ∧ p.old = false ∧ p.nextIndex ≠ 0 ∧ s.recordsLeft p = false) ∧
    (∃ (s : State) (n : StreamNo), s.inReset = false ∧ s.strmState n = 2 ∧ s.stream.programs.all (fun p => p.stream != n.val || p.complete || p.old) = true) ∧
    (∃ (s : State) (n : StreamNo) (layer : Word) (l : Layer), s.stream.layers = [l] ∧ s.inReset = false ∧ l.stream = n.val ∧ l.layer = layer.toNat ∧ l.started = false ∧ dueAt l.start 0 s.ns = true) :=
  ⟨⟨{ (streaming 1 { header := plainHeader, plain := container 3 blockBody }) with stream := { (streaming 1 { header := plainHeader, plain := container 3 blockBody }).stream with layers := [layer1], programs := [program3] } }, 7, blockBody, program3, { base := some 1000, last := some 1005, ended := true, out := [{ type := 5, base := 1000 }, { type := 7, launch := 1005 }] }, by decide +kernel⟩,
    ⟨streaming 1 { header := plainHeader, waiting := some ⟨3, block3⟩ }, 7, 3, ⟨3, block3⟩, by decide +kernel⟩,
    ⟨streaming 1 { header := plainHeader, waiting := some ⟨3, block3⟩ }, 7, ⟨3, block3⟩, by decide +kernel⟩,
    ⟨ready.setStaged 3 [block3], _, 3, 20, block3, { type := 3, launch := 900000, duration := 1000 }, ⟨rfl, by decide +kernel, by decide +kernel⟩, by decide +kernel⟩,
    ⟨{ ready with stream := { programs := [{ program3 with broken := some 0x1041, nextIndex := 1 }] } }, 3, { program3 with broken := some 0x1041, nextIndex := 1 }, 0x1041, by decide +kernel⟩,
    ⟨streaming 2 { ended := true }, 7, by decide +kernel⟩,
    ⟨{ ready with time := { now := 1000 * 2 ^ 32 }, stream := { layers := [layer1] } }, 7, 1, layer1, by decide +kernel⟩⟩

/-- States and operands that meet the hypotheses of `Obligations.PackWorkRuns`. -/
theorem witness_PackWorkRuns :
    (∃ (s : State) (p : Pkt), s.Serves p.path p.tag ∧ p.path = .pcie ∧ p.target.toNat < 256 ∧ (s.slot p.target.toNat).holder = 0 ∧ p.body.length = 8 ∧ 4 ≤ bodyWord p.body 0 ∧ bodyWord p.body 0 < 8 ∧ bodyWord p.body 7 = 0 ∧ 1 ≤ bodyWord p.body 3 ∧ bodyWord p.body 3 ≤ 16777216 ∧ 65536 ≤ bodyWord p.body 6 ∧ bodyWord p.body 6 ≤ 16777216) ∧
    (∃ (s : State) (j : Job) (e : Nat), s.pack.jobs = [j] ∧ s.takeEngine j.slot 1 = some e ∧ s.inReset = false ∧ j.engine = none) ∧
    (∃ (s : State) (slot : Fin 256) (j : Job) (p : InFlight), s.pack.jobs = [j] ∧ s.cmd.inflight = [p] ∧ s.inReset = false ∧ j.engine = none ∧ j.slot = slot.val ∧ p.wait = .job slot.val ∧ p.path ≠ .ridge ∧ p.orphan = false) ∧
    (∃ (s : State) (slot : Fin 256) (j : Job) (e : Nat) (p : InFlight), s.pack.jobs = [j] ∧ j.engine = some e ∧ s.cmd.inflight = [p] ∧ s.inReset = false ∧ j.slot = slot.val ∧ p.wait = .job slot.val ∧ p.path ≠ .ridge ∧ p.orphan = false) ∧
    (∃ (s : State) (p : Pkt), s.Serves p.path p.tag ∧ p.target.toNat < 256 ∧ (s.slot p.target.toNat).holder = 0 ∧ 2 ≤ p.body.length ∧ p.body.length = 2 + (3 * bodyWord p.body 1 + 3) / 4 ∧ bodyWord p.body 0 ≤ 1 ∧ allZero ((bytesOfWords (p.body.drop 2)).drop (3 * bodyWord p.body 1)) = true ∧ seedValid (seedOf p.body) = true) ∧
    (∃ (s : State) (p : Pkt), s.Serves p.path p.tag ∧ p.target.toNat < 256 ∧ (s.slot p.target.toNat).holder = 0 ∧ p.body = [1] ∧ s.persistentSlots < 8) ∧
    (∃ (s : State) (slot : Fin 256) (image : List Byte) (p : InFlight), tabGet [] s.pack.journaling slot = image ∧ s.cmd.inflight = [p] ∧ s.inReset = false ∧ image ≠ [] ∧ (s.slot slot).persist = true ∧ p.wait = .ctxJournal slot.val ∧ p.path ≠ .ridge ∧ p.orphan = false) ∧
    (∃ (s : State) (e : Fin 6), s.inReset = false ∧ (s.engine e).active = true ∧ (s.engine e).cls ≠ 1 ∧ s.stream.streams = []) ∧
    (∃ (s : State) (feed : Fin 16), s.inReset = false ∧ (s.feed feed).enabled = true ∧ (s.feed feed).started = false ∧ (s.slot (s.get F.PACK_TEL_CFG_FIRST_SLOT + feed)).holder = 0) ∧
    (∃ (s : State) (feed : Fin 16) (e : Nat), s.takeEngine (s.feed feed).slot 2 = some e ∧ s.inReset = false ∧ (s.feed feed).source = 2 ∧ (s.feed feed).started = true ∧ (s.feed feed).carry = [] ∧ (s.feed feed).seq % (s.feed feed).resync ≠ 0 ∧ s.err.telLost = 0 ∧ s.err.telBuf ≠ [] ∧ (encode (s.slot (s.feed feed).slot) s.err.telBuf true ((s.feed feed).chunkMax * 256)).data ≠ [] ∧ s.pairRole < 2) :=
  ⟨⟨ready, ⟨.pcie, 9, 255, [4, 0, 0, 64, 0, 0, 65536, 0]⟩, by constructor <;> decide +kernel, by decide +kernel⟩,
    ⟨{ ready with pack := { jobs := [job70 none] } }, job70 none, 5, by decide +kernel⟩,
    ⟨{ (waiting 0x18 70 [] (.job 70)) with pack := { jobs := [job70 none] } }, 70, job70 none, waiter 0x18 70 [] (.job 70), by decide +kernel⟩,
    ⟨{ (waiting 0x18 70 [] (.job 70)) with pack := { jobs := [job70 (some 5)] } }, 70, job70 (some 5), 5, waiter 0x18 70 [] (.job 70), by decide +kernel⟩,
    ⟨ready, ⟨.pcie, 9, 70, [0, 1, 0x420041]⟩, by constructor <;> decide +kernel, by decide +kernel⟩,
    ⟨ready, ⟨.pcie, 9, 70, [1]⟩, by constructor <;> decide +kernel, by decide +kernel⟩,
    ⟨{ (waiting 0x1A 70 [1] (.ctxJournal 70)) with pack := { journaling := [(70, [1, 2])], slots := [(70, { persist := true })] } }, 70, [1, 2], waiter 0x1A 70 [1] (.ctxJournal 70), by decide +kernel⟩,
    ⟨{ ready with pack := { engines := [(5, { slot := 70, active := true })] } }, 5, by decide +kernel⟩,
    ⟨ready.setFeed 2 { enabled := true, source := 2 }, 2, by decide +kernel⟩,
    ⟨{ (ready.setFeed 2 { enabled := true, source := 2, started := true, seq := 1, slot := 202 }) with err := { telBuf := [1, 2, 3] } }, 2, 4, by decide +kernel⟩⟩

/-- States and operands that meet the hypotheses of `Obligations.TimeBaseIsStepped`. -/
theorem witness_TimeBaseIsStepped :
    (∃ (s : State) (p : Pkt) (lo : Word) (hi : Word) (fr : Word), s.Serves p.path p.tag ∧ p.body = [lo, hi, fr] ∧ p.target = 0 ∧ s.cascadeRole = 1 ∧ s.get F.TIME_STATE = 0) ∧
    (∃ (s : State) (p : Pkt), s.Serves p.path p.tag ∧ p.target = 0 ∧ p.body.length = 3 ∧ s.cascadeRole = 1 ∧ s.get F.TIME_STATE ≠ 0) ∧
    (∃ (s : State) (p : Pkt), s.Serves p.path p.tag ∧ p.target = 0 ∧ p.body = [] ∧ s.cascadeRole = 1 ∧ s.mayResetTime = true ∧ s.othersMayReset = true) ∧
    (∃ (s : State) (p : Pkt), s.Serves p.path p.tag ∧ p.target = 0 ∧ p.body = [0] ∧ s.get F.TIME_STATE_HOLD_CAUSE = 3) ∧
    (∃ (s : State) (p : Pkt), s.Serves p.path p.tag ∧ p.target = 0 ∧ p.body = [1] ∧ ((s.get F.TIME_STATE_HOLD_CAUSE = 3 ∨ s.get F.TIME_STATE_HOLD_CAUSE = 4))) ∧
    (∃ (s : State) (c : Nat), s.time.slewEnd = some c ∧ s.inReset = false) ∧
    (∃ (s : State) (x : Int) (y : Int) (z : Int), s.time.firsts = [x, y, z] ∧ s.inReset = false ∧ s.cmd.inflight = [] ∧ s.ptpSource = true ∧ s.get F.TIME_STATE = 0 ∧ max x (max y z) - min x (min y z) ≤ (s.get F.TIME_JUMP_THRESH : Int) * 2 ^ 32) ∧
    (∃ (s : State) (c : Nat), s.time.markersSince = some c ∧ s.inReset = false ∧ s.cmd.inflight = [] ∧ s.isSummit = false ∧ s.get F.TIME_STATE = 0 ∧ c + 250000 ≤ s.time.clk) :=
  ⟨⟨summit, ⟨.pcie, 9, 0, [0x1000, 0, 7]⟩, 0x1000, 0, 7, by constructor <;> decide +kernel, by decide +kernel⟩,
    ⟨summit.put F.TIME_STATE 2, ⟨.pcie, 9, 0, [0x1000, 0, 7]⟩, by constructor <;> decide +kernel, by decide +kernel⟩,
    ⟨(summit.put F.TIME_STATE 2).put F.TIME_RATE_ADJ 50, ⟨.pcie, 9, 0, []⟩, by constructor <;> decide +kernel, by decide +kernel⟩,
    ⟨(summit.put F.TIME_STATE 2).put F.TIME_STATE_HOLD_CAUSE 3, ⟨.pcie, 9, 0, [0]⟩, by constructor <;> decide +kernel, by decide +kernel⟩,
    ⟨{ ((summit.put F.TIME_STATE 2).put F.TIME_STATE_HOLD_CAUSE 3) with time := { offset := 429496729600 } }, ⟨.pcie, 9, 0, [1]⟩, by constructor <;> decide +kernel, by decide +kernel⟩,
    ⟨{ (summit.put F.TIME_STATE_SLEWING 1) with time := { slewEnd := some 1000 } }, 1000, by decide +kernel⟩,
    ⟨{ (summit.put F.TIME_CFG_SOURCE 1) with time := { firsts := [-4294967296000, -4294967296000, -4294967296000] } }, -4294967296000, -4294967296000, -4294967296000, by decide +kernel⟩,
    ⟨{ ready with time := { markersSince := some 0, clk := 250000, now := 4294967296000000, offset := -4294967296000 } }, 0, by decide +kernel⟩⟩

/-- States and operands that meet the hypotheses of `Obligations.TimeFollowsItsSource`. -/
theorem witness_TimeFollowsItsSource :
    (∃ (s : State) (a : State) (t : Nat) (port : Bool) (m : PtpMsg) (d : Int), s.Awake (t) a ∧ a.time.ptpDelay = some d ∧ port = a.ptpPort ∧ a.ptpUp = true ∧ m.l2 = a.has F.TIME_CFG_L2 ∧ a.isSummit = true ∧ ((a.time.ptpParent = none ∨ a.time.ptpParent = some m.source)) ∧ m.kind = 0 ∧ m.domain = a.get F.TIME_CFG_DOMAIN ∧ a.time.ptpIsMaster = false ∧ -4 ≤ m.logInterval ∧ m.logInterval ≤ 1 ∧ m.twoStep = false) ∧
    (∃ (s : State) (a : State) (t : Nat) (port : Bool) (m : PtpMsg), s.Awake (t) a ∧ a.ptpUp = true ∧ ((port ≠ a.ptpPort ∨ m.domain ≠ a.get F.TIME_CFG_DOMAIN))) ∧
    (∃ (s : State) (a : State) (t : Nat) (port : Bool) (m : PtpMsg) (q : Nat) (t1 : Int), s.Awake (t) a ∧ a.time.ptpReq = some (q, t1) ∧ port = a.ptpPort ∧ a.ptpUp = true ∧ m.l2 = a.has F.TIME_CFG_L2 ∧ a.has F.TIME_CFG_P2P = true ∧ m.seq = q ∧ m.kind = 3 ∧ m.domain = a.get F.TIME_CFG_DOMAIN ∧ m.twoStep = false) ∧
    (∃ (s : State) (a : State) (t : Nat), s.Awake (t) a ∧ a.time.ptpIsMaster = true ∧ a.ptpUp = true ∧ a.has F.TIME_CFG_ONE_STEP = true) ∧
    (∃ (s : State) (a : State) (t : Nat), s.Awake (t) a ∧ a.time.ptpIsMaster = true ∧ a.ptpUp = true ∧ a.has F.TIME_CFG_ONE_STEP = false) ∧
    (∃ (s : State) (a : State) (t : Nat), s.Awake (t) a ∧ a.time.ptpIsMaster = false ∧ a.isSummit = true ∧ a.ptpUp = true ∧ a.has F.TIME_CFG_P2P = false) ∧
    (∃ (s : State) (theta : Int) (en : Nat) (ed : Nat), s.time.measured = some (theta, en, ed) ∧ s.inReset = false ∧ s.ptpSource = true ∧ s.get F.TIME_STATE = 1 ∧ s.inThreshold theta = true) ∧
    (∃ (s : State) (theta : Int) (en : Nat) (ed : Nat), s.time.measured = some (theta, en, ed) ∧ s.inReset = false ∧ s.ptpSource = true ∧ s.get F.TIME_STATE = 1 ∧ s.inThreshold theta = false) ∧
    (∃ (s : State), s.inReset = false ∧ s.jumpDue = true) ∧
    (∃ (s : State), s.inReset = false ∧ s.exitDue = true) ∧
    (∃ (s : State) (a : State) (t : Nat), s.Awake (t) a ∧ a.time.ptpMaster = true ∧ a.time.ptpAnnounceClk + a.announceTimeout ≤ a.time.clk ∧ a.ptpSource = true ∧ a.get F.TIME_STATE = 1 ∧ a.time.ptpForeign = []) ∧
    (∃ (s : State) (a : State) (t : Nat), s.Awake (t) a ∧ a.ptpSource = true ∧ a.get F.TIME_STATE = 1 ∧ a.time.ptpMeasureClk * 16 + 4 * 2 ^ (a.time.ptpLogSync + 4).toNat * 250000000 ≤ a.time.clk * 16) ∧
    (∃ (s : State) (a : State) (t : Nat), s.Awake (t) a ∧ a.has F.TIME_CFG_AUTO_PORT = true ∧ (if a.ptpPort then a.host.pcsLock1 else a.host.pcsLock0) = false) ∧
    (∃ (s : State) (h : Hdr) (v : Word), s.Serves h.path h.tag ∧ s.writesError h.path true [⟨0x080010, BitVec.allOnes 32, v⟩] = none ∧ v.toNat % 2 ≠ s.get F.TIME_CFG_SOURCE ∧ s.get F.TIME_STATE = 1 ∧ s.isSummit = true) ∧
    (∃ (s : State) (a : State) (t : Nat), s.Awake (t) a ∧ a.isSummit = true) ∧
    (∃ (s : State) (a : State) (m : Machine.RidgeMsg), s.Awake (m.t) a ∧ a.isSummit = false ∧ a.takes 0x04 m = true) ∧
    (∃ (s : State) (a : State) (m : Machine.RidgeMsg) (k : Marker), s.Awake (m.t) a ∧ a.isSummit = false ∧ a.takes 0x04 m = true ∧ m.cw = a.time.markerCw ∧ k.departure + k.correction < a.time.now + 2 ^ 95 ∧ a.time.now < k.departure + k.correction + 2 ^ 95) ∧
    (∃ (s : State) (a : State) (t : Nat) (c : Nat), s.Awake (t) a ∧ (if a.time.markerCw then a.time.markerClkCw else a.time.markerClkCcw) = some c ∧ a.isSummit = false ∧ c + 75000 ≤ a.time.clk) ∧
    (∃ (s : State) (a : State) (t : Nat) (c : Nat) (d : Nat), s.Awake (t) a ∧ a.time.markerClkCw = some c ∧ a.time.markerClkCcw = some d ∧ a.isSummit = false ∧ c + 250000 ≤ a.time.clk ∧ d + 250000 ≤ a.time.clk ∧ a.get F.TIME_STATE = 1) ∧
    (∃ (s : State), s.inReset = false ∧ s.isSummit = false ∧ 10 ≤ s.time.misalignRun ∧ s.has F.TIME_STATE_MISALIGN = false) ∧
    (∃ (s : State) (a : State) (t : Nat) (link : Fin 4), s.Awake (t) a ∧ a.linkUp link = true) :=
  ⟨⟨{ ptpReady with time := { ptpDelay := some 100 } }, _, 5000, false, { kind := 0, domain := 0, seq := 1, stamp := 1000, l2 := true }, 100, ⟨rfl, by decide +kernel, by decide +kernel⟩, by decide +kernel⟩,
    ⟨ptpReady, _, 5000, true, { kind := 0, domain := 0, seq := 1, stamp := 1000, l2 := true }, ⟨rfl, by decide +kernel, by decide +kernel⟩, by decide +kernel⟩,
    ⟨{ (ptpReady.put F.TIME_CFG_P2P 1) with time := { ptpReq := some (4, 1000) } }, _, 5000, false, { kind := 3, domain := 0, seq := 4, l2 := true }, 4, 1000, ⟨rfl, by decide +kernel, by decide +kernel⟩, by decide +kernel⟩,
    ⟨{ (ptpReady.put F.TIME_CFG_ONE_STEP 1) with time := { ptpIsMaster := true } }, _, 5000, ⟨rfl, by decide +kernel, by decide +kernel⟩, by decide +kernel⟩,
    ⟨{ ptpReady with time := { ptpIsMaster := true } }, _, 5000, ⟨rfl, by decide +kernel, by decide +kernel⟩, by decide +kernel⟩,
    ⟨ptpReady, _, 5000, ⟨rfl, by decide +kernel, by decide +kernel⟩, by decide +kernel⟩,
    ⟨{ (ptpReady.put F.TIME_STATE 1) with time := { measured := some (4294967296, 16, 4294967296) } }, 4294967296, 16, 4294967296, by decide +kernel⟩,
    ⟨{ (ptpReady.put F.TIME_STATE 1) with time := { measured := some (429496729600000, 16, 4294967296) } }, 429496729600000, 16, 4294967296, by decide +kernel⟩,
    ⟨(summit.put F.TIME_STATE 1).put F.TIME_STATE_JUMP_SEEN 5, by decide +kernel⟩,
    ⟨{ (summit.put F.TIME_STATE 2) with time := { sourcePresent := true, goodRun := 15 } }, by decide +kernel⟩,
    ⟨{ ((summit.put F.TIME_CFG_SOURCE 1).put F.TIME_STATE 1) with time := { ptpMaster := true } }, _, 6000000000, ⟨rfl, by decide +kernel, by decide +kernel⟩, by decide +kernel⟩,
    ⟨{ ((summit.put F.TIME_CFG_SOURCE 1).put F.TIME_STATE 1) with time := { ptpMaster := true } }, _, 500000000, ⟨rfl, by decide +kernel, by decide +kernel⟩, by decide +kernel⟩,
    ⟨{ (summit.put F.TIME_CFG_AUTO_PORT 1) with host := { pcsLock0 := false } }, _, 5000, ⟨rfl, by decide +kernel, by decide +kernel⟩, by decide +kernel⟩,
    ⟨summit.put F.TIME_STATE 1, ⟨.pcie, 9⟩, 0xD000001, by constructor <;> decide +kernel, by decide +kernel⟩,
    ⟨summit, _, 5000, ⟨rfl, by decide +kernel, by decide +kernel⟩, by decide +kernel⟩,
    ⟨ready, _, ridgeMsg 5000 0x04 [], ⟨rfl, by decide +kernel, by decide +kernel⟩, by decide +kernel⟩,
    ⟨ready, _, ridgeMsg 5000 0x04 [], ⟨3, 100, 20, 0, 1, 0⟩, ⟨rfl, by decide +kernel, by decide +kernel⟩, by decide +kernel⟩,
    ⟨{ ready with time := { markerClkCw := some 0 } }, _, 400000, 0, ⟨rfl, by decide +kernel, by decide +kernel⟩, by decide +kernel⟩,
    ⟨{ (ready.put F.TIME_STATE 1) with time := { markerClkCw := some 0, markerClkCcw := some 5 } }, _, 1100000, 0, 5, ⟨rfl, by decide +kernel, by decide +kernel⟩, by decide +kernel⟩,
    ⟨{ ready with time := { misalignRun := 10 } }, by decide +kernel⟩,
    ⟨ready.put (F.RIDGE_LINK_STAT_STATE 1) 2, _, 5000, 1, ⟨rfl, by decide +kernel, by decide +kernel⟩, by decide +kernel⟩⟩

/-- States and operands that meet the hypotheses of `Obligations.TrigPulsesAndCaptures`. -/
theorem witness_TrigPulsesAndCaptures :
    (∃ (s : State) (a : State) (t : Nat) (n : Fin 24), s.Awake (t) a ∧ (a.trig n).active = true ∧ a.dev ≠ 0 ∧ a.dev ≠ 5 ∧ a.trigAhead n (a.trig n).pulse a.ns ≤ 0 ∧ -4 ≤ a.trigAhead n (a.trig n).pulse a.ns) ∧
    (∃ (s : State) (a : State) (t : Nat) (n : Fin 24), s.Awake (t) a ∧ (a.trig n).level = true ∧ (a.trig n).fallAt ≤ a.ns) ∧
    (∃ (s : State) (a : State) (t : Nat) (n : Fin 8) (rising : Bool), s.Awake (t) a ∧ (if rising then a.get (F.TIME_CAP_CFG_EDGE n) % 2 = 1 else 2 ≤ a.get (F.TIME_CAP_CFG_EDGE n)) ∧ (a.cap n).entries.length < 16) ∧
    (∃ (s : State) (a : State) (t : Nat) (n : Fin 8) (rising : Bool), s.Awake (t) a ∧ (if rising then a.get (F.TIME_CAP_CFG_EDGE n) % 2 = 1 else 2 ≤ a.get (F.TIME_CAP_CFG_EDGE n)) ∧ 16 ≤ (a.cap n).entries.length) ∧
    (∃ (s : State) (p : Pkt) (n : Word), s.Serves p.path p.tag ∧ p.body = [n] ∧ p.target.toNat < 8 ∧ 1 ≤ n.toNat ∧ n.toNat ≤ 16) :=
  ⟨⟨(((ready.put (F.TIME_TRIG_CTRL_MODE 2) 1).put (F.TIME_TRIG_START_LO 2) 5000).put (F.TIME_TRIG_WIDTH 2) 100).setTrig 2 { active := true }, _, 5000, 2, ⟨rfl, by decide +kernel, by decide +kernel⟩, by decide +kernel⟩,
    ⟨ready.setTrig 2 { level := true, fallAt := 5000 }, _, 5000, 2, ⟨rfl, by decide +kernel, by decide +kernel⟩, by decide +kernel⟩,
    ⟨ready.put (F.TIME_CAP_CFG_EDGE 4) 1, _, 5000, 4, true, ⟨rfl, by decide +kernel, by decide +kernel⟩, by decide +kernel⟩,
    ⟨(ready.put (F.TIME_CAP_CFG_EDGE 4) 2).setCap 4 { entries := List.replicate 16 ⟨1, false, false⟩ }, _, 5000, 4, false, ⟨rfl, by decide +kernel, by decide +kernel⟩, by decide +kernel⟩,
    ⟨ready.setCap 4 { entries := [⟨1, false, false⟩, ⟨5, true, false⟩] }, ⟨.pcie, 9, 4, [1]⟩, 1, by constructor <;> decide +kernel, by decide +kernel⟩⟩

/-- States and operands that meet the hypotheses of `Obligations.QueuesAndTablesAreServed`. -/
theorem witness_QueuesAndTablesAreServed :
    (∃ (s : State) (p : Pkt) (c : Nat), s.Serves p.path p.tag ∧ p.target.toNat = c ∧ c < 64 ∧ p.body = [1] ∧ s.ch c ≠ 3 ∧ s.ch c ≠ 4) ∧
    (∃ (s : State) (p : Pkt) (c : Nat) (v : Word), s.Serves p.path p.tag ∧ p.target.toNat = c ∧ p.body = [v] ∧ c < 64 ∧ v.toNat ≤ 1 ∧ ((s.ch c = 3 ∨ s.ch c = 4))) ∧
    (∃ (s : State) (p : Pkt) (c : Nat) (first : Nat) (n : Nat), s.Serves p.path p.tag ∧ p.target.toNat - 256 = c ∧ (p.body.headD 0).toNat % 65536 = first ∧ (p.body.headD 0).toNat / 65536 = n ∧ c < 64 ∧ p.target.toNat = 256 + c ∧ 1 ≤ n ∧ n ≤ 1364 ∧ first + n ≤ 4225 ∧ p.body.length = 1 + 3 * n ∧ s.gridInUse c 1 = false) ∧
    (∃ (s : State) (p : Pkt) (c : Nat) (first : Nat) (n : Nat), s.Serves p.path p.tag ∧ p.target.toNat - 256 = c ∧ (p.body.headD 0).toNat % 65536 = first ∧ (p.body.headD 0).toNat / 65536 = n ∧ c < 64 ∧ p.target.toNat = 256 + c ∧ 1 ≤ n ∧ n ≤ 1364 ∧ first + n ≤ 4225 ∧ p.body.length = 1 + 3 * n ∧ s.gridInUse c 1 = true) ∧
    (∃ (s : State) (p : Pkt) (v : Word), s.Serves p.path p.tag ∧ p.body = [v] ∧ p.target.toNat < 64 ∧ 1 ≤ v.toNat ∧ v.toNat ≤ 64) :=
  ⟨⟨(ready.setSq 3 { queue := [{ seg := { type := 5, stream := 7, layer := 1 } }] }).put (F.SEQ_CH_STATE_STATE 3) 1, ⟨.pcie, 9, 3, [1]⟩, 3, by constructor <;> decide +kernel, by decide +kernel⟩,
    ⟨ready.put (F.SEQ_CH_STATE_STATE 3) 3, ⟨.pcie, 9, 3, [1]⟩, 3, 1, by constructor <;> decide +kernel, by decide +kernel⟩,
    ⟨ready, ⟨.pcie, 9, 0x103, [0x20010, 5, 6, 0xFFFFFFFF, 8, 9, 10]⟩, 3, 16, 2, by constructor <;> decide +kernel, by decide +kernel⟩,
    ⟨ready.put (F.SEQ_XFORM_CTRL_TABLE 3) 1, ⟨.pcie, 9, 0x103, [0x10010, 5, 6, 7]⟩, 3, 16, 1, by constructor <;> decide +kernel, by decide +kernel⟩,
    ⟨ready, ⟨.eth0, 9, 3, [10]⟩, 10, by constructor <;> decide +kernel, by decide +kernel⟩⟩

/-- States and operands that meet the hypotheses of `Obligations.SupervisionTripsAct`. -/
theorem witness_SupervisionTripsAct :
    (∃ (s : State) (c : Chan), s.inReset = false ∧ ((∃ x : Fin 3, (s.ax c x).oscTrip = true)) ∧ s.chAt c (s.sq c).built ≠ 5) ∧
    (∃ (s : State) (c : Chan), s.inReset = false ∧ ((∃ x : Fin 3, (s.ax c x).satTrip = true)) ∧ ((∀ x : Fin 3, (s.ax c x).oscTrip = false)) ∧ s.chAt c (s.sq c).built ≠ 5) ∧
    (∃ (s : State) (n : AxisNo), s.inReset = false ∧ (s.ma n).feTrip = true) ∧
    (∃ (s : State) (c : Chan), s.inReset = false ∧ (s.pow c).monActed = false ∧ (s.inForce (s.sq c).built).has (F.POWER_PCTRL_MON_EN c) = true ∧ (s.inForce (s.sq c).built).get (F.POWER_COUNTS_MON_COUNT c) ≤ s.get (F.POWER_P_STAT_MON_RUN c) ∧ (s.inForce (s.sq c).built).get (F.POWER_PCTRL_MON_ACT c) = 1) ∧
    (∃ (s : State) (c : Chan), s.inReset = false ∧ (s.pow c).monActed = false ∧ (s.inForce (s.sq c).built).has (F.POWER_PCTRL_MON_EN c) = true ∧ (s.inForce (s.sq c).built).get (F.POWER_COUNTS_MON_COUNT c) ≤ s.get (F.POWER_P_STAT_MON_RUN c) ∧ (s.inForce (s.sq c).built).get (F.POWER_PCTRL_MON_ACT c) = 2) :=
  ⟨⟨(ready.put (F.SEQ_CH_STATE_STATE 3) 3).setAx 3 1 { oscTrip := true }, 3, by decide +kernel⟩,
    ⟨(ready.put (F.SEQ_CH_STATE_STATE 3) 3).setAx 3 2 { satTrip := true }, 3, by decide +kernel⟩,
    ⟨ready.setMa 2 { feTrip := true }, 2, by decide +kernel⟩,
    ⟨(((ready.put (F.POWER_PCTRL_MON_EN 3) 1).put (F.POWER_PCTRL_MON_ACT 3) 1).put (F.POWER_COUNTS_MON_COUNT 3) 2).put (F.POWER_P_STAT_MON_RUN 3) 2, 3, by decide +kernel⟩,
    ⟨(((ready.put (F.POWER_PCTRL_MON_EN 3) 1).put (F.POWER_PCTRL_MON_ACT 3) 2).put (F.POWER_COUNTS_MON_COUNT 3) 2).put (F.POWER_P_STAT_MON_RUN 3) 2, 3, by decide +kernel⟩⟩

/-- States and operands that meet the hypotheses of `Obligations.TraceRuns`. -/
theorem witness_TraceRuns :
    (∃ (s : State) (p : Pkt), s.Serves p.path p.tag ∧ p.target = 0 ∧ p.body = [] ∧ s.get F.TRACE_TSTAT_STATE ≠ 1 ∧ s.get F.TRACE_TSTAT_STATE ≠ 2) ∧
    (∃ (s : State) (p : Pkt), s.Serves p.path p.tag ∧ p.target = 0 ∧ p.body = [] ∧ ((s.get F.TRACE_TSTAT_STATE = 1 ∨ s.get F.TRACE_TSTAT_STATE = 2))) ∧
    (∃ (s : State) (p : Pkt), s.Serves p.path p.tag ∧ p.target = 0 ∧ p.body = [] ∧ s.get F.TRACE_TSTAT_STATE = 1) ∧
    (∃ (s : State) (p : Pkt), s.Serves p.path p.tag ∧ p.target = 0 ∧ p.body = [] ∧ ((s.get F.TRACE_TSTAT_STATE = 1 ∨ s.get F.TRACE_TSTAT_STATE = 2))) ∧
    (∃ (s : State) (p : Pkt) (j : Word) (n : Word), s.Serves p.path p.tag ∧ p.body = [j, n] ∧ p.target.toNat < 16 ∧ 1 ≤ n.toNat ∧ n.toNat ≤ 4088 ∧ j.toNat + n.toNat ≤ s.trace.rows.length) ∧
    (∃ (s : State), s.inReset = false ∧ s.get F.TRACE_TSTAT_STATE = 2 ∧ s.trace.left = 0) :=
  ⟨⟨{ ready with trace := { rows := [[1]] } }, ⟨.pcie, 9, 0, []⟩, by constructor <;> decide +kernel, by decide +kernel⟩,
    ⟨ready.put F.TRACE_TSTAT_STATE 2, ⟨.pcie, 9, 0, []⟩, by constructor <;> decide +kernel, by decide +kernel⟩,
    ⟨ready.put F.TRACE_TSTAT_STATE 1, ⟨.pcie, 9, 0, []⟩, by constructor <;> decide +kernel, by decide +kernel⟩,
    ⟨ready.put F.TRACE_TSTAT_STATE 2, ⟨.pcie, 9, 0, []⟩, by constructor <;> decide +kernel, by decide +kernel⟩,
    ⟨{ ready with trace := { rows := [[1], [2]] } }, ⟨.pcie, 9, 0, [1, 1]⟩, 1, 1, by constructor <;> decide +kernel, by decide +kernel⟩,
    ⟨ready.put F.TRACE_TSTAT_STATE 2, by decide +kernel⟩⟩

/-- States and operands that meet the hypotheses of `Obligations.LedgerAnswersAndFills`. -/
theorem witness_LedgerAnswersAndFills :
    (∃ (s : State) (p : Pkt) (o : Word) (d : Word), s.Serves p.path p.tag ∧ p.body = [o, d] ∧ p.target = 0 ∧ 1 ≤ (d.toNat % 65536) * (d.toNat / 65536) ∧ (d.toNat % 65536) * (d.toNat / 65536) ≤ 8176) ∧
    (∃ (s : State) (p : Pkt) (lo : Word) (hi : Word) (o : Word) (d : Word) (e : Word), s.Serves p.path p.tag ∧ p.body = [lo, hi, o, d, e] ∧ p.target = 0 ∧ 1 ≤ (d.toNat % 65536) * (d.toNat / 65536) ∧ (d.toNat % 65536) * (d.toNat / 65536) ≤ 16384 ∧ e.toNat < 65536 ∧ s.ns + 50000 ≤ dword lo hi * 1000 ∧ dword lo hi * 1000 ≤ s.ns + 10000000000) ∧
    (∃ (s : State) (p : Pkt) (lo : Word) (hi : Word) (o : Word) (d : Word) (e : Word), s.Serves p.path p.tag ∧ p.body = [lo, hi, o, d, e] ∧ p.target = 0 ∧ 1 ≤ (d.toNat % 65536) * (d.toNat / 65536) ∧ (d.toNat % 65536) * (d.toNat / 65536) ≤ 16384 ∧ e.toNat < 65536 ∧ ((dword lo hi * 1000 < s.ns + 50000 ∨ s.ns + 10000000000 < dword lo hi * 1000))) ∧
    (∃ (s : State) (a : State) (h : Nat) (p : InFlight) (x : Fill), s.Awake (h * 1000) a ∧ a.cmd.inflight = [p] ∧ a.ledger.fills = [x] ∧ p.wait = .ledgerFill h ∧ p.path ≠ .ridge ∧ p.orphan = false ∧ x.h = h ∧ x.done = false) :=
  ⟨⟨ready, ⟨.pcie, 9, 0, [0, 0x20003]⟩, 0, 0x20003, by constructor <;> decide +kernel, by decide +kernel⟩,
    ⟨ready, ⟨.pcie, 9, 0, [100, 0, 0x0000FFFF, 0x20003, 500]⟩, 100, 0, 0x0000FFFF, 0x20003, 500, by constructor <;> decide +kernel, by decide +kernel⟩,
    ⟨ready, ⟨.pcie, 9, 0, [10, 0, 0x0000FFFF, 0x20003, 500]⟩, 10, 0, 0x0000FFFF, 0x20003, 500, by constructor <;> decide +kernel, by decide +kernel⟩,
    ⟨{ (waiting 0x51 0 [100, 0, 0, 0x20003, 500] (.ledgerFill 100)) with ledger := { active := true, cfg := { tShift := 4, half := 10, i0 := 0, j0 := 0, nx := 8, ny := 8 }, fills := [{ h := 100, i0 := 2, j0 := 1, w := 3, hh := 2, energy := 500, order := 0 }] } }, _, 100, waiter 0x51 0 [100, 0, 0, 0x20003, 500] (.ledgerFill 100), { h := 100, i0 := 2, j0 := 1, w := 3, hh := 2, energy := 500, order := 0 }, ⟨rfl, by decide +kernel, by decide +kernel⟩, by decide +kernel⟩⟩

/-- States and operands that meet the hypotheses of `Obligations.DigestsDecideTheYields`. -/
theorem witness_DigestsDecideTheYields :
    (∃ (s : State) (a : State) (d : Nat) (g : Digest), s.Awake (d * 1000 - 400) a ∧ a.ownDigest d = some g ∧ a.sendsDigest d = true) ∧
    (∃ (s : State) (a : State) (m : Machine.RidgeMsg) (g : Digest), s.Awake (m.t) a ∧ digestOf m.payload = some g ∧ bitsOf ((a.atPeriod g.d).get F.COL_POSITIONS) g.pos 1 = 1 ∧ g.pos ≠ a.position ∧ g.d % 10 = 0 ∧ a.ns ≤ (g.d + 8) * 1000 ∧ g.d * 1000 ≤ a.ns + 2000 ∧ a.heldDigest g.pos g.d = none ∧ a.buildsDigest a = true ∧ a.takes 0x07 m = true) ∧
    (∃ (s : State) (a : State) (m : Machine.RidgeMsg) (g : Digest), s.Awake (m.t) a ∧ digestOf m.payload = some g ∧ bitsOf ((a.atPeriod g.d).get F.COL_POSITIONS) g.pos 1 = 0 ∧ g.pos ≠ a.position ∧ a.takes 0x07 m = true) ∧
    (∃ (s : State) (a : State) (m : Machine.RidgeMsg) (bytes : List Byte) (g : Digest), s.Awake (m.t) a ∧ digestOf bytes = some g ∧ bitsOf ((a.atPeriod g.d).get F.COL_POSITIONS) g.pos 1 = 1 ∧ g.pos ≠ a.position ∧ a.ns ≤ (g.d + 9) * 1000 ∧ a.heldDigest g.pos g.d = none ∧ a.takes 0x14 m = true) ∧
    (∃ (s : State) (a : State) (m : Machine.RidgeMsg) (d : Nat) (p : Nat) (g : Digest), s.Awake (m.t) a ∧ a.heldDigest p d = some g ∧ a.takes 0x14 m = true) ∧
    (∃ (s : State) (a : State) (d : Nat), s.Awake ((d + 8) * 1000) a ∧ a.paired = false ∧ a.buildsDigest (a.atPeriod d) = true ∧ a.col.countedFor ≠ some d) ∧
    (∃ (s : State) (a : State) (d : Nat) (g : Digest), s.Awake ((d + 9) * 1000) a ∧ a.ownDigest d = some g) ∧
    (∃ (s : State) (a : State) (d : Nat) (g : Digest) (l : List Finding), s.Awake ((d + 16) * 1000) a ∧ a.ownDigest d = some g ∧ a.col.checked = some (d, l) ∧ (a.atPeriod d).has F.COL_CFG_ENABLE = true) ∧
    (∃ (s : State) (a : State) (d : Nat) (g : Digest), s.Awake ((d + 16) * 1000) a ∧ a.ownDigest d = some g ∧ a.col.checked = none ∧ (a.atPeriod d).has F.COL_CFG_ENABLE = true) ∧
    (∃ (s : State) (c : Chan), s.inReset = false ∧ s.get F.COL_CFG_YIELD_WARN ≠ 0 ∧ s.get F.COL_CFG_YIELD_WARN ≤ tabGet 0 s.col.loseRun c ∧ s.col.warned.contains (c : Nat) = false) ∧
    (∃ (s : State) (p : Pkt), s.Serves p.path p.tag ∧ p.target.toNat < 16 ∧ p.body = [] ∧ s.heldDigest p.target.toNat (s.get64 F.COL_CHK_LO F.COL_CHK_HI) = none) ∧
    (∃ (s : State) (p : Pkt) (g : Digest), s.Serves p.path p.tag ∧ s.heldDigest p.target.toNat (s.get64 F.COL_CHK_LO F.COL_CHK_HI) = some g ∧ p.target.toNat < 16 ∧ p.body = []) :=
  ⟨⟨{ ((ready.put F.COL_CFG_ENABLE 1).put F.TIME_STATE 1) with col := { own := [{ pos := 0, d := 100 }] } }, _, 100, { pos := 0, d := 100 }, ⟨rfl, by decide +kernel, by decide +kernel⟩, by decide +kernel⟩,
    ⟨(ready.put F.COL_CFG_ENABLE 1).put F.COL_POSITIONS 7, _, ridgeMsg 101000 0x07 (Digest.bytes { pos := 2, d := 100 }), { pos := 2, d := 100 }, ⟨rfl, by decide +kernel, by decide +kernel⟩, by decide +kernel⟩,
    ⟨ready.put F.COL_CFG_ENABLE 1, _, ridgeMsg 101000 0x07 (Digest.bytes { pos := 2, d := 100 }), { pos := 2, d := 100 }, ⟨rfl, by decide +kernel, by decide +kernel⟩, by decide +kernel⟩,
    ⟨(ready.put F.COL_CFG_ENABLE 1).put F.COL_POSITIONS 7, _, ridgeMsg 101000 0x14 [], Digest.bytes { pos := 2, d := 100 }, { pos := 2, d := 100 }, ⟨rfl, by decide +kernel, by decide +kernel⟩, by decide +kernel⟩,
    ⟨{ ready with col := { got := [{ pos := 3, d := 100 }] } }, _, ridgeMsg 101000 0x14 [], 100, 3, { pos := 3, d := 100 }, ⟨rfl, by decide +kernel, by decide +kernel⟩, by decide +kernel⟩,
    ⟨(ready.put F.COL_CFG_ENABLE 1).put F.COL_POSITIONS 7, _, 100, ⟨rfl, by decide +kernel, by decide +kernel⟩, by decide +kernel⟩,
    ⟨{ (ready.put F.COL_CFG_ENABLE 1) with col := { own := [{ pos := 0, d := 100 }] } }, _, 100, { pos := 0, d := 100 }, ⟨rfl, by decide +kernel, by decide +kernel⟩, by decide +kernel⟩,
    ⟨{ (ready.put F.COL_CFG_ENABLE 1) with col := { own := [{ pos := 0, d := 100, entries := [{ ch := 3, mark := 1 }] }], checked := some (100, []) } }, _, 100, { pos := 0, d := 100, entries := [{ ch := 3, mark := 1 }] }, [], ⟨rfl, by decide +kernel, by decide +kernel⟩, by decide +kernel⟩,
    ⟨{ (ready.put F.COL_CFG_ENABLE 1) with col := { own := [{ pos := 0, d := 100, entries := [{ ch := 3, mark := 1 }] }] } }, _, 100, { pos := 0, d := 100, entries := [{ ch := 3, mark := 1 }] }, ⟨rfl, by decide +kernel, by decide +kernel⟩, by decide +kernel⟩,
    ⟨{ (ready.put F.COL_CFG_YIELD_WARN 2) with col := { loseRun := [(3, 2)] } }, 3, by decide +kernel⟩,
    ⟨ready, ⟨.pcie, 9, 3, []⟩, by constructor <;> decide +kernel, by decide +kernel⟩,
    ⟨{ ready with col := { got := [{ pos := 3, d := 0 }] } }, ⟨.pcie, 9, 3, []⟩, { pos := 3, d := 0 }, by constructor <;> decide +kernel, by decide +kernel⟩⟩

/-- States and operands that meet the hypotheses of `Obligations.FeedbackCounts`. -/
theorem witness_FeedbackCounts :
    (∃ (s : State) (a : State) (t : Nat) (n : AxisNo) (la : Bool) (lb : Bool), s.Awake (t) a ∧ a.get (F.FBK_FCFG_SRC n) = 1 ∧ ((a.fb n).a != la) ≠ ((a.fb n).b != lb)) ∧
    (∃ (s : State) (a : State) (t : Nat) (n : AxisNo) (la : Bool) (lb : Bool), s.Awake (t) a ∧ a.get (F.FBK_FCFG_SRC n) = 1 ∧ (a.fb n).a ≠ la ∧ (a.fb n).b ≠ lb) ∧
    (∃ (s : State) (a : State) (t : Nat) (n : AxisNo) (hall : Fin 8), s.Awake (t) a ∧ a.get (F.FBK_FCFG_SRC n) = 2 ∧ hall ≠ 0 ∧ hall ≠ 7 ∧ (a.fb n).hall ≠ 0 ∧ (a.fb n).hall ≠ hall ∧ hallSense (a.fb n).hall hall ≠ 0) ∧
    (∃ (s : State) (a : State) (t : Nat) (n : AxisNo) (hall : Fin 8), s.Awake (t) a ∧ a.get (F.FBK_FCFG_SRC n) = 2 ∧ ((hall = 0 ∨ hall = 7))) ∧
    (∃ (s : State) (a : State) (t : Nat) (n : AxisNo), s.Awake (t) a ∧ a.has (F.FBK_FCFG_IDX_QUAL_EN n) = false ∧ a.get (F.FBK_IDX_PERIOD n) = 0) ∧
    (∃ (s : State) (a : State) (t : Nat) (n : AxisNo), s.Awake (t) a ∧ a.serialDue n t = true ∧ (a.fb n).busy = none ∧ (a.fb n).skip = false) ∧
    (∃ (s : State) (a : State) (t : Nat) (n : AxisNo) (code : Nat) (nE : Bool) (nW : Bool) (crc : Nat) (b : Nat) (v0 : Nat) (t0 : Nat), s.Awake (t) a ∧ (a.fb n).busy = some b ∧ (a.fb n).reading = some (v0, t0) ∧ a.get (F.FBK_FCFG_SRC n) = 3 ∧ a.serialOk n code nE nW crc = true ∧ a.get (F.FBK_SER_CFG_PROTO n) ≠ 2) ∧
    (∃ (s : State) (a : State) (t : Nat) (n : AxisNo), s.Awake (t) a ∧ (a.fb n).busy.isSome = true) ∧
    (∃ (s : State) (a : State) (t : Nat) (n : AxisNo), s.Awake (t) a ∧ 4 ≤ (a.fb n).missing ∧ (a.mx n).state ≠ 0 ∧ (a.mx n).state ≠ 5) ∧
    (∃ (s : State) (a : State) (t : Nat) (n : AxisNo) (e : Nat), s.Awake (t) a ∧ (a.fb n).lastEdge = some e ∧ ((a.get (F.FBK_FCFG_SRC n) = 1 ∨ a.get (F.FBK_FCFG_SRC n) = 2)) ∧ e + a.get (F.FBK_STILL_US n) * 1000 ≤ a.ns) :=
  ⟨⟨ready.put (F.FBK_FCFG_SRC 2) 1, _, 5000, 2, true, false, ⟨rfl, by decide +kernel, by decide +kernel⟩, by decide +kernel⟩,
    ⟨ready.put (F.FBK_FCFG_SRC 2) 1, _, 5000, 2, true, true, ⟨rfl, by decide +kernel, by decide +kernel⟩, by decide +kernel⟩,
    ⟨(ready.put (F.FBK_FCFG_SRC 2) 2).setFb 2 { hall := 1 }, _, 5000, 2, 3, ⟨rfl, by decide +kernel, by decide +kernel⟩, by decide +kernel⟩,
    ⟨ready.put (F.FBK_FCFG_SRC 2) 2, _, 5000, 2, 7, ⟨rfl, by decide +kernel, by decide +kernel⟩, by decide +kernel⟩,
    ⟨ready.put (F.FBK_POS 2) 700, _, 5000, 2, ⟨rfl, by decide +kernel, by decide +kernel⟩, by decide +kernel⟩,
    ⟨(ready.put (F.FBK_FCFG_SRC 2) 3).put (F.FBK_SER_SCHED_PERIOD_US 2) 100, _, 5000, 2, ⟨rfl, by decide +kernel, by decide +kernel⟩, by decide +kernel⟩,
    ⟨((ready.put (F.FBK_FCFG_SRC 2) 3).put (F.FBK_SER_CFG_PROTO 2) 1).setFb 2 { busy := some 4, reading := some (90, 1) }, _, 5000, 2, 100, true, true, 0, 4, 90, 1, ⟨rfl, by decide +kernel, by decide +kernel⟩, by decide +kernel⟩,
    ⟨ready.setFb 2 { busy := some 4 }, _, 5000, 2, ⟨rfl, by decide +kernel, by decide +kernel⟩, by decide +kernel⟩,
    ⟨(ready.setFb 2 { missing := 4 }).setMx 2 { state := 1 }, _, 5000, 2, ⟨rfl, by decide +kernel, by decide +kernel⟩, by decide +kernel⟩,
    ⟨(ready.put (F.FBK_FCFG_SRC 2) 1).setFb 2 { lastEdge := some 0 }, _, 200000000, 2, 0, ⟨rfl, by decide +kernel, by decide +kernel⟩, by decide +kernel⟩⟩

/-- States and operands that meet the hypotheses of `Obligations.ProbesAndHomesLatch`. -/
theorem witness_ProbesAndHomesLatch :
    (∃ (s : State) (a : State) (t : Nat) (n : AxisNo) (level : Bool) (f : Nat), s.Awake (t) a ∧ (a.fb n).armAt = some f ∧ f ≤ a.us ∧ (if level then a.get (F.FBK_FCFG_PROBE_EDGE n) % 2 = 1 else 2 ≤ a.get (F.FBK_FCFG_PROBE_EDGE n))) ∧
    (∃ (s : State) (a : State) (t : Nat), s.Awake (t) a) ∧
    (∃ (s : State) (a : State) (k : Nat) (n : AxisNo), s.Awake (k * 1000) a ∧ (a.mx n).phase = 3 ∧ (a.mx n).homeLevel = false ∧ (a.mx n).accepted = none ∧ (a.mx n).homeSince + (a.inForce k).get (F.AXIS_HOME_CFG_HOME_STAB n) ≤ k) ∧
    (∃ (s : State) (a : State) (m : Machine.RidgeMsg) (k : Nat) (x : KeeperSample), s.Awake (m.t) a ∧ a.pairRole = 2 ∧ a.takes 0x12 m = true ∧ a.ns ≤ k * 1000 + 900 ∧ x.axes.length = 16) ∧
    (∃ (s : State) (a : State) (k : Nat), s.Awake (k * 1000 + 900) a ∧ a.pairRole = 2 ∧ a.axis.waiting = some k) ∧
    (∃ (s : State) (a : State) (t : Nat), s.Awake (t) a) :=
  ⟨⟨((ready.put (F.FBK_FCFG_PROBE_EDGE 2) 1).put (F.FBK_POS 2) 44).setFb 2 { armAt := some 3 }, _, 5000, 2, true, 3, ⟨rfl, by decide +kernel, by decide +kernel⟩, by decide +kernel⟩,
    ⟨ready, _, 5000, ⟨rfl, by decide +kernel, by decide +kernel⟩⟩,
    ⟨ready.setMx 2 { phase := 3, edgePos := 90 }, _, 1000000, 2, ⟨rfl, by decide +kernel, by decide +kernel⟩, by decide +kernel⟩,
    ⟨ready.put F.PAIR_PSTAT_ROLE 2, _, ridgeMsg 5000 0x12 [], 5, { axes := List.replicate 16 {}, estop := false, laserOff := false }, ⟨rfl, by decide +kernel, by decide +kernel⟩, by decide +kernel⟩,
    ⟨{ (ready.put F.PAIR_PSTAT_ROLE 2) with axis := { waiting := some 5 } }, _, 5, ⟨rfl, by decide +kernel, by decide +kernel⟩, by decide +kernel⟩,
    ⟨ready, _, 5000, ⟨rfl, by decide +kernel, by decide +kernel⟩⟩⟩

/-- States and operands that meet the hypotheses of `Obligations.AxisPacketsRun`. -/
theorem witness_AxisPacketsRun :
    (∃ (s : State) (p : Pkt) (n : Nat) (x : Nat), s.Serves p.path p.tag ∧ (p.body.headD 0).toNat = n ∧ p.target.toNat = x ∧ x < 16 ∧ 1 ≤ n ∧ n ≤ 16 ∧ p.body.length = 1 + 7 * n ∧ ((∀ j : Fin 16, (j : Nat) < n → (moveAt p.body j).vmax ≠ 0 ∧ (moveAt p.body j).acc ≠ 0 ∧ (moveAt p.body j).dec ≠ 0
      ∧ bodyWord p.body (1 + 7 * j) < 1024 ∧ bodyWord p.body (1 + 7 * j + 3) < 65536)) ∧ ((s.get (F.AXIS_ASTAT_STATE x) = 1 ∨ s.get (F.AXIS_ASTAT_STATE x) = 2)) ∧ s.dev ≠ 4 ∧ s.dev ≠ 5 ∧ (s.mx x).queue.length + (s.mx x).coming + n ≤ 16) ∧
    (∃ (s : State) (p : Pkt) (n : Nat) (x : Nat), s.Serves p.path p.tag ∧ (p.body.headD 0).toNat = n ∧ p.target.toNat = x ∧ x < 16 ∧ 1 ≤ n ∧ n ≤ 16 ∧ p.body.length = 1 + 7 * n ∧ ((∀ j : Fin 16, (j : Nat) < n → (moveAt p.body j).vmax ≠ 0 ∧ (moveAt p.body j).acc ≠ 0 ∧ (moveAt p.body j).dec ≠ 0
      ∧ bodyWord p.body (1 + 7 * j) < 1024 ∧ bodyWord p.body (1 + 7 * j + 3) < 65536)) ∧ (((s.get (F.AXIS_ASTAT_STATE x) ≠ 1 ∧ s.get (F.AXIS_ASTAT_STATE x) ≠ 2) ∨ s.dev = 4 ∨ s.dev = 5))) ∧
    (∃ (s : State) (p : Pkt) (v : Word) (x : Nat), s.Serves p.path p.tag ∧ p.body = [v] ∧ p.target.toNat = x ∧ x < 16 ∧ v.toNat ≤ 1) ∧
    (∃ (s : State) (p : Pkt) (x : Nat), s.Serves p.path p.tag ∧ p.target.toNat = x ∧ x < 16 ∧ p.body = [] ∧ s.get (F.AXIS_ASTAT_STATE x) = 1 ∧ s.dev ≠ 4 ∧ s.dev ≠ 5) ∧
    (∃ (s : State) (p : Pkt) (x : Nat), s.Serves p.path p.tag ∧ p.target.toNat = x ∧ x < 16 ∧ p.body = []) ∧
    (∃ (s : State) (p : Pkt) (v : Word) (x : Nat), s.Serves p.path p.tag ∧ p.body = [v] ∧ p.target.toNat = x ∧ x < 16 ∧ s.get (F.AXIS_ASTAT_STATE x) ≤ 1) ∧
    (∃ (s : State) (p : Pkt) (x : Nat), s.Serves p.path p.tag ∧ p.target.toNat = x ∧ x < 16 ∧ p.body = []) ∧
    (∃ (s : State) (a : State) (n : AxisNo) (f : Nat), s.Awake ((f - 2) * 1000) a ∧ (a.mx n).reqs = [(f, .clear)] ∧ (a.mx n).state = 5 ∧ a.cmd.inflight = []) ∧
    (∃ (s : State) (a : State) (n : AxisNo) (f : Nat), s.Awake ((f - 2) * 1000) a ∧ (a.mx n).reqs = [(f, .home)] ∧ (a.mx n).state = 1 ∧ a.devAt f ≠ 4 ∧ a.devAt f ≠ 5 ∧ a.cmd.inflight = []) ∧
    (∃ (s : State) (a : State) (n : AxisNo) (f : Nat), s.Awake ((f - 2) * 1000) a ∧ (a.mx n).reqs = [(f, .stop true)] ∧ (a.mx n).state = 2 ∧ a.cmd.inflight = []) ∧
    (∃ (s : State) (a : State) (n : AxisNo) (f : Nat), s.Awake ((f - 2) * 1000) a ∧ (a.mx n).reqs = [(f, .probeArm)] ∧ a.cmd.inflight = []) :=
  ⟨⟨ready.put (F.AXIS_ASTAT_STATE 2) 1, ⟨.pcie, 9, 2, [1, 2, 1000, 0, 0, 500, 10, 10]⟩, 1, 2, by constructor <;> decide +kernel, by decide +kernel⟩,
    ⟨ready, ⟨.pcie, 9, 2, [1, 2, 1000, 0, 0, 500, 10, 10]⟩, 1, 2, by constructor <;> decide +kernel, by decide +kernel⟩,
    ⟨ready, ⟨.pcie, 9, 2, [1]⟩, 1, 2, by constructor <;> decide +kernel, by decide +kernel⟩,
    ⟨ready.put (F.AXIS_ASTAT_STATE 2) 1, ⟨.pcie, 9, 2, []⟩, 2, by constructor <;> decide +kernel, by decide +kernel⟩,
    ⟨ready, ⟨.pcie, 9, 2, []⟩, 2, by constructor <;> decide +kernel, by decide +kernel⟩,
    ⟨ready, ⟨.pcie, 9, 2, [0xFFFFFFFE]⟩, 0xFFFFFFFE, 2, by constructor <;> decide +kernel, by decide +kernel⟩,
    ⟨ready, ⟨.pcie, 9, 2, []⟩, 2, by constructor <;> decide +kernel, by decide +kernel⟩,
    ⟨ready.setMx 2 { state := 5, reqs := [(25, .clear)] }, _, 2, 25, ⟨rfl, by decide +kernel, by decide +kernel⟩, by decide +kernel⟩,
    ⟨ready.setMx 2 { state := 1, reqs := [(25, .home)] }, _, 2, 25, ⟨rfl, by decide +kernel, by decide +kernel⟩, by decide +kernel⟩,
    ⟨ready.setMx 2 { state := 2, v := 50, reqs := [(25, .stop true)] }, _, 2, 25, ⟨rfl, by decide +kernel, by decide +kernel⟩, by decide +kernel⟩,
    ⟨ready.setMx 2 { reqs := [(25, .probeArm)] }, _, 2, 25, ⟨rfl, by decide +kernel, by decide +kernel⟩, by decide +kernel⟩⟩

/-- States and operands that meet the hypotheses of `Obligations.RingIsFormed`. -/
theorem witness_RingIsFormed :
    (∃ (s : State) (a : State) (t : Nat) (link : Fin 4), s.Awake (t) a ∧ a.linkUp link = false ∧ a.sys.firmware = true) ∧
    (∃ (s : State) (a : State) (t : Nat) (link : Fin 4), s.Awake (t) a ∧ a.linkUp link = true) ∧
    (∃ (s : State) (a : State) (m : Machine.RidgeMsg), s.Awake (m.t) a ∧ a.linkUp m.link = true ∧ a.takes 0x01 m = true) ∧
    (∃ (s : State) (a : State) (t : Nat), s.Awake (t) a ∧ a.makesMap = true ∧ a.sys.firmware = true ∧ a.ridge.mapNext = none ∧ a.ridge.sentClk = none ∧ a.ridge.findClk = none) ∧
    (∃ (s : State) (a : State) (m : Machine.RidgeMsg) (nodes : List Machine.RingNode) (sender : Machine.RingNode) (rest : List Machine.RingNode), s.Awake (m.t) a ∧ nodes = sender :: rest ∧ sender.serial ≠ a.sys.serial ∧ a.takes 0x02 m = true) ∧
    (∃ (s : State) (a : State) (m : Machine.RidgeMsg) (nodes : List Machine.RingNode) (sender : Machine.RingNode) (rest : List Machine.RingNode) (c : Nat), s.Awake (m.t) a ∧ nodes = sender :: rest ∧ a.ridge.findClk = some c ∧ sender.serial = a.sys.serial ∧ ((∀ n ∈ nodes, n.role = 1 → n.pos = a.position)) ∧ a.makesMap = true ∧ a.ridge.failRaised ≠ 0x4811 ∧ a.takes 0x02 m = true) ∧
    (∃ (s : State) (a : State) (t : Nat) (c : Nat), s.Awake (t) a ∧ a.ridge.trainClk = some c ∧ a.cascadeRole ≠ 1 ∧ a.ridge.map = [] ∧ a.ridge.mapNext = none ∧ c + 250000000 ≤ a.time.clk ∧ a.ridge.failRaised ≠ 0x4810) ∧
    (∃ (s : State) (a : State) (m : Machine.RidgeMsg), s.Awake (m.t) a ∧ a.makesMap = false ∧ a.takes 0x03 m = true) ∧
    (∃ (s : State) (a : State) (m : Machine.RidgeMsg), s.Awake (m.t) a ∧ m.type = 0x03 ∧ m.reach = 0xFF ∧ m.dst.toNat ≠ a.get F.RIDGE_NODE_INDEX ∧ m.src.toNat ≠ a.get F.RIDGE_NODE_INDEX ∧ a.connUp (if m.cw then 0 else 2) = true) ∧
    (∃ (s : State) (a : State) (m : Machine.RidgeMsg), s.Awake (m.t) a ∧ (a.reachHere m).isSome = true ∧ m.dst = 0xFF ∧ m.intact = false) ∧
    (∃ (s : State) (a : State) (f : Nat) (g : Nat) (nodes : List Machine.RingNode) (me : Machine.RingNode), s.Awake (f * 1000) a ∧ a.ridge.mapNext = some (g, nodes) ∧ nodes.find? (fun n => n.serial == a.sys.serial) = some me ∧ g ≤ a.us ∧ nodes.length ≤ 33 ∧ ((∀ m ∈ nodes, m.index < 33)) ∧ a.mapNode = none) ∧
    (∃ (s : State) (a : State) (n : Nat), s.Awake (n * 100000) a ∧ a.get F.RIDGE_NODE_INDEX ≠ 0x3F) ∧
    (∃ (s : State) (a : State) (m : Machine.RidgeMsg) (h : HbSeen), s.Awake (m.t) a ∧ hbOf m.payload a.time.clk = h ∧ a.takes 0x05 m = true ∧ m.payload.length = 32 ∧ h.num = a.us / 100 % 2 ^ 32 ∧ a.ns ≤ (a.us / 100 * 100 + 20) * 1000 ∧ h.serial ≠ a.sys.serial ∧ (a.beat h.serial).any (fun x => x.num == h.num) = false) ∧
    (∃ (s : State) (a : State) (n : Nat) (l : Nat), s.Awake ((n * 100 + 20) * 1000) a ∧ a.pair.hbLast = some l ∧ a.paired = true ∧ l + a.get F.PAIR_CFG_HB_LOSS ≤ n ∧ l ≠ n ∧ a.has F.PAIR_PSTAT_PARTNER_LOST = false) ∧
    (∃ (s : State) (a : State) (t : Nat), s.Awake (t) a ∧ a.has F.PAIR_CFG_REF_HOST = false ∧ a.has F.PAIR_PSTAT_REF_LOST = false ∧ a.ridge.refClk + 250000 ≤ a.time.clk ∧ a.sys.firmware = true) :=
  ⟨⟨ready, _, 5000, 2, ⟨rfl, by decide +kernel, by decide +kernel⟩, by decide +kernel⟩,
    ⟨(ready.put (F.RIDGE_LINK_STAT_STATE 2) 2).put (F.RIDGE_LINK_STAT_STATE 3) 2, _, 5000, 2, ⟨rfl, by decide +kernel, by decide +kernel⟩, by decide +kernel⟩,
    ⟨ready.put (F.RIDGE_LINK_STAT_STATE 2) 2, _, { ridgeMsg 5000 0x01 [] with link := 2 }, ⟨rfl, by decide +kernel, by decide +kernel⟩, by decide +kernel⟩,
    ⟨summit, _, 5000, ⟨rfl, by decide +kernel, by decide +kernel⟩, by decide +kernel⟩,
    ⟨ready, _, ridgeMsg 5000 0x02 [], [{ serial := 5, pos := 3, role := 1 }], { serial := 5, pos := 3, role := 1 }, [], ⟨rfl, by decide +kernel, by decide +kernel⟩, by decide +kernel⟩,
    ⟨{ summit with ridge := { findClk := some 0 } }, _, ridgeMsg 5000 0x02 [], [{ serial := 0, pos := 0, role := 1 }, { serial := 5, pos := 3, role := 0 }], { serial := 0, pos := 0, role := 1 }, [{ serial := 5, pos := 3, role := 0 }], 0, ⟨rfl, by decide +kernel, by decide +kernel⟩, by decide +kernel⟩,
    ⟨{ ready with ridge := { trainClk := some 0 } }, _, 1100000000, 0, ⟨rfl, by decide +kernel, by decide +kernel⟩, by decide +kernel⟩,
    ⟨ready, _, ridgeMsg 5000 0x03 [], ⟨rfl, by decide +kernel, by decide +kernel⟩, by decide +kernel⟩,
    ⟨(ready.put (F.RIDGE_LINK_STAT_STATE 0) 2).put F.RIDGE_NODE_INDEX 3, _, ridgeMsg 5000 0x03 [], ⟨rfl, by decide +kernel, by decide +kernel⟩, by decide +kernel⟩,
    ⟨ready, _, { ridgeMsg 5000 0x01 [] with crc := 0 }, ⟨rfl, by decide +kernel, by decide +kernel⟩, by decide +kernel⟩,
    ⟨{ ready with ridge := { mapNext := some (500, [{ serial := 5, pos := 3, role := 1 }, { serial := 0, pos := 0, role := 0, index := 1 }]) } }, _, 500, 500, [{ serial := 5, pos := 3, role := 1 }, { serial := 0, pos := 0, role := 0, index := 1 }], { serial := 0, pos := 0, role := 0, index := 1 }, ⟨rfl, by decide +kernel, by decide +kernel⟩, by decide +kernel⟩,
    ⟨ready.put F.RIDGE_NODE_INDEX 1, _, 2, ⟨rfl, by decide +kernel, by decide +kernel⟩, by decide +kernel⟩,
    ⟨ready, _, ridgeMsg 105000 0x05 ([0x23, 0, 0, 0, 1, 0, 0, 0, 9] ++ List.replicate 23 0), _, ⟨rfl, by decide +kernel, by decide +kernel⟩, rfl, by decide +kernel⟩,
    ⟨{ (ready.put F.PAIR_PSTAT_ROLE 1) with pair := { hbLast := some 1 } }, _, 9, 1, ⟨rfl, by decide +kernel, by decide +kernel⟩, by decide +kernel⟩,
    ⟨ready, _, 1100000, ⟨rfl, by decide +kernel, by decide +kernel⟩, by decide +kernel⟩⟩

/-- States and operands that meet the hypotheses of `Obligations.PairsMirrorTheirWork`. -/
theorem witness_PairsMirrorTheirWork :
    (∃ (s : State) (a : State) (m : Machine.RidgeMsg) (k : Nat), s.Awake (m.t) a ∧ a.paired = true ∧ a.takes 0x10 m = true ∧ a.ns ≤ k * 1000 + 700) ∧
    (∃ (s : State) (a : State) (m : Machine.RidgeMsg) (k : Nat) (c : Nat) (b : List Byte), s.Awake (m.t) a ∧ servedFrames m.payload = [(c, b)] ∧ a.paired = true ∧ a.takes 0x11 m = true ∧ a.ns ≤ k * 1000 + 900 ∧ b.length = 42 ∧ crc32 (b.take 38) = leAt b 38 4 ∧ leAt b 2 4 = k % 2 ^ 32 ∧ a.inbound c k = none) ∧
    (∃ (s : State) (a : State) (m : Machine.RidgeMsg), s.Awake (m.t) a ∧ a.pairRole = 2 ∧ a.takes 0x15 m = true) ∧
    (∃ (s : State) (a : State) (number : Nat) (f : Nat), s.Awake (f * 1000 - 3000) a ∧ a.pairRole = 2 ∧ tabGet 0 a.pair.admits number = 0 ∧ f * 1000 ≤ a.ns + 3000) ∧
    (∃ (s : State) (a : State) (m : Machine.RidgeMsg) (number : Nat), s.Awake (m.t) a ∧ a.pairRole = 2 ∧ a.pair.applied.contains number = false ∧ a.takes 0x20 m = true) ∧
    (∃ (s : State) (a : State) (m : Machine.RidgeMsg) (number : Nat), s.Awake (m.t) a ∧ a.pairRole = 2 ∧ a.pair.applied.contains number = true ∧ a.takes 0x20 m = true) ∧
    (∃ (s : State) (a : State) (m : Machine.RidgeMsg) (number : Nat) (x : Mirrored) (p : InFlight) (res : List Word), s.Awake (m.t) a ∧ a.mirroredOf number = some x ∧ a.cmd.inflight = [p] ∧ (runOp p.opcode.toNat p ((a.blockAcked number).dropMirrored number)).2 = .done res ∧ a.takes 0x20 m = true ∧ p.order = x.order ∧ p.opcode ≠ 4 ∧ p.path ≠ .ridge ∧ p.orphan = false) ∧
    (∃ (s : State) (a : State) (t : Nat) (number : Nat) (m : Mirrored) (p : InFlight), s.Awake (t) a ∧ a.mirroredOf number = some m ∧ a.mirroredPkt m = some p ∧ m.sentClk + 12500 ≤ a.time.clk ∧ p.opcode ≠ 4) ∧
    (∃ (s : State) (a : State) (t : Nat) (number : Nat) (m : Mirrored) (p : InFlight), s.Awake (t) a ∧ a.mirroredOf number = some m ∧ a.cmd.inflight = [p] ∧ p.order = m.order ∧ p.path ≠ .ridge ∧ p.orphan = false ∧ m.acceptClk + 50000 ≤ a.time.clk ∧ a.paired = true) ∧
    (∃ (s : State) (a : State) (m : Nat), s.Awake ((10 * m + 9) * 1000) a ∧ a.paired = true) ∧
    (∃ (s : State) (a : State) (m : Machine.RidgeMsg) (n : Nat), s.Awake (m.t) a ∧ a.paired = true ∧ a.takes 0x13 m = true ∧ crcsOf m.payload = a.tenCrcs n) ∧
    (∃ (s : State) (a : State) (m : Machine.RidgeMsg) (n : Nat), s.Awake (m.t) a ∧ a.paired = true ∧ a.takes 0x13 m = true ∧ crcsOf m.payload ≠ a.tenCrcs n) :=
  ⟨⟨ready.put F.PAIR_PSTAT_ROLE 1, _, ridgeMsg 5000 0x10 (leBytes 8 3), 5, ⟨rfl, by decide +kernel, by decide +kernel⟩, by decide +kernel⟩,
    ⟨ready.put F.PAIR_PSTAT_ROLE 2, _, ridgeMsg 5000 0x11 (leBytes 8 8 ++ stationFrame 3 5), 5, 3, stationFrame 3 5, ⟨rfl, by decide +kernel, by decide +kernel⟩, by decide +kernel⟩,
    ⟨{ (ready.put F.PAIR_PSTAT_ROLE 2) with stream := { staging := [(3, [block3])] } }, _, ridgeMsg 5000 0x15 [], ⟨rfl, by decide +kernel, by decide +kernel⟩, by decide +kernel⟩,
    ⟨{ (ready.put F.PAIR_PSTAT_ROLE 2) with stream := { staging := [(3, [block3])] } }, _, 0, 90, ⟨rfl, by decide +kernel, by decide +kernel⟩, by decide +kernel⟩,
    ⟨ready.put F.PAIR_PSTAT_ROLE 2, _, ridgeMsg 5000 0x20 [], 4, ⟨rfl, by decide +kernel, by decide +kernel⟩, by decide +kernel⟩,
    ⟨{ (ready.put F.PAIR_PSTAT_ROLE 2) with pair := { applied := [4] } }, _, ridgeMsg 5000 0x20 [], 4, ⟨rfl, by decide +kernel, by decide +kernel⟩, by decide +kernel⟩,
    ⟨{ ((waiting 0x30 3 [1] (.mirror 4)).put F.PAIR_PSTAT_ROLE 1) with pair := { mirrored := [⟨4, 0, 0, 0, []⟩], nextMirror := 5 } }, _, ridgeMsg 5000 0x20 [], 4, ⟨4, 0, 0, 0, []⟩, waiter 0x30 3 [1] (.mirror 4), [0], ⟨rfl, by decide +kernel, by decide +kernel⟩, by decide +kernel⟩,
    ⟨{ ((waiting 0x30 3 [1] (.mirror 4)).put F.PAIR_PSTAT_ROLE 1) with pair := { mirrored := [⟨4, 0, 0, 0, []⟩], nextMirror := 5 } }, _, 60000, 4, ⟨4, 0, 0, 0, []⟩, waiter 0x30 3 [1] (.mirror 4), ⟨rfl, by decide +kernel, by decide +kernel⟩, by decide +kernel⟩,
    ⟨{ ((waiting 0x30 3 [1] (.mirror 4)).put F.PAIR_PSTAT_ROLE 1) with pair := { mirrored := [⟨4, 0, 0, 0, []⟩], nextMirror := 5 } }, _, 210000, 4, ⟨4, 0, 0, 0, []⟩, waiter 0x30 3 [1] (.mirror 4), ⟨rfl, by decide +kernel, by decide +kernel⟩, by decide +kernel⟩,
    ⟨ready.put F.PAIR_PSTAT_ROLE 1, _, 1, ⟨rfl, by decide +kernel, by decide +kernel⟩, by decide +kernel⟩,
    ⟨ready.put F.PAIR_PSTAT_ROLE 1, _, ridgeMsg 25000 0x13 (List.replicate 40 0), 1, ⟨rfl, by decide +kernel, by decide +kernel⟩, by decide +kernel⟩,
    ⟨ready.put F.PAIR_PSTAT_ROLE 1, _, ridgeMsg 25000 0x13 (List.replicate 40 5), 1, ⟨rfl, by decide +kernel, by decide +kernel⟩, by decide +kernel⟩⟩

/-- States and operands that meet the hypotheses of `Obligations.PairRolesChange`. -/
theorem witness_PairRolesChange :
    (∃ (s : State) (a : State) (n : Nat), s.Awake ((n * 100 + 20) * 1000) a ∧ a.cascadeRole = 2) ∧
    (∃ (s : State) (a : State) (n : Nat) (m : Machine.RingNode) (h : HbSeen), s.Awake ((n * 100 + 20) * 1000) a ∧ a.ridge.map = [m] ∧ a.beat m.serial = some h ∧ a.cascadeRole = 2 ∧ m.pos < 16 ∧ m.role ≠ 2 ∧ m.excluded = false ∧ h.num = n % 2 ^ 32 ∧ h.pairRole = 3 ∧ a.get F.PAIR_CFG_HB_LOSS ≤ (tabGet {} a.pair.runs m.pos).candidateOnly + 1 ∧ a.has F.PAIR_CFG_REF_HOST = false) ∧
    (∃ (s : State) (a : State) (m : Machine.RidgeMsg) (v : RoleVerdict), s.Awake (m.t) a ∧ verdictOf m.payload = v ∧ a.takes 0x06 m = true ∧ m.payload.length = 32 ∧ v.pos = a.position ∧ a.cascadeRole ≠ 2 ∧ a.get F.PAIR_VERDICT_NUM < v.number ∧ v.source = a.get F.PAIR_CFG_REF_HOST ∧ a.ns + 3000 ≤ v.at_ * 1000) ∧
    (∃ (s : State) (a : State) (m : Machine.RidgeMsg) (v : RoleVerdict), s.Awake (m.t) a ∧ verdictOf m.payload = v ∧ a.takes 0x06 m = true ∧ m.payload.length = 32 ∧ v.pos = a.position ∧ a.cascadeRole ≠ 2 ∧ ((v.number ≤ a.get F.PAIR_VERDICT_NUM ∨ v.source ≠ a.get F.PAIR_CFG_REF_HOST))) ∧
    (∃ (s : State) (a : State) (n : Nat) (v : RoleVerdict), s.Awake (n * 1000) a ∧ a.pair.verdict = some v ∧ v.at_ ≤ a.us ∧ a.cmd.inflight = []) ∧
    (∃ (s : State) (p : Pkt) (lo : Word) (hi : Word), p.body = [lo, hi] ∧ s.inReset = false ∧ s.sys.romUp = true ∧ s.sys.firmware = true ∧ s.pairRole = 1 ∧ p.path ≠ .ridge ∧ s.pathLost p.path = false ∧ s.cmd.inflight = [] ∧ s.tagBusy p.path p.tag = false ∧ s.err.coresDown = [] ∧ p.target = 0 ∧ s.pair.noAck = false ∧ s.maySwap = true ∧ s.ns + 50000 ≤ dword lo hi * 1000 ∧ dword lo hi * 1000 ≤ s.ns + 10000000000) ∧
    (∃ (s : State) (p : Pkt) (lo : Word) (hi : Word), p.body = [lo, hi] ∧ s.inReset = false ∧ s.sys.romUp = true ∧ s.sys.firmware = true ∧ s.pairRole = 1 ∧ p.path ≠ .ridge ∧ s.pathLost p.path = false ∧ s.cmd.inflight = [] ∧ s.tagBusy p.path p.tag = false ∧ s.err.coresDown = [] ∧ p.target = 0 ∧ s.pair.noAck = false ∧ s.hasShadow = true ∧ s.ns + 50000 ≤ dword lo hi * 1000 ∧ dword lo hi * 1000 ≤ s.ns + 10000000000) ∧
    (∃ (s : State) (p : Pkt) (lo : Word) (hi : Word), s.Serves p.path p.tag ∧ p.body = [lo, hi] ∧ p.target = 0 ∧ s.ns + 50000 ≤ dword lo hi * 1000 ∧ dword lo hi * 1000 ≤ s.ns + 10000000000) ∧
    (∃ (s : State) (a : State) (v : Nat) (p : InFlight) (r : Nat), s.Awake (v * 1000) a ∧ a.cmd.inflight = [p] ∧ (a.pair.next.find? (fun e => e.1 == v && [1, 2].contains e.2)).map (fun e => e.2) = some r ∧ p.wait = .pairAt v ∧ p.path ≠ .ridge ∧ p.orphan = false ∧ v ≤ a.us) ∧
    (∃ (s : State) (a : State) (v : Nat) (p : InFlight) (r : Nat), s.Awake (v * 1000) a ∧ a.cmd.inflight = [p] ∧ (a.pair.next.find? (fun e => e.1 == v && [0, 3].contains e.2)).map (fun e => e.2) = some r ∧ p.wait = .pairAt v ∧ p.path ≠ .ridge ∧ p.orphan = false ∧ v ≤ a.us) ∧
    (∃ (s : State) (a : State) (v : Nat) (p : InFlight), s.Awake (v * 1000) a ∧ a.cmd.inflight = [p] ∧ a.pair.next = [] ∧ p.wait = .pairAt v ∧ p.path ≠ .ridge ∧ p.orphan = false ∧ v ≤ a.us) ∧
    (∃ (s : State) (p : Pkt) (n : Word) (alo : Word) (ahi : Word) (lo : Word) (hi : Word), s.Serves p.path p.tag ∧ p.body = [n, alo, ahi, lo, hi] ∧ p.target.toNat < 16 ∧ s.cascadeRole = 1 ∧ s.has F.PAIR_CFG_REF_HOST = true ∧ s.ns + 50000 ≤ dword lo hi * 1000 ∧ dword lo hi * 1000 ≤ s.ns + 10000000000) :=
  ⟨⟨ready.put F.SYS_STRAPS_ROLE 2, _, 5, ⟨rfl, by decide +kernel, by decide +kernel⟩, by decide +kernel⟩,
    ⟨{ (ready.put F.SYS_STRAPS_ROLE 2) with ridge := { map := [{ serial := 9, pos := 3, role := 0 }], seen := [⟨9, 3, 0, false, 3, 1, false, false, false, false, false, true, 0, 5, 0, 0, 0⟩] }, pair := { runs := [(3, { candidateOnly := 9 })] } }, _, 5, { serial := 9, pos := 3, role := 0 }, ⟨9, 3, 0, false, 3, 1, false, false, false, false, false, true, 0, 5, 0, 0, 0⟩, ⟨rfl, by decide +kernel, by decide +kernel⟩, by decide +kernel⟩,
    ⟨ready.put F.PAIR_PSTAT_ROLE 2, _, ridgeMsg 5000 0x06 (RoleVerdict.bytes ⟨0, 0, 3, 0, 100, 2⟩), _, ⟨rfl, by decide +kernel, by decide +kernel⟩, rfl, by decide +kernel⟩,
    ⟨ready.put F.PAIR_VERDICT_NUM 3, _, ridgeMsg 5000 0x06 (RoleVerdict.bytes ⟨0, 0, 3, 0, 100, 2⟩), _, ⟨rfl, by decide +kernel, by decide +kernel⟩, rfl, by decide +kernel⟩,
    ⟨{ (ready.put F.PAIR_PSTAT_ROLE 2) with pair := { verdict := some ⟨0, 0, 3, 0, 100, 2⟩ } }, _, 100, ⟨0, 0, 3, 0, 100, 2⟩, ⟨rfl, by decide +kernel, by decide +kernel⟩, by decide +kernel⟩,
    ⟨{ (ready.put F.PAIR_PSTAT_ROLE 1) with ridge := { map := [{ serial := 0, pos := 0, role := 0 }, { serial := 9, pos := 0, role := 0 }], seen := [⟨9, 0, 0, true, 2, 1, false, false, false, false, false, true, 0, 5, 0, 0, 0⟩] } }, ⟨.pcie, 9, 0, [100, 0]⟩, 100, 0, by decide +kernel⟩,
    ⟨{ (ready.put F.PAIR_PSTAT_ROLE 1) with ridge := { map := [{ serial := 0, pos := 0, role := 0 }, { serial := 9, pos := 0, role := 0 }], seen := [⟨9, 0, 0, true, 2, 1, false, false, false, false, false, true, 0, 5, 0, 0, 0⟩] } }, ⟨.pcie, 9, 0, [100, 0]⟩, 100, 0, by decide +kernel⟩,
    ⟨ready, ⟨.pcie, 9, 0, [100, 0]⟩, 100, 0, by constructor <;> decide +kernel, by decide +kernel⟩,
    ⟨{ ((waiting 0x71 0 [100, 0] (.pairAt 100)).put F.PAIR_PSTAT_ROLE 1) with pair := { next := [(100, 2)] } }, _, 100, waiter 0x71 0 [100, 0] (.pairAt 100), 2, ⟨rfl, by decide +kernel, by decide +kernel⟩, by decide +kernel⟩,
    ⟨{ ((waiting 0x73 0 [100, 0] (.pairAt 100)).put F.PAIR_PSTAT_ROLE 1) with pair := { next := [(100, 0)] } }, _, 100, waiter 0x73 0 [100, 0] (.pairAt 100), 0, ⟨rfl, by decide +kernel, by decide +kernel⟩, by decide +kernel⟩,
    ⟨(waiting 0x71 0 [100, 0] (.pairAt 100)).put F.PAIR_PSTAT_ROLE 1, _, 100, waiter 0x71 0 [100, 0] (.pairAt 100), ⟨rfl, by decide +kernel, by decide +kernel⟩, by decide +kernel⟩,
    ⟨summit.put F.PAIR_CFG_REF_HOST 1, ⟨.pcie, 9, 3, [2, 7, 0, 100, 0]⟩, 2, 7, 0, 100, 0, by constructor <;> decide +kernel, by decide +kernel⟩⟩

/-- States and operands that meet the hypotheses of `Obligations.JoinsGoThroughTheirPhases`. -/
theorem witness_JoinsGoThroughTheirPhases :
    (∃ (s : State) (p : Pkt), s.Serves p.path p.tag ∧ p.target = 0 ∧ p.body = [] ∧ s.mayJoin = true) ∧
    (∃ (s : State) (p : Pkt), s.Serves p.path p.tag ∧ p.target = 0 ∧ p.body = [] ∧ s.mayJoin = false) ∧
    (∃ (s : State) (a : State) (t : Nat), s.Awake (t) a ∧ a.has F.PAIR_CFG_AUTO_JOIN = true ∧ a.pair.retryClk = none ∧ a.mayJoin = true) ∧
    (∃ (s : State) (a : State) (t : Nat) (c : Nat), s.Awake (t) a ∧ a.pair.retryClk = some c ∧ c ≤ a.time.clk ∧ a.has F.PAIR_CFG_AUTO_JOIN = true ∧ a.mayJoin = true) ∧
    (∃ (s : State) (a : State) (m : Machine.RidgeMsg), s.Awake (m.t) a ∧ a.pairRole = 3 ∧ a.takes 0x30 m = true) ∧
    (∃ (s : State) (a : State) (m : Machine.RidgeMsg), s.Awake (m.t) a ∧ a.pairRole = 3 ∧ a.takes 0x30 m = true) ∧
    (∃ (s : State) (a : State) (m : Machine.RidgeMsg) (x : Capture), s.Awake (m.t) a ∧ a.pairRole = 3 ∧ x.words = [] ∧ a.takes 0x30 m = true) ∧
    (∃ (s : State) (a : State) (m : Machine.RidgeMsg), s.Awake (m.t) a ∧ a.pairRole = 0 ∧ a.get F.PAIR_PSTAT_JOIN_PHASE = 3 ∧ a.takes 0x30 m = true) ∧
    (∃ (s : State) (a : State) (t : Nat), s.Awake (t) a ∧ a.pairRole = 0 ∧ a.get F.PAIR_PSTAT_JOIN_PHASE = 1) ∧
    (∃ (s : State) (a : State) (c : Nat), s.Awake (c * 1000) a ∧ a.pairRole = 0 ∧ a.get F.PAIR_PSTAT_JOIN_PHASE = 2 ∧ a.pair.joinCut = some c) ∧
    (∃ (s : State) (a : State) (t : Nat), s.Awake (t) a ∧ a.pairRole = 3 ∧ a.get F.PAIR_PSTAT_JOIN_PHASE = 3 ∧ a.pair.loaded = true) ∧
    (∃ (s : State) (a : State) (l : Nat), s.Awake (l * 1000) a ∧ a.pair.joinAt = some l ∧ l ≤ a.us ∧ a.pairRole = 3) ∧
    (∃ (s : State) (a : State) (l : Nat), s.Awake (l * 1000) a ∧ a.pair.joinAt = some l ∧ l ≤ a.us ∧ a.pairRole = 0) ∧
    (∃ (s : State) (a : State) (t : Nat), s.Awake (t) a ∧ a.joinFails = true) :=
  ⟨⟨{ ready with ridge := { map := [{ serial := 0, pos := 0, role := 0 }, { serial := 9, pos := 0, role := 0, part := (ready.reg 1).toNat, fwRev := (ready.reg 3).toNat }], seen := [⟨9, 0, 0, true, 3, 1, false, false, false, false, false, true, 0, 5, 0, 0, 0⟩] } }, ⟨.pcie, 9, 0, []⟩, by constructor <;> decide +kernel, by decide +kernel⟩,
    ⟨ready, ⟨.pcie, 9, 0, []⟩, by constructor <;> decide +kernel, by decide +kernel⟩,
    ⟨{ (ready.put F.PAIR_CFG_AUTO_JOIN 1) with ridge := { map := [{ serial := 0, pos := 0, role := 0 }, { serial := 9, pos := 0, role := 0, part := (ready.reg 1).toNat, fwRev := (ready.reg 3).toNat }], seen := [⟨9, 0, 0, true, 3, 1, false, false, false, false, false, true, 0, 5, 0, 0, 0⟩] } }, _, 5000, ⟨rfl, by decide +kernel, by decide +kernel⟩, by decide +kernel⟩,
    ⟨{ (ready.put F.PAIR_CFG_AUTO_JOIN 1) with pair := { retryClk := some 10 }, ridge := { map := [{ serial := 0, pos := 0, role := 0 }, { serial := 9, pos := 0, role := 0, part := (ready.reg 1).toNat, fwRev := (ready.reg 3).toNat }], seen := [⟨9, 0, 0, true, 3, 1, false, false, false, false, false, true, 0, 5, 0, 0, 0⟩] } }, _, 5000, 10, ⟨rfl, by decide +kernel, by decide +kernel⟩, by decide +kernel⟩,
    ⟨ready.put F.PAIR_PSTAT_ROLE 3, _, ridgeMsg 5000 0x30 [], ⟨rfl, by decide +kernel, by decide +kernel⟩, by decide +kernel⟩,
    ⟨ready.put F.PAIR_PSTAT_ROLE 3, _, ridgeMsg 5000 0x30 [], ⟨rfl, by decide +kernel, by decide +kernel⟩, by decide +kernel⟩,
    ⟨ready.put F.PAIR_PSTAT_ROLE 3, _, ridgeMsg 5000 0x30 [], { c := 10, words := [], epoch := 77, scheduled := [], stream := {}, seq := [], loop := {}, power := [], ledger := {}, col := {}, axis := {} }, ⟨rfl, by decide +kernel, by decide +kernel⟩, by decide +kernel⟩,
    ⟨ready.put F.PAIR_PSTAT_JOIN_PHASE 3, _, ridgeMsg 5000 0x30 [], ⟨rfl, by decide +kernel, by decide +kernel⟩, by decide +kernel⟩,
    ⟨ready.put F.PAIR_PSTAT_JOIN_PHASE 1, _, 5000, ⟨rfl, by decide +kernel, by decide +kernel⟩, by decide +kernel⟩,
    ⟨{ (ready.put F.PAIR_PSTAT_JOIN_PHASE 2) with pair := { joinCut := some 1000 } }, _, 1000, ⟨rfl, by decide +kernel, by decide +kernel⟩, by decide +kernel⟩,
    ⟨{ ((ready.put F.PAIR_PSTAT_JOIN_PHASE 3).put F.PAIR_PSTAT_ROLE 3) with pair := { loaded := true } }, _, 5000, ⟨rfl, by decide +kernel, by decide +kernel⟩, by decide +kernel⟩,
    ⟨{ ((ready.put F.PAIR_PSTAT_JOIN_PHASE 4).put F.PAIR_PSTAT_ROLE 3) with pair := { joinAt := some 90 } }, _, 90, ⟨rfl, by decide +kernel, by decide +kernel⟩, by decide +kernel⟩,
    ⟨{ (ready.put F.PAIR_PSTAT_JOIN_PHASE 4) with pair := { joinAt := some 90 } }, _, 90, ⟨rfl, by decide +kernel, by decide +kernel⟩, by decide +kernel⟩,
    ⟨ready.put F.PAIR_PSTAT_JOIN_PHASE 2, _, 5000, ⟨rfl, by decide +kernel, by decide +kernel⟩, by decide +kernel⟩⟩

/-- States and operands that meet the hypotheses of `Obligations.TemperatureIsWatched`. -/
theorem witness_TemperatureIsWatched :
    (∃ (s : State) (a : State) (c : Nat), s.Awake ((c + 2) * 1000) a) ∧
    (∃ (s : State) (n : Fin 16), s.inReset = false ∧ s.therm.due.contains (n : Nat) = true ∧ s.sensorBad n = false) ∧
    (∃ (s : State) (a : State) (b : Nat) (c : Nat), s.Awake (((s.therm.bandDue.map (fun e => e.2)).getD 0 + 2) * 1000) a ∧ a.therm.bandDue = some (b, c) ∧ s.therm.bandDue = a.therm.bandDue ∧ b ≤ 4 ∧ a.pairRole ≤ 1) ∧
    (∃ (s : State) (a : State) (f : Nat) (g : Nat) (b : Nat), s.Awake (f * 1000) a ∧ a.therm.power = [(g, b)] ∧ g ≤ a.us ∧ b ≤ 4) ∧
    (∃ (s : State), s.inReset = false ∧ s.therm.shutDue = true ∧ devTransition (s.devAt s.nextFix) 7 = some 4) ∧
    (∃ (s : State), s.inReset = false ∧ s.therm.critDue = true ∧ s.dev ≠ 5) ∧
    (∃ (s : State) (a : State) (t : Nat) (c : Nat), s.Awake (t) a ∧ a.therm.shutClk = some c ∧ c + a.get F.THERM_HYST_SHUT_LIMIT * 250000 ≤ a.time.clk ∧ a.dev ≠ 5) ∧
    (∃ (s : State), s.inReset = false ∧ s.has F.THERM_TSTAT_SHUT_REQ = true ∧ 100000 ≤ s.therm.coolRun) ∧
    (∃ (s : State) (p : Pkt) (n : Nat), s.Serves p.path p.tag ∧ p.target.toNat = n ∧ n < 16 ∧ p.body = []) :=
  ⟨⟨ready, _, 1000, ⟨rfl, by decide +kernel, by decide +kernel⟩⟩,
    ⟨{ ready with therm := { due := [3] } }, 3, by decide +kernel⟩,
    ⟨{ ready with therm := { bandDue := some (3, 1000) } }, _, 3, 1000, ⟨rfl, by decide +kernel, by decide +kernel⟩, by decide +kernel⟩,
    ⟨{ ready with therm := { power := [(1200, 2)] } }, _, 1200, 1200, 2, ⟨rfl, by decide +kernel, by decide +kernel⟩, by decide +kernel⟩,
    ⟨{ building with therm := { shutDue := true } }, by decide +kernel⟩,
    ⟨{ building with therm := { critDue := true } }, by decide +kernel⟩,
    ⟨{ building with therm := { shutClk := some 0 } }, _, 70000000000, 0, ⟨rfl, by decide +kernel, by decide +kernel⟩, by decide +kernel⟩,
    ⟨{ (ready.put F.THERM_TSTAT_SHUT_REQ 1) with therm := { coolRun := 100000 } }, by decide +kernel⟩,
    ⟨ready.put F.THERM_FLAGS_FAILED 9, ⟨.pcie, 9, 3, []⟩, 3, by constructor <;> decide +kernel, by decide +kernel⟩⟩

/-- States and operands that meet the hypotheses of `Obligations.CalibrationRuns`. -/
theorem witness_CalibrationRuns :
    (∃ (s : State) (p : Pkt) (n : Nat), s.Serves p.path p.tag ∧ p.target.toNat = n ∧ n < 84 ∧ p.body = [] ∧ s.calUp n = true) ∧
    (∃ (s : State) (a : State) (t : Nat) (n : Nat), s.Awake (t) a ∧ (List.range 84).find? (fun x => (a.calT x).queued) = some n ∧ a.calOn = true ∧ ((List.range 84).filter (fun x => (a.calT x).started.isSome)).length < 8 ∧ a.calUp n = true ∧ a.cmd.inflight = []) ∧
    (∃ (s : State) (a : State) (t : Nat) (target : Fin 84) (eye : EyeScan) (c : Nat) (w : Nat) (p : InFlight), s.Awake (t) a ∧ (a.calT target).started = some c ∧ (eye.phase.map (fun e => e.2 + 1 - e.1)).getD 0 = w ∧ a.cmd.inflight = [p] ∧ p.wait = .calRun target ∧ p.path ≠ .ridge ∧ p.orphan = false) :=
  ⟨⟨chanReady 0 3, ⟨.pcie, 9, 3, []⟩, 3, by constructor <;> decide +kernel, by decide +kernel⟩,
    ⟨(chanReady 0 3).setCal 3 { queued := true }, _, 5000, 3, ⟨rfl, by decide +kernel, by decide +kernel⟩, by decide +kernel⟩,
    ⟨(waiting 0x80 3 [] (.calRun 3)).setCal 3 { started := some 0 }, _, 5000, 3, ⟨some (10, 50), some (5, 25)⟩, 0, 41, waiter 0x80 3 [] (.calRun 3), ⟨rfl, by decide +kernel, by decide +kernel⟩, by decide +kernel⟩⟩

/-- States and operands that meet the hypotheses of `Obligations.LampsAreDriven`. -/
theorem witness_LampsAreDriven :
    (∃ (s : State) (a : State) (t : Nat) (n : Fin 8), s.Awake (t) a ∧ a.loadDue n = true ∧ a.light.loadEnd ≤ a.ns ∧ (a.lamp n).on = false ∧ a.lightRuns = true ∧ a.rowsLoaded = false ∧ (List.range n).all (fun m => (a.lamp m).latch.isSome) = true) ∧
    (∃ (s : State) (a : State) (t : Nat) (n : Fin 8), s.Awake (t) a ∧ a.get (F.LIGHT_STR_CTRL_MODE n) = 1 ∧ a.lightRuns = true ∧ a.toPeriod n = 0 ∧ a.lampMay n = true ∧ (a.lamp n).on = false ∧ 1000 ≤ a.pwmOn n ∧ a.has (F.LIGHT_S_STAT_LOAD_PEND n) = false) ∧
    (∃ (s : State) (a : State) (t : Nat) (n : Fin 8), s.Awake (t) a ∧ (a.lamp n).on = true ∧ (a.lamp n).fall ≤ a.ns) ∧
    (∃ (s : State) (a : State) (t : Nat) (n : Fin 8), s.Awake (t) a ∧ (a.lamp n).active = true ∧ a.lightRuns = true ∧ a.strobeAhead n (a.lamp n).pulse a.ns ≤ 0 ∧ -4 ≤ a.strobeAhead n (a.lamp n).pulse a.ns ∧ a.lampMay n = true ∧ (a.lamp n).ask = none) ∧
    (∃ (s : State) (a : State) (t : Nat) (n : Fin 8), s.Awake (t) a ∧ (a.lamp n).on = true ∧ (a.lamp n).fall ≤ a.ns) ∧
    (∃ (s : State) (a : State) (t : Nat) (n : Fin 8) (next : Int), s.Awake (t) a ∧ a.strobeAhead n (a.lamp n).pulse a.ns = next ∧ a.get (F.LIGHT_STR_CTRL_MODE n) = 3 ∧ a.strobeWidth n < 4000 ∧ a.lightRuns = true ∧ a.lampMay n = true ∧ (a.lamp n).on = false ∧ (a.lamp n).active = true ∧ (a.lamp n).pulse ≠ 0 ∧ next ≤ (a.get (F.LIGHT_STR_PERIOD_NS n) : Int) / 2 ∧ (a.get (F.LIGHT_STR_PERIOD_NS n) : Int) / 2 ≤ next + 4 ∧ 4000 ≤ next ∧ a.has (F.LIGHT_STR_CTRL_STRETCH_EN n) = true ∧ 1024 ≤ (a.lamp n).periods ∧ a.placeable = true) ∧
    (∃ (s : State) (a : State) (t : Nat) (n : Fin 8) (codes : List (Fin 4096)) (j : Nat) (k : Nat), s.Awake (t) a ∧ judgeLamp (roundHalfEven ((codes.map (fun v => v.val)).sum : Nat) 8).toNat (a.get (F.LIGHT_STR_SENSE_V0 n) + a.lit n * a.get (F.LIGHT_STR_SENSE_VF n)) (a.get (F.LIGHT_STR_SENSE_VF n)) = (j, k) ∧ codes.length = 8 ∧ a.get (F.LIGHT_STR_SENSE_VF n) ≠ 0 ∧ (a.lamp n).on = true ∧ (a.lamp n).rise + 4000 ≤ (a.lamp n).fall ∧ (a.lamp n).rise + 4000 ≤ a.ns ∧ (a.lamp n).measured = false ∧ (a.lamp n).asked = false ∧ a.cmd.inflight = []) ∧
    (∃ (s : State) (n : Fin 8), s.inReset = false ∧ s.lampAgreed n 1 = true ∧ s.has (F.LIGHT_S_STAT_OPEN n) = false ∧ s.pairRole ≠ 2) ∧
    (∃ (s : State) (a : State) (t : Nat) (n : Fin 8), s.Awake (t) a ∧ a.has (F.LIGHT_STR_CTRL_LAMP_ACT n) = true ∧ a.has (F.LIGHT_S_STAT_OPEN n) = true ∧ a.has (F.LIGHT_S_STAT_OFF_FAULT n) = false) ∧
    (∃ (s : State) (n : Fin 8), s.inReset = false ∧ s.lampAgreed n 0 = true) ∧
    (∃ (s : State) (n : Fin 8), s.inReset = false ∧ 1024 ≤ (s.lamp n).refused ∧ s.has (F.LIGHT_S_STAT_STARVED n) = false ∧ s.pairRole ≠ 2) ∧
    (∃ (s : State) (p : Pkt) (n : Nat), s.Serves p.path p.tag ∧ p.target.toNat = n ∧ n < 8 ∧ p.body = []) ∧
    (∃ (s : State) (p : Pkt) (n : Nat), s.Serves p.path p.tag ∧ p.target.toNat = n ∧ n < 8 ∧ p.body = [] ∧ s.get (F.LIGHT_STR_CTRL_MODE n) ≠ 0 ∧ s.lit n ≠ 0 ∧ s.get (F.LIGHT_STR_SENSE_VF n) ≠ 0 ∧ s.has (F.LIGHT_S_STAT_OFF_FAULT n) = false) ∧
    (∃ (s : State) (p : Pkt) (n : Nat), s.Serves p.path p.tag ∧ p.target.toNat = n ∧ n < 8 ∧ p.body = [] ∧ s.lit n = 0) :=
  ⟨⟨ready, _, 5000, 0, ⟨rfl, by decide +kernel, by decide +kernel⟩, by decide +kernel⟩,
    ⟨{ ((((ready.put (F.LIGHT_STR_CTRL_MODE 2) 1).put F.LIGHT_CFG_PWM_PERIOD 4000).put F.LIGHT_DSTAT_FACTOR 65536).put (F.LIGHT_STR_DUTY 2) 32768) with light := { strings := (List.range 8).map (fun m => (m, ({ latch := some (0, 4) } : LightStr))) } }, _, 20000, 2, ⟨rfl, by decide +kernel, by decide +kernel⟩, by decide +kernel⟩,
    ⟨ready.setLamp 2 { on := true, fall := 5000 }, _, 5000, 2, ⟨rfl, by decide +kernel, by decide +kernel⟩, by decide +kernel⟩,
    ⟨{ (((ready.put (F.LIGHT_STR_CTRL_MODE 2) 2).put (F.LIGHT_STR_START_LO 2) 20000).put (F.LIGHT_STR_WIDTH 2) 100) with light := { strings := (List.range 8).map (fun m => (m, ({ latch := some (0, 4), active := m == 2 } : LightStr))) } }, _, 20000, 2, ⟨rfl, by decide +kernel, by decide +kernel⟩, by decide +kernel⟩,
    ⟨ready.setLamp 2 { on := true, fall := 5000 }, _, 5000, 2, ⟨rfl, by decide +kernel, by decide +kernel⟩, by decide +kernel⟩,
    ⟨{ ((((ready.put (F.LIGHT_STR_CTRL_MODE 2) 3).put (F.LIGHT_STR_WIDTH 2) 100).put (F.LIGHT_STR_PERIOD_NS 2) 40000).put (F.LIGHT_STR_CTRL_STRETCH_EN 2) 1) with light := { strings := (List.range 8).map (fun m => (m, ({ latch := some (0, 4), active := m == 2, pulse := 1, periods := 1024 } : LightStr))) } }, _, 20000, 2, 20000, ⟨rfl, by decide +kernel, by decide +kernel⟩, by decide +kernel⟩,
    ⟨(ready.put (F.LIGHT_STR_SENSE_VF 2) 300).setLamp 2 { on := true, rise := 1000, fall := 9000 }, _, 5000, 2, List.replicate 8 900, 1, 0, ⟨rfl, by decide +kernel, by decide +kernel⟩, by decide +kernel⟩,
    ⟨ready.setLamp 2 { judged := 1, run := 20 }, 2, by decide +kernel⟩,
    ⟨((ready.put (F.LIGHT_STR_CTRL_LAMP_ACT 2) 1).put (F.LIGHT_S_STAT_OPEN 2) 1).setLamp 2 { on := true }, _, 5000, 2, ⟨rfl, by decide +kernel, by decide +kernel⟩, by decide +kernel⟩,
    ⟨(ready.put (F.LIGHT_S_STAT_OPEN 2) 1).setLamp 2 { judged := 0, run := 20 }, 2, by decide +kernel⟩,
    ⟨ready.setLamp 2 { refused := 1024 }, 2, by decide +kernel⟩,
    ⟨(ready.put (F.LIGHT_S_STAT_OPEN 2) 1).put (F.LIGHT_S_STAT_OFF_FAULT 2) 1, ⟨.pcie, 9, 2, []⟩, 2, by constructor <;> decide +kernel, by decide +kernel⟩,
    ⟨((ready.put (F.LIGHT_STR_CTRL_MODE 2) 1).put (F.LIGHT_STR_SENSE_VF 2) 300).setLamp 2 { latch := some (0, 4) }, ⟨.pcie, 9, 2, []⟩, 2, by constructor <;> decide +kernel, by decide +kernel⟩,
    ⟨ready, ⟨.pcie, 9, 2, []⟩, 2, by constructor <;> decide +kernel, by decide +kernel⟩⟩

/-- States and operands that meet the hypotheses of `Obligations.KeysAndPolicyAreHeld`. -/
theorem witness_KeysAndPolicyAreHeld :
    (∃ (s : State) (p : Pkt), s.Serves p.path p.tag ∧ p.path = .pcie ∧ p.target = 0 ∧ p.body.length = 8 ∧ s.get F.HUSK_STAT_STATE ≠ 1 ∧ s.get F.HUSK_STAT_STATE ≠ 2) ∧
    (∃ (s : State) (p : Pkt), s.Serves p.path p.tag ∧ p.path ≠ .pcie) ∧
    (∃ (s : State) (p : Pkt) (v : Word), s.Serves p.path p.tag ∧ p.body = [v] ∧ p.target = 0 ∧ s.get F.HUSK_STAT_STATE = 1 ∧ (List.range 6).all (fun k => bitsOf v.toNat (2 * k) 2 != 3) = true ∧ bitsOf v.toNat 12 4 = 0 ∧ v.toNat < 2 ^ 24) ∧
    (∃ (s : State) (p : Pkt) (n : Nat), s.Serves p.path p.tag ∧ p.target.toNat = n ∧ 1 ≤ n ∧ n ≤ 64 ∧ p.body.length = 10 ∧ s.get F.HUSK_STAT_STATE = 2 ∧ s.has (F.HUSK_SLOT_IN_USE n) = false) ∧
    (∃ (s : State) (p : Pkt) (n : Nat), s.Serves p.path p.tag ∧ p.target.toNat = n ∧ 1 ≤ n ∧ n ≤ 64 ∧ p.body = [] ∧ s.get F.HUSK_STAT_STATE = 2 ∧ s.has (F.HUSK_SLOT_IN_USE n) = false) ∧
    (∃ (s : State) (p : Pkt), s.Serves p.path p.tag ∧ p.target = 0 ∧ p.body = [] ∧ s.stopAsserted = false ∧ s.has F.HUSK_STAT_ZEROIZING = false ∧ s.has F.HUSK_STAT_ZEROIZE_PENDING = false) ∧
    (∃ (s : State) (p : Pkt), s.Serves p.path p.tag ∧ p.target = 0 ∧ p.body = [0x4F52455A] ∧ ((s.dev = 1 ∨ s.dev = 5))) ∧
    (∃ (s : State) (a : State) (t : Nat) (p : InFlight), s.Awake (t) a ∧ a.cmd.inflight = [p] ∧ a.has F.HUSK_STAT_ZEROIZING = true ∧ p.wait = .zeroize ∧ p.path ≠ .ridge ∧ p.orphan = false) :=
  ⟨⟨ready, ⟨.pcie, 9, 0, [1, 2, 3, 4, 5, 6, 7, 8]⟩, by constructor <;> decide +kernel, by decide +kernel⟩,
    ⟨ready, ⟨.eth0, 9, 0, [1, 2, 3, 4, 5, 6, 7, 8]⟩, by constructor <;> decide +kernel, by decide +kernel⟩,
    ⟨ready.put F.HUSK_STAT_STATE 1, ⟨.pcie, 9, 0, [0x050001]⟩, 0x050001, by constructor <;> decide +kernel, by decide +kernel⟩,
    ⟨{ (ready.put F.HUSK_STAT_STATE 2) with husk := { dk := some ((List.range 32).map (fun j => BitVec.ofNat 8 j)) } }, ⟨.pcie, 9, 3, [0x04F4C928, 0xF410B8C4, 0x5CB3CCCB, 0x26F887FB, 0xE286573F, 0x26D30ED8, 0xE7F0C7CB, 0x3BF4991A, 0x9B8B98FB, 0x21DD027A]⟩, 3, by constructor <;> decide +kernel, by decide +kernel⟩,
    ⟨{ (ready.put F.HUSK_STAT_STATE 2) with husk := { keys := [(3, [1, 2])] } }, ⟨.pcie, 9, 3, []⟩, 3, by constructor <;> decide +kernel, by decide +kernel⟩,
    ⟨{ (ready.put F.HUSK_STAT_STOP 1) with husk := { inForce := 1 } }, ⟨.pcie, 9, 0, []⟩, by constructor <;> decide +kernel, by decide +kernel⟩,
    ⟨{ (ready.put F.HUSK_STAT_STATE 2) with husk := { dk := some [1, 2], keys := [(3, [1, 2])] } }, ⟨.eth0, 9, 0, [0x4F52455A]⟩, by constructor <;> decide +kernel, by decide +kernel⟩,
    ⟨(((waiting 0x95 0 [0x4F52455A] .zeroize).put F.HUSK_STAT_ZEROIZING 1).put F.HUSK_POLICY 5).put F.HUSK_STAT_STATE 3, _, 5000, waiter 0x95 0 [0x4F52455A] .zeroize, ⟨rfl, by decide +kernel, by decide +kernel⟩, by decide +kernel⟩⟩

/-- States and operands that meet the hypotheses of `Obligations.AlarmsAct`. -/
theorem witness_AlarmsAct :
    (∃ (s : State) (a : State) (t : Nat), s.Awake (t) a ∧ bitsOf (a.get F.HUSK_STAT_ASSERTED) 0 1 = 0 ∧ a.get F.HUSK_STAT_STATE = 2 ∧ bitsOf (a.get F.HUSK_POLICY) 0 2 = 1 ∧ a.husk.inForce = 0) ∧
    (∃ (s : State) (a : State) (t : Nat), s.Awake (t) a) ∧
    (∃ (s : State) (a : State) (t : Nat), s.Awake (t) a ∧ s.sys.pwrfail = false ∧ bitsOf (a.get F.HUSK_STAT_ASSERTED) 1 1 = 0 ∧ a.get F.HUSK_STAT_STATE = 0) ∧
    (∃ (s : State) (a : State) (t : Nat), s.Awake (t) a ∧ bitsOf (a.get F.HUSK_STAT_ASSERTED) 2 1 = 0 ∧ a.get F.HUSK_STAT_STATE = 1) ∧
    (∃ (s : State) (a : State) (t : Nat), s.Awake (t) a ∧ bitsOf (a.get F.HUSK_STAT_ASSERTED) 3 1 = 0 ∧ a.get F.HUSK_STAT_STATE = 2 ∧ bitsOf (a.get F.HUSK_POLICY) 6 2 = 2 ∧ a.husk.inForce < 2) ∧
    (∃ (s : State) (a : State) (t : Nat), s.Awake (t) a ∧ bitsOf (a.get F.HUSK_STAT_ASSERTED) 4 1 = 0) ∧
    (∃ (s : State) (a : State) (t : Nat), s.Awake (t) a ∧ bitsOf (a.get F.HUSK_POLICY) 16 8 ≠ 0 ∧ bitsOf (a.get F.HUSK_POLICY) 16 8 ≤ a.get F.HUSK_AUTH_FAILS_RUN ∧ bitsOf (a.get F.HUSK_STAT_ASSERTED) 5 1 = 0) ∧
    (∃ (s : State) (a : State) (t : Nat), s.Awake (t) a) ∧
    (∃ (s : State) (a : State) (t : Nat), s.Awake (t) a ∧ a.cmd.inflight = [] ∧ a.has F.HUSK_STAT_ZEROIZING = true) ∧
    (∃ (s : State) (a : State) (t : Nat) (millivolts : Nat), s.Awake (t) a ∧ millivolts < 2400 ∧ a.has F.HUSK_STAT_VBAT_LOW = false) :=
  ⟨⟨(ready.put F.HUSK_STAT_STATE 2).put F.HUSK_POLICY 1, _, 5000, ⟨rfl, by decide +kernel, by decide +kernel⟩, by decide +kernel⟩,
    ⟨ready.put F.HUSK_STAT_ASSERTED 1, _, 5000, ⟨rfl, by decide +kernel, by decide +kernel⟩⟩,
    ⟨ready, _, 5000, ⟨rfl, by decide +kernel, by decide +kernel⟩, by decide +kernel⟩,
    ⟨{ (ready.put F.HUSK_STAT_STATE 1) with husk := { dk := some [1] } }, _, 5000, ⟨rfl, by decide +kernel, by decide +kernel⟩, by decide +kernel⟩,
    ⟨{ ((ready.put F.HUSK_STAT_STATE 2).put F.HUSK_POLICY 0x80) with husk := { dk := some [1], keys := [(3, [1, 2])] } }, _, 5000, ⟨rfl, by decide +kernel, by decide +kernel⟩, by decide +kernel⟩,
    ⟨ready, _, 5000, ⟨rfl, by decide +kernel, by decide +kernel⟩, by decide +kernel⟩,
    ⟨((ready.put F.HUSK_STAT_STATE 2).put F.HUSK_POLICY 0x30000).put F.HUSK_AUTH_FAILS_RUN 3, _, 5000, ⟨rfl, by decide +kernel, by decide +kernel⟩, by decide +kernel⟩,
    ⟨ready.put F.HUSK_STAT_ASSERTED 4, _, 5000, ⟨rfl, by decide +kernel, by decide +kernel⟩⟩,
    ⟨(ready.put F.HUSK_STAT_ZEROIZING 1).put F.HUSK_STAT_ZEROIZE_PENDING 1, _, 5000, ⟨rfl, by decide +kernel, by decide +kernel⟩, by decide +kernel⟩,
    ⟨ready, _, 5000, 2100, ⟨rfl, by decide +kernel, by decide +kernel⟩, by decide +kernel⟩⟩

/-- States and operands that meet the hypotheses of `Obligations.RecordsAreReleased`. -/
theorem witness_RecordsAreReleased :
    (∃ (s : State) (r : ErrRec), nextRecord s.err.held = some r ∧ s.inReset = false ∧ 2 ≤ r.cls ∧ (s.err.queue.filter (fun x => !x.isDrop)).length < 64) ∧
    (∃ (s : State) (a : State) (t : Nat) (e : Nat), s.Awake (t) a ∧ a.err.rateEpisode = some e ∧ e + 10000000 ≤ a.ns) ∧
    (∃ (s : State) (a : State) (t : Nat), s.Awake (t) a) ∧
    (∃ (s : State) (p : Pkt) (w : Word), s.Serves p.path p.tag ∧ p.body = [w] ∧ p.target = 0 ∧ 1 ≤ w.toNat ∧ w.toNat ≤ 64) ∧
    (∃ (s : State) (p : Pkt) (from_ : Word) (n : Word), s.Serves p.path p.tag ∧ p.body = [from_, n] ∧ p.target = 0 ∧ 1 ≤ n.toNat ∧ n.toNat ≤ 64) ∧
    (∃ (s : State) (p : Pkt) (v : Nat), s.Serves p.path p.tag ∧ p.target.toNat / 65536 = v ∧ v < 256 ∧ p.target.toNat = v * 65536 ∧ p.body = [] ∧ s.headOpen ⟨1, v⟩ = true) ∧
    (∃ (s : State) (p : Pkt) (v : Nat), s.Serves p.path p.tag ∧ p.target.toNat / 65536 = v ∧ v < 256 ∧ p.target.toNat = v * 65536 ∧ p.body = [] ∧ s.headOpen ⟨1, v⟩ = false) :=
  ⟨⟨ready.unitErr 0x68 0x6840 [1], { cls := 3, subject := ⟨1, 0x68⟩, detail := 0x6840, time := 0, clk := 0, epoch := 0, unstepped := true, origin := 0, args := [1] }, by decide +kernel⟩,
    ⟨{ ready with err := { rateEpisode := some 0 } }, _, 10000000, 0, ⟨rfl, by decide +kernel, by decide +kernel⟩, by decide +kernel⟩,
    ⟨ready, _, 5000, ⟨rfl, by decide +kernel, by decide +kernel⟩⟩,
    ⟨{ ready with err := { queue := [{ cls := 3, subject := ⟨1, 0x68⟩, detail := 0x6840, time := 0, clk := 0, epoch := 0, unstepped := true, origin := 0, args := [1] }] } }, ⟨.pcie, 9, 0, [4]⟩, 4, by constructor <;> decide +kernel, by decide +kernel⟩,
    ⟨{ ready with err := { log := [{ cls := 3, subject := ⟨1, 0x68⟩, detail := 0x6840, time := 0, clk := 0, epoch := 0, unstepped := true, origin := 0, args := [1] }] } }, ⟨.pcie, 9, 0, [0, 4]⟩, 0, 4, by constructor <;> decide +kernel, by decide +kernel⟩,
    ⟨ready.unitErr 0x68 0x6840 [1], ⟨.pcie, 9, 0x680000, []⟩, 0x68, by constructor <;> decide +kernel, by decide +kernel⟩,
    ⟨ready, ⟨.pcie, 9, 0x680000, []⟩, 0x68, by constructor <;> decide +kernel, by decide +kernel⟩⟩

/-- States and operands that meet the hypotheses of `Obligations.TimeoutsAndRestartsAreHandled`. -/
theorem witness_TimeoutsAndRestartsAreHandled :
    (∃ (s : State) (a : State) (t : Nat), s.Awake (t) a) ∧
    (∃ (s : State) (a : State) (t : Nat), s.Awake (t) a ∧ a.cmd.inflight = []) ∧
    (∃ (s : State) (a : State) (t : Nat) (core : Fin 4), s.Awake (t) a ∧ a.err.coresDown.contains (core : Nat) = false ∧ a.cmd.inflight = []) ∧
    (∃ (s : State) (a : State) (t : Nat) (core : Fin 4), s.Awake (t) a ∧ a.err.coresDown.contains (core : Nat) = false) ∧
    (∃ (s : State) (a : State) (t : Nat) (core : Fin 4), s.Awake (t) a ∧ a.err.coresDown.contains (core : Nat) = true ∧ a.cmd.inflight = []) ∧
    (∃ (s : State) (a : State) (t : Nat) (core : Fin 4), s.Awake (t) a ∧ 3 ≤ (a.err.restartsAt.filter (fun e => e.1 == (core : Nat) && decide (a.time.clk < e.2 + 250000000))).length) :=
  ⟨⟨ringed, _, 5000, ⟨rfl, by decide +kernel, by decide +kernel⟩⟩,
    ⟨ready, _, 5000, ⟨rfl, by decide +kernel, by decide +kernel⟩, by decide +kernel⟩,
    ⟨ready, _, 5000, 2, ⟨rfl, by decide +kernel, by decide +kernel⟩, by decide +kernel⟩,
    ⟨ready, _, 5000, 2, ⟨rfl, by decide +kernel, by decide +kernel⟩, by decide +kernel⟩,
    ⟨{ ready with err := { coresDown := [2] } }, _, 5000, 2, ⟨rfl, by decide +kernel, by decide +kernel⟩, by decide +kernel⟩,
    ⟨{ ready with err := { restartsAt := [(2, 10), (2, 20), (2, 30)] } }, _, 5000, 2, ⟨rfl, by decide +kernel, by decide +kernel⟩, by decide +kernel⟩⟩

/-- States and operands that meet the hypotheses of `Obligations.CheckpointsAreTaken`. -/
theorem witness_CheckpointsAreTaken :
    (∃ (s : State) (a : State) (k : Nat), s.Awake (k * 1000) a ∧ a.get F.ERR_CKPT_CFG_CKPT_MS ≠ 0 ∧ k % (a.get F.ERR_CKPT_CFG_CKPT_MS * 1000) = 0 ∧ a.journal.armed = true ∧ ((a.devAt k = 2 ∨ a.devAt k = 3))) ∧
    (∃ (s : State) (a : State) (k : Nat), s.Awake (k * 1000) a ∧ a.journal.pwrfailDue = true) ∧
    (∃ (s : State) (a : State) (t : Nat) (r : RunImage) (rest : List RunImage) (p : InFlight), s.Awake (t) a ∧ a.journal.writing = r :: rest ∧ a.cmd.inflight = [p] ∧ p.wait = .checkpoint r.number ∧ p.path ≠ .ridge ∧ p.orphan = false) ∧
    (∃ (s : State) (a : State) (t : Nat) (b : BaseImage), s.Awake (t) a ∧ a.journal.writingBase = some b) ∧
    (∃ (s : State) (a : State) (t : Nat) (r : RunImage) (rest : List RunImage), s.Awake (t) a ∧ a.journal.writing = r :: rest) ∧
    (∃ (s : State) (p : Pkt), s.Serves p.path p.tag ∧ p.target = 0 ∧ p.body = [] ∧ s.dev ≠ 0 ∧ s.dev ≠ 5) ∧
    (∃ (s : State) (p : Pkt), s.Serves p.path p.tag ∧ p.target = 0 ∧ p.body = [] ∧ s.journal.runs = []) ∧
    (∃ (s : State) (p : Pkt) (o : Word) (n : Word) (r : RunImage) (rest : List RunImage), s.Serves p.path p.tag ∧ p.body = [o, n] ∧ s.journal.runs = r :: rest ∧ p.target = 0 ∧ 1 ≤ n.toNat ∧ o.toNat + n.toNat ≤ 2896) ∧
    (∃ (s : State) (p : Pkt) (lo : Word) (hi : Word) (c : Word) (b : BaseImage) (rest : List BaseImage), s.Serves p.path p.tag ∧ p.body = [lo, hi, c] ∧ s.journal.bases = b :: rest ∧ p.target = 0 ∧ c = 0 ∧ s.dev = 1 ∧ ((∀ x : Fin 64, s.ch x ≤ 1)) ∧ s.cmd.scheduled = [] ∧ s.ns + 10000 ≤ dword lo hi * 1000 ∧ dword lo hi * 1000 ≤ s.ns + 10000000000) ∧
    (∃ (s : State) (f : Nat) (b : Scheduled) (p : InFlight), s.cmd.scheduled = [b] ∧ s.cmd.inflight = [p] ∧ s.inReset = false ∧ s.quiet = true ∧ b.f ≤ f ∧ f * 1000 < 2 ^ 63 ∧ b.whole = some false ∧ b.cascade = false ∧ p.order = b.order ∧ p.wait = .restore b.f ∧ p.path ≠ .ridge ∧ p.orphan = false) :=
  ⟨⟨{ (building.put F.ERR_CKPT_CFG_CKPT_MS 10) with journal := { armed := true } }, _, 20000, ⟨rfl, by decide +kernel, by decide +kernel⟩, by decide +kernel⟩,
    ⟨{ ready with journal := { pwrfailDue := true } }, _, 5, ⟨rfl, by decide +kernel, by decide +kernel⟩, by decide +kernel⟩,
    ⟨{ (waiting 0x9E 0 [] (.checkpoint 7)) with journal := { writing := [{ number := 7, base := 0, k := 5, reason := 4, epoch := 0, boot := 1, fwRev := 0 }] } }, _, 5000, { number := 7, base := 0, k := 5, reason := 4, epoch := 0, boot := 1, fwRev := 0 }, [], waiter 0x9E 0 [] (.checkpoint 7), ⟨rfl, by decide +kernel, by decide +kernel⟩, by decide +kernel⟩,
    ⟨{ ready with journal := { writingBase := some ⟨3, []⟩ } }, _, 5000, ⟨3, []⟩, ⟨rfl, by decide +kernel, by decide +kernel⟩, by decide +kernel⟩,
    ⟨{ ready with journal := { writing := [{ number := 7, base := 0, k := 5, reason := 4, epoch := 0, boot := 1, fwRev := 0 }] } }, _, 5000, { number := 7, base := 0, k := 5, reason := 4, epoch := 0, boot := 1, fwRev := 0 }, [], ⟨rfl, by decide +kernel, by decide +kernel⟩, by decide +kernel⟩,
    ⟨ready, ⟨.pcie, 9, 0, []⟩, by constructor <;> decide +kernel, by decide +kernel⟩,
    ⟨ready, ⟨.pcie, 9, 0, []⟩, by constructor <;> decide +kernel, by decide +kernel⟩,
    ⟨{ ready with journal := { runs := [{ number := 7, base := 0, k := 5, reason := 4, epoch := 0, boot := 1, fwRev := 0 }] } }, ⟨.pcie, 9, 0, [16, 12]⟩, 16, 12, { number := 7, base := 0, k := 5, reason := 4, epoch := 0, boot := 1, fwRev := 0 }, [], by constructor <;> decide +kernel, by decide +kernel⟩,
    ⟨{ ready with journal := { bases := [⟨3, [(0x030110, 5)]⟩] } }, ⟨.pcie, 9, 0, [100, 0, 0]⟩, 100, 0, 0, ⟨3, [(0x030110, 5)]⟩, [], by constructor <;> decide +kernel, by decide +kernel⟩,
    ⟨{ (waiting 0x9D 0 [100, 0, 0] (.restore 100)) with cmd := { nextOrder := 1, inflight := [waiter 0x9D 0 [100, 0, 0] (.restore 100)], scheduled := [{ f := 100, order := 0, path := .pcie, tag := 9, writes := [⟨0x030110, 0xF, 5⟩], cascade := false, whole := some false }] } }, 100, { f := 100, order := 0, path := .pcie, tag := 9, writes := [⟨0x030110, 0xF, 5⟩], cascade := false, whole := some false }, waiter 0x9D 0 [100, 0, 0] (.restore 100), by decide +kernel⟩⟩

/-- States and operands that meet the hypotheses of `Obligations.FrameOfSystem`. -/
theorem witness_FrameOfSystem :
    (∃ (s : State) (h : Hdr), s.Serves h.path h.tag) ∧
    (∃ (s : State) (a : State) (t : Nat), s.Awake (t) a) ∧
    (∃ (s : State) (a : State) (t : Nat), s.Awake (t) a) ∧
    (∃ (s : State) (a : State) (t : Nat), s.Awake (t) a) ∧
    (∃ (s : State) (a : State) (t : Nat), s.Awake (t) a) ∧
    (∃ (s : State) (a : State) (f : Nat), s.Awake ((f - 2) * 1000) a) ∧
    (∃ (s : State) (a : State) (t : Nat), s.Awake (t) a) ∧
    (∃ (s : State) (a : State) (t : Nat), s.Awake (t) a) ∧
    (∃ (s : State) (a : State) (t : Nat), s.Awake (t) a) :=
  ⟨⟨ready, ⟨.pcie, 7⟩, by constructor <;> decide +kernel⟩,
    ⟨ready, _, 5000, ⟨rfl, by decide +kernel, by decide +kernel⟩⟩,
    ⟨booting, _, 5000, ⟨rfl, by decide +kernel, by decide +kernel⟩⟩,
    ⟨ready, _, 5000, ⟨rfl, by decide +kernel, by decide +kernel⟩⟩,
    ⟨booting, _, 5000, ⟨rfl, by decide +kernel, by decide +kernel⟩⟩,
    ⟨building, _, 25, ⟨rfl, by decide +kernel, by decide +kernel⟩⟩,
    ⟨ready, _, 5000, ⟨rfl, by decide +kernel, by decide +kernel⟩⟩,
    ⟨ready, _, 5000, ⟨rfl, by decide +kernel, by decide +kernel⟩⟩,
    ⟨ready, _, 5000, ⟨rfl, by decide +kernel, by decide +kernel⟩⟩⟩

/-- States and operands that meet the hypotheses of `Obligations.FrameOfChannels`. -/
theorem witness_FrameOfChannels :
    (∃ (s : State) (h : Hdr), s.Serves h.path h.tag) ∧
    (∃ (s : State) (a : State) (f : Nat), s.Awake ((f - 2) * 1000) a) ∧
    (∃ (s : State) (a : State) (f : Nat), s.Awake ((f - 2) * 1000) a) ∧
    (∃ (s : State) (a : State) (t : Nat), s.Awake (t) a) ∧
    (∃ (s : State) (a : State) (t : Nat), s.Awake (t) a) ∧
    (∃ (s : State) (a : State) (t : Nat), s.Awake (t) a) ∧
    (∃ (s : State) (a : State) (k : Nat), s.Awake (k * 1000 + 900) a) ∧
    (∃ (s : State), s.inReset = false) ∧
    (∃ (s : State) (a : State) (k : Nat), s.Awake (k * 1000 + 900) a) ∧
    (∃ (s : State) (a : State) (k : Nat), s.Awake (k * 1000 + 1550) a) ∧
    (∃ (s : State) (a : State) (k : Nat), s.Awake (k * 1000 + 600) a) :=
  ⟨⟨ready, ⟨.pcie, 7⟩, by constructor <;> decide +kernel⟩,
    ⟨chanReady 3 3, _, 25, ⟨rfl, by decide +kernel, by decide +kernel⟩⟩,
    ⟨chanReady 1 3, _, 25, ⟨rfl, by decide +kernel, by decide +kernel⟩⟩,
    ⟨chanReady 1 0, _, 5000, ⟨rfl, by decide +kernel, by decide +kernel⟩⟩,
    ⟨chanReady 1 3, _, 5000, ⟨rfl, by decide +kernel, by decide +kernel⟩⟩,
    ⟨chanReady 1 0, _, 5000, ⟨rfl, by decide +kernel, by decide +kernel⟩⟩,
    ⟨chanReady 1 3, _, 5, ⟨rfl, by decide +kernel, by decide +kernel⟩⟩,
    ⟨chanReady 1 3, by decide +kernel⟩,
    ⟨chanReady 1 3, _, 5, ⟨rfl, by decide +kernel, by decide +kernel⟩⟩,
    ⟨chanReady 1 3, _, 5, ⟨rfl, by decide +kernel, by decide +kernel⟩⟩,
    ⟨ready, _, 5, ⟨rfl, by decide +kernel, by decide +kernel⟩⟩⟩

/-- States and operands that meet the hypotheses of `Obligations.FrameOfHostInterface`. -/
theorem witness_FrameOfHostInterface :
    (∃ (s : State) (p : Pkt), s.Serves p.path p.tag) ∧
    (∃ (s : State) (p : Pkt), s.Serves p.path p.tag) ∧
    (∃ (s : State) (a : State) (t : Nat), s.Awake (t) a) ∧
    (∃ (s : State) (a : State) (t : Nat), s.Awake (t) a) ∧
    (∃ (s : State) (h : Hdr), s.Serves h.path h.tag) ∧
    (∃ (s : State) (a : State) (t : Nat) (d : UdpFrame), s.Awake (t) a ∧ datagramPackets d.payload = none) ∧
    (∃ (s : State) (a : State) (f : Nat), s.Awake (f * 1000) a ∧ a.cmd.inflight.all (fun p => p.startClk.isSome) = true) ∧
    (∃ (s : State) (a : State) (f : Nat), s.Awake ((f + 20) * 1000) a ∧ a.cmd.inflight.all (fun p => p.startClk.isSome) = true) ∧
    (∃ (s : State), s.inReset = false ∧ s.cmd.inflight.all (fun p => p.startClk.isSome) = true) :=
  ⟨⟨ready, ⟨.pcie, 7, 0, []⟩, by constructor <;> decide +kernel⟩,
    ⟨ready, ⟨.pcie, 7, 0, []⟩, by constructor <;> decide +kernel⟩,
    ⟨ready, _, 5000, ⟨rfl, by decide +kernel, by decide +kernel⟩⟩,
    ⟨netReady, _, 5000, ⟨rfl, by decide +kernel, by decide +kernel⟩⟩,
    ⟨ready, ⟨.pcie, 7⟩, by constructor <;> decide +kernel⟩,
    ⟨netReady, _, 5000, { nopDatagram with payload := [1] }, ⟨rfl, by decide +kernel, by decide +kernel⟩, by decide +kernel⟩,
    ⟨ready, _, 25, ⟨rfl, by decide +kernel, by decide +kernel⟩, by decide +kernel⟩,
    ⟨ready, _, 25, ⟨rfl, by decide +kernel, by decide +kernel⟩, by decide +kernel⟩,
    ⟨ready, by decide +kernel⟩⟩

/-- States and operands that meet the hypotheses of `Obligations.FrameOfStreams`. -/
theorem witness_FrameOfStreams :
    (∃ (s : State) (p : Pkt), s.Serves p.path p.tag) ∧
    (∃ (s : State) (p : Pkt), s.Serves p.path p.tag) ∧
    (∃ (s : State), s.inReset = false) ∧
    (∃ (s : State), s.inReset = false) ∧
    (∃ (s : State) (a : State) (q : Nat), s.Awake (q * 1000) a ∧ q ≤ s.us) ∧
    (∃ (s : State) (p : Pkt), s.Serves p.path p.tag) ∧
    (∃ (s : State), s.inReset = false) :=
  ⟨⟨ready, ⟨.pcie, 7, 7, [1]⟩, by constructor <;> decide +kernel⟩,
    ⟨ready, ⟨.pcie, 7, 7, []⟩, by constructor <;> decide +kernel⟩,
    ⟨streaming 1 { inbuf := plainHeader }, by decide +kernel⟩,
    ⟨streaming 1 {}, by decide +kernel⟩,
    ⟨ready, _, 0, ⟨rfl, by decide +kernel, by decide +kernel⟩, by decide +kernel⟩,
    ⟨ready, ⟨.pcie, 7, 70, [1]⟩, by constructor <;> decide +kernel⟩,
    ⟨ready, by decide +kernel⟩⟩

/-- States and operands that meet the hypotheses of `Obligations.FrameOfTime`. -/
theorem witness_FrameOfTime :
    (∃ (s : State) (a : State) (t : Nat), s.Awake (t) a) ∧
    (∃ (s : State) (a : State) (m : Machine.RidgeMsg), s.Awake (m.t) a ∧ a.takes 0x04 m = true) ∧
    (∃ (s : State) (a : State) (t : Nat), s.Awake (t) a) ∧
    (∃ (s : State) (a : State) (t : Nat), s.Awake (t) a) ∧
    (∃ (s : State), s.inReset = false) ∧
    (∃ (s : State) (p : Pkt), s.Serves p.path p.tag) ∧
    (∃ (s : State) (a : State) (t : Nat), s.Awake (t) a) :=
  ⟨⟨ready, _, 5000, ⟨rfl, by decide +kernel, by decide +kernel⟩⟩,
    ⟨ready, _, ridgeMsg 5000 0x04 [], ⟨rfl, by decide +kernel, by decide +kernel⟩, by decide +kernel⟩,
    ⟨ready, _, 5000, ⟨rfl, by decide +kernel, by decide +kernel⟩⟩,
    ⟨ready, _, 5000, ⟨rfl, by decide +kernel, by decide +kernel⟩⟩,
    ⟨ready, by decide +kernel⟩,
    ⟨ready, ⟨.pcie, 7, 0, [1]⟩, by constructor <;> decide +kernel⟩,
    ⟨ready, _, 5000, ⟨rfl, by decide +kernel, by decide +kernel⟩⟩⟩

/-- States and operands that meet the hypotheses of `Obligations.FrameOfScanning`. -/
theorem witness_FrameOfScanning :
    (∃ (s : State) (p : Pkt), s.Serves p.path p.tag) ∧
    (∃ (s : State), s.inReset = false) ∧
    (∃ (s : State), s.inReset = false) ∧
    (∃ (s : State), s.inReset = false) ∧
    (∃ (s : State) (a : State) (m : Machine.RidgeMsg), s.Awake (m.t) a) ∧
    (∃ (s : State), s.inReset = false) ∧
    (∃ (s : State) (a : State) (d : Nat), s.Awake ((d + 8) * 1000) a) :=
  ⟨⟨ready, ⟨.pcie, 7, 3, []⟩, by constructor <;> decide +kernel⟩,
    ⟨chanReady 3 3, by decide +kernel⟩,
    ⟨ready, by decide +kernel⟩,
    ⟨ready, by decide +kernel⟩,
    ⟨ready, _, ridgeMsg 5000 0x07 [1], ⟨rfl, by decide +kernel, by decide +kernel⟩⟩,
    ⟨ready, by decide +kernel⟩,
    ⟨ready, _, 10, ⟨rfl, by decide +kernel, by decide +kernel⟩⟩⟩

/-- States and operands that meet the hypotheses of `Obligations.FrameOfAxes`. -/
theorem witness_FrameOfAxes :
    (∃ (s : State) (p : Pkt), s.Serves p.path p.tag) ∧
    (∃ (s : State) (a : State) (t : Nat), s.Awake (t) a) ∧
    (∃ (s : State) (a : State) (t : Nat), s.Awake (t) a) ∧
    (∃ (s : State) (a : State) (t : Nat), s.Awake (t) a) :=
  ⟨⟨ready, ⟨.pcie, 7, 3, []⟩, by constructor <;> decide +kernel⟩,
    ⟨ready, _, 5000, ⟨rfl, by decide +kernel, by decide +kernel⟩⟩,
    ⟨ready, _, 5000, ⟨rfl, by decide +kernel, by decide +kernel⟩⟩,
    ⟨ready, _, 5000, ⟨rfl, by decide +kernel, by decide +kernel⟩⟩⟩

/-- States and operands that meet the hypotheses of `Obligations.FrameOfRingAndPairs`. -/
theorem witness_FrameOfRingAndPairs :
    (∃ (s : State) (a : State) (t : Nat), s.Awake (t) a) ∧
    (∃ (s : State) (a : State) (m : Machine.RidgeMsg), s.Awake (m.t) a) ∧
    (∃ (s : State) (a : State) (t : Nat), s.Awake (t) a) ∧
    (∃ (s : State) (a : State) (t : Nat), s.Awake (t) a) ∧
    (∃ (s : State) (a : State) (m : Machine.RidgeMsg), s.Awake (m.t) a) ∧
    (∃ (s : State) (a : State) (t : Nat), s.Awake (t) a) ∧
    (∃ (s : State) (a : State) (t : Nat), s.Awake (t) a) ∧
    (∃ (s : State) (p : Pkt), s.Serves p.path p.tag) :=
  ⟨⟨ready, _, 5000, ⟨rfl, by decide +kernel, by decide +kernel⟩⟩,
    ⟨ready, _, ridgeMsg 5000 0x02 [], ⟨rfl, by decide +kernel, by decide +kernel⟩⟩,
    ⟨ready, _, 5000, ⟨rfl, by decide +kernel, by decide +kernel⟩⟩,
    ⟨ready, _, 5000, ⟨rfl, by decide +kernel, by decide +kernel⟩⟩,
    ⟨ready, _, ridgeMsg 5000 0x13 (leBytes 40 0), ⟨rfl, by decide +kernel, by decide +kernel⟩⟩,
    ⟨ready, _, 5000, ⟨rfl, by decide +kernel, by decide +kernel⟩⟩,
    ⟨ready.put F.PAIR_PSTAT_ROLE 3, _, 5000, ⟨rfl, by decide +kernel, by decide +kernel⟩⟩,
    ⟨ready, ⟨.pcie, 7, 0, []⟩, by constructor <;> decide +kernel⟩⟩

/-- States and operands that meet the hypotheses of `Obligations.FrameOfThermalAndLight`. -/
theorem witness_FrameOfThermalAndLight :
    (∃ (s : State), s.inReset = false) ∧
    (∃ (s : State) (a : State) (f : Nat), s.Awake (f * 1000) a) ∧
    (∃ (s : State) (a : State) (t : Nat), s.Awake (t) a) ∧
    (∃ (s : State) (a : State) (t : Nat), s.Awake (t) a) ∧
    (∃ (s : State) (a : State) (t : Nat), s.Awake (t) a) ∧
    (∃ (s : State), s.inReset = false) ∧
    (∃ (s : State) (p : Pkt), s.Serves p.path p.tag) :=
  ⟨⟨ready, by decide +kernel⟩,
    ⟨ready, _, 25, ⟨rfl, by decide +kernel, by decide +kernel⟩⟩,
    ⟨ready, _, 5000, ⟨rfl, by decide +kernel, by decide +kernel⟩⟩,
    ⟨ready, _, 5000, ⟨rfl, by decide +kernel, by decide +kernel⟩⟩,
    ⟨ready, _, 5000, ⟨rfl, by decide +kernel, by decide +kernel⟩⟩,
    ⟨ready, by decide +kernel⟩,
    ⟨ready, ⟨.pcie, 7, 3, []⟩, by constructor <;> decide +kernel⟩⟩

/-- States and operands that meet the hypotheses of `Obligations.FrameOfKeysAndErrors`. -/
theorem witness_FrameOfKeysAndErrors :
    (∃ (s : State) (p : Pkt), s.Serves p.path p.tag) ∧
    (∃ (s : State) (a : State) (t : Nat), s.Awake (t) a) ∧
    (∃ (s : State) (a : State) (t : Nat), s.Awake (t) a ∧ a.cmd.inflight = []) ∧
    (∃ (s : State) (a : State) (t : Nat), s.Awake (t) a) ∧
    (∃ (s : State) (a : State) (t : Nat), s.Awake (t) a) ∧
    (∃ (s : State) (a : State) (t : Nat), s.Awake (t) a) :=
  ⟨⟨ready, ⟨.pcie, 7, 0, []⟩, by constructor <;> decide +kernel⟩,
    ⟨ready, _, 5000, ⟨rfl, by decide +kernel, by decide +kernel⟩⟩,
    ⟨ready, _, 5000, ⟨rfl, by decide +kernel, by decide +kernel⟩, by decide +kernel⟩,
    ⟨ready, _, 5000, ⟨rfl, by decide +kernel, by decide +kernel⟩⟩,
    ⟨ready, _, 5000, ⟨rfl, by decide +kernel, by decide +kernel⟩⟩,
    ⟨ready, _, 5000, ⟨rfl, by decide +kernel, by decide +kernel⟩⟩⟩

/-- States and operands that meet the hypotheses of `Obligations.TagInFlightIsDuplicate`. -/
theorem witness_TagInFlightIsDuplicate :
    (∃ (s : State) (p : Pkt), s.inReset = false ∧ s.sys.romUp = true ∧ s.sys.firmware = true ∧ p.path ≠ .ridge ∧ s.pathLost p.path = false ∧ s.tagBusy p.path p.tag = true ∧ s.cmd.inflight.all (fun q => q.startClk.isSome && decide (q.order < s.cmd.nextOrder) && !q.wait.isForward) = true) ∧
    (∃ (s : State) (h : Hdr), s.inReset = false ∧ s.sys.romUp = true ∧ s.sys.firmware = true ∧ h.path ≠ .ridge ∧ s.pathLost h.path = false ∧ s.tagBusy h.path h.tag = true ∧ s.cmd.inflight.all (fun q => q.startClk.isSome && decide (q.order < s.cmd.nextOrder) && !q.wait.isForward) = true) :=
  ⟨⟨waiting 0x04 0 [] (.commit 50), ⟨.pcie, 9, 0, []⟩, by decide +kernel⟩,
    ⟨waiting 0x04 0 [] (.commit 50), ⟨.pcie, 9⟩, by decide +kernel⟩⟩

/-- A state and operands that meet the hypotheses of `Obligations.LateCommitIsRefused`. -/
theorem witness_LateCommitIsRefused :
    (∃ (s : State) (p : Pkt) (lo : Word) (hi : Word), s.Serves p.path p.tag ∧ p.body = [lo, hi] ∧ p.target = 0 ∧ dword lo hi * 1000 < s.ns + 10000) :=
  ⟨{ ready with cmd := { batchPcie := [⟨0x200041, BitVec.allOnes 32, 5⟩] } }, ⟨.pcie, 9, 0, [9, 0]⟩, 9, 0, by constructor <;> decide +kernel, by decide +kernel⟩

/-- A state and operands that meet the hypotheses of `Obligations.DiscardEmptiesTheBatch`. -/
theorem witness_DiscardEmptiesTheBatch :
    (∃ (s : State) (p : Pkt), s.Serves p.path p.tag ∧ p.target = 0 ∧ p.body = []) :=
  ⟨{ ready with cmd := { batchPcie := [⟨0x200041, BitVec.allOnes 32, 5⟩] } }, ⟨.pcie, 9, 0, []⟩, by constructor <;> decide +kernel, by decide +kernel⟩

/-- States and operands that meet the hypotheses of `Obligations.TimePairAndJoinRowsAct`. -/
theorem witness_TimePairAndJoinRowsAct :
    (∃ (s : State) (a : State) (t : Nat) (port : Bool) (m : PtpMsg), s.Awake (t) a ∧ port = a.ptpPort ∧ a.ptpUp = true ∧ m.l2 = a.has F.TIME_CFG_L2 ∧ a.has F.TIME_CFG_P2P = true ∧ a.has F.TIME_CFG_ONE_STEP = false ∧ m.kind = 2 ∧ m.domain = a.get F.TIME_CFG_DOMAIN) ∧
    (∃ (s : State) (a : State) (t : Nat), s.Awake (t) a ∧ a.time.ptpIsMaster = true ∧ a.ptpUp = true ∧ a.time.ptpAnnounceTx = none) ∧
    (∃ (s : State) (a : State) (t : Nat), s.Awake (t) a ∧ a.ptpUp = true ∧ a.has F.TIME_CFG_P2P = true) ∧
    (∃ (s : State) (theta : Int) (en : Nat) (ed : Nat), s.time.measured = some (theta, en, ed) ∧ s.inReset = false ∧ s.ptpSource = true ∧ s.get F.TIME_STATE = 2 ∧ s.time.slewEnd = none ∧ s.inThreshold theta = true) ∧
    (∃ (s : State), s.inReset = false ∧ s.jumpDue = true) ∧
    (∃ (s : State), s.inReset = false ∧ s.exitDue = true) ∧
    (∃ (s : State) (a : State) (t : Nat) (x : PtpForeign), s.Awake (t) a ∧ a.time.ptpForeign = [x] ∧ a.time.ptpMaster = true ∧ a.time.ptpAnnounceClk + a.announceTimeout ≤ a.time.clk ∧ a.time.clk < x.clk + 3 * 2 ^ x.logAnnounce * 250000000 ∧ a.has F.TIME_CFG_MASTER_EN = false) ∧
    (∃ (s : State) (a : State) (t : Nat), s.Awake (t) a ∧ a.ptpSource = true ∧ a.get F.TIME_STATE = 1 ∧ a.time.ptpMeasureClk * 16 + 4 * 2 ^ (a.time.ptpLogSync + 4).toNat * 250000000 ≤ a.time.clk * 16) ∧
    (∃ (s : State) (a : State) (t : Nat), s.Awake (t) a ∧ a.has F.TIME_CFG_AUTO_PORT = true ∧ (if a.ptpPort then a.host.pcsLock1 else a.host.pcsLock0) = false) ∧
    (∃ (s : State) (h : Hdr) (v : Word), s.Serves h.path h.tag ∧ s.writesError h.path true [⟨0x080010, BitVec.allOnes 32, v⟩] = none ∧ v.toNat % 2 ≠ s.get F.TIME_CFG_SOURCE ∧ s.isSummit = false) ∧
    (∃ (s : State) (a : State) (t : Nat), s.Awake (t) a ∧ a.isSummit = true) ∧
    (∃ (s : State) (a : State) (m : Machine.RidgeMsg), s.Awake (m.t) a ∧ a.isSummit = false ∧ a.takes 0x04 m = true ∧ m.cw ≠ a.time.markerCw) ∧
    (∃ (s : State) (a : State) (t : Nat), s.Awake (t) a ∧ a.isSummit = false ∧ (if a.time.markerCw then a.time.markerClkCw else a.time.markerClkCcw) = none) ∧
    (∃ (s : State) (a : State) (t : Nat), s.Awake (t) a ∧ a.isSummit = false ∧ a.time.markerClkCw = none ∧ a.time.markerClkCcw = none ∧ a.get F.TIME_STATE = 1) ∧
    (∃ (s : State), s.inReset = false ∧ s.isSummit = false ∧ 10 ≤ s.time.misalignRun ∧ s.has F.TIME_STATE_MISALIGN = false) ∧
    (∃ (s : State) (a : State) (t : Nat) (link : Fin 4), s.Awake (t) a ∧ a.linkUp link = true) ∧
    (∃ (s : State) (a : State) (n : Nat), s.Awake ((n * 100 + 20) * 1000) a ∧ a.cascadeRole = 2) ∧
    (∃ (s : State) (a : State) (m : Machine.RidgeMsg) (v : RoleVerdict), s.Awake (m.t) a ∧ verdictOf m.payload = v ∧ a.takes 0x06 m = true ∧ m.payload.length = 32 ∧ v.pos = a.position ∧ v.appoint = a.sys.serial ∧ a.cascadeRole ≠ 2 ∧ a.pair.verdict = none ∧ a.get F.PAIR_VERDICT_NUM < v.number ∧ v.source = a.get F.PAIR_CFG_REF_HOST ∧ a.ns + 3000 ≤ v.at_ * 1000) ∧
    (∃ (s : State) (a : State) (n : Nat) (v : RoleVerdict), s.Awake (n * 1000) a ∧ a.pair.verdict = some v ∧ v.at_ ≤ a.us ∧ v.appoint = a.sys.serial ∧ a.cmd.inflight = []) ∧
    (∃ (s : State) (p : Pkt) (lo : Word) (hi : Word), p.body = [lo, hi] ∧ s.inReset = false ∧ s.sys.romUp = true ∧ s.sys.firmware = true ∧ s.pairRole = 1 ∧ p.path ≠ .ridge ∧ s.pathLost p.path = false ∧ s.cmd.inflight = [] ∧ s.tagBusy p.path p.tag = false ∧ s.err.coresDown = [] ∧ p.target = 0 ∧ s.pair.noAck = false ∧ s.maySwap = true ∧ s.ns + 50000 ≤ dword lo hi * 1000 ∧ dword lo hi * 1000 ≤ s.ns + 10000000000) ∧
    (∃ (s : State) (a : State) (m : Machine.RidgeMsg) (number : Nat) (x : Mirrored) (p : InFlight) (lo : Word) (hi : Word), s.Awake (m.t) a ∧ a.mirroredOf number = some x ∧ a.cmd.inflight = [p] ∧ p.body = [lo, hi] ∧ a.takes 0x20 m = true ∧ p.order = x.order ∧ p.opcode = 0x71 ∧ p.target = 0 ∧ a.pairRole = 1 ∧ a.maySwap = true ∧ 50000 ≤ frameLead (dword lo hi) p.acceptNs ∧ frameLead (dword lo hi) p.acceptNs ≤ 10000000000) ∧
    (∃ (s : State) (p : Pkt) (lo : Word) (hi : Word), p.body = [lo, hi] ∧ s.inReset = false ∧ s.sys.romUp = true ∧ s.sys.firmware = true ∧ s.pairRole = 1 ∧ p.path ≠ .ridge ∧ s.pathLost p.path = false ∧ s.cmd.inflight = [] ∧ s.tagBusy p.path p.tag = false ∧ s.err.coresDown = [] ∧ p.target = 0 ∧ s.pair.noAck = false ∧ s.hasShadow = true ∧ s.ns + 50000 ≤ dword lo hi * 1000 ∧ dword lo hi * 1000 ≤ s.ns + 10000000000) ∧
    (∃ (s : State) (a : State) (m : Machine.RidgeMsg) (number : Nat) (x : Mirrored) (p : InFlight) (lo : Word) (hi : Word), s.Awake (m.t) a ∧ a.mirroredOf number = some x ∧ a.cmd.inflight = [p] ∧ p.body = [lo, hi] ∧ a.takes 0x20 m = true ∧ p.order = x.order ∧ p.opcode = 0x73 ∧ p.target = 0 ∧ a.pairRole = 1 ∧ a.hasShadow = true ∧ 50000 ≤ frameLead (dword lo hi) p.acceptNs ∧ frameLead (dword lo hi) p.acceptNs ≤ 10000000000) ∧
    (∃ (s : State) (a : State) (v : Nat) (r : Nat), s.Awake (v * 1000) a ∧ (a.pair.next.find? (fun e => e.1 == v && [1, 2].contains e.2)).map (fun e => e.2) = some r ∧ v ≤ a.us ∧ a.cmd.inflight = []) ∧
    (∃ (s : State) (a : State) (v : Nat) (r : Nat), s.Awake (v * 1000) a ∧ (a.pair.next.find? (fun e => e.1 == v && [0, 3].contains e.2)).map (fun e => e.2) = some r ∧ v ≤ a.us ∧ a.cmd.inflight = []) ∧
    (∃ (s : State) (p : Pkt) (n : Word) (alo : Word) (ahi : Word) (lo : Word) (hi : Word), s.Serves p.path p.tag ∧ p.body = [n, alo, ahi, lo, hi] ∧ p.target.toNat < 16 ∧ p.target.toNat ≠ s.position ∧ s.cascadeRole = 1 ∧ s.has F.PAIR_CFG_REF_HOST = true ∧ s.ns + 50000 ≤ dword lo hi * 1000 ∧ dword lo hi * 1000 ≤ s.ns + 10000000000) ∧
    (∃ (s : State) (p : Pkt), s.Serves p.path p.tag ∧ p.target = 0 ∧ p.body = [] ∧ s.mayJoin = true) ∧
    (∃ (s : State) (a : State) (t : Nat), s.Awake (t) a ∧ a.has F.PAIR_CFG_AUTO_JOIN = true ∧ a.pair.retryClk = none ∧ a.mayJoin = true) ∧
    (∃ (s : State) (a : State) (t : Nat) (c : Nat), s.Awake (t) a ∧ a.pair.retryClk = some c ∧ c ≤ a.time.clk ∧ a.has F.PAIR_CFG_AUTO_JOIN = true ∧ a.mayJoin = true) ∧
    (∃ (s : State) (a : State) (m : Machine.RidgeMsg), s.Awake (m.t) a ∧ a.pairRole = 3 ∧ a.takes 0x30 m = true) ∧
    (∃ (s : State) (a : State) (t : Nat), s.Awake (t) a ∧ a.pairRole = 0 ∧ a.get F.PAIR_PSTAT_JOIN_PHASE = 1) ∧
    (∃ (s : State) (a : State) (c : Nat), s.Awake (c * 1000) a ∧ a.pairRole = 0 ∧ a.get F.PAIR_PSTAT_JOIN_PHASE = 2 ∧ a.pair.joinCut = some c) ∧
    (∃ (s : State) (a : State) (t : Nat), s.Awake (t) a ∧ a.pairRole = 3 ∧ a.get F.PAIR_PSTAT_JOIN_PHASE = 3 ∧ a.pair.loaded = true) ∧
    (∃ (s : State) (a : State) (l : Nat), s.Awake (l * 1000) a ∧ a.pair.joinAt = some l ∧ l ≤ a.us ∧ ((a.pairRole = 0 ∨ a.pairRole = 3))) ∧
    (∃ (s : State) (a : State) (t : Nat), s.Awake (t) a ∧ a.joinFails = false ∧ a.joinUnlocked = true ∧ a.cmd.inflight = []) :=
  ⟨⟨ptpReady.put F.TIME_CFG_P2P 1, _, 5000, false, { kind := 2, domain := 0, seq := 7, l2 := true }, ⟨rfl, by decide +kernel, by decide +kernel⟩, by decide +kernel⟩,
    ⟨{ ptpReady with time := { ptpIsMaster := true } }, _, 5000, ⟨rfl, by decide +kernel, by decide +kernel⟩, by decide +kernel⟩,
    ⟨ptpReady.put F.TIME_CFG_P2P 1, _, 5000, ⟨rfl, by decide +kernel, by decide +kernel⟩, by decide +kernel⟩,
    ⟨{ (ptpReady.put F.TIME_STATE 2) with time := { measured := some (4294967296, 16, 4294967296), goodRun := 3 } }, 4294967296, 16, 4294967296, by decide +kernel⟩,
    ⟨(summit.put F.TIME_STATE 1).put F.TIME_STATE_JUMP_SEEN 5, by decide +kernel⟩,
    ⟨{ (summit.put F.TIME_STATE 2) with time := { sourcePresent := true, goodRun := 15 } }, by decide +kernel⟩,
    ⟨{ ((summit.put F.TIME_CFG_SOURCE 1).put F.TIME_STATE 1) with time := { ptpMaster := true, ptpForeign := [⟨7, [128, 248, 128, 9], 1400000000, 1⟩] } }, _, 6000000000, ⟨7, [128, 248, 128, 9], 1400000000, 1⟩, ⟨rfl, by decide +kernel, by decide +kernel⟩, by decide +kernel⟩,
    ⟨{ ((summit.put F.TIME_CFG_SOURCE 1).put F.TIME_STATE 1) with time := { ptpMaster := true } }, _, 500000000, ⟨rfl, by decide +kernel, by decide +kernel⟩, by decide +kernel⟩,
    ⟨{ ((summit.put F.TIME_CFG_AUTO_PORT 1).put F.TIME_STATE 1) with host := { pcsLock0 := false } }, _, 5000, ⟨rfl, by decide +kernel, by decide +kernel⟩, by decide +kernel⟩,
    ⟨ready.put F.TIME_STATE 1, ⟨.pcie, 9⟩, 0xD000001, by constructor <;> decide +kernel, by decide +kernel⟩,
    ⟨summit, _, 5000, ⟨rfl, by decide +kernel, by decide +kernel⟩, by decide +kernel⟩,
    ⟨{ ready with time := { markerCw := false } }, _, ridgeMsg 5000 0x04 [], ⟨rfl, by decide +kernel, by decide +kernel⟩, by decide +kernel⟩,
    ⟨ready, _, 400000, ⟨rfl, by decide +kernel, by decide +kernel⟩, by decide +kernel⟩,
    ⟨ready.put F.TIME_STATE 1, _, 1100000, ⟨rfl, by decide +kernel, by decide +kernel⟩, by decide +kernel⟩,
    ⟨{ ready with time := { misalignRun := 10 } }, by decide +kernel⟩,
    ⟨ready.put (F.RIDGE_LINK_STAT_STATE 1) 2, _, 5000, 1, ⟨rfl, by decide +kernel, by decide +kernel⟩, by decide +kernel⟩,
    ⟨ready.put F.SYS_STRAPS_ROLE 2, _, 5, ⟨rfl, by decide +kernel, by decide +kernel⟩, by decide +kernel⟩,
    ⟨ready.put F.PAIR_PSTAT_ROLE 2, _, ridgeMsg 5000 0x06 (RoleVerdict.bytes ⟨0, 0, 3, 0, 100, 2⟩), _, ⟨rfl, by decide +kernel, by decide +kernel⟩, rfl, by decide +kernel⟩,
    ⟨{ (ready.put F.PAIR_PSTAT_ROLE 2) with pair := { verdict := some ⟨0, 0, 3, 0, 100, 2⟩ } }, _, 100, ⟨0, 0, 3, 0, 100, 2⟩, ⟨rfl, by decide +kernel, by decide +kernel⟩, by decide +kernel⟩,
    ⟨{ (ready.put F.PAIR_PSTAT_ROLE 1) with ridge := { map := [{ serial := 0, pos := 0, role := 0 }, { serial := 9, pos := 0, role := 0 }], seen := [⟨9, 0, 0, true, 2, 1, false, false, false, false, false, true, 0, 5, 0, 0, 0⟩] } }, ⟨.pcie, 9, 0, [100, 0]⟩, 100, 0, by decide +kernel⟩,
    ⟨{ ((waiting 0x71 0 [100, 0] (.mirror 4)).put F.PAIR_PSTAT_ROLE 1) with pair := { mirrored := [⟨4, 0, 0, 0, []⟩], nextMirror := 5 }, ridge := { map := [{ serial := 0, pos := 0, role := 0 }, { serial := 9, pos := 0, role := 0 }], seen := [⟨9, 0, 0, true, 2, 1, false, false, false, false, false, true, 0, 5, 0, 0, 0⟩] } }, _, ridgeMsg 5000 0x20 [], 4, ⟨4, 0, 0, 0, []⟩, waiter 0x71 0 [100, 0] (.mirror 4), 100, 0, ⟨rfl, by decide +kernel, by decide +kernel⟩, by decide +kernel⟩,
    ⟨{ (ready.put F.PAIR_PSTAT_ROLE 1) with ridge := { map := [{ serial := 0, pos := 0, role := 0 }, { serial := 9, pos := 0, role := 0 }], seen := [⟨9, 0, 0, true, 2, 1, false, false, false, false, false, true, 0, 5, 0, 0, 0⟩] } }, ⟨.pcie, 9, 0, [100, 0]⟩, 100, 0, by decide +kernel⟩,
    ⟨{ ((waiting 0x73 0 [100, 0] (.mirror 4)).put F.PAIR_PSTAT_ROLE 1) with pair := { mirrored := [⟨4, 0, 0, 0, []⟩], nextMirror := 5 }, ridge := { map := [{ serial := 0, pos := 0, role := 0 }, { serial := 9, pos := 0, role := 0 }], seen := [⟨9, 0, 0, true, 2, 1, false, false, false, false, false, true, 0, 5, 0, 0, 0⟩] } }, _, ridgeMsg 5000 0x20 [], 4, ⟨4, 0, 0, 0, []⟩, waiter 0x73 0 [100, 0] (.mirror 4), 100, 0, ⟨rfl, by decide +kernel, by decide +kernel⟩, by decide +kernel⟩,
    ⟨{ (ready.put F.PAIR_PSTAT_ROLE 2) with pair := { next := [(100, 1)] } }, _, 100, 1, ⟨rfl, by decide +kernel, by decide +kernel⟩, by decide +kernel⟩,
    ⟨{ (ready.put F.PAIR_PSTAT_ROLE 2) with pair := { next := [(100, 3)] } }, _, 100, 3, ⟨rfl, by decide +kernel, by decide +kernel⟩, by decide +kernel⟩,
    ⟨summit.put F.PAIR_CFG_REF_HOST 1, ⟨.pcie, 9, 3, [2, 7, 0, 100, 0]⟩, 2, 7, 0, 100, 0, by constructor <;> decide +kernel, by decide +kernel⟩,
    ⟨{ ready with ridge := { map := [{ serial := 0, pos := 0, role := 0 }, { serial := 9, pos := 0, role := 0, part := (ready.reg 1).toNat, fwRev := (ready.reg 3).toNat }], seen := [⟨9, 0, 0, true, 3, 1, false, false, false, false, false, true, 0, 5, 0, 0, 0⟩] } }, ⟨.pcie, 9, 0, []⟩, by constructor <;> decide +kernel, by decide +kernel⟩,
    ⟨{ (ready.put F.PAIR_CFG_AUTO_JOIN 1) with ridge := { map := [{ serial := 0, pos := 0, role := 0 }, { serial := 9, pos := 0, role := 0, part := (ready.reg 1).toNat, fwRev := (ready.reg 3).toNat }], seen := [⟨9, 0, 0, true, 3, 1, false, false, false, false, false, true, 0, 5, 0, 0, 0⟩] } }, _, 5000, ⟨rfl, by decide +kernel, by decide +kernel⟩, by decide +kernel⟩,
    ⟨{ (ready.put F.PAIR_CFG_AUTO_JOIN 1) with pair := { retryClk := some 10 }, ridge := { map := [{ serial := 0, pos := 0, role := 0 }, { serial := 9, pos := 0, role := 0, part := (ready.reg 1).toNat, fwRev := (ready.reg 3).toNat }], seen := [⟨9, 0, 0, true, 3, 1, false, false, false, false, false, true, 0, 5, 0, 0, 0⟩] } }, _, 5000, 10, ⟨rfl, by decide +kernel, by decide +kernel⟩, by decide +kernel⟩,
    ⟨ready.put F.PAIR_PSTAT_ROLE 3, _, ridgeMsg 5000 0x30 [], ⟨rfl, by decide +kernel, by decide +kernel⟩, by decide +kernel⟩,
    ⟨ready.put F.PAIR_PSTAT_JOIN_PHASE 1, _, 5000, ⟨rfl, by decide +kernel, by decide +kernel⟩, by decide +kernel⟩,
    ⟨{ (ready.put F.PAIR_PSTAT_JOIN_PHASE 2) with pair := { joinCut := some 1000 } }, _, 1000, ⟨rfl, by decide +kernel, by decide +kernel⟩, by decide +kernel⟩,
    ⟨{ ((ready.put F.PAIR_PSTAT_JOIN_PHASE 3).put F.PAIR_PSTAT_ROLE 3) with pair := { loaded := true } }, _, 5000, ⟨rfl, by decide +kernel, by decide +kernel⟩, by decide +kernel⟩,
    ⟨{ (ready.put F.PAIR_PSTAT_JOIN_PHASE 4) with pair := { joinAt := some 90 } }, _, 90, ⟨rfl, by decide +kernel, by decide +kernel⟩, by decide +kernel⟩,
    ⟨{ (ready.put F.PAIR_PSTAT_ROLE 2) with pair := { joinDone := some 3, lockBad := some 5 } }, _, 8000, ⟨rfl, by decide +kernel, by decide +kernel⟩, by decide +kernel⟩⟩

end
end

section
/-!
PROOFS about the parameter words (R6, R102): the rules of reading after writing, for whole words and for fields, on top of the table
and bit-field rules of Laws/Words.lean.
-/
namespace Sys2Proof.Machine

/-! ## Bit fields that share no bit -/

/-- A field below bit `n` reads the same where only the bits from `n` on are cut off. -/
theorem bitsOf_mod_two_pow (v lo w n : Nat) (h : lo + w ≤ n) : bitsOf (v % 2 ^ n) lo w = bitsOf v lo w := by
  have hn : 2 ^ n = 2 ^ lo * 2 ^ (n - lo) := by rw [← Nat.pow_add, Nat.add_sub_cancel' (by omega)]
  unfold bitsOf
  rw [hn, Nat.mod_mul_right_div_self, Nat.mod_mod_of_dvd _ (Nat.pow_dvd_pow 2 (by omega))]

/-- A field from bit `n` on is a field of the number shifted right by `n`. -/
theorem bitsOf_div_two_pow (v lo w n : Nat) (h : n ≤ lo) : bitsOf (v / 2 ^ n) (lo - n) w = bitsOf v lo w := by
  unfold bitsOf
  rw [Nat.div_div_eq_div_mul, ← Nat.pow_add, Nat.add_sub_cancel' h]

/-- Putting a field leaves the bits below it alone. -/
theorem withBits_mod_below (v lo w x : Nat) : withBits v lo w x % 2 ^ lo = v % 2 ^ lo := by
  have e : withBits v lo w x = v % 2 ^ lo + 2 ^ lo * (x % 2 ^ w + 2 ^ w * (v / 2 ^ (lo + w))) := by
    unfold withBits
    rw [Nat.pow_add]
    ring
  rw [e, Nat.add_mul_mod_self_left, Nat.mod_mod]

/-- Putting a field leaves the bits above it alone. -/
theorem withBits_div_above (v lo w x : Nat) : withBits v lo w x / 2 ^ (lo + w) = v / 2 ^ (lo + w) := by
  have hlow : withBits (v % 2 ^ (lo + w)) lo w x < 2 ^ (lo + w) :=
    withBits_lt _ lo w x _ (Nat.mod_lt _ (Nat.two_pow_pos _)) le_rfl
  have e : withBits v lo w x = withBits (v % 2 ^ (lo + w)) lo w x + v / 2 ^ (lo + w) * 2 ^ (lo + w) := by
    unfold withBits
    rw [Nat.mod_mod_of_dvd _ (Nat.pow_dvd_pow 2 (Nat.le_add_right lo w)), Nat.div_eq_of_lt (Nat.mod_lt v (Nat.two_pow_pos _))]
    omega
  rw [e, Nat.add_mul_div_right _ _ (Nat.two_pow_pos _), Nat.div_eq_of_lt hlow, Nat.zero_add]

/-- A field that shares no bit with the one put reads as before. -/
theorem bitsOf_withBits_disjoint (v lo w x lo' w' : Nat) (h : lo' + w' ≤ lo ∨ lo + w ≤ lo') :
    bitsOf (withBits v lo w x) lo' w' = bitsOf v lo' w' := by
  rcases h with below | above
  · rw [← bitsOf_mod_two_pow _ lo' w' lo below, withBits_mod_below, bitsOf_mod_two_pow _ lo' w' lo below]
  · rw [← bitsOf_div_two_pow _ lo' w' (lo + w) above, withBits_div_above, bitsOf_div_two_pow _ lo' w' (lo + w) above]

/-! ## Whole words -/

@[simp] theorem State.reg_setReg_same (s : State) (a : Nat) (v : Word) : (s.setReg a v).reg a = v :=
  tabGet_put_same (resetWord a) s.regs a v

theorem State.reg_setReg_ne (s : State) (a b : Nat) (v : Word) (h : b ≠ a) : (s.setReg a v).reg b = s.reg b :=
  tabGet_put_ne (resetWord a) (resetWord b) s.regs a b v h

/-- A write of a word changes nothing but the list of words: with the old list back, the state is the old one. -/
theorem State.setReg_restore_regs (s : State) (a : Nat) (v : Word) : { s.setReg a v with regs := s.regs } = s := by
  cases s
  rfl

theorem State.wordsTidy_iff (s : State) : s.wordsTidy = true ↔ TabTidy resetWord s.regs := by
  simp [State.wordsTidy, TabTidy]

theorem State.setReg_wordsTidy (s : State) (a : Nat) (v : Word) (h : s.wordsTidy = true) : (s.setReg a v).wordsTidy = true :=
  (State.wordsTidy_iff _).mpr (tabPut_tidy resetWord s.regs a v ((State.wordsTidy_iff s).mp h))

/-! ## Fields -/

/-- The number that a field's word holds after a write of a field within it: the field's bits are replaced, none is lost. -/
theorem State.reg_put_toNat (s : State) (f : Fld) (v : Nat) (h : f.lo + f.width ≤ 32) :
    ((s.put f v).reg f.addr).toNat = withBits (s.reg f.addr).toNat f.lo f.width v := by
  have hlt : withBits (s.reg f.addr).toNat f.lo f.width v < 2 ^ 32 := withBits_lt _ _ _ _ _ (s.reg f.addr).isLt h
  rw [State.put, State.reg_setReg_same, word, BitVec.toNat_ofNat, Nat.mod_eq_of_lt hlt]

theorem State.get_put_same (s : State) (f : Fld) (v : Nat) (h : f.lo + f.width ≤ 32) : (s.put f v).get f = v % 2 ^ f.width := by
  rw [State.get, s.reg_put_toNat f v h, bitsOf_withBits_same]

/-- A field of another word reads as before, wherever the written field lies. -/
theorem State.get_put_other_word (s : State) (f g : Fld) (v : Nat) (h : g.addr ≠ f.addr) : (s.put f v).get g = s.get g := by
  rw [State.get, State.put, State.reg_setReg_ne _ _ _ _ h, ← State.get]

/-- A field of the same word that shares no bit with the written one reads as before. -/
theorem State.get_put_disjoint (s : State) (f g : Fld) (v : Nat) (hf : f.lo + f.width ≤ 32) (ha : g.addr = f.addr)
    (h : g.lo + g.width ≤ f.lo ∨ f.lo + f.width ≤ g.lo) : (s.put f v).get g = s.get g := by
  rw [State.get, State.get, ha, s.reg_put_toNat f v hf, bitsOf_withBits_disjoint _ _ _ _ _ _ h]

/-- Settles O59: words by the table rules, fields by the bit-field rules on the word that holds them; a field that reads as before lies
in another word or shares no bit with the written one. -/
theorem wordsHoldWhatIsWritten : Obligations.WordsHoldWhatIsWritten := by
  refine ⟨fun s a b v => ⟨s.reg_setReg_same a v, s.reg_setReg_ne a b v, (s.setReg_restore_regs a v).symm⟩,
    fun s f v hf => s.get_put_same f v hf, fun s f g v hf apart => ?_, fun s a v tidy => s.setReg_wordsTidy a v tidy⟩
  by_cases ha : g.addr = f.addr
  · exact s.get_put_disjoint f g v hf ha (apart.resolve_left (not_not_intro ha))
  · exact s.get_put_other_word f g v ha

end Sys2Proof.Machine
end

section
/-!
PROOFS about what a command's body may leave changed (R26 to R42): `State.Within`, the parts and the units of words that a change keeps to, with
one rule for each update of the state.
-/
set_option Elab.async false -- one proof after the other: checking the whole text at once takes more memory than the check allows
namespace Sys2Proof.Machine

/-! ## Reading the state through its words -/

theorem State.reg_congr {s t : State} (h : t.regs = s.regs) (a : Nat) : t.reg a = s.reg a := by rw [State.reg, State.reg, h]

theorem State.get_congr {s t : State} (f : Fld) (h : t.reg f.addr = s.reg f.addr) : t.get f = s.get f := by rw [State.get, State.get, h]

/-- A word written with the value that it holds changes no word. -/
@[simp] theorem State.reg_setReg_self (s : State) (a b : Nat) : (s.setReg a (s.reg a)).reg b = s.reg b := by
  by_cases h : b = a
  · subst h
    exact s.reg_setReg_same b _
  · exact s.reg_setReg_ne a b _ h

/-! ## The unit of an address -/

theorem inUnits_wordAddr (us : List Nat) (u w : Nat) (hw : w < 65536) : inUnits us (wordAddr u w) = us.contains u := by
  rw [inUnits, wordAddr, Nat.mul_comm, Nat.mul_add_div (by decide), Nat.div_eq_of_lt hw, Nat.add_zero]

theorem inUnits_chanAddr (us : List Nat) (u c w : Nat) (hc : c < 64) (hw : w < 1024) : inUnits us (chanAddr u c w) = us.contains u := by
  have e : chanAddr u c w = wordAddr u (c * 1024 + w) := by rw [chanAddr, wordAddr, Nat.add_assoc]
  rw [e, inUnits_wordAddr us u _ (by omega)]

/-! ## What a change keeps to -/

/-- From `a` to `b` nothing changes but the parts `ps`, the parameter words of the units `us`, the queue of commands and the outputs. -/
structure State.Within (a b : State) (ps : List Part) (us : List Nat) : Prop where
  parts : ∀ p : Part, p ∉ ps → p.same a b
  words : ∀ w : Nat, inUnits us w = false → b.reg w = a.reg w
  marks : ∀ e ∈ b.marks, e ∈ a.marks ∨ inUnits us e.2.1 = true

theorem Part.same_refl (p : Part) (a : State) : p.same a a := by
  cases p <;> simp [Part.same, Part.sameHost, Part.sameFrame]

theorem Part.same_trans {p : Part} {a b c : State} (h : p.same a b) (h' : p.same b c) : p.same a c := by
  cases p <;> simp_all [Part.same, Part.sameHost, Part.sameFrame]

theorem inUnits_mono {us vs : List Nat} (h : us ⊆ vs) {w : Nat} (hw : inUnits us w = true) : inUnits vs w = true := by
  simp only [inUnits, List.contains_iff_mem] at hw ⊢
  exact h hw

/-- A table filtered by its keys holds what it held at the keys that stay. -/
theorem tabGet_filter {α : Type} (d : α) (q : Nat → Bool) (t : Tab α) (k : Nat) (hk : q k = true) :
    tabGet d (t.filter (fun e => q e.1)) k = tabGet d t k := by
  induction t with
  | nil => rfl
  | cons e t ih =>
    by_cases he : q e.1 = true
    · simp only [List.filter_cons, he, if_true, tabGet, ih]
    · have hne : e.1 ≠ k := fun h => he (h ▸ hk)
      simp only [List.filter_cons, he, Bool.false_eq_true, if_false, tabGet, hne, ih]

namespace State.Within

variable {a b c : State} {ps qs : List Part} {us vs : List Nat}

theorem refl (a : State) (ps : List Part) (us : List Nat) : a.Within a ps us :=
  ⟨fun p _ => p.same_refl a, fun _ _ => rfl, fun _ h => .inl h⟩

theorem trans (h : a.Within b ps us) (h' : b.Within c ps us) : a.Within c ps us where
  parts p hp := Part.same_trans (h.parts p hp) (h'.parts p hp)
  words w hw := (h'.words w hw).trans (h.words w hw)
  marks e he := (h'.marks e he).elim (h.marks e) .inr

theorem mono (h : a.Within b ps us) (hp : ps ⊆ qs) (hu : us ⊆ vs) : a.Within b qs vs where
  parts p hq := h.parts p fun hm => hq (hp hm)
  words w hw := h.words w (Bool.eq_false_iff.mpr fun ht => Bool.eq_false_iff.mp hw (inUnits_mono hu ht))
  marks e he := (h.marks e he).imp_right (inUnits_mono hu)

/-- A further change that keeps to fewer parts and units. -/
theorem andThen (h : a.Within b ps us) (h' : b.Within c qs vs) (hq : qs ⊆ ps) (hv : vs ⊆ us) : a.Within c ps us :=
  h.trans (h'.mono hq hv)

theorem ite {p : Prop} [Decidable p] (h : p → a.Within b ps us) (h' : ¬p → a.Within c ps us) : a.Within (if p then b else c) ps us := by
  split
  · exact h ‹_›
  · exact h' ‹_›

theorem forEach {α : Type} (xs : List α) (f : α → State → State) (h : a.Within b ps us)
    (step : ∀ x ∈ xs, ∀ c, a.Within c ps us → a.Within (f x c) ps us) : a.Within (Machine.forEach xs f b) ps us := by
  induction xs generalizing b with
  | nil => exact h
  | cons x xs ih => exact ih (step x List.mem_cons_self _ h) fun y hy => step y (List.mem_cons_of_mem x hy)

/-! ### Words -/

theorem setReg (h : a.Within b ps us) (x : Nat) (v : Word) (hx : inUnits us x = true := by decide) : a.Within (b.setReg x v) ps us := by
  refine h.trans ⟨fun p _ => ?_, fun w hw => b.reg_setReg_ne x w v ?_, fun e he => .inl he⟩
  · cases p <;> simp [Part.same, Part.sameHost, Part.sameFrame]
  · rintro rfl
    simp [hw] at hx

theorem put (h : a.Within b ps us) (f : Fld) (v : Nat) (hx : inUnits us f.addr = true := by decide) : a.Within (b.put f v) ps us := h.setReg _ _ hx

theorem putB (h : a.Within b ps us) (f : Fld) (v : Bool) (hx : inUnits us f.addr = true := by decide) : a.Within (b.putB f v) ps us := h.put _ _ hx

theorem count (h : a.Within b ps us) (f : Fld) (n : Nat) (hx : inUnits us f.addr = true := by decide) : a.Within (b.count f n) ps us := h.put _ _ hx

theorem mark (h : a.Within b ps us) (f : Fld) (n : Nat) (hx : inUnits us f.addr = true := by decide) : a.Within (b.mark f n) ps us := by
  have hput := h.put f (b.get f ||| n) hx
  refine ⟨fun p hp => ?_, hput.words, fun e he => ?_⟩
  · have same := hput.parts p hp
    cases p <;> exact same
  · rcases List.mem_cons.mp he with rfl | he
    · exact .inr hx
    · exact h.marks e (List.mem_filter.mp he).1

theorem dropUnit (h : a.Within b ps us) (u : Nat) (hu : u ∈ us := by decide) : a.Within (b.dropUnit u) ps us := by
  refine h.trans ⟨fun p _ => ?_, fun w hw => ?_, fun e he => .inl he⟩
  · cases p <;> simp [Part.same, Part.sameHost, Part.sameFrame]
  · have hne : w / 65536 ≠ u := by
      rintro rfl
      simp [inUnits, hu] at hw
    exact tabGet_filter (resetWord w) (fun k => k / 65536 != u) b.regs w (by simpa using hne)

/-! ### Parts -/

/-- A change of parts alone. -/
theorem update (h : a.Within b ps us) (hr : c.regs = b.regs) (hm : c.marks = b.marks) (hp : ∀ p ∉ ps, p.same b c) : a.Within c ps us :=
  h.trans ⟨hp, fun w _ => State.reg_congr hr w, fun _ he => .inl (hm ▸ he)⟩

theorem emit (h : a.Within b ps us) (o : Output) : a.Within (b.emit o) ps us :=
  h.update rfl rfl fun p _ => by cases p <;> simp [Part.same, Part.sameHost, Part.sameFrame]

/-- The rule of one part's update: every other part is as before. -/
theorem part (h : a.Within b ps us) (q : Part) (hq : q ∈ ps) (hr : c.regs = b.regs) (hm : c.marks = b.marks)
    (hp : ∀ p ≠ q, p.same b c) : a.Within c ps us :=
  h.update hr hm fun p hn => hp p fun e => hn (e ▸ hq)

theorem cmd (h : a.Within b ps us) (x : CmdSt) (hq : .cmd ∈ ps := by decide) : a.Within { b with cmd := x } ps us :=
  h.part .cmd hq rfl rfl fun p hp => by cases p <;> simp_all [Part.same, Part.sameHost, Part.sameFrame]

theorem host (h : a.Within b ps us) (x : HostSt) (hq : .host ∈ ps := by decide) : a.Within { b with host := x } ps us :=
  h.part .host hq rfl rfl fun p hp => by cases p <;> simp_all [Part.same, Part.sameHost, Part.sameFrame]

theorem sys (h : a.Within b ps us) (x : SysSt) (hq : .sys ∈ ps := by decide) : a.Within { b with sys := x } ps us :=
  h.part .sys hq rfl rfl fun p hp => by cases p <;> simp_all [Part.same, Part.sameHost, Part.sameFrame]

theorem err (h : a.Within b ps us) (x : ErrSt) (hq : .err ∈ ps := by decide) : a.Within { b with err := x } ps us :=
  h.part .err hq rfl rfl fun p hp => by cases p <;> simp_all [Part.same, Part.sameHost, Part.sameFrame]

theorem journal (h : a.Within b ps us) (x : JournalSt) (hq : .journal ∈ ps := by decide) : a.Within { b with journal := x } ps us :=
  h.part .journal hq rfl rfl fun p hp => by cases p <;> simp_all [Part.same, Part.sameHost, Part.sameFrame]

theorem time (h : a.Within b ps us) (x : TimeSt) (hq : .time ∈ ps := by decide) : a.Within { b with time := x } ps us :=
  h.part .time hq rfl rfl fun p hp => by cases p <;> simp_all [Part.same, Part.sameHost, Part.sameFrame]

theorem stream (h : a.Within b ps us) (x : StreamSt) (hq : .stream ∈ ps := by decide) : a.Within { b with stream := x } ps us :=
  h.part .stream hq rfl rfl fun p hp => by cases p <;> simp_all [Part.same, Part.sameHost, Part.sameFrame]

theorem seq (h : a.Within b ps us) (x : Tab SeqCh) (hq : .seq ∈ ps := by decide) : a.Within { b with seq := x } ps us :=
  h.part .seq hq rfl rfl fun p hp => by cases p <;> simp_all [Part.same, Part.sameHost, Part.sameFrame]

theorem stn (h : a.Within b ps us) (x : Tab StnCh) (hq : .stn ∈ ps := by decide) : a.Within { b with stn := x } ps us :=
  h.part .stn hq rfl rfl fun p hp => by cases p <;> simp_all [Part.same, Part.sameHost, Part.sameFrame]

theorem husk (h : a.Within b ps us) (x : HuskSt) (hq : .husk ∈ ps := by decide) : a.Within { b with husk := x } ps us :=
  h.part .husk hq rfl rfl fun p hp => by cases p <;> simp_all [Part.same, Part.sameHost, Part.sameFrame]

theorem ridge (h : a.Within b ps us) (x : RidgeSt) (hq : .ridge ∈ ps := by decide) : a.Within { b with ridge := x } ps us :=
  h.part .ridge hq rfl rfl fun p hp => by cases p <;> simp_all [Part.same, Part.sameHost, Part.sameFrame]

theorem pair (h : a.Within b ps us) (x : PairSt) (hq : .pair ∈ ps := by decide) : a.Within { b with pair := x } ps us :=
  h.part .pair hq rfl rfl fun p hp => by cases p <;> simp_all [Part.same, Part.sameHost, Part.sameFrame]

theorem therm (h : a.Within b ps us) (x : ThermSt) (hq : .therm ∈ ps := by decide) : a.Within { b with therm := x } ps us :=
  h.part .therm hq rfl rfl fun p hp => by cases p <;> simp_all [Part.same, Part.sameHost, Part.sameFrame]

theorem light (h : a.Within b ps us) (x : LightSt) (hq : .light ∈ ps := by decide) : a.Within { b with light := x } ps us :=
  h.part .light hq rfl rfl fun p hp => by cases p <;> simp_all [Part.same, Part.sameHost, Part.sameFrame]

end State.Within
end Sys2Proof.Machine
end

section
/-!
PROOFS about the frame of a command: what stands once its body's work is done (`State.Ends`), and that a state that device time has reached has
nothing left that was decided for an instant up to then (`State.Settled`).
-/
set_option Elab.async false -- one proof after the other: checking the whole text at once takes more memory than the check allows
namespace Sys2Proof.Machine

/-! ## Passing work on to the partner (R154) -/

/-- The outputs that were there are there. -/
theorem State.emit_out (s : State) (o x : Output) (h : x ∈ s.out) : x ∈ (s.emit o).out := List.mem_append_left _ h

theorem State.out_forEach {α : Type} (xs : List α) (f : α → State → State) (s : State) (o : Output) (h : o ∈ s.out)
    (step : ∀ x s, o ∈ s.out → o ∈ (f x s).out) : o ∈ (forEach xs f s).out := by
  induction xs generalizing s with
  | nil => exact h
  | cons x xs ih => exact ih _ (step x s h)

theorem State.emitRidge_out (s : State) (n : Nat) (d : RidgeTo) (o x : Output) (h : x ∈ s.out) : x ∈ (s.emitRidge n d o).out := by
  unfold State.emitRidge
  exact State.emit_out _ _ _ (State.out_forEach _ _ _ _ h fun _ t ht => t.emit_out _ _ ht)

/-- The message itself stands among the outputs. -/
theorem State.emitRidge_mem (s : State) (n : Nat) (d : RidgeTo) (o : Output) : o ∈ (s.emitRidge n d o).out :=
  List.mem_append_right _ (List.mem_singleton.mpr rfl)

theorem State.forEach_emit_eq {α : Type} (xs : List α) (o : α → State → Output) (s : State) :
    forEach xs (fun x t => t.emit (o x t)) s = { s with out := (forEach xs (fun x t => t.emit (o x t)) s).out } := by
  induction xs generalizing s with
  | nil => rfl
  | cons x xs ih => exact ih (s.emit (o x s))

theorem State.emitRidge_eq (s : State) (n : Nat) (d : RidgeTo) (o : Output) :
    s.emitRidge n d o = { s with out := (s.emitRidge n d o).out } := by
  unfold State.emitRidge State.emit
  dsimp only
  have e := State.forEach_emit_eq (s.route d).2.2 (fun cw t => t.ridgeCopy n (s.route d).1 (s.route d).2.1 cw o) s
  unfold State.emit at e
  rw [e]

/-- What stands in `u` is what stands in `t` but for further outputs and the number of the next MIRROR message. -/
structure State.Passed (t u : State) : Prop where
  eq : u = { t with out := u.out, pair := { t.pair with nextMirror := u.pair.nextMirror } }
  out : ∀ o ∈ t.out, o ∈ u.out

theorem State.Passed.refl (t : State) : t.Passed t := ⟨rfl, fun _ h => h⟩

theorem State.Passed.trans {t u v : State} (h : t.Passed u) (h' : u.Passed v) : t.Passed v where
  eq := by
    have e := h'.eq
    rw [h.eq] at e
    exact e
  out o ho := h'.out o (h.out o ho)

theorem State.sendItem_passed (t : State) (m : MirrorItem) : t.Passed (t.sendItem m) where
  eq := by
    unfold State.sendItem
    rw [State.emitRidge_eq]
  out o ho := t.emitRidge_out 0x20 .partner (.mirror t.pair.nextMirror m) o ho

theorem State.forEach_sendItem_passed {α : Type} (xs : List α) (f : α → MirrorItem) (t : State) :
    t.Passed (forEach xs (fun x s => s.sendItem (f x)) t) := by
  induction xs generalizing t with
  | nil => exact .refl t
  | cons x xs ih => exact (t.sendItem_passed (f x)).trans (ih _)

theorem State.mirrorStream_passed (s t : State) : t.Passed (s.mirrorStream t) := by
  unfold State.mirrorStream
  split
  · exact .refl t
  · dsimp only
    split
    · exact (t.forEach_sendItem_passed _ _).trans (State.forEach_sendItem_passed _ _ _)
    · exact ((t.forEach_sendItem_passed _ _).trans (State.forEach_sendItem_passed _ _ _)).trans (State.sendItem_passed _ _)

/-! ## How a command ends -/

/-- What stands in `u` when a command on `s` ends is what its body has left in `t`: the queue of commands and the levels of the reset pins are
those of `s`, and there may be further outputs and, where the device passes its work on, MIRROR messages. -/
structure State.Ends (s t u : State) : Prop where
  eq : u = { t with
    out := u.out, pair := { t.pair with nextMirror := u.pair.nextMirror }, pending := s.pending
    sys := { t.sys with porst := s.sys.porst, sysrst := s.sys.sysrst } }
  alone : t.passesOn = false → u.pair = t.pair
  out : ∀ o ∈ t.out, o ∈ u.out

theorem State.showOutputs_eq (s t : State) : s.showOutputs t = { t with out := (s.showOutputs t).out } := by
  obtain h | ⟨o, h⟩ := s.showOutputs_cases t
  · rw [h]
  · rw [h]
    rfl

theorem State.Passed.ends {s t u : State} (h : t.Passed u) (alone : t.passesOn = false → u = t) : s.Ends t (s.begin.showOutputs (s.begin.keepPins u)) where
  eq := by
    rw [State.showOutputs_eq]
    have e := h.eq
    generalize (s.begin.showOutputs (s.begin.keepPins u)).out = o
    rw [e]
    rfl
  alone hp := by
    rw [State.showOutputs_eq, alone hp]
    rfl
  out o ho := State.showOutputs_out _ _ _ (h.out o ho)

theorem State.row_ends (s : State) (f : State → State) (h : s.inReset = false) : s.Ends (haltEdge s.begin (f s.begin)) (s.row f) := by
  rw [s.row_awake f h]
  exact (s.begin.mirrorStream_passed _).ends (s.begin.mirrorStream_alone _)

theorem State.pinRow_ends (s : State) (f g : State → State) (h : s.inReset = false) :
    s.Ends (haltEdge s.begin (f s.begin)) (s.pinRow f g) := by
  rw [s.pinRow_awake f g h]
  exact (State.Passed.refl _).ends fun _ => rfl

theorem State.pinRow_ends_in_reset (s : State) (f g : State → State) (h : s.inReset = true) : s.Ends (g s.begin) (s.pinRow f g) := by
  rw [s.pinRow_in_reset f g h]
  exact (State.Passed.refl _).ends fun _ => rfl

/-- A command on a device that is awake, whose body `g` does not bring it into HALT, ends with what `g` leaves. -/
theorem State.Awake.row {s a : State} {n : Nat} (ha : s.Awake n a) (g : State → State) (hd : (g a).dev = 5 → a.dev = 5) :
    s.Ends (g a) (s.row (fun s => g (s.arrive n))) := by
  obtain ⟨ha, up, halt⟩ := ha
  have e := s.row_ends (fun s => g (s.arrive n)) up
  rw [← State.upTo, ← ha] at e
  rwa [haltEdge_of_not_entered s.begin _ fun h => halt (hd h)] at e

/-- The same, of a change of a pin's level. -/
theorem State.Awake.pinRow {s a : State} {n : Nat} (ha : s.Awake n a) (g k : State → State) (hd : (g a).dev = 5 → a.dev = 5) :
    s.Ends (g a) (s.pinRow (fun s => g (s.arrive n)) k) := by
  obtain ⟨ha, up, halt⟩ := ha
  have e := s.pinRow_ends (fun s => g (s.arrive n)) k up
  rw [← State.upTo, ← ha] at e
  rwa [haltEdge_of_not_entered s.begin _ fun h => halt (hd h)] at e

namespace State.Ends

variable {s t u : State} (h : s.Ends t u)

include h

theorem regs : u.regs = t.regs := (congrArg State.regs h.eq :)
theorem marks : u.marks = t.marks := (congrArg State.marks h.eq :)
theorem cmd : u.cmd = t.cmd := (congrArg State.cmd h.eq :)
theorem host : u.host = t.host := (congrArg State.host h.eq :)
theorem err : u.err = t.err := (congrArg State.err h.eq :)
theorem journal : u.journal = t.journal := (congrArg State.journal h.eq :)
theorem time : u.time = t.time := (congrArg State.time h.eq :)
theorem seq : u.seq = t.seq := (congrArg State.seq h.eq :)
theorem stn : u.stn = t.stn := (congrArg State.stn h.eq :)
theorem pending : u.pending = s.pending := (congrArg State.pending h.eq :)

theorem sys : u.sys = { t.sys with porst := s.sys.porst, sysrst := s.sys.sysrst } := (congrArg State.sys h.eq :)

theorem reg (a : Nat) : u.reg a = t.reg a := State.reg_congr h.regs a
theorem get (f : Fld) : u.get f = t.get f := State.get_congr f (h.reg _)
theorem dev : u.dev = t.dev := h.get _
theorem sq (c : Nat) : u.sq c = t.sq c := by rw [State.sq, State.sq, h.seq]
theorem link (c : Nat) : u.link c = t.link c := by rw [State.link, State.link, h.stn]

theorem raised {cls d : Nat} {x : Subject} (hr : t.Raised cls d x) : u.Raised cls d x := by
  unfold State.Raised
  rwa [h.err]

theorem answered {path : Path} {tag : Byte} {status d : Nat} (hr : t.Answered path tag status d) : u.Answered path tag status d := by
  obtain ⟨r, there, hr⟩ := hr
  exact ⟨r, there.imp (h.out _) fun held => h.host ▸ held, hr⟩

end State.Ends

end Sys2Proof.Machine
end

section
/-!
PROOFS about states that device time has reached: nothing decided for an instant up to then is left to take effect (R17, R118), so that
settling again changes nothing.
-/
set_option Elab.async false -- one proof after the other: checking the whole text at once takes more memory than the check allows
namespace Sys2Proof.Machine

/-! ## Per-channel state -/

@[simp] theorem State.sq_setSq_same (s : State) (c : Nat) (x : SeqCh) : (s.setSq c x).sq c = x :=
  tabGet_put_same ({} : SeqCh) s.seq c x

theorem State.sq_setSq_ne (s : State) (c d : Nat) (x : SeqCh) (h : d ≠ c) : (s.setSq c x).sq d = s.sq d :=
  tabGet_put_ne ({} : SeqCh) {} s.seq c d x h

@[simp] theorem State.link_setLink_same (s : State) (c : Nat) (x : StnCh) : (s.setLink c x).link c = x :=
  tabGet_put_same ({} : StnCh) s.stn c x

theorem State.sq_congr {s t : State} (h : t.seq = s.seq) (c : Nat) : t.sq c = s.sq c := by rw [State.sq, State.sq, h]

theorem State.us_congr {s t : State} (h : t.time = s.time) : t.us = s.us := by rw [State.us, State.us, State.ns, State.ns, h]

/-! ## Entering a state -/

/-- The epoch at an entry touches CMD's epoch and the mark of the first READY. -/
theorem State.entryEpoch_within (s : State) (st : Nat) : s.Within (s.entryEpoch st) [.cmd, .sys] [] := by
  have h := State.Within.refl s [.cmd, .sys] []
  unfold State.entryEpoch
  split
  · exact h.update rfl rfl fun p hp => by cases p <;> simp_all [Part.same, Part.sameHost, Part.sameFrame]
  · exact h.cmd _

theorem State.entryEpoch_next (s : State) (st : Nat) : (s.entryEpoch st).sys.next = s.sys.next := by
  unfold State.entryEpoch
  split <;> rfl

/-- Entering a device state touches CMD's epoch, SYS, the watch on an orderly stop, the device's state word and, in READY, its head. -/
theorem State.enterDev_within (s : State) (st cause : Nat) : s.Within (s.enterDev st cause) [.cmd, .sys, .therm] [0x00, 0x68] := by
  unfold State.enterDev
  extract_lets entry shown closed drained watched
  have hentry : s.Within entry [.cmd, .sys, .therm] [0x00, 0x68] := (s.entryEpoch_within st).mono (by decide) (by decide)
  have hshown : s.Within shown [.cmd, .sys, .therm] [0x00, 0x68] := ((hentry.put _ _).put _ _).put _ _
  have hclosed : s.Within closed [.cmd, .sys, .therm] [0x00, 0x68] := .ite (fun _ => hshown.setReg _ _) fun _ => hshown
  have hdrained : s.Within drained [.cmd, .sys, .therm] [0x00, 0x68] := .ite (fun _ => hclosed.sys _) fun _ => hclosed
  exact (hdrained.therm _).sys _

theorem State.enterDev_next (s : State) (st cause : Nat) : (s.enterDev st cause).sys.next = s.sys.next := by
  unfold State.enterDev
  dsimp only
  split <;> split <;> simp [State.entryEpoch_next, State.addDevTrigger]

/-! ## What has been decided for an instant that is reached -/

/-- Nothing decided for an instant up to device time waits to take effect. -/
structure State.Settled (s : State) : Prop where
  dev : ∀ e ∈ s.sys.next, s.us < e.1
  chan : ∀ c < 64, ∀ e ∈ (s.sq c).next, s.us < e.1

theorem filter_le_eq_nil {α : Type} (l : List (Nat × α)) (n : Nat) (h : ∀ e ∈ l, n < e.1) : l.filter (fun e => decide (e.1 ≤ n)) = [] := by
  rw [List.filter_eq_nil_iff]
  exact fun e he => by simpa using h e he

theorem settleDev_settled (s : State) (h : ∀ e ∈ s.sys.next, s.us < e.1) : settleDev s = s := by
  simp [settleDev, filter_le_eq_nil _ _ h]

theorem settleCh_settled (c : Nat) (s : State) (h : ∀ e ∈ (s.sq c).next, s.us < e.1) : settleCh c s = s := by
  simp [settleCh, filter_le_eq_nil _ _ h]

/-- Settling a settled state changes nothing. -/
theorem State.Settled.settle {s : State} (h : s.Settled) : s.settle = s := by
  have all : ∀ l : List Nat, (∀ c ∈ l, c < 64) → forEach l settleCh s = s := by
    intro l hl
    induction l with
    | nil => rfl
    | cons c l ih =>
      have hc : settleCh c s = s := settleCh_settled c s (h.chan c (hl c List.mem_cons_self))
      show forEach l settleCh (settleCh c s) = s
      rw [hc]
      exact ih fun d hd => hl d (List.mem_cons_of_mem c hd)
  rw [State.settle, settleDev_settled s h.dev]
  exact all _ fun c hc => List.mem_range.mp hc

theorem State.Settled.congr {s t : State} (h : s.Settled) (hn : t.sys.next = s.sys.next) (hs : ∀ c, (t.sq c).next = (s.sq c).next)
    (ht : t.time = s.time) : t.Settled := by
  have hu := State.us_congr ht
  exact ⟨fun e he => hu ▸ h.dev e (hn ▸ he), fun c hc e he => hu ▸ h.chan c hc e (hs c ▸ he)⟩

/-- Entering device states one after the other leaves what is decided and device time alone. -/
theorem forEach_enterDev_within (l : List (Nat × Nat × Nat)) (s : State) :
    s.Within (forEach l (fun e s => s.enterDev e.2.1 e.2.2) s) [.cmd, .sys, .therm] [0x00, 0x68]
      ∧ (forEach l (fun e s => s.enterDev e.2.1 e.2.2) s).sys.next = s.sys.next := by
  induction l generalizing s with
  | nil => exact ⟨.refl s _ _, rfl⟩
  | cons e l ih =>
    obtain ⟨hw, hn⟩ := ih (s.enterDev e.2.1 e.2.2)
    exact ⟨(s.enterDev_within _ _).trans hw, hn.trans (s.enterDev_next _ _)⟩

theorem settleDev_next (s : State) : ∀ e ∈ (settleDev s).sys.next, s.us < e.1 := by
  unfold settleDev
  dsimp only
  split
  · rename_i none
    have none := List.isEmpty_iff.mp none
    exact fun e he => by simpa using List.filter_eq_nil_iff.mp none e he
  · rw [(forEach_enterDev_within _ _).2]
    exact fun e he => by simpa using (List.mem_filter.mp he).2

theorem settleDev_within (s : State) : s.Within (settleDev s) [.cmd, .sys, .therm] [0x00, 0x68] := by
  unfold settleDev
  extract_lets due old waits
  have h : s.Within waits [.cmd, .sys, .therm] [0x00, 0x68] := (State.Within.refl s [.cmd, .sys, .therm] [0x00, 0x68]).sys _
  exact .ite (fun _ => .refl s _ _) fun _ => h.trans (forEach_enterDev_within due waits).1

/-- A channel that enters a state changes CMD's epoch and words. -/
theorem State.enterCh_within (s : State) (c st cause : Nat) (hc : c < 64) : s.Within (s.enterCh c st cause) [.cmd] [0x18, 0x68] := by
  have chan : ∀ w < 1024, inUnits [0x18, 0x68] (chanAddr 0x18 c w) = true := fun w hw => inUnits_chanAddr _ _ c w hc hw
  unfold State.enterCh
  extract_lets counted shown
  have hcounted : s.Within counted [.cmd] [0x18, 0x68] := (State.Within.refl s [.cmd] [0x18, 0x68]).cmd _
  have hshown : s.Within shown [.cmd] [0x18, 0x68] := (hcounted.put _ _ (chan 0 (by decide))).put _ _ (chan 0 (by decide))
  refine .ite (fun _ => hshown.setReg _ _ ?_) fun _ => hshown
  exact inUnits_wordAddr _ 0x68 (0x100 + c) (by omega)

theorem forEach_enterCh_within (l : List (Nat × Nat × Nat)) (s : State) (c : Nat) (hc : c < 64) :
    s.Within (forEach l (fun e s => s.enterCh c e.2.1 e.2.2) s) [.cmd] [0x18, 0x68] :=
  State.Within.forEach l _ (.refl s _ _) fun _ _ t h => h.trans (t.enterCh_within c _ _ hc)

theorem settleCh_within (c : Nat) (s : State) (hc : c < 64) : s.Within (settleCh c s) [.cmd, .seq] [0x18, 0x68] := by
  unfold settleCh
  extract_lets due old waits
  have h : s.Within waits [.cmd, .seq] [0x18, 0x68] := (State.Within.refl s [.cmd, .seq] [0x18, 0x68]).seq _
  exact .ite (fun _ => .refl s _ _) fun _ => h.andThen (forEach_enterCh_within due waits c hc) (by decide) (by decide)

theorem settleCh_next (c : Nat) (s : State) (hc : c < 64) : ∀ e ∈ ((settleCh c s).sq c).next, s.us < e.1 := by
  unfold settleCh
  extract_lets due old waits
  split
  · rename_i none
    exact fun e he => by simpa using List.filter_eq_nil_iff.mp (List.isEmpty_iff.mp none) e he
  · have hs : (forEach due (fun e s => s.enterCh c e.2.1 e.2.2) waits).seq = waits.seq :=
      ((forEach_enterCh_within due waits c hc).parts .seq (by decide)).2
    rw [State.sq_congr hs, State.sq_setSq_same]
    exact fun e he => by simpa using (List.mem_filter.mp he).2

theorem settleCh_sq_ne (c d : Nat) (s : State) (hc : c < 64) (h : d ≠ c) : (settleCh c s).sq d = s.sq d := by
  unfold settleCh
  extract_lets due old waits
  split
  · rfl
  · have hs : (forEach due (fun e s => s.enterCh c e.2.1 e.2.2) waits).seq = waits.seq :=
      ((forEach_enterCh_within due waits c hc).parts .seq (by decide)).2
    rw [State.sq_congr hs, State.sq_setSq_ne s c d _ h]

/-- Settling the channels of a list leaves SYS and device time alone, and nothing due on those channels. -/
theorem forEach_settleCh_next (l : List Nat) (s : State) (hl : ∀ c ∈ l, c < 64) (nd : l.Nodup) :
    (forEach l settleCh s).sys = s.sys ∧ (forEach l settleCh s).time = s.time
      ∧ (∀ c ∈ l, ∀ e ∈ ((forEach l settleCh s).sq c).next, s.us < e.1) ∧ ∀ c ∉ l, (forEach l settleCh s).sq c = s.sq c := by
  induction l generalizing s with
  | nil => exact ⟨rfl, rfl, fun c hc => absurd hc List.not_mem_nil, fun c _ => rfl⟩
  | cons c l ih =>
    have hc := hl c List.mem_cons_self
    obtain ⟨fresh, nd⟩ := List.nodup_cons.mp nd
    obtain ⟨hsys, htime, hin, hout⟩ := ih (settleCh c s) (fun d hd => hl d (List.mem_cons_of_mem c hd)) nd
    have w := settleCh_within c s hc
    have time : (settleCh c s).time = s.time := w.parts .time (by decide)
    have us := State.us_congr time
    refine ⟨hsys.trans (w.parts .sys (by decide)).1, htime.trans time, fun d hd => ?_, fun d hd => ?_⟩
    · rcases List.mem_cons.mp hd with rfl | hd
      · show ∀ e ∈ ((forEach l settleCh (settleCh d s)).sq d).next, s.us < e.1
        rw [hout d fresh]
        exact settleCh_next d s hc
      · exact us ▸ hin d hd
    · exact (hout d (List.not_mem_of_not_mem_cons hd)).trans (settleCh_sq_ne c d s hc (List.ne_of_not_mem_cons hd))

theorem State.settle_settled (s : State) : s.settle.Settled := by
  rw [State.settle]
  have w := settleDev_within s
  have time : (settleDev s).time = s.time := w.parts .time (by decide)
  obtain ⟨hsys, htime, hin, -⟩ := forEach_settleCh_next (List.range 64) (settleDev s) (fun c hc => List.mem_range.mp hc) List.nodup_range
  have us := State.us_congr (htime.trans time)
  refine ⟨fun e he => ?_, fun c hc e he => ?_⟩
  · rw [us]
    exact settleDev_next s e (hsys ▸ he)
  · rw [us, ← State.us_congr time]
    exact hin c (List.mem_range.mpr hc) e he

/-- A command of a device time acts in a settled state. -/
theorem State.Awake.settled {s a : State} {n : Nat} (h : s.Awake n a) : a.Settled := by
  rw [h.1, State.upTo, State.arrive]
  exact State.settle_settled _

end Sys2Proof.Machine
end

section
/-!
PROOFS about records and triggers of the device (R29, R577 to R582): what a record's entry keeps to, and that what has been raised stays raised.
-/
set_option Elab.async false -- one proof after the other: checking the whole text at once takes more memory than the check allows
namespace Sys2Proof.Machine

/-! ## Records -/

theorem State.enterRecord_within (s : State) (r : ErrRec) (hx : inUnits [0x68] r.subject.openAddr = true) :
    s.Within (s.enterRecord r) [.err] [0x68] := by
  have h := State.Within.refl s [.err] [0x68]
  rw [s.enterRecord_rest r]
  rcases s.enterRecord_regs r with e | ⟨v, e⟩
  · rw [e]
    exact h.err _
  · rw [e]
    exact (h.setReg _ v hx).err _

/-- A record that has been raised stays, whatever enters beside it. -/
theorem State.Raised.enterRecord {s : State} {cls d : Nat} {x : Subject} (h : s.Raised cls d x) (r : ErrRec) :
    (s.enterRecord r).Raised cls d x := by
  obtain ⟨y, hy, hcls, hd, hx⟩ := h
  have kept : ∀ g : ErrRec → ErrRec, (g y).cls = cls ∧ (g y).detail = d ∧ (g y).subject = x → ∀ l : List ErrRec,
      ∃ z ∈ s.err.held.map g ++ l, z.cls = cls ∧ z.detail = d ∧ z.subject = x :=
    fun g hg l => ⟨g y, List.mem_append_left _ (List.mem_map_of_mem hy), hg⟩
  unfold State.enterRecord State.Raised
  dsimp only
  split
  · split
    · exact ⟨y, by simp [hy], hcls, hd, hx⟩
    · refine kept _ ?_ _
      split <;> exact ⟨hcls, hd, hx⟩
  · split
    · exact ⟨y, by simp [hy], hcls, hd, hx⟩
    · refine kept _ ?_ _
      split <;> exact ⟨hcls, hd, hx⟩

theorem State.recordDisplaced_within (s : State) (x : Subject) (m n : Nat) (hx : inUnits [0x68] x.openAddr = true) :
    s.Within (s.recordDisplaced x m n) [.err] [0x68] := s.enterRecord_within _ hx

/-- Raising an INFO, WARN, CHANNEL or UNIT record without the fault mark is its entry. -/
theorem State.raise_low_within (s : State) (cls : Nat) (x : Subject) (d : Nat) (args : List Int) (h4 : cls ≠ 4) (h5 : cls ≠ 5)
    (hx : inUnits [0x68] x.openAddr = true := by decide) : s.Within (s.raise cls false x d args) [.err] [0x68] := by
  rw [s.raise_low cls x d args h4 h5]
  exact s.enterRecord_within _ hx

/-- A DEVICE error enters its record, and besides displaces a record in HALT or asks for SAFE_STOP (R29, R577). -/
theorem State.devErr_within (s : State) (d : Nat) (args : List Int) : s.Within (s.devErr d args) [.err, .sys] [0x68] := by
  unfold State.devErr State.raise
  extract_lets entered
  have h : s.Within entered [.err, .sys] [0x68] := (s.enterRecord_within _ (by decide : inUnits [0x68] (Subject.openAddr ⟨0, 0⟩) = true)).mono (by decide) (by decide)
  refine .ite (fun h5 => absurd h5 (by decide)) fun _ => .ite (fun _ => ?_) fun h4 => absurd rfl h4
  refine .ite (fun _ => ?_) fun _ => .ite (fun _ => h.sys _) fun _ => h
  exact h.andThen (entered.recordDisplaced_within ⟨0, 0⟩ 4 5 (by decide)) (by decide) (by decide)

theorem State.devErr_raised (s : State) (d : Nat) (args : List Int) : (s.devErr d args).Raised 4 d ⟨0, 0⟩ := by
  unfold State.devErr State.raise
  extract_lets entered
  have h : entered.Raised 4 d ⟨0, 0⟩ := by
    obtain ⟨r, hr, hc, hd, hx, -⟩ := s.enterRecord_held { cls := 4, subject := ⟨0, 0⟩, detail := d, time := s.ns, clk := s.time.clk, epoch := s.cmd.epoch, unstepped := s.get F.TIME_STATE == 0, origin := s.originByte, args := args }
    exact ⟨r, hr, hc, hd, hx⟩
  split
  · contradiction
  · split
    · split
      · exact h.enterRecord _
      · split
        · exact h
        · exact h
    · contradiction

/-! ## The device's requests and triggers -/

/-- One due request of DEV_STATE that R28 holds joins the triggers. -/
theorem State.requestsAct_joins (a : State) (f : Nat) (r : DevTrigger) (hr : a.sys.requests = [r]) (due : r.at_ ≤ f)
    (ok : a.requestCheck (requestBit r.cause) (a.devAt f) = none) :
    a.requestsAct f = { a with sys := { a.sys with requests := [] } }.addDevTrigger { r with at_ := f } := by
  have one : a.sys.requests.filter (fun (t : DevTrigger) => decide (t.at_ ≤ f)) = [r] := by simp [hr, due]
  have rest : a.sys.requests.filter (fun (t : DevTrigger) => !decide (t.at_ ≤ f)) = [] := by simp [hr, due]
  unfold State.requestsAct
  rw [one, rest]
  exact if_pos (Option.isNone_iff_eq_none.mpr ok)

/-- One due request that R28 does not hold lapses. -/
theorem State.requestsAct_lapses (a : State) (f : Nat) (r : DevTrigger) (hr : a.sys.requests = [r]) (due : r.at_ ≤ f)
    (bad : (a.requestCheck (requestBit r.cause) (a.devAt f)).isSome = true) :
    a.requestsAct f = { a with sys := { a.sys with requests := [] } }.info ⟨0, 0⟩ 0x0013 [r.target] := by
  have one : a.sys.requests.filter (fun (t : DevTrigger) => decide (t.at_ ≤ f)) = [r] := by simp [hr, due]
  have rest : a.sys.requests.filter (fun (t : DevTrigger) => !decide (t.at_ ≤ f)) = [] := by simp [hr, due]
  unfold State.requestsAct
  rw [one, rest]
  exact if_neg fun none => absurd (Option.isNone_iff_eq_none.mp none) (Option.isSome_iff_ne_none.mp bad)

/-- What the device has decided, in the parts that DEV_STATE_REQUEST_ACT does not touch, stays settled. -/
theorem State.Within.settled {a b : State} {ps : List Part} {us : List Nat} (h : a.Within b ps us) (ha : a.Settled)
    (hn : b.sys.next = a.sys.next) (hs : .seq ∉ ps := by decide) (ht : .time ∉ ps := by decide) : b.Settled :=
  ha.congr hn (fun c => by rw [State.sq_congr (h.parts .seq hs).2]) (h.parts .time ht)

theorem State.Within.get {a b : State} {ps : List Part} {us : List Nat} (h : a.Within b ps us) (f : Fld)
    (hf : inUnits us f.addr = false := by decide) : b.get f = a.get f := State.get_congr f (h.words _ hf)

theorem State.Within.dev {a b : State} {ps : List Part} {us : List Nat} (h : a.Within b ps us)
    (hu : inUnits us F.SYS_DEV_STATE_STATE.addr = false := by decide) : b.dev = a.dev := h.get _ hu

end Sys2Proof.Machine
end

section
/-!
PROOFS about entering device states (R26, R28, R48): the words and the pin that an entry leaves, HALT at once, what the falling edges into HALT
keep to, and the journal's words.
-/
set_option Elab.async false -- one proof after the other: checking the whole text at once takes more memory than the check allows
namespace Sys2Proof.Machine

/-- A field that shares no bit with the one written reads as before. -/
theorem State.get_put_apart (s : State) (f g : Fld) (v : Nat) (hf : f.lo + f.width ≤ 32)
    (h : g.addr ≠ f.addr ∨ g.lo + g.width ≤ f.lo ∨ f.lo + f.width ≤ g.lo) : (s.put f v).get g = s.get g := by
  by_cases e : g.addr = f.addr
  · exact s.get_put_disjoint f g v hf e (h.resolve_left (not_not_intro e))
  · exact s.get_put_other_word f g v e

/-! ## Entering HALT ends the pulses (R222, R539) -/

theorem tableWord_unit (u w n k i : Nat) (hk : k < n) (hw : w + i * n < 65536) : inUnits [u] (wordAddr u (w + i * k)) = true := by
  have hik : i * k ≤ i * n := Nat.mul_le_mul_left i (Nat.le_of_lt hk)
  rw [inUnits_wordAddr _ _ _ (by omega)]
  exact List.contains_iff_mem.mpr List.mem_cons_self

theorem State.trigLow_within (s : State) (k : Nat) : s.Within (s.trigLow k) [.time] [] := by
  have h : s.Within (s.setTrig k { s.trig k with level := false }) [.time] [] := (State.Within.refl s [.time] []).time _
  unfold State.trigLow State.trigPin
  exact .ite (fun _ => .ite (fun _ => h.emit _) fun _ => h) fun _ => .refl s _ _

theorem State.trigHalt_within (s : State) : s.Within s.trigHalt [.time] [] := by
  refine State.Within.forEach _ _ (.refl s _ _) fun k _ t h => ?_
  have low : s.Within (t.trigLow k) [.time] [] := h.trans (t.trigLow_within k)
  exact .ite (fun _ => low.time _) fun _ => low

theorem State.lampLow_within (s : State) (n : Nat) (hn : n < 8) : s.Within (s.lampLow n) [.light] [0x58] := by
  unfold State.lampLow State.lightPin
  extract_lets x shown
  have h : s.Within shown [.light] [0x58] :=
    ((State.Within.refl s [.light] [0x58]).light _).putB _ _ (tableWord_unit 0x58 0x109 8 n 0x10 hn (by decide))
  exact .ite (fun _ => .ite (fun _ => h.emit _) fun _ => h) fun _ => .refl s _ _

theorem State.lightHalt_within (s : State) : s.Within s.lightHalt [.light] [0x58] := by
  refine State.Within.forEach _ _ (.refl s _ _) fun n hn t h => ?_
  have low : s.Within (t.lampLow n) [.light] [0x58] := h.trans (t.lampLow_within n (List.mem_range.mp hn))
  exact .ite (fun _ => low.light _) fun _ => low

theorem haltEdge_within (old new : State) : new.Within (haltEdge old new) [.time, .light] [0x58] := by
  unfold haltEdge
  exact .ite (fun _ => (new.trigHalt_within.mono (by decide) (by decide)).andThen new.trigHalt.lightHalt_within (by decide) (by decide))
    fun _ => .refl new _ _

/-! ## The entry itself -/

/-- The word DEV_STATE after an entry is what the entry has put there. -/
theorem State.enterDev_reg (s : State) (st cause : Nat) : (s.enterDev st cause).reg (wordAddr 0x00 0x10)
    = ((((s.entryEpoch st).put F.SYS_DEV_STATE_STATE st).put F.SYS_DEV_STATE_CAUSE cause).put F.SYS_DEV_STATE_EPOCH_LOW
        (s.entryEpoch st).cmd.epoch).reg (wordAddr 0x00 0x10) := by
  unfold State.enterDev
  extract_lets entry shown closed drained watched
  have drainedRegs : drained.regs = closed.regs := by
    show (ite _ _ _ : State).regs = _
    split <;> rfl
  have closedReg : closed.reg (wordAddr 0x00 0x10) = shown.reg (wordAddr 0x00 0x10) := by
    show (ite _ _ _ : State).reg _ = _
    split
    · exact shown.reg_setReg_ne _ _ _ (by decide)
    · rfl
  refine (State.reg_congr (s := closed) ?_ _).trans closedReg
  exact drainedRegs

theorem State.enterDev_dev (s : State) (st cause : Nat) : (s.enterDev st cause).dev = st % 8 := by
  rw [State.dev, State.get_congr F.SYS_DEV_STATE_STATE (s.enterDev_reg st cause),
    State.get_put_apart, State.get_put_apart, State.get_put_same]
  · rfl
  all_goals decide

theorem State.enterDev_cause (s : State) (st cause : Nat) : (s.enterDev st cause).get F.SYS_DEV_STATE_CAUSE = cause % 16 := by
  rw [State.get_congr F.SYS_DEV_STATE_CAUSE (s.enterDev_reg st cause),
    State.get_put_apart, State.get_put_same]
  · rfl
  all_goals decide

theorem State.enterDev_faultLow (s : State) (cause : Nat) : (s.enterDev 5 cause).sys.faultLow = true := rfl

/-! ## The journal's words (R596, R598) -/

theorem State.showJournal_within (s : State) : s.Within s.showJournal [] [0x04, 0x68] := by
  have h := State.Within.refl s [] [0x04, 0x68]
  unfold State.showJournal
  exact ((((h.putB _ _).putB _ _).putB _ _).put _ _).putB _ _

theorem State.checkpointFail_within (s : State) : s.Within s.checkpointFail [.journal, .err] [0x04, 0x68] := by
  unfold State.checkpointFail
  split
  · exact .refl s _ _
  · rename_i r t _
    have h := State.Within.refl s [.journal, .err] [0x04, 0x68]
    exact (((h.journal _).andThen (State.showJournal_within _) (by decide) (by decide)).mark F.ERR_JSTAT_WRITE_FAIL 1).andThen
      (State.raise_low_within _ 3 ⟨1, 0x68⟩ 0x6820 [r.number] (by decide) (by decide)) (by decide) (by decide)

theorem State.parkedFail_within (s : State) : s.Within s.parkedFail [.journal, .err] [0x04, 0x68] := by
  unfold State.parkedFail
  split
  · exact .ite (fun _ => s.checkpointFail_within) fun _ => .refl s _ _
  · exact .refl s _ _

end Sys2Proof.Machine
end

section
/-!
PROOFS about the device's requests at their apply instant and HALT behind parked scanners (R28, R29, R598, R614).
-/
set_option Elab.async false -- one proof after the other: checking the whole text at once takes more memory than the check allows
namespace Sys2Proof.Machine

/-! ## What a command leaves -/

theorem State.dev_congr {s t : State} (h : t.regs = s.regs) : t.dev = s.dev := State.get_congr _ (State.reg_congr h _)

theorem State.Within.sys_eq {a b : State} {ps : List Part} {us : List Nat} (h : a.Within b ps us) (hq : .sys ∉ ps := by decide) :
    b.sys = a.sys := (h.parts .sys hq).1

theorem State.Within.cmd_eq {a b : State} {ps : List Part} {us : List Nat} (h : a.Within b ps us) (hq : .cmd ∉ ps := by decide) :
    b.cmd = a.cmd := (h.parts .cmd hq).1

theorem State.Within.seq_eq {a b : State} {ps : List Part} {us : List Nat} (h : a.Within b ps us) (hq : .seq ∉ ps := by decide) :
    b.seq = a.seq := (h.parts .seq hq).2

theorem State.Within.time_eq {a b : State} {ps : List Part} {us : List Nat} (h : a.Within b ps us) (hq : .time ∉ ps := by decide) :
    b.time = a.time := h.parts .time hq

/-- What is read of SYS apart from the levels of the reset pins is as the body has left it. -/
theorem State.Ends.of_sys {s t u : State} (h : s.Ends t u) {α : Type} (g : SysSt → α)
    (hg : ∀ y p r, g { y with porst := p, sysrst := r } = g y := by intros; rfl) : g u.sys = g t.sys := by
  rw [h.sys, hg]

/-- A command of a device that is awake, whose body leaves `b` and does not bring it into HALT. -/
theorem State.Awake.runs {s a b : State} {n : Nat} {i : Instr} {P : State → Prop} (ha : s.Awake n a) (g : State → State)
    (hx : exec i s = .next (s.row (fun s => g (s.arrive n)))) (hb : g a = b) (hd : b.dev = 5 → a.dev = 5)
    (hP : ∀ u, s.Ends b u → P u) : Runs i s P :=
  ⟨_, hx, hP _ (hb ▸ ha.row g (hb ▸ hd))⟩

/-- A command of a device that is awake, whose body may bring it into HALT. -/
theorem State.Awake.runs_edge {s a : State} {n : Nat} {i : Instr} {P : State → Prop} (ha : s.Awake n a) (g : State → State)
    (hx : exec i s = .next (s.row (fun s => g (s.arrive n)))) (hP : ∀ u, s.Ends (haltEdge s.begin (g a)) u → P u) : Runs i s P := by
  obtain ⟨eq, up, -⟩ := ha
  have h := s.row_ends (fun s => g (s.arrive n)) up
  rw [← State.upTo, ← eq] at h
  exact ⟨_, hx, hP _ h⟩

/-- A change of a pin's level on a device that is awake, whose body may bring it into HALT. -/
theorem State.Awake.runs_pin {s a : State} {n : Nat} {i : Instr} {P : State → Prop} (ha : s.Awake n a) (g k : State → State)
    (hx : exec i s = .next (s.pinRow (fun s => g (s.arrive n)) k)) (hP : ∀ u, s.Ends (haltEdge s.begin (g a)) u → P u) : Runs i s P := by
  obtain ⟨eq, up, -⟩ := ha
  have h := s.pinRow_ends (fun s => g (s.arrive n)) k up
  rw [← State.upTo, ← eq] at h
  exact ⟨_, hx, hP _ h⟩

/-- A change of a pin's level, in any state. -/
theorem State.runs_pin_anywhere {s : State} {i : Instr} {P : State → Prop} (f k : State → State) (hx : exec i s = .next (s.pinRow f k))
    (hP : ∀ u, s.Ends (haltEdge s.begin (f s.begin)) u → P u) (hQ : ∀ u, s.Ends (k s.begin) u → P u) : Runs i s P := by
  refine ⟨_, hx, ?_⟩
  by_cases up : s.inReset = false
  · exact hP _ (s.pinRow_ends f k up)
  · exact hQ _ (s.pinRow_ends_in_reset f k (Bool.eq_true_of_not_eq_false up))

/-! ## Decided transitions -/

/-- Settling a state in which only a device transition was due is that transition. -/
theorem State.settle_of_settleDev {s t : State} (hd : settleDev s = t) (ht : t.Settled) : s.settle = t := by
  have h := ht.settle
  rw [State.settle, settleDev_settled t ht.dev] at h
  rw [State.settle, hd]
  exact h

/-- In a settled state the state decided for an instant that is reached is the present one. -/
theorem State.Settled.devAt {s : State} (h : s.Settled) {f : Nat} (hf : f ≤ s.us) : s.devAt f = s.dev := by
  rw [State.devAt, filter_le_eq_nil _ _ fun e he => Nat.lt_of_le_of_lt hf (h.dev e he)]
  rfl

/-- One transition decided for an instant that is reached, in a state settled before it, is entered (R29). -/
theorem State.Settled.settle_decided {a b : State} (ha : a.Settled) {f st cause : Nat} (hf : f ≤ a.us)
    (hn : b.sys.next = a.sys.next ++ [(f, st, cause)]) (hs : b.seq = a.seq) (ht : b.time = a.time) :
    b.settle = { b with sys := { b.sys with next := a.sys.next } }.enterDev st cause := by
  have us := State.us_congr ht
  have due : b.sys.next.filter (fun e => decide (e.1 ≤ b.us)) = [(f, st, cause)] := by
    rw [hn, us, List.filter_append, filter_le_eq_nil _ _ ha.dev]
    simp [hf]
  have rest : b.sys.next.filter (fun e => !decide (e.1 ≤ b.us)) = a.sys.next := by
    rw [hn, us, List.filter_append, List.filter_eq_self.mpr fun e he => by simpa using ha.dev e he]
    simp [hf]
  refine State.settle_of_settleDev ?_ ?_
  · unfold settleDev
    dsimp only
    rw [due, rest]
    rfl
  · have w := State.enterDev_within { b with sys := { b.sys with next := a.sys.next } } st cause
    exact ha.congr (State.enterDev_next _ _ _) (fun c => by rw [State.sq_congr ((w.parts .seq (by decide)).2.trans hs)])
      ((w.parts .time (by decide)).trans ht)

/-- The body of HALT_AFTER_PARK at the instant that R598 has set enters HALT. -/
theorem State.Settled.haltAfterPark {a : State} (ha : a.Settled) {f : Nat} (at_ : a.sys.haltAt = some f) (stopped : a.devAt f = 4) (hf : f ≤ a.us) :
    (a.haltAfterPark f).dev = 5 ∧ (a.haltAfterPark f).get F.SYS_DEV_STATE_CAUSE = 9 ∧ (a.haltAfterPark f).sys.faultLow = true := by
  let decided : State := { a.decideDev f 5 9 with sys := { (a.decideDev f 5 9).sys with haltAt := some f } }
  have decides : a.haltDecide f = decided := by
    unfold State.haltDecide
    simp only [at_, stopped]
    rw [if_neg (by simp)]
  let waits : State := { decided with sys := { decided.sys with next := a.sys.next } }
  have settles : (a.haltDecide f).settle = waits.enterDev 5 9 := by
    rw [decides]
    exact ha.settle_decided hf rfl rfl rfl
  unfold State.haltAfterPark
  rw [if_neg (not_not_intro at_), settles]
  extract_lets t
  have failed : (waits.enterDev 5 9).Within t [.journal, .err] [0x04, 0x68] := State.parkedFail_within _
  refine ⟨?_, ?_, ?_⟩
  · show t.dev = 5
    rw [failed.dev, State.enterDev_dev]
  · show t.get F.SYS_DEV_STATE_CAUSE = 9
    rw [failed.get _, State.enterDev_cause]
  · show t.sys.faultLow = true
    rw [failed.sys_eq, State.enterDev_faultLow]

/-- Settles O2: the body's requests join or lapse in a settled state, which stays settled; HALT behind parked scanners is the one transition
that is due. -/
theorem deviceRequestsAct : Obligations.DeviceRequestsAct := by
  unfold Obligations.DeviceRequestsAct
  refine ⟨fun s a f r ha hr due ok => ?_, fun s a f r ha hr due bad => ?_, fun s a f ha at_ stopped hf => ?_⟩
  · have w : a.Within ({ a with sys := { a.sys with requests := [] } }.addDevTrigger { r with at_ := f }) [.sys] [] :=
      ((State.Within.refl a [.sys] []).sys _).sys _
    have body : (a.requestsAct f).settle = { a with sys := { a.sys with requests := [] } }.addDevTrigger { r with at_ := f } := by
      rw [a.requestsAct_joins f r hr due ok]
      exact (w.settled ha.settled rfl).settle
    refine ha.runs (fun x => (x.requestsAct f).settle) rfl body w.dev.symm.trans fun u h => ?_
    exact ⟨h.of_sys SysSt.requests, h.of_sys SysSt.triggers⟩
  · have cleared : a.Within { a with sys := { a.sys with requests := [] } } [.sys] [] := (State.Within.refl a [.sys] []).sys _
    have w := State.raise_low_within { a with sys := { a.sys with requests := [] } } 0 ⟨0, 0⟩ 0x0013 [r.target] (by decide) (by decide)
    have sys := w.sys_eq
    have body : (a.requestsAct f).settle = { a with sys := { a.sys with requests := [] } }.info ⟨0, 0⟩ 0x0013 [r.target] := by
      rw [a.requestsAct_lapses f r hr due bad]
      exact (w.settled (cleared.settled ha.settled rfl) (congrArg SysSt.next sys)).settle
    refine ha.runs (fun x => (x.requestsAct f).settle) rfl body (w.dev.trans cleared.dev).symm.trans fun u h => ?_
    refine ⟨(h.of_sys SysSt.requests).trans (congrArg SysSt.requests sys :), (h.of_sys SysSt.triggers).trans (congrArg SysSt.triggers sys :), ?_⟩
    exact h.raised (State.raise_low_raised _ 0 _ _ _ (by decide) (by decide))
  · obtain ⟨dev, cause, fault⟩ := ha.settled.haltAfterPark at_ stopped hf
    refine ha.runs_edge (fun x => x.haltAfterPark f) rfl fun u h => ?_
    have edge := haltEdge_within s.begin (a.haltAfterPark f)
    refine ⟨(h.dev.trans edge.dev).trans dev, ((h.get _).trans (edge.get _)).trans cause, ?_⟩
    exact ((h.of_sys SysSt.faultLow).trans (congrArg SysSt.faultLow edge.sys_eq)).trans fault

end Sys2Proof.Machine
end

section
/-!
PROOFS about the safety pins (R28, R30, R46, R47, R484).
-/
set_option Elab.async false -- one proof after the other: checking the whole text at once takes more memory than the check allows
namespace Sys2Proof.Machine

theorem State.triggerDev_cases (s : State) (target cause : Nat) :
    s.triggerDev target cause = s ∨ s.triggerDev target cause = s.addDevTrigger { at_ := s.nextFix, target := target, cause := cause } := by
  unfold State.triggerDev
  split
  · exact .inr rfl
  · exact .inl rfl

/-- A protective edge adds triggers, and leaves what else SYS holds. -/
theorem State.safetyEdge_cases (s : State) :
    s.safetyEdge = s ∨ s.safetyEdge = s.addDevTrigger { at_ := s.nextFix, target := 4, cause := 6 } := by
  unfold State.safetyEdge
  split
  · exact .inl rfl
  · exact s.triggerDev_cases 4 6

theorem State.setEstop_estop (s : State) (b : Bool) : (s.setEstop b).sys.estop = b := by
  unfold State.setEstop
  extract_lets was old level
  split
  · rcases level.safetyEdge_cases with h | h
    · rw [h]
    · rw [h]
      rfl
  · rfl

theorem State.setLaser_laserEnable (s : State) (b : Bool) : (s.setLaser b).sys.laserEnable = b := by
  unfold State.setLaser
  extract_lets was old level
  split
  · rcases level.safetyEdge_cases with h | h
    · rw [h]
    · rw [h]
      rfl
  · rfl

/-- A protective edge on an ALONE device that builds adds the trigger of SAFE_STOP. -/
theorem State.safetyEdge_stops (s : State) (alone : s.pairRole = 0) (runs : s.devAt s.nextFix = 2 ∨ s.devAt s.nextFix = 3) :
    s.safetyEdge.sys.triggers = s.sys.triggers ++ [{ at_ := s.nextFix, target := 4, cause := 6 }] := by
  have held : devTransition (s.devAt s.nextFix) 6 = some 4 := if_pos runs
  unfold State.safetyEdge
  rw [if_neg (by simp [alone]), State.triggerDev, if_pos (.inr held)]
  rfl

theorem State.setEstop_stops (a : State) (high : a.sys.estop = false) (alone : a.pairRole = 0) (runs : a.devAt a.nextFix = 2 ∨ a.devAt a.nextFix = 3) :
    (a.setEstop true).sys.triggers = a.sys.triggers ++ [{ at_ := a.nextFix, target := 4, cause := 6 }] := by
  unfold State.setEstop
  rw [if_pos (by simp [high])]
  exact State.safetyEdge_stops { a with sys := { a.sys with estop := true } } alone runs

theorem State.setLaser_stops (a : State) (on : a.sys.laserEnable = true) (alone : a.pairRole = 0) (runs : a.devAt a.nextFix = 2 ∨ a.devAt a.nextFix = 3) :
    (a.setLaser false).sys.triggers = a.sys.triggers ++ [{ at_ := a.nextFix, target := 4, cause := 6 }] := by
  unfold State.setLaser
  rw [if_pos (by simp [on])]
  exact State.safetyEdge_stops { a with sys := { a.sys with laserEnable := false } } alone runs

/-- What a command on an awake device leaves of SYS, where its body may bring the device into HALT. -/
theorem State.Ends.of_sys_edge {s b u : State} (h : s.Ends (haltEdge s.begin b) u) {α : Type} (g : SysSt → α)
    (hg : ∀ y p r, g { y with porst := p, sysrst := r } = g y := by intros; rfl) : g u.sys = g b.sys := by
  rw [h.of_sys g hg, (haltEdge_within s.begin b).sys_eq]

/-- Settles O3: outside reset by what the edge does to SYS, in reset by the level alone. -/
theorem safetyPinsAreFollowed : Obligations.SafetyPinsAreFollowed := by
  unfold Obligations.SafetyPinsAreFollowed
  refine ⟨fun s t => ?_, fun s a t ha high alone runs => ?_, fun s t => ?_, fun s t => ?_, fun s a t ha on alone runs => ?_, fun s t => ?_⟩
  · exact State.runs_pin_anywhere _ _ rfl (fun u h => (h.of_sys_edge SysSt.estop).trans (State.setEstop_estop _ _)) fun u h => h.of_sys SysSt.estop
  · exact ha.runs_pin (fun s => s.setEstop true) _ rfl fun u h => (h.of_sys_edge SysSt.triggers).trans (a.setEstop_stops high alone runs)
  · exact State.runs_pin_anywhere _ _ rfl (fun u h => (h.of_sys_edge SysSt.estop).trans (State.setEstop_estop _ _)) fun u h => h.of_sys SysSt.estop
  · exact State.runs_pin_anywhere _ _ rfl (fun u h => (h.of_sys_edge SysSt.laserEnable).trans (State.setLaser_laserEnable _ _))
      fun u h => h.of_sys SysSt.laserEnable
  · exact ha.runs_pin (fun s => s.setLaser false) _ rfl fun u h => (h.of_sys_edge SysSt.triggers).trans (a.setLaser_stops on alone runs)
  · exact State.runs_pin_anywhere _ _ rfl (fun u h => (h.of_sys_edge SysSt.laserEnable).trans (State.setLaser_laserEnable _ _))
      fun u h => h.of_sys SysSt.laserEnable

end Sys2Proof.Machine
end

section
/-!
PROOFS about power, clock and strap events (R39, R49, R53, R64, R130, R519).
-/
set_option Elab.async false -- one proof after the other: checking the whole text at once takes more memory than the check allows
namespace Sys2Proof.Machine

/-! ## HALT at once (R29) -/

theorem State.haltNow_within_entry (s : State) (h : s.dev ≠ 5) :
    ({ s with sys := { s.sys with next := [] } }.enterDev 5 0xA).Within s.haltNow [.err] [0x68] := by
  unfold State.haltNow
  rw [if_neg h]
  refine State.Within.forEach _ _ (.refl _ _ _) fun e _ t w => ?_
  exact w.trans (t.recordDisplaced_within ⟨0, 0⟩ _ _ (by decide))

/-- A device that halts at once is in HALT with CAUSE 0xA, and FAULT_N is low. -/
theorem State.haltNow_halts (s : State) (h : s.dev ≠ 5) :
    s.haltNow.dev = 5 ∧ s.haltNow.get F.SYS_DEV_STATE_CAUSE = 0xA ∧ s.haltNow.sys.faultLow = true := by
  have w := s.haltNow_within_entry h
  refine ⟨?_, ?_, ?_⟩
  · rw [w.dev, State.enterDev_dev]
  · rw [w.get _, State.enterDev_cause]
  · rw [w.sys_eq, State.enterDev_faultLow]

/-- What is read of SYS apart from the triggers, FAULT_N and the watch on a safe stop is what the entry's epoch leaves. -/
theorem State.enterDev_of_sys_epoch (s : State) (st cause : Nat) {α : Type} (g : SysSt → α)
    (hg : ∀ y t f e, g { y with triggers := t, faultLow := f, safeEntry := e } = g y := by intros; rfl) :
    g (s.enterDev st cause).sys = g (s.entryEpoch st).sys := by
  unfold State.enterDev
  extract_lets entry shown closed drained watched
  have hclosed : entry.Within closed [] [0x00, 0x68] := by
    have hshown : entry.Within shown [] [0x00, 0x68] := (((State.Within.refl entry [] [0x00, 0x68]).put _ _).put _ _).put _ _
    exact .ite (fun _ => hshown.setReg _ _) fun _ => hshown
  have hdrained : g drained.sys = g closed.sys := by
    unfold drained
    split
    · exact hg closed.sys _ closed.sys.faultLow closed.sys.safeEntry
    · rfl
  exact (hg drained.sys drained.sys.triggers _ _).trans (hdrained.trans (congrArg g hclosed.sys_eq))

/-- What is read of SYS apart from the first READY, the triggers, FAULT_N and the watch on a safe stop is as before an entry. -/
theorem State.enterDev_of_sys (s : State) (st cause : Nat) {α : Type} (g : SysSt → α)
    (hg : ∀ y t f e, g { y with triggers := t, faultLow := f, safeEntry := e } = g y := by intros; rfl)
    (hr : ∀ y r, g { y with readyOnce := r } = g y := by intros; rfl) : g (s.enterDev st cause).sys = g s.sys := by
  refine (s.enterDev_of_sys_epoch st cause g hg).trans ?_
  unfold State.entryEpoch
  split
  · exact hr s.sys true
  · rfl

/-- Halting at once leaves what is latched of the PLL and the analog trip. -/
theorem State.haltNow_latches (s : State) (h : s.dev ≠ 5) : s.haltNow.sys.pll = s.sys.pll ∧ s.haltNow.sys.thermtripLow = s.sys.thermtripLow := by
  rw [(s.haltNow_within_entry h).sys_eq]
  exact ⟨State.enterDev_of_sys _ 5 0xA SysSt.pll, State.enterDev_of_sys _ 5 0xA SysSt.thermtripLow⟩

/-- A DEVICE error adds a trigger to SYS at most. -/
theorem State.devErr_of_sys (s : State) (d : Nat) (args : List Int) {α : Type} (g : SysSt → α)
    (hg : ∀ y t, g { y with triggers := t } = g y := by intros; rfl) : g (s.devErr d args).sys = g s.sys := by
  unfold State.devErr State.raise
  extract_lets entered
  have same : g entered.sys = g s.sys :=
    congrArg g (s.enterRecord_within _ (by decide : inUnits [0x68] (Subject.openAddr ⟨0, 0⟩) = true)).sys_eq
  rw [if_neg (by decide), if_pos rfl]
  refine Eq.trans ?_ same
  split
  · rw [(entered.recordDisplaced_within ⟨0, 0⟩ 4 5 (by decide)).sys_eq]
  · split
    · exact hg _ _
    · rfl

/-! ## The events -/

theorem State.pwrfailAssert_sees (s : State) (h : s.sys.pwrfail = false) :
    s.pwrfailAssert.sys.pwrfail = true ∧ s.pwrfailAssert.sys.pwrfailSeen = true ∧ s.pwrfailAssert.journal.pwrfailDue = true
      ∧ s.pwrfailAssert.Raised 4 0x0031 ⟨0, 0⟩ := by
  unfold State.pwrfailAssert
  rw [if_neg (by simp [h])]
  extract_lets j old seen
  have shown := seen.showJournal_within
  have raised := seen.showJournal.devErr_within 0x0031 []
  refine ⟨?_, ?_, ?_, State.devErr_raised _ _ _⟩
  · rw [State.devErr_of_sys _ _ _ SysSt.pwrfail, shown.sys_eq]
  · rw [State.devErr_of_sys _ _ _ SysSt.pwrfailSeen, shown.sys_eq]
  · rw [(raised.parts .journal (by decide)).1, (shown.parts .journal (by decide)).1]

theorem State.pllLoss_halts (s : State) (locked : s.sys.pll = true) (h : s.dev ≠ 5) :
    s.pllLoss.sys.pll = false ∧ s.pllLoss.dev = 5 ∧ s.pllLoss.get F.SYS_DEV_STATE_CAUSE = 0xA ∧ s.pllLoss.sys.faultLow = true := by
  unfold State.pllLoss
  rw [if_neg (by simp [locked])]
  extract_lets old lost
  rw [if_neg (show lost.dev ≠ 5 from h)]
  exact ⟨(lost.haltNow_latches h).1, lost.haltNow_halts h⟩

theorem State.pllLock_locks (s : State) : s.pllLock.sys.pll = true ∧ (s.pllLock.sys.pllOnce = true ∨ s.sys.pll = true) := by
  unfold State.pllLock
  split
  · exact ⟨‹_›, .inr ‹_›⟩
  · dsimp only
    split
    · exact ⟨rfl, .inl rfl⟩
    · exact ⟨rfl, .inl rfl⟩

theorem State.losePath_pcie (s : State) : (s.losePath .pcie).pathLost .pcie = true := by
  unfold State.losePath
  split
  · exact ‹_›
  · rfl

theorem State.get_mark_same (s : State) (f : Fld) (h : f.lo + 1 ≤ 32) (hw : f.width = 1) : (s.mark f).get f = 1 := by
  have e : (s.mark f).get f = (s.put f (s.get f ||| 1)).get f := rfl
  rw [e, State.get_put_same _ _ _ (by omega), hw]
  rw [show (2 ^ 1 : Nat) = 2 from rfl, Nat.or_mod_two_eq_one.mpr (.inr rfl)]

/-- Live straps that come to differ from the latch are marked and noted. -/
theorem State.strapsSeen_differ (s : State) (differ : s.sys.straps % 256 ≠ (s.reg F.SYS_STRAPS_POS.addr).toNat % 256)
    (first : s.sys.strapMismatch = false) : s.strapsSeen.sys = { s.sys with strapMismatch := true } ∧ s.strapsSeen.get F.SYS_STRAPS_MISMATCH = 1 := by
  have marked := (State.Within.refl s [] [0x00]).mark F.SYS_STRAPS_MISMATCH 1
  have e : s.strapsSeen = { s.mark F.SYS_STRAPS_MISMATCH with
      sys := { (s.mark F.SYS_STRAPS_MISMATCH).sys with strapMismatch := true } }.warn ⟨0, 0⟩ Config.strapDetail.toNat := by
    unfold State.strapsSeen
    exact (if_neg differ).trans (if_neg (by rw [marked.sys_eq, first]; exact Bool.false_ne_true))
  have w := State.raise_low_within { s.mark F.SYS_STRAPS_MISMATCH with
    sys := { (s.mark F.SYS_STRAPS_MISMATCH).sys with strapMismatch := true } } 1 ⟨0, 0⟩ Config.strapDetail.toNat [] (by decide) (by decide)
  rw [e]
  have noted := (State.Within.refl (s.mark F.SYS_STRAPS_MISMATCH) [.sys] []).sys { (s.mark F.SYS_STRAPS_MISMATCH).sys with strapMismatch := true }
  refine ⟨?_, ((w.get _).trans (noted.get _)).trans (State.get_mark_same s _ (by decide) rfl)⟩
  exact w.sys_eq.trans (by rw [marked.sys_eq])

theorem State.strapsLive_seen (s : State) (live : Nat) (differ : live % 256 ≠ (s.reg F.SYS_STRAPS_POS.addr).toNat % 256)
    (first : s.sys.strapMismatch = false) : (s.strapsLive live).sys.straps = live ∧ (s.strapsLive live).sys.strapMismatch = true
      ∧ (s.strapsLive live).get F.SYS_STRAPS_MISMATCH = 1 := by
  unfold State.strapsLive
  obtain ⟨sys, marked⟩ := State.strapsSeen_differ { s with sys := { s.sys with straps := live } } differ first
  exact ⟨by rw [sys], by rw [sys], marked⟩

/-- The analog trip is latched and halts the device, whether or not its log write completes. -/
theorem State.analogTrip_halts (s : State) (logged : Bool) (first : s.sys.thermtripLow = false) (h : s.dev ≠ 5) :
    (s.analogTrip logged).sys.thermtripLow = true ∧ (s.analogTrip logged).dev = 5 ∧ (s.analogTrip logged).get F.SYS_DEV_STATE_CAUSE = 0xA := by
  unfold State.analogTrip
  rw [if_neg (by simp [first])]
  extract_lets old latched tripped
  have latchedDev : latched.dev = s.dev := ((State.Within.refl s [.sys] []).sys _).dev
  obtain ⟨entered, w, dev, e⟩ : ∃ t : State, latched.Within t [.err] [0x68] ∧ t.dev ≠ 5 ∧ tripped = t.haltNow := by
    unfold tripped State.raise
    extract_lets entered
    have w : latched.Within entered [.err] [0x68] :=
      latched.enterRecord_within _ (by decide : inUnits [0x68] (Subject.openAddr ⟨0, 0⟩) = true)
    have dev : entered.dev ≠ 5 := by rw [w.dev, latchedDev]; exact h
    exact ⟨entered, w, dev, (if_pos rfl).trans (if_neg dev)⟩
  have halts := entered.haltNow_halts dev
  have low : tripped.sys.thermtripLow = true := by rw [e, (entered.haltNow_latches dev).2, w.sys_eq]
  have whole : tripped.Within (if logged = true then tripped else
      { tripped with err := { tripped.err with held := tripped.err.held.filter (fun r => r.detail != 0x5040) } }) [.err] [] :=
    .ite (fun _ => .refl _ _ _) fun _ => (State.Within.refl tripped [.err] []).err _
  exact ⟨(congrArg SysSt.thermtripLow whole.sys_eq).trans low, by rw [whole.dev, e, halts.1], by rw [whole.get _, e, halts.2.1]⟩

theorem State.Ends.dev_edge {s b u : State} (h : s.Ends (haltEdge s.begin b) u) : u.dev = b.dev :=
  h.dev.trans (haltEdge_within s.begin b).dev

theorem State.Ends.get_edge {s b u : State} (h : s.Ends (haltEdge s.begin b) u) (f : Fld) (hf : inUnits [0x58] f.addr = false := by decide) :
    u.get f = b.get f := (h.get f).trans ((haltEdge_within s.begin b).get f hf)

theorem State.Ends.host_edge {s b u : State} (h : s.Ends (haltEdge s.begin b) u) : u.host = b.host :=
  h.host.trans ((haltEdge_within s.begin b).parts .host (by decide)).1

theorem State.Ends.journal_edge {s b u : State} (h : s.Ends (haltEdge s.begin b) u) : u.journal = b.journal :=
  h.journal.trans ((haltEdge_within s.begin b).parts .journal (by decide)).1

theorem State.Ends.raised_edge {s b u : State} (h : s.Ends (haltEdge s.begin b) u) {cls d : Nat} {x : Subject} (hr : b.Raised cls d x) :
    u.Raised cls d x := by
  refine h.raised ?_
  unfold State.Raised
  rwa [((haltEdge_within s.begin b).parts .err (by decide)).1]

/-- Settles O5: what each event's body leaves, which stands beside the ends of the pulses where the device enters HALT. -/
theorem powerAndClockEventsAreSeen : Obligations.PowerAndClockEventsAreSeen := by
  unfold Obligations.PowerAndClockEventsAreSeen
  refine ⟨fun s a t ha up => ?_, fun s t => ?_, fun s a t ha locked up => ?_, fun s a t ha => ?_, fun s a t e0 e1 ha => ?_,
    fun s a t live ha differ first => ?_, fun s a t logged ha first up => ?_⟩
  · obtain ⟨low, seen, due, raised⟩ := a.pwrfailAssert_sees up
    refine ha.runs_pin State.pwrfailAssert _ rfl fun u h => ⟨(h.of_sys_edge SysSt.pwrfail).trans low, (h.of_sys_edge SysSt.pwrfailSeen).trans seen, ?_⟩
    exact ⟨(congrArg JournalSt.pwrfailDue h.journal_edge).trans due, h.raised_edge raised⟩
  · exact State.runs_pin_anywhere _ _ rfl (fun u h => h.of_sys_edge SysSt.pwrfail) fun u h => h.of_sys SysSt.pwrfail
  · obtain ⟨lost, dev, cause, fault⟩ := a.pllLoss_halts locked up
    exact ha.runs_pin State.pllLoss _ rfl fun u h =>
      ⟨(h.of_sys_edge SysSt.pll).trans lost, h.dev_edge.trans dev, (h.get_edge _).trans cause, (h.of_sys_edge SysSt.faultLow).trans fault⟩
  · obtain ⟨locked, once⟩ := a.pllLock_locks
    exact ha.runs_pin State.pllLock _ rfl fun u h => ⟨(h.of_sys_edge SysSt.pll).trans locked, once.imp_left (h.of_sys_edge SysSt.pllOnce).trans⟩
  · exact ha.runs_edge (fun s => s.lanesLost ⟨[], [], e0, e1, true⟩) rfl fun u h =>
      (congrArg HostSt.pcieLost h.host_edge).trans a.losePath_pcie
  · obtain ⟨straps, noted, marked⟩ := a.strapsLive_seen live differ first
    exact ha.runs_pin (fun s => s.strapsLive live) _ rfl fun u h =>
      ⟨(h.of_sys_edge SysSt.straps).trans straps, (h.of_sys_edge SysSt.strapMismatch).trans noted, (h.get_edge _).trans marked⟩
  · obtain ⟨low, dev, cause⟩ := a.analogTrip_halts logged first up
    exact ha.runs_pin (fun s => s.analogTrip logged) _ rfl fun u h =>
      ⟨(h.of_sys_edge SysSt.thermtripLow).trans low, h.dev_edge.trans dev, (h.get_edge _).trans cause⟩

end Sys2Proof.Machine
end

section
/-!
PROOFS about boot (R65 to R71): what each boot command leaves of SYS and of BOOT_STAT.
-/
set_option Elab.async false -- one proof after the other: checking the whole text at once takes more memory than the check allows
namespace Sys2Proof.Machine

theorem State.Within.step_ {a b : State} {ps : List Part} {us : List Nat} (h : a.Within b ps us)
    (hu : inUnits us F.SYS_BOOT_STAT_STEP.addr = false := by decide) : b.step_ = a.step_ := h.get _ hu

theorem State.booting_dev {s : State} (h : s.booting = true) : s.dev = 0 ∧ s.sys.bootFailed = false := by
  unfold State.booting at h
  simpa using h

/-- A device that boots still boots after a change that leaves its state word and the failure of its boot alone. -/
theorem State.Within.booting {a b : State} {ps : List Part} {us : List Nat} (h : a.Within b ps us) (hb : b.sys.bootFailed = a.sys.bootFailed)
    (hu : inUnits us F.SYS_DEV_STATE_STATE.addr = false := by decide) : b.booting = a.booting := by
  rw [State.booting, State.booting, h.dev hu, hb]

/-! ## One field after another is put -/

theorem State.step_put_step (s : State) (n : Nat) : (s.put F.SYS_BOOT_STAT_STEP n).step_ = n % 16 := s.get_put_same _ n (by decide)

theorem State.step_put_apart (s : State) (f : Fld) (v : Nat) (hf : f.lo + f.width ≤ 32)
    (h : F.SYS_BOOT_STAT_STEP.addr ≠ f.addr ∨ 4 ≤ f.lo) : (s.put f v).step_ = s.step_ :=
  s.get_put_apart f _ v hf (h.imp_right .inl)

theorem State.put_sys (s : State) (f : Fld) (v : Nat) : (s.put f v).sys = s.sys := rfl

/-! ## The end of a boot -/

/-- A boot that ends shows the step and what ended it. -/
theorem State.bootFail_fails (s : State) (n : Nat) (f : Fld) (hf : f.lo + f.width ≤ 32) (one : f.width = 1)
    (apart : F.SYS_BOOT_STAT_STEP.addr ≠ f.addr ∨ 4 ≤ f.lo) :
    (s.bootFail n f).sys.bootFailed = true ∧ (s.bootFail n f).step_ = n % 16 ∧ (s.bootFail n f).get f = 1 := by
  unfold State.bootFail
  extract_lets old
  refine ⟨?_, ?_, ?_⟩
  · rw [State.put_sys, State.put_sys]
  · rw [State.step_put_apart _ _ _ hf apart, State.step_put_step]
  · rw [State.get_put_same _ _ _ hf, one]
    rfl

theorem State.bootFail_of_sys (s : State) (n : Nat) (f : Fld) : (s.bootFail n f).sys = { s.sys with bootFailed := true } := by
  unfold State.bootFail
  rw [State.put_sys, State.put_sys]

/-! ## The steps -/

theorem State.pllLock_step (s : State) (out : s.sys.pll = false) (boots : s.booting = true) (first : s.step_ = 0) :
    s.pllLock.sys.pll = true ∧ s.pllLock.sys.pllOnce = true ∧ s.pllLock.step_ = 1 := by
  unfold State.pllLock
  rw [if_neg (by simp [out])]
  extract_lets old locked
  have w : s.Within locked [.sys] [] := (State.Within.refl s [.sys] []).sys _
  rw [if_pos (by rw [w.booting rfl, w.step_, boots, first]; rfl)]
  exact ⟨by rw [State.put_sys], by rw [State.put_sys], State.step_put_step _ _⟩

theorem State.islandLost_within (s : State) : s.Within s.islandLost [.husk, .err] [0x60, 0x68] := by
  unfold State.islandLost
  extract_lets emptied marked
  have h : s.Within marked [.husk, .err] [0x60, 0x68] := (((State.Within.refl s [.husk, .err] [0x60, 0x68]).husk _).dropUnit 0x60).mark _ _
  exact h.andThen (State.raise_low_within marked 1 ⟨1, 0x60⟩ 0x6003 [] (by decide) (by decide)) (by decide) (by decide)

theorem State.romStart_reads (s : State) (lost : Bool) (boots : s.booting = true) (step : s.step_ = 1) (role : s.get F.SYS_STRAPS_ROLE ≠ 3)
    (boot : s.get F.SYS_STRAPS_BOOT ≠ 3) : (s.romStart lost).step_ = 2 ∧ (s.romStart lost).sys.romUp = true
      ∧ (s.romStart lost).get F.SYS_BOOT_STAT_SLOT = (if s.get F.SYS_STRAPS_BOOT = 1 then 2 else 0) := by
  unfold State.romStart
  rw [if_neg (by simp [boots, step]), if_neg (not_or.mpr ⟨role, boot⟩)]
  extract_lets island old up
  have w : s.Within up [.husk, .err, .sys] [0x60, 0x68] := by
    have h : s.Within island [.husk, .err, .sys] [0x60, 0x68] :=
      .ite (fun _ => s.islandLost_within.mono (by decide) (by decide)) fun _ => .refl s _ _
    exact h.sys _
  rw [show up.get F.SYS_STRAPS_BOOT = s.get F.SYS_STRAPS_BOOT from w.get _]
  refine ⟨?_, ?_, ?_⟩
  · rw [State.step_put_apart _ _ _ (by decide) (.inr (by decide)), State.step_put_step]
  · rw [State.put_sys, State.put_sys]
  · rw [State.get_put_same _ _ _ (by decide)]
    split <;> rfl

theorem State.romStart_straps (s : State) (lost : Bool) (boots : s.booting = true) (step : s.step_ = 1)
    (bad : s.get F.SYS_STRAPS_ROLE = 3 ∨ s.get F.SYS_STRAPS_BOOT = 3) : s.romStart lost = s.bootFail 1 F.SYS_BOOT_STAT_STRAP_BAD := by
  unfold State.romStart
  rw [if_neg (by simp [boots, step]), if_pos bad]

theorem State.imageRead_reads (s : State) (image : FwImage) (boots : s.booting = true) (step : s.step_ = 2) (slot : s.get F.SYS_BOOT_STAT_SLOT ≠ 2) :
    (s.imageRead image).step_ = 3 ∧ (s.imageRead image).sys.image = some image := by
  have window : (s.get F.SYS_BOOT_STAT_SLOT == 2) = false := by simpa using slot
  unfold State.imageRead
  simp only [window]
  rw [if_neg (by simp [boots, step])]
  refine ⟨State.step_put_step _ _, ?_⟩
  rw [State.put_sys]
  dsimp only
  cases s.sys.image <;> rfl

/-- Boot step 5 begins with the training of the ridge links alone. -/
theorem State.linksTrain_within (s : State) : s.Within s.linksTrain [.ridge] [0x48] := by
  unfold State.linksTrain
  extract_lets old training
  have h : s.Within training [.ridge] [0x48] := (State.Within.refl s [.ridge] [0x48]).ridge _
  refine h.forEach _ _ fun k hk t w => w.put _ _ ?_
  simp only [List.mem_cons, List.not_mem_nil, or_false] at hk
  rcases hk with rfl | rfl | rfl | rfl <;> decide

theorem State.imageAuth_good (s : State) (i : FwImage) (image : s.sys.image = some i) (boots : s.booting = true) (step : s.step_ = 3)
    (good : s.imageGood i = true) : s.imageAuth.step_ = (if s.sys.trained then 5 else 4) ∧ s.imageAuth.sys = { s.sys with imageOk := true } := by
  unfold State.imageAuth
  simp only [image]
  rw [if_neg (by simp [boots, step]), if_pos good]
  split
  · refine ⟨(State.linksTrain_within _).step_.trans (State.step_put_step _ _), ?_⟩
    rw [(State.linksTrain_within _).sys_eq, State.put_sys]
  · exact ⟨State.step_put_step _ _, State.put_sys _ _ _⟩

/-- The slot's mark of a failed check. -/
def authMark (slot : Nat) : Fld :=
  if slot = 0 then F.SYS_BOOT_STAT_AUTH_FAIL_A else if slot = 1 then F.SYS_BOOT_STAT_AUTH_FAIL_B else F.SYS_BOOT_STAT_AUTH_FAIL_PCIE

theorem authMark_apart (slot : Nat) : (authMark slot).lo + (authMark slot).width ≤ 32 ∧ (authMark slot).width = 1 ∧ 4 ≤ (authMark slot).lo := by
  unfold authMark
  split
  · decide
  · split <;> decide

theorem State.imageAuth_bad (s : State) (i : FwImage) (image : s.sys.image = some i) (boots : s.booting = true) (step : s.step_ = 3)
    (bad : s.imageGood i = false) :
    s.imageAuth.step_ = (if (s.nextSource (s.get F.SYS_BOOT_STAT_SLOT)).isSome then 2 else 3) ∧ s.imageAuth.sys.imageOk = s.sys.imageOk
      ∧ s.imageAuth.sys.bootFailed = (s.nextSource (s.get F.SYS_BOOT_STAT_SLOT)).isNone := by
  obtain ⟨fits, one, apart⟩ := authMark_apart (s.get F.SYS_BOOT_STAT_SLOT)
  unfold State.imageAuth
  simp only [image]
  rw [if_neg (by simp [boots, step]), if_neg (by simp [bad])]
  cases next : s.nextSource (s.get F.SYS_BOOT_STAT_SLOT) with
  | none =>
    obtain ⟨failed, shown, -⟩ := s.bootFail_fails 3 _ fits one (.inr apart)
    refine ⟨shown, ?_, failed⟩
    exact (congrArg SysSt.imageOk (s.bootFail_of_sys 3 (authMark (s.get F.SYS_BOOT_STAT_SLOT))) :)
  | some n =>
    refine ⟨?_, ?_, ?_⟩
    · exact (State.step_put_apart _ _ _ (by decide) (.inr (by decide))).trans (State.step_put_step _ _)
    · rfl
    · exact (State.booting_dev boots).2

theorem State.trainingDone_trains (s : State) (boots : s.booting = true) (up : s.sys.romUp = true) (first : s.sys.trained = false) :
    (s.trainingDone true).sys.trained = true ∧ (s.trainingDone true).get F.MEM_STAT_TRAINED = 1 := by
  unfold State.trainingDone
  rw [if_neg (by simp [boots, up, first]), if_neg (by decide)]
  extract_lets old trained
  have sys : trained.sys.trained = true := by rw [State.put_sys]
  have word : trained.get F.MEM_STAT_TRAINED = 1 := State.get_put_same _ _ _ (by decide)
  split
  · have w := (trained.put F.SYS_BOOT_STAT_STEP 5).linksTrain_within
    exact ⟨by rw [w.sys_eq, State.put_sys, sys], by rw [w.get _, State.get_put_other_word _ _ _ _ (by decide), word]⟩
  · exact ⟨sys, word⟩

theorem State.trainingDone_fails (s : State) (boots : s.booting = true) (up : s.sys.romUp = true) (first : s.sys.trained = false) :
    s.trainingDone false = s.bootFail 4 F.SYS_BOOT_STAT_TRAIN_FAIL := by
  unfold State.trainingDone
  rw [if_neg (by simp [boots, up, first]), if_pos (by decide)]

theorem State.firmwareStart_starts (s : State) (i : FwImage) (image : s.sys.image = some i) (boots : s.booting = true) (ok : s.sys.imageOk = true)
    (trained : s.sys.trained = true) (first : s.sys.firmware = false) : s.firmwareStart.sys.firmware = true ∧ s.firmwareStart.sys.bar2 = false
      ∧ s.firmwareStart.step_ = 6 ∧ s.firmwareStart.reg 0x000003 = i.fwRev := by
  unfold State.firmwareStart
  simp only [image]
  rw [if_neg (by simp [boots, ok, trained, first])]
  refine ⟨rfl, rfl, State.step_put_step _ _, ?_⟩
  exact (State.reg_setReg_ne _ _ _ _ (by decide)).trans (State.reg_setReg_same _ _ _)

theorem State.bootTimeout_fails (s : State) (boots : s.booting = true) (step : s.step_ ≤ 1)
    (late : s.sys.releaseClk + stepLimit s.step_ * 250 < s.time.clk) : s.bootTimeout = s.bootFail s.step_ F.SYS_BOOT_STAT_TIMEOUT := by
  unfold State.bootTimeout
  extract_lets n past
  have early : n = 0 ∨ n = 1 := by unfold n; omega
  rw [if_neg (by simp [boots]), if_neg (by omega), if_neg (by omega), if_pos]
  rw [if_pos (.inl step)]
  exact decide_eq_true late

theorem State.windowStart_starts (s : State) (length : Nat) (boots : s.booting = true) (step : s.step_ = 2) (slot : s.get F.SYS_BOOT_STAT_SLOT = 2)
    (bar2 : s.sys.bar2 = true) (perst : s.host.perst = false) :
    (s.windowStart length).sys.windowStarted = true ∧ (s.windowStart length).sys.image = some { length := length } := by
  unfold State.windowStart
  rw [if_neg (by simp [boots, step, slot, bar2, perst])]
  exact ⟨rfl, rfl⟩

/-! ## The journal scan and READY (R28, R66, R68) -/

/-- What every round of a loop keeps holds after it. -/
theorem forEach_keeps {α : Type} (P : State → Prop) (xs : List α) (f : α → State → State) (s : State) (h : P s)
    (step : ∀ x t, P t → P (f x t)) : P (forEach xs f s) := by
  induction xs generalizing s with
  | nil => exact h
  | cons x xs ih => exact ih _ (step x s h)

theorem State.warn_cmd (s : State) (x : Subject) (d : Nat) (args : List Int) : (s.warn x d args).cmd = s.cmd := by
  rw [State.warn, State.raise_low_rest s 1 x d args (by decide) (by decide)]

theorem State.put_cmd (s : State) (f : Fld) (v : Nat) : (s.put f v).cmd = s.cmd := rfl

theorem State.setSlot_cmd (s : State) (n : Nat) (x : Slot) : (s.setSlot n x).cmd = s.cmd := by
  unfold State.setSlot State.setReg
  rfl

theorem State.loadContexts_cmd (s : State) : s.loadContexts.cmd = s.cmd := by
  unfold State.loadContexts
  extract_lets loaded
  have h : loaded.cmd = s.cmd := by
    refine forEach_keeps (fun t => t.cmd = s.cmd) s.journal.contexts _ s rfl fun e t ht => ?_
    split
    · exact (State.setSlot_cmd _ _ _).trans ht
    · exact (State.warn_cmd _ _ _ _).trans ((State.setSlot_cmd _ _ _).trans ht)
  rw [State.put_cmd, h]

theorem State.journalAtBoot_cmd (s : State) (ok : Bool) : (s.journalAtBoot ok).cmd = s.cmd := by
  unfold State.journalAtBoot
  split <;> rfl

theorem State.pendingZeroize_cmd (s : State) : s.pendingZeroize.cmd = s.cmd := by
  unfold State.pendingZeroize
  split <;> rfl

/-- A STOP that was pending on battery touches the island, a pair's local stop and the records. -/
theorem State.huskStop_within (s : State) (d src : Nat) : s.Within (s.huskStop d src) [.husk, .err, .sys] [0x49, 0x60, 0x68] := by
  unfold State.huskStop
  extract_lets clk stopBit island stopped localStop island' held
  have h : s.Within stopped [.husk, .err, .sys] [0x49, 0x60, 0x68] :=
    .ite (fun _ => .refl s _ _) fun _ => ((State.Within.refl s [.husk, .err, .sys] [0x49, 0x60, 0x68]).put F.HUSK_STAT_STOP 1).husk _
  have h' : s.Within held [.husk, .err, .sys] [0x49, 0x60, 0x68] :=
    .ite (fun _ => h) fun _ => ((h.put F.PAIR_PSTAT_LOCAL_STOP 1).andThen (State.raise_low_within _ 3 ⟨1, 0x49⟩ 0x4940 [] (by decide) (by decide))
      (by decide) (by decide)).husk _
  exact h'.andThen (held.devErr_within d _) (by decide) (by decide)

theorem State.pendingStop_within (s : State) : s.Within s.pendingStop [.husk, .err, .sys] [0x49, 0x60, 0x68] := by
  unfold State.pendingStop
  split
  · exact .refl s _ _
  · rename_i src _
    have h := ((State.Within.refl s [.husk, .err, .sys] [0x49, 0x60, 0x68]).husk { s.husk with pendingStop := none, inForce := 1 }).mark
      F.HUSK_LATCHED (2 ^ src)
    exact (h.andThen (State.raise_low_within _ 1 ⟨1, 0x60⟩ 0x6001 [src] (by decide) (by decide)) (by decide) (by decide)).trans
      (State.huskStop_within _ _ _)

theorem State.huskStop_of_sys (s : State) (d src : Nat) {α : Type} (g : SysSt → α)
    (hg : ∀ y t, g { y with triggers := t } = g y := by intros; rfl) : g (s.huskStop d src).sys = g s.sys := by
  unfold State.huskStop
  extract_lets clk stopBit island stopped localStop island' held
  rw [State.devErr_of_sys _ _ _ g hg]
  have hs : stopped.sys = s.sys := by
    unfold stopped
    split <;> rfl
  have hh : held.sys = stopped.sys := by
    unfold held
    split
    · rfl
    · exact (State.raise_low_within (stopped.put F.PAIR_PSTAT_LOCAL_STOP 1) 3 ⟨1, 0x49⟩ 0x4940 [] (by decide) (by decide)).sys_eq
  rw [hh, hs]

theorem State.pendingStop_of_sys (s : State) {α : Type} (g : SysSt → α) (hg : ∀ y t, g { y with triggers := t } = g y := by intros; rfl) :
    g s.pendingStop.sys = g s.sys := by
  unfold State.pendingStop
  split
  · rfl
  · rw [State.huskStop_of_sys _ _ _ g hg]
    exact congrArg g (State.raise_low_within _ 1 ⟨1, 0x60⟩ 0x6001 _ (by decide) (by decide)).sys_eq

theorem State.rowsReload_within (s : State) : s.Within s.rowsReload [.light] [] :=
  State.Within.forEach _ _ (.refl s _ _) fun _ _ _ h => h.light _

/-- The words of SYS other than the state word are not the entry's. -/
theorem State.enterDev_reg_other (s : State) (st cause x : Nat) (hx : x ≠ wordAddr 0x00 0x10) (hu : inUnits [0x68] x = false) :
    (s.enterDev st cause).reg x = s.reg x := by
  have entry : (s.entryEpoch st).reg x = s.reg x := (s.entryEpoch_within st).words x (by simp [inUnits])
  rw [← entry]
  unfold State.enterDev
  extract_lets entered shown closed drained watched
  have hshown : shown.reg x = entered.reg x :=
    ((State.reg_setReg_ne _ _ _ _ hx).trans (State.reg_setReg_ne _ _ _ _ hx)).trans (State.reg_setReg_ne _ _ _ _ hx)
  have hclosed : shown.Within closed [] [0x68] := .ite (fun _ => (State.Within.refl shown [] [0x68]).setReg _ _) fun _ => .refl _ _ _
  have hdrained : closed.Within drained [.sys] [] := .ite (fun _ => (State.Within.refl closed [.sys] []).sys _) fun _ => .refl _ _ _
  exact ((hdrained.words x (by simp [inUnits])).trans (hclosed.words x hu)).trans hshown

/-- Behind its epoch an entry leaves CMD alone. -/
theorem State.enterDev_after_epoch (s : State) (st cause : Nat) :
    (s.entryEpoch st).Within (s.enterDev st cause) [.sys, .therm] [0x00, 0x68] := by
  unfold State.enterDev
  extract_lets entered shown closed drained watched
  have h : entered.Within shown [.sys, .therm] [0x00, 0x68] := (((State.Within.refl entered [.sys, .therm] [0x00, 0x68]).put _ _).put _ _).put _ _
  have hclosed : entered.Within closed [.sys, .therm] [0x00, 0x68] := .ite (fun _ => h.setReg _ _) fun _ => h
  have hdrained : entered.Within drained [.sys, .therm] [0x00, 0x68] := .ite (fun _ => hclosed.sys _) fun _ => hclosed
  exact (hdrained.therm _).sys _

theorem State.entryEpoch_eq (s : State) (st : Nat) :
    ∃ e r, s.entryEpoch st = { s with cmd := { s.cmd with epoch := e }, sys := { s.sys with readyOnce := r } } := by
  unfold State.entryEpoch
  split
  · exact ⟨_, true, rfl⟩
  · exact ⟨_, s.sys.readyOnce, rfl⟩

/-- Packets stay in flight at an entry. -/
theorem State.enterDev_inflight (s : State) (st cause : Nat) : (s.enterDev st cause).cmd.inflight = s.cmd.inflight := by
  obtain ⟨e, r, h⟩ := s.entryEpoch_eq st
  rw [(s.enterDev_after_epoch st cause).cmd_eq, h]

/-- The first entry to READY is noted. -/
theorem State.enterDev_ready (s : State) (cause : Nat) : (s.enterDev 1 cause).sys.readyOnce = true := by
  rw [State.enterDev_of_sys_epoch s 1 cause SysSt.readyOnce]
  unfold State.entryEpoch
  split
  · rfl
  · rename_i again
    simpa [State.bump] using again

theorem State.enterDev_faultHigh (s : State) (cause : Nat) : (s.enterDev 1 cause).sys.faultLow = false := rfl

/-- The last command of boot brings the device into READY. -/
theorem State.journalScan_ready (s : State) (ok : Bool) (boots : s.booting = true) (step : s.step_ = 6) (up : s.sys.firmware = true)
    (locked : s.sys.pll = true) : (s.journalScan ok).dev = 1 ∧ (s.journalScan ok).get F.SYS_DEV_STATE_CAUSE = 1 ∧ (s.journalScan ok).step_ = 7
      ∧ (s.journalScan ok).sys.readyOnce = true ∧ (s.journalScan ok).sys.faultLow = false
      ∧ (s.journalScan ok).cmd.inflight = s.cmd.inflight := by
  unfold State.journalScan
  rw [if_neg (by simp [boots, step, up, locked])]
  extract_lets scanned ms shown ready banded
  have cmd : shown.cmd = s.cmd := by
    have h : scanned.cmd = s.cmd := by
      rw [(State.showJournal_within _).cmd_eq, State.loadContexts_cmd, State.pendingZeroize_cmd, State.journalAtBoot_cmd]
    rw [State.put_cmd, State.put_cmd, h]
  have after : ready.Within banded.rowsReload.pendingStop [.light, .husk, .err, .sys] [0x49, 0x50, 0x60, 0x68] :=
    ((((State.Within.refl ready [.light, .husk, .err, .sys] [0x49, 0x50, 0x60, 0x68]).put _ _).andThen banded.rowsReload_within
      (by decide) (by decide)).andThen (State.pendingStop_within _) (by decide) (by decide))
  have sys : banded.rowsReload.sys = ready.sys := banded.rowsReload_within.sys_eq.trans (State.put_sys _ _ _)
  refine ⟨?_, ?_, ?_, ?_, ?_, ?_⟩
  · rw [after.dev, State.enterDev_dev]
  · rw [after.get _, State.enterDev_cause]
  · rw [after.step_, State.step_, State.get_congr F.SYS_BOOT_STAT_STEP (shown.enterDev_reg_other 1 1 _ (by decide) (by decide)), ← State.step_,
      State.step_put_apart _ _ _ (by decide) (.inr (by decide)), State.step_put_step]
  · rw [State.pendingStop_of_sys _ SysSt.readyOnce, sys, State.enterDev_ready]
  · rw [State.pendingStop_of_sys _ SysSt.faultLow, sys, State.enterDev_faultHigh]
  · rw [after.cmd_eq, State.enterDev_inflight, cmd]

theorem State.Ends.step_edge {s b u : State} (h : s.Ends (haltEdge s.begin b) u) : u.step_ = b.step_ := h.get_edge _

theorem State.pump_none (t : State) (h : t.cmd.inflight = []) : t.pump = t := by
  have ready : t.startReady = t := by simp [State.startReady, State.startAll, h]
  rw [State.pump, ready]
  exact t.pump_idle h

/-- Settles O6: each command's body at its step; a boot that ends leaves `bootFail`, the journal scan enters READY. -/
theorem bootAdvances : Obligations.BootAdvances := by
  unfold Obligations.BootAdvances
  refine ⟨fun s a t ha out boots first => ?_, fun s a t lost ha boots step role boot => ?_, fun s a t lost ha boots step bad => ?_,
    fun s a t image ha boots step slot => ?_, fun s a t i ha image boots step => ?_, fun s a t ha boots up first => ?_,
    fun s a t ha boots up first => ?_, fun s a t i ha image boots ok trained first => ?_, fun s a t ok ha boots step up locked idle => ?_,
    fun s a t ha boots step late => ?_, fun s a t length ha boots step slot bar2 perst => ?_⟩
  · obtain ⟨pll, once, step⟩ := a.pllLock_step out boots first
    exact ha.runs_pin State.pllLock _ rfl fun u h =>
      ⟨(h.of_sys_edge SysSt.pll).trans pll, (h.of_sys_edge SysSt.pllOnce).trans once, h.step_edge.trans step⟩
  · obtain ⟨next, up, slot⟩ := a.romStart_reads lost boots step role boot
    exact ha.runs_edge (fun s => s.romStart lost) rfl fun u h =>
      ⟨h.step_edge.trans next, (h.of_sys_edge SysSt.romUp).trans up, (h.get_edge _).trans slot⟩
  · obtain ⟨failed, shown, mark⟩ := a.bootFail_fails 1 F.SYS_BOOT_STAT_STRAP_BAD (by decide) rfl (.inr (by decide))
    rw [← a.romStart_straps lost boots step bad] at failed shown mark
    exact ha.runs_edge (fun s => s.romStart lost) rfl fun u h =>
      ⟨h.step_edge.trans shown, (h.of_sys_edge SysSt.bootFailed).trans failed, (h.get_edge _).trans mark⟩
  · obtain ⟨next, read⟩ := a.imageRead_reads image boots step slot
    exact ha.runs_edge (fun s => s.imageRead image) rfl fun u h => ⟨h.step_edge.trans next, (h.of_sys_edge SysSt.image).trans read⟩
  · refine ha.runs_edge State.imageAuth rfl fun u h => ?_
    rw [h.step_edge, h.of_sys_edge SysSt.imageOk, h.of_sys_edge SysSt.bootFailed]
    cases good : a.imageGood i with
    | true =>
      obtain ⟨next, sys⟩ := a.imageAuth_good i image boots step good
      rw [next, sys]
      simp [(State.booting_dev boots).2]
    | false =>
      obtain ⟨next, kept, failed⟩ := a.imageAuth_bad i image boots step good
      rw [next, kept, failed]
      simp
  · obtain ⟨trained, word⟩ := a.trainingDone_trains boots up first
    exact ha.runs_edge (fun s => s.trainingDone true) rfl fun u h => ⟨(h.of_sys_edge SysSt.trained).trans trained, (h.get_edge _).trans word⟩
  · obtain ⟨failed, shown, mark⟩ := a.bootFail_fails 4 F.SYS_BOOT_STAT_TRAIN_FAIL (by decide) rfl (.inr (by decide))
    rw [← a.trainingDone_fails boots up first] at failed shown mark
    exact ha.runs_edge (fun s => s.trainingDone false) rfl fun u h =>
      ⟨(h.of_sys_edge SysSt.bootFailed).trans failed, h.step_edge.trans shown, (h.get_edge _).trans mark⟩
  · obtain ⟨firmware, bar2, next, rev⟩ := a.firmwareStart_starts i image boots ok trained first
    refine ha.runs_edge State.firmwareStart rfl fun u h =>
      ⟨(h.of_sys_edge SysSt.firmware).trans firmware, (h.of_sys_edge SysSt.bar2).trans bar2, h.step_edge.trans next, ?_⟩
    rw [h.reg, (haltEdge_within s.begin a.firmwareStart).words _ (by decide), rev]
  · obtain ⟨dev, cause, next, once, fault, inflight⟩ := a.journalScan_ready ok boots step up locked
    have body : (a.journalScan ok).pump = a.journalScan ok := State.pump_none _ (inflight.trans idle)
    refine ha.runs (fun s => (s.journalScan ok).pump) rfl body (fun h => absurd (dev.symm.trans h) (by decide)) fun u h => ?_
    exact ⟨h.dev.trans dev, (h.get _).trans cause, (h.get _).trans next, (h.of_sys SysSt.readyOnce).trans once, (h.of_sys SysSt.faultLow).trans fault⟩
  · obtain ⟨failed, shown, mark⟩ := a.bootFail_fails a.step_ F.SYS_BOOT_STAT_TIMEOUT (by decide) rfl (.inr (by decide))
    rw [← a.bootTimeout_fails boots step late] at failed shown mark
    exact ha.runs_edge State.bootTimeout rfl fun u h =>
      ⟨(h.of_sys_edge SysSt.bootFailed).trans failed, h.step_edge.trans (shown.trans (Nat.mod_eq_of_lt (by omega))), (h.get_edge _).trans mark⟩
  · obtain ⟨started, image⟩ := a.windowStart_starts length boots step slot bar2 perst
    exact ha.runs_edge (fun s => s.windowStart length) rfl fun u h =>
      ⟨(h.of_sys_edge SysSt.windowStarted).trans started, (h.of_sys_edge SysSt.image).trans image⟩

end Sys2Proof.Machine
end

section
/-!
PROOFS about requests that a direct SET_PARAM makes (R7, R105, R614): what answering a packet keeps to, and what a write of CMD bits does to a
word that holds nothing else that is written.
-/
set_option Elab.async false -- one proof after the other: checking the whole text at once takes more memory than the check allows
namespace Sys2Proof.Machine

/-! ## Replies (R89 to R96) -/

theorem State.replyIrq_within (s : State) : s.Within s.replyIrq [.host] [] := by
  unfold State.replyIrq
  extract_lets m ready
  exact .ite (fun _ => ((State.Within.refl s [.host] []).emit _).host _) fun _ => (State.Within.refl s [.host] []).host _

theorem State.ringWrite_within (s : State) (r : Reply) : s.Within (s.ringWrite r) [.host] [0x01] := by
  unfold State.ringWrite
  extract_lets n written
  exact ((((State.Within.refl s [.host] [0x01]).host _).emit _).put F.HOSTIF_RRING_PROD _).andThen (State.replyIrq_within _) (by decide) (by decide)

theorem State.keep_within (s : State) (o : Option Origin) (r : Reply) : s.Within (s.keep o r) [.host] [] := by
  unfold State.keep
  split
  · exact (State.Within.refl s [.host] []).host _
  · exact .refl s _ _

theorem State.sendEth_within (s : State) (r : Reply) (o : Option Origin) : s.Within (s.sendEth r o) [] [] := by
  unfold State.sendEth
  extract_lets sent
  split
  · exact ((State.Within.refl s [] []).emit _).emit _
  · exact (State.Within.refl s [] []).emit _

theorem State.send_within (s : State) (r : Reply) (o : Option Origin) : s.Within (s.send r o) [.host] [0x01] := by
  unfold State.send
  split
  · extract_lets h held
    exact .ite (fun _ => s.ringWrite_within r) fun _ => ((State.Within.refl s [.host] [0x01]).host _).put F.HOSTIF_RING_STAT_HELD _
  · exact ((s.keep_within o r).mono (by decide) (by decide)).andThen (State.sendEth_within _ r o) (by decide) (by decide)

/-- Answering a packet of a host path touches CMD's list of packets and the host interface. -/
theorem State.answer_within (s : State) (p : InFlight) (st : Byte) (d : Nat) (res : List Word) (hp : p.path ≠ .ridge) (ho : p.orphan = false) :
    s.Within (s.answer p st d res) [.cmd, .host] [0x01] := by
  unfold State.answer State.answerAt
  rw [if_neg hp, ho, if_neg Bool.false_ne_true]
  exact ((State.Within.refl s [.cmd, .host] [0x01]).cmd _).andThen (State.send_within _ _ _) (by decide) (by decide)

/-- A packet that is answered has been, with that status and detail. -/
theorem State.answer_answered (s : State) (p : InFlight) (st : Byte) (d : Nat) (res : List Word) (hp : p.path ≠ .ridge) (ho : p.orphan = false)
    (hd : d < 65536) : (s.answer p st d res).Answered p.path p.tag st.toNat d := by
  refine ⟨s.mkReply p st d res s.ns, s.answer_there p st d res hp ho, rfl, rfl, rfl, ?_⟩
  rw [State.mkReply, BitVec.toNat_ofNat, Nat.mod_eq_of_lt hd]

/-! ## A word of CMD bits (R7) -/

/-- A parameter word whose fields are read-only or CMD bits, which no rule keeps from being written. -/
structure RequestWord (a : Nat) : Prop where
  small : a < 2 ^ 32
  range : rangeError a 1 = none
  commit : commitWord a = false
  cascade : cascadeWord a = false
  ring : ringCfgWord a = false
  saved : rwMask a = 0
  special : ∀ v, specialRange a v = true
  fields : ∃ r, findWord a = some r ∧ ∀ f ∈ r.fields, f.writable = false ∧ f.acc ≠ .w1c

/-- The write that a request packet spells. -/
def requestWrite (a bit : Nat) : StagedWrite := ⟨a, word (2 ^ bit), word (2 ^ bit)⟩

theorem writeField_passive (old mask v fresh : Word) (acc : Nat) (f : RegField) (h : f.writable = false) (h' : f.acc ≠ .w1c) :
    writeField old mask v fresh acc f = acc := by
  unfold writeField
  unfold RegField.writable at h
  split <;> simp_all

theorem writtenWord_passive (r : RegWord) (old mask v fresh : Word) (h : ∀ f ∈ r.fields, f.writable = false ∧ f.acc ≠ .w1c) :
    writtenWord r old mask v fresh = old := by
  have keeps : ∀ l : List RegField, (∀ f ∈ l, f.writable = false ∧ f.acc ≠ .w1c) →
      l.foldl (writeField old mask v fresh) old.toNat = old.toNat := by
    intro l hl
    induction l with
    | nil => rfl
    | cons f l ih =>
      obtain ⟨hf, hw⟩ := hl f List.mem_cons_self
      rw [List.foldl_cons, writeField_passive _ _ _ _ _ f hf hw]
      exact ih fun g hg => hl g (List.mem_cons_of_mem f hg)
  rw [writtenWord, keeps r.fields h, word, BitVec.ofNat_toNat, BitVec.setWidth_eq]

namespace RequestWord

variable {a : Nat} (ha : RequestWord a)

include ha

/-- Writing a request leaves the word with what it held. -/
theorem writeWord (s : State) (bit : Nat) : s.writeWord (requestWrite a bit) = s.setReg a (s.reg a) := by
  obtain ⟨r, found, passive⟩ := ha.fields
  unfold State.writeWord
  rw [show findWord (requestWrite a bit).addr = some r from found]
  dsimp only [requestWrite]
  rw [writtenWord_passive r _ _ _ _ passive]

/-- Such a write meets the rules of its word alone. -/
theorem writesError (s : State) (path : Path) (bit : Nat) :
    s.writesError path true [requestWrite a bit] = s.wordRule (s.writeWord (requestWrite a bit)) true (requestWrite a bit) := by
  obtain ⟨r, found, passive⟩ := ha.fields
  have inRange : ∀ m v, fieldsInRange r a m v = true := by
    intro m v
    unfold fieldsInRange
    rw [ha.special v, Bool.and_true, List.all_eq_true]
    intro f hf
    simp [(passive f hf).1]
  have addr : (requestWrite a bit).addr = a := rfl
  unfold State.writesError
  simp only [if_true, List.find?_cons, addr, ha.commit, ha.cascade, found, inRange, List.findSome?_cons, State.withWrites, forEach,
    List.foldl_cons, List.foldl_nil, List.find?_nil, List.findSome?_nil, Option.map_none, ite_self]
  generalize s.wordRule (s.writeWord (requestWrite a bit)) true (requestWrite a bit) = v
  cases v <;> rfl

/-- What a request does: its effect, on a state that holds the same words. -/
theorem takeWrites (s : State) (bit q : Nat) : s.takeWrites [requestWrite a bit] q = State.writeEffect s q (requestWrite a bit) (s.setReg a (s.reg a)) := by
  unfold State.takeWrites
  have ring : ([requestWrite a bit].any fun w => ringCfgWord w.addr) = false := by
    simp [requestWrite, ha.ring]
  simp only [ring, Bool.and_false, Bool.false_eq_true, if_false]
  rw [← ha.writeWord s bit]
  rfl

theorem noteSaved (s : State) : s.noteSaved a = s := by
  unfold State.noteSaved
  rw [ha.saved]
  simp

variable {p : InFlight} {bit : Nat} (target : p.target.toNat = a) (body : p.body = [2, word (2 ^ bit), word (2 ^ bit)])

include target body

/-- SET_PARAM of a request goes by the rule of its word. -/
theorem opSetParam (s : State) : Machine.opSetParam p s = match s.wordRule (s.writeWord (requestWrite a bit)) true (requestWrite a bit) with
    | some v => (s, v)
    | none => (s.bump.takeWrites [requestWrite a bit] p.boundary, .done []) := by
  have writes : setWrites p.target.toNat p.body = some [requestWrite a bit] := by
    rw [body, target]
    simp [setWrites, bodyWord, requestWrite]
  have ctl : bodyWord p.body 0 = 2 := by rw [body]; rfl
  have len : p.body.length = 3 := by rw [body]; rfl
  have range : rangeError p.target.toNat [requestWrite a bit].length = none := by rw [target]; exact ha.range
  have direct : ((2 : Nat) % 2 == 0) = true := rfl
  rw [← ha.writesError s p.path bit]
  unfold Machine.opSetParam
  simp only [writes, ctl, len, range, direct, Nat.reduceLT, Nat.reduceLeDiff, if_false, if_true] <;> rfl

/-- A request that its word's rule turns away. -/
theorem opSetParam_bad (s : State) (v : Verdict) (h : ∀ t, s.wordRule t true (requestWrite a bit) = some v) :
    Machine.opSetParam p s = (s, v) := by
  rw [ha.opSetParam target body, h]

/-- A request that is taken. -/
theorem opSetParam_done (s : State) (h : ∀ t, s.wordRule t true (requestWrite a bit) = none) : Machine.opSetParam p s =
    (State.writeEffect s.bump p.boundary (requestWrite a bit) (s.bump.setReg a (s.bump.reg a)), .done []) := by
  rw [ha.opSetParam target body, h, ha.takeWrites]

end RequestWord

end Sys2Proof.Machine
end

section
/-!
PROOFS that the requests of DEV_STATE and CH_STATE are accepted or refused (R28, R31, R34, R263, R614).
-/
set_option Elab.async false -- one proof after the other: checking the whole text at once takes more memory than the check allows
namespace Sys2Proof.Machine

/-! ## The two request words -/

theorem devState_requestWord : RequestWord 0x10 where
  small := by decide
  range := by decide +kernel
  commit := by decide +kernel
  cascade := by decide
  ring := by decide
  saved := by decide +kernel
  special _ := rfl
  fields := ⟨(findWord 0x10).get (by decide +kernel), by simp, by decide +kernel⟩

theorem splitAddr_chState : ∀ c : Fin 64, splitAddr (chanAddr 0x18 c.val 0) = (0x18, c.val, 0) := by decide +kernel

theorem chState_requestWord (c : Fin 64) : RequestWord (chanAddr 0x18 c 0) where
  small := by revert c; decide +kernel
  range := by revert c; decide +kernel
  commit := by revert c; decide +kernel
  cascade := by revert c; decide +kernel
  ring := by revert c; decide +kernel
  saved := by revert c; decide +kernel
  special v := by simp [specialRange, splitAddr_chState c]
  fields := by
    have all : ∀ c : Fin 64, ((findWord (chanAddr 0x18 c.val 0)).any fun r => r.fields.all fun f => !f.writable && f.acc != .w1c) = true := by
      decide +kernel
    obtain ⟨r, found, passive⟩ := (Option.any_eq_true _ _).mp (all c)
    refine ⟨r, found, fun f hf => ?_⟩
    simpa using List.all_eq_true.mp passive f hf

/-! ## Serving at the begin of a command -/

theorem State.Serves.begin {s : State} {path : Path} {tag : Byte} (h : s.Serves path tag) : s.begin.Serves path tag := by
  cases s
  exact ⟨h.up, h.rom, h.firmware, h.alone, h.unjoined, h.host, h.live, h.fetch, h.idle, h.free, h.cores⟩

/-- The state in which a request takes its effect: its packet is the one in flight, a change has been counted, and its word written. -/
def State.requested (s : State) (h : Hdr) (a bit : Nat) : State :=
  let e := (s.begin.entered 0x03 (requestPkt h a bit)).bump
  e.setReg a (e.reg a)

theorem State.requested_reg (s : State) (h : Hdr) (a bit x : Nat) : (s.requested h a bit).reg x = s.reg x := by
  unfold State.requested
  rw [State.reg_setReg_self]
  rfl

theorem State.requested_rest (s : State) (h : Hdr) (a bit : Nat) : (s.requested h a bit).sys = s.sys ∧ (s.requested h a bit).seq = s.seq
    ∧ (s.requested h a bit).journal = s.journal ∧ (s.requested h a bit).time = s.time ∧ (s.requested h a bit).stream = s.stream
    ∧ (s.requested h a bit).cmd.inflight = [s.begin.begun 0x03 (requestPkt h a bit)] := by
  unfold State.requested
  simp [State.bump, State.entered]

/-- A request that nothing turns away ends with the reply DONE to what its effect leaves in `b`. -/
theorem State.Serves.runs_request_ends {s : State} {h : Hdr} {a bit : Nat} {i : Instr} {P : State → Prop} (hs : s.Serves h.path h.tag)
    (ha : RequestWord a) (hx : exec i s = .next (s.row (fun s => s.takePkt 0x03 (requestPkt h a bit))))
    (rule : ∀ t, (s.begin.entered 0x03 (requestPkt h a bit)).wordRule t true (requestWrite a bit) = none) {b : State}
    (hb : State.writeEffect (s.begin.entered 0x03 (requestPkt h a bit)).bump (s.us + 1) (requestWrite a bit) (s.requested h a bit) = b)
    (dev : b.dev = s.dev) (waits : b.cmd.inflight = [s.begin.begun 0x03 (requestPkt h a bit)])
    (hP : ∀ u : State, s.Ends (b.answer (s.begin.begun 0x03 (requestPkt h a bit)) 0 0 []) u → P u) : Runs i s P := by
  have target : (requestPkt h a bit).target.toNat = a := by
    show (word a).toNat = a
    rw [word, BitVec.toNat_ofNat, Nat.mod_eq_of_lt ha.small]
  have run : runOp (0x03 : Byte).toNat (s.begin.begun 0x03 (requestPkt h a bit)) (s.begin.entered 0x03 (requestPkt h a bit)) = (b, .done []) :=
    (ha.opSetParam_done (p := s.begin.begun 0x03 (requestPkt h a bit)) target rfl _ rule).trans (by rw [← hb]; rfl)
  have body : s.begin.takePkt 0x03 (requestPkt h a bit) = b.answer (s.begin.begun 0x03 (requestPkt h a bit)) 0 0 [] :=
    State.takePkt_done _ b 0x03 _ [] hs.begin (by decide) run waits
  have w := b.answer_within (s.begin.begun 0x03 (requestPkt h a bit)) 0 0 [] hs.host rfl
  have ends := s.row_ends (fun s => s.takePkt 0x03 (requestPkt h a bit)) hs.up
  rw [body, haltEdge_of_not_entered s.begin _ fun hd => dev.symm.trans (w.dev.symm.trans hd)] at ends
  exact ⟨_, hx, hP _ ends⟩

/-- A request that nothing turns away is answered DONE, and what its effect leaves in `b` stands. -/
theorem State.Serves.runs_request {s : State} {h : Hdr} {a bit : Nat} {i : Instr} {P : State → Prop} (hs : s.Serves h.path h.tag)
    (ha : RequestWord a) (hx : exec i s = .next (s.row (fun s => s.takePkt 0x03 (requestPkt h a bit))))
    (rule : ∀ t, (s.begin.entered 0x03 (requestPkt h a bit)).wordRule t true (requestWrite a bit) = none) {b : State}
    (hb : State.writeEffect (s.begin.entered 0x03 (requestPkt h a bit)).bump (s.us + 1) (requestWrite a bit) (s.requested h a bit) = b)
    (words : ∀ x, b.reg x = s.reg x) (waits : b.cmd.inflight = [s.begin.begun 0x03 (requestPkt h a bit)])
    (hP : ∀ u : State, u.sys.requests = b.sys.requests → u.seq = b.seq → u.journal = b.journal → u.Answered h.path h.tag 0 0 → P u) : Runs i s P := by
  have w := b.answer_within (s.begin.begun 0x03 (requestPkt h a bit)) 0 0 [] hs.host rfl
  refine hs.runs_request_ends ha hx rule hb (State.get_congr _ (words _)) waits fun u ends => ?_
  refine hP _ ?_ (ends.seq.trans w.seq_eq) (ends.journal.trans (w.parts .journal (by decide)).1) ?_
  · rw [ends.of_sys SysSt.requests, w.sys_eq]
  · exact ends.answered (b.answer_answered _ 0 0 [] hs.host rfl (by decide))

/-- A request that the rule of its word turns away ends with that reply alone. -/
theorem State.Serves.runs_refused_ends {s : State} {h : Hdr} {a bit : Nat} {i : Instr} {P : State → Prop} (hs : s.Serves h.path h.tag)
    (ha : RequestWord a) (hx : exec i s = .next (s.row (fun s => s.takePkt 0x03 (requestPkt h a bit)))) (d : Nat)
    (rule : ∀ t, (s.begin.entered 0x03 (requestPkt h a bit)).wordRule t true (requestWrite a bit) = some (refused d))
    (hP : ∀ u : State, s.Ends ((s.begin.entered 0x03 (requestPkt h a bit)).answer (s.begin.begun 0x03 (requestPkt h a bit)) 0x10 d []) u → P u) :
    Runs i s P := by
  have target : (requestPkt h a bit).target.toNat = a := by
    show (word a).toNat = a
    rw [word, BitVec.toNat_ofNat, Nat.mod_eq_of_lt ha.small]
  have run : runOp (0x03 : Byte).toNat (s.begin.begun 0x03 (requestPkt h a bit)) (s.begin.entered 0x03 (requestPkt h a bit)) =
      (s.begin.entered 0x03 (requestPkt h a bit), .bad 0x10 d) :=
    ha.opSetParam_bad (p := s.begin.begun 0x03 (requestPkt h a bit)) target rfl _ _ rule
  have body : s.begin.takePkt 0x03 (requestPkt h a bit) =
      (s.begin.entered 0x03 (requestPkt h a bit)).answer (s.begin.begun 0x03 (requestPkt h a bit)) 0x10 d [] :=
    State.takePkt_bad _ _ 0x03 _ 0x10 d hs.begin run rfl
  have w := (s.begin.entered 0x03 (requestPkt h a bit)).answer_within (s.begin.begun 0x03 (requestPkt h a bit)) 0x10 d [] hs.host rfl
  have ends := s.row_ends (fun s => s.takePkt 0x03 (requestPkt h a bit)) hs.up
  rw [body, haltEdge_of_not_entered s.begin _ fun hd => w.dev.symm.trans hd] at ends
  exact ⟨_, hx, hP _ ends⟩

/-- A request that the rule of its word turns away is answered with that status and detail, and nothing of it stands. -/
theorem State.Serves.runs_refused {s : State} {h : Hdr} {a bit : Nat} {i : Instr} {P : State → Prop} (hs : s.Serves h.path h.tag)
    (ha : RequestWord a) (hx : exec i s = .next (s.row (fun s => s.takePkt 0x03 (requestPkt h a bit)))) (d : Nat) (hd : d < 65536)
    (rule : ∀ t, (s.begin.entered 0x03 (requestPkt h a bit)).wordRule t true (requestWrite a bit) = some (refused d))
    (hP : ∀ u : State, u.seq = s.seq → u.Answered h.path h.tag 0x10 d → P u) : Runs i s P := by
  have w := (s.begin.entered 0x03 (requestPkt h a bit)).answer_within (s.begin.begun 0x03 (requestPkt h a bit)) 0x10 d [] hs.host rfl
  exact hs.runs_refused_ends ha hx d rule fun u ends =>
    hP _ (ends.seq.trans w.seq_eq) (ends.answered (State.answer_answered _ _ 0x10 d [] hs.host rfl hd))

/-! ## DEV_STATE (R28, R614) -/

theorem splitAddr_devState : splitAddr 0x10 = (0, 0, 0x10) := by decide

theorem startedBits_devState : ∀ k : Fin 4, startedBits (requestWrite 0x10 (8 + k)) 8 4 = [8 + k.val] := by decide

/-- The rule of DEV_STATE tests the request against the present state. -/
theorem State.wordRule_devState (s t : State) (k : Fin 4) :
    s.wordRule t true (requestWrite 0x10 (8 + k)) = (s.requestCheck (8 + k) s.dev).map refused := by
  have split : splitAddr (requestWrite 0x10 (8 + k.val)).addr = (0, 0, 0x10) := splitAddr_devState
  unfold State.wordRule
  simp only [split, startedBits_devState k]
  cases h : s.requestCheck (8 + k) s.dev <;> simp [h]

/-- A write of DEV_STATE accepts its request. -/
theorem State.writeEffect_devState (old t : State) (q : Nat) (k : Fin 4) :
    State.writeEffect old q (requestWrite 0x10 (8 + k)) t = t.acceptRequest (8 + k) q := by
  have split : splitAddr (requestWrite 0x10 (8 + k.val)).addr = (0, 0, 0x10) := splitAddr_devState
  unfold State.writeEffect
  simp only [split, startedBits_devState k]
  rw [show t.noteSaved (requestWrite 0x10 (8 + k.val)).addr = t from devState_requestWord.noteSaved t]
  rfl

/-- The checks of a request read words and SYS alone. -/
theorem State.requestCheck_congr {s t : State} (words : ∀ x, t.reg x = s.reg x) (sys : t.sys = s.sys) (bit st : Nat) :
    t.requestCheck bit st = s.requestCheck bit st := by
  have ready : t.timeReady = s.timeReady := by rw [State.timeReady, State.timeReady, State.get_congr _ (words _)]
  have stands : t.standing = s.standing := by
    have fields : ∀ f, t.get f = s.get f := fun f => State.get_congr f (words _)
    unfold State.standing State.has
    simp only [fields, sys]
  rw [State.requestCheck, State.requestCheck, ready, stands]

/-- The rule of DEV_STATE where the request's packet has started. -/
theorem State.entered_wordRule_devState (s : State) (h : Hdr) (t : State) (k : Fin 4) :
    (s.begin.entered 0x03 (requestPkt h 0x10 (8 + k))).wordRule t true (requestWrite 0x10 (8 + k)) = (s.requestCheck (8 + k) s.dev).map refused :=
  (State.wordRule_devState _ t k).trans (congrArg _ (State.requestCheck_congr (fun _ => rfl) rfl _ _))

/-- What a request that is accepted leaves: it waits with the others, and GO_BUILD arms the checkpoints. -/
theorem State.acceptRequest_held (t : State) (bit q : Nat) (ok : t.requestCheck bit t.dev = none) :
    (t.acceptRequest bit q).sys.requests
        = t.sys.requests ++ [{ at_ := q + 20, target := (devRequest bit).2, cause := (devRequest bit).1, request := true }]
      ∧ (bit = 8 → (t.acceptRequest bit q).journal.armed = true) ∧ (t.acceptRequest bit q).regs = t.regs ∧ (t.acceptRequest bit q).cmd = t.cmd := by
  unfold State.acceptRequest
  simp only [ok, Option.isSome_none, Bool.false_eq_true, if_false]
  split
  · exact ⟨rfl, fun _ => rfl, rfl, rfl⟩
  · exact ⟨rfl, fun h => absurd h ‹_›, rfl, rfl⟩

/-- A request of DEV_STATE whose transition and conditions R28 holds. -/
theorem State.Serves.runs_devRequest {s : State} {h : Hdr} (k : Fin 4) {i : Instr} {P : State → Prop} (hs : s.Serves h.path h.tag)
    (hx : exec i s = .next (s.row (fun s => s.takePkt 0x03 (requestPkt h 0x10 (8 + k))))) (ok : s.requestCheck (8 + k) s.dev = none)
    (hP : ∀ u : State, u.sys.requests = s.sys.requests ++
        [{ at_ := s.us + 21, target := (devRequest (8 + k)).2, cause := (devRequest (8 + k)).1, request := true }] →
      (k = 0 → u.journal.armed = true) → u.Answered h.path h.tag 0 0 → P u) : Runs i s P := by
  obtain ⟨sys, -, -, -, -, waits⟩ := s.requested_rest h 0x10 (8 + k)
  have words := s.requested_reg h 0x10 (8 + k)
  have here : (s.requested h 0x10 (8 + k)).requestCheck (8 + k) (s.requested h 0x10 (8 + k)).dev = none := by
    rw [State.requestCheck_congr words sys, State.dev, State.get_congr _ (words _)]
    exact ok
  obtain ⟨held, armed, regs, cmd⟩ := State.acceptRequest_held _ (8 + k) (s.us + 1) here
  refine hs.runs_request devState_requestWord hx (fun t => (s.entered_wordRule_devState h t k).trans ?_) (State.writeEffect_devState _ _ _ k)
    (fun x => (State.reg_congr regs x).trans (words x)) ((congrArg CmdSt.inflight cmd).trans waits) fun u requests _ journal answered => ?_
  · rw [ok, Option.map_none]
  · refine hP u ?_ (fun first => ?_) answered
    · rw [requests, held, sys]
    · rw [journal]
      exact armed (by rw [first]; rfl)

/-- Settles O1: R28 holds the transition in each clause, so that the request's check passes, and the packet that makes it is served. -/
theorem deviceRequestsAreAccepted : Obligations.DeviceRequestsAreAccepted := by
  unfold Obligations.DeviceRequestsAreAccepted
  refine ⟨fun s h hs ready time => ?_, fun s h hs builds => ?_, fun s h hs runs => ?_, fun s h hs halted clear => ?_⟩
  · refine hs.runs_devRequest 0 rfl ?_ fun u requests armed answered => ⟨requests, armed rfl, answered⟩
    simp [State.requestCheck, devRequest, devTransition, ready, time]
  · refine hs.runs_devRequest 1 rfl ?_ fun u requests _ answered => ⟨requests, answered⟩
    simp [State.requestCheck, devRequest, devTransition, builds]
  · refine hs.runs_devRequest 2 rfl ?_ fun u requests _ answered => ⟨requests, answered⟩
    simp [State.requestCheck, devRequest, devTransition, runs]
  · refine hs.runs_devRequest 3 rfl ?_ fun u requests _ answered => ⟨requests, answered⟩
    simp [State.requestCheck, devRequest, devTransition, halted, clear]

end Sys2Proof.Machine
end

section
/-!
PROOFS that the requests of CH_STATE are accepted or refused (R31, R34, R263).
-/
set_option Elab.async false -- one proof after the other: checking the whole text at once takes more memory than the check allows
namespace Sys2Proof.Machine

theorem startedBits_chState (a : Nat) (k : Fin 7) : startedBits (requestWrite a (8 + k)) 8 7 = [8 + k.val] := by
  have all : ∀ k : Fin 7, startedBits (requestWrite 0 (8 + k)) 8 7 = [8 + k.val] := by decide
  exact all k

/-- The rule of CH_STATE tests the request against the present state of the channel. -/
theorem State.wordRule_chState (s t : State) (c : Fin 64) (k : Fin 7) :
    s.wordRule t true (requestWrite (chanAddr 0x18 c 0) (8 + k)) = (s.chRequestError c (8 + k)).map refused := by
  have split : splitAddr (requestWrite (chanAddr 0x18 c 0) (8 + k.val)).addr = (0x18, c.val, 0) := splitAddr_chState c
  unfold State.wordRule
  simp only [split, startedBits_chState]
  cases h : s.chRequestError c (8 + k) <;> simp [h]

/-- A write of CH_STATE accepts its request. -/
theorem State.writeEffect_chState (old t : State) (q : Nat) (c : Fin 64) (k : Fin 7) :
    State.writeEffect old q (requestWrite (chanAddr 0x18 c 0) (8 + k)) t = t.acceptChRequest c (8 + k) q := by
  have split : splitAddr (requestWrite (chanAddr 0x18 c 0) (8 + k.val)).addr = (0x18, c.val, 0) := splitAddr_chState c
  unfold State.writeEffect
  simp only [split, startedBits_chState]
  rw [show t.noteSaved (requestWrite (chanAddr 0x18 c 0) (8 + k.val)).addr = t from (chState_requestWord c).noteSaved t]
  rfl

/-- Whether R34 holds a request's transition rests on the words, SYS, the channel's queue and the streams. -/
theorem State.requestOk_congr {s t : State} (words : ∀ x, t.reg x = s.reg x) (sys : t.sys = s.sys) {c : Nat}
    (queue : (t.sq c).queue = (s.sq c).queue) (stream : t.stream = s.stream) (st f kind : Nat) :
    t.requestOk c st f kind = s.requestOk c st f kind := by
  have fields : ∀ f, t.get f = s.get f := fun f => State.get_congr f (words _)
  have queued : t.programQueued c = s.programQueued c := by
    rw [State.programQueued, State.programQueued, queue, stream]
  have absent : t.causeAbsent c f = s.causeAbsent c f := by
    simp only [State.causeAbsent, State.devAt, State.dev, fields, sys]
  unfold State.requestOk State.frameLock State.cascadeRole
  simp only [fields, sys, queued, absent]

theorem State.chRequestError_congr {s t : State} (words : ∀ x, t.reg x = s.reg x) (sys : t.sys = s.sys) (seq : t.seq = s.seq)
    (stream : t.stream = s.stream) (time : t.time = s.time) (c kind : Nat) : t.chRequestError c kind = s.chRequestError c kind := by
  have queue : (t.sq c).queue = (s.sq c).queue := by rw [State.sq_congr seq]
  have queued : t.programQueued c = s.programQueued c := by
    rw [State.programQueued, State.programQueued, queue, stream]
  have here : t.ch c = s.ch c := State.get_congr _ (words _)
  unfold State.chRequestError
  rw [State.requestOk_congr words sys queue stream, here, State.us_congr time, sys, queued]

theorem State.acceptChRequest_held (t : State) (c kind q : Nat) (ok : t.chRequestError c kind = none) :
    t.acceptChRequest c kind q = t.setSq c { t.sq c with
      requests := (t.sq c).requests ++ [{ at_ := q + 20, target := requestTarget kind, cause := 0, kind := kind }] } := by
  unfold State.acceptChRequest
  simp only [ok, Option.isSome_none, Bool.false_eq_true, if_false]

/-- A request of CH_STATE that R34 holds. -/
theorem State.Serves.runs_chRequest {s : State} {h : Hdr} {c : Chan} (k : Fin 7) {i : Instr} (hs : s.Serves h.path h.tag)
    (hx : exec i s = .next (s.row (fun s => s.takePkt 0x03 (chRequest h c (8 + k))))) (ok : s.requestOk c (s.ch c) s.us (8 + k) = true) :
    Runs i s (fun u => (u.sq c).requests = (s.sq c).requests ++
        [{ at_ := s.us + 21, target := requestTarget (8 + k), cause := 0, kind := 8 + k }] ∧ u.Answered h.path h.tag 0 0) := by
  have fine : s.chRequestError c (8 + k) = none := if_pos ok
  obtain ⟨sys, seq, -, time, stream, waits⟩ := s.requested_rest h (chanAddr 0x18 c 0) (8 + k)
  have words := s.requested_reg h (chanAddr 0x18 c 0) (8 + k)
  have effect := (State.writeEffect_chState (s.begin.entered 0x03 (chRequest h c (8 + k))).bump _ (s.us + 1) c k).trans
    (State.acceptChRequest_held _ c (8 + k) (s.us + 1) ((State.chRequestError_congr words sys seq stream time c (8 + k)).trans fine))
  refine hs.runs_request (chState_requestWord c) hx (fun t => ?_) effect words waits fun u _ held _ answered => ⟨?_, answered⟩
  · have same : (s.begin.entered 0x03 (chRequest h c (8 + k))).chRequestError c (8 + k) = none :=
      (State.chRequestError_congr (s := s) (fun _ => rfl) rfl rfl rfl rfl c (8 + k)).trans fine
    exact (State.wordRule_chState _ t c k).trans (by rw [← chRequest, same, Option.map_none])
  · rw [State.sq_congr held, State.sq_setSq_same]
    dsimp only
    rw [State.sq_congr seq]

/-- An ONLINE that R34 does not hold. -/
theorem State.Serves.runs_online_refused {s : State} {h : Hdr} {c : Chan} (hs : s.Serves h.path h.tag)
    (bad : s.requestOk c (s.ch c) s.us 8 = false) :
    Runs (.online h c) s (fun u => (u.sq c).requests = (s.sq c).requests ∧ u.Answered h.path h.tag 0x10 0x18F5) := by
  have error : s.chRequestError c 8 = some 0x18F5 := by
    unfold State.chRequestError
    simp [bad]
  refine hs.runs_refused (chState_requestWord c) rfl 0x18F5 (by decide) (fun t => ?_) fun u seq answered => ⟨?_, answered⟩
  · have same : (s.begin.entered 0x03 (chRequest h c 8)).chRequestError c 8 = some 0x18F5 :=
      (State.chRequestError_congr (s := s) (fun _ => rfl) rfl rfl rfl rfl c 8).trans error
    exact (State.wordRule_chState _ t c 0).trans (congrArg (Option.map refused) same)
  · rw [State.sq_congr seq]

/-- Settles O7: R34 holds the transition in each clause but the second, so that the request's check passes, and the packet that makes it is
served; in the second the check gives the detail. -/
theorem channelRequestsAreAccepted : Obligations.ChannelRequestsAreAccepted := by
  unfold Obligations.ChannelRequestsAreAccepted
  refine ⟨fun s h c hs off locked role => ?_, fun s h c hs bad => ?_, fun s h c hs idle laser queued => ?_, fun s h c hs armed => ?_,
    fun s h c hs runs => ?_, fun s h c hs held => ?_, fun s h c hs down absent => ?_, fun s h c hs => ?_⟩
  · exact hs.runs_chRequest 0 rfl (by simp [State.requestOk, off, locked, role])
  · refine hs.runs_online_refused ?_
    rcases bad with on | unlocked | referee
    · simp [State.requestOk, on]
    · simp [State.requestOk, unlocked]
    · simp [State.requestOk, referee]
  · exact hs.runs_chRequest 1 rfl (by simp [State.requestOk, idle, laser, queued])
  · exact hs.runs_chRequest 2 rfl (by simp [State.requestOk, armed])
  · exact hs.runs_chRequest 3 rfl (by simp [State.requestOk, runs])
  · exact hs.runs_chRequest 4 rfl (by simp [State.requestOk, held])
  · exact hs.runs_chRequest 5 rfl (by simp [State.requestOk, down, absent])
  · exact hs.runs_chRequest 6 rfl rfl

end Sys2Proof.Machine
end

section
/-!
PROOFS about the triggers of a channel (R34, R35, R263, R264, R267, R422): requests at their instant, holding at rest, the 50 µs rule of SAFE_STOP,
the third miss and the loss of symbol lock.
-/
set_option Elab.async false -- one proof after the other: checking the whole text at once takes more memory than the check allows
namespace Sys2Proof.Machine

/-! ## Replacing a channel's part -/

/-- A state whose channel is replaced by one with the same transitions decided stays settled. -/
theorem State.Settled.setSq {s : State} (h : s.Settled) (c : Nat) (x : SeqCh) (hx : x.next = (s.sq c).next) : (s.setSq c x).Settled := by
  refine h.congr rfl (fun d => ?_) rfl
  by_cases hd : d = c
  · rw [hd, State.sq_setSq_same, hx]
  · rw [State.sq_setSq_ne s c d x hd]

theorem State.setSq_within (s : State) (c : Nat) (x : SeqCh) : s.Within (s.setSq c x) [.seq] [] := (State.Within.refl s [.seq] []).seq _

theorem State.addChTrigger_within (s : State) (c : Nat) (t : ChTrigger) : s.Within (s.addChTrigger c t) [.seq] [] := s.setSq_within c _

theorem State.addChTrigger_sq (s : State) (c : Nat) (t : ChTrigger) :
    (s.addChTrigger c t).sq c = { s.sq c with triggers := (s.sq c).triggers ++ [t] } := State.sq_setSq_same s c _

theorem State.Settled.addChTrigger {s : State} (h : s.Settled) (c : Nat) (t : ChTrigger) : (s.addChTrigger c t).Settled := h.setSq c _ rfl

/-- The state decided for a channel rests on what is decided and on its state word. -/
theorem State.chAt_congr {s t : State} {c : Nat} (next : (t.sq c).next = (s.sq c).next) (word : t.ch c = s.ch c) (f : Nat) :
    t.chAt c f = s.chAt c f := by
  rw [State.chAt, State.chAt, next, word]

theorem openAddr_chan (c : Nat) (hc : c < 64) : inUnits [0x68] (Subject.openAddr ⟨2, c⟩) = true :=
  inUnits_wordAddr _ 0x68 (0x100 + c) (by omega)

/-! ## Requests at their apply instant (R263) -/

/-- The channel without its requests. -/
def State.unrequested (a : State) (c : Nat) : State := a.setSq c { a.sq c with requests := [] }

theorem State.unrequested_sq (a : State) (c : Nat) : (a.unrequested c).sq c = { a.sq c with requests := [] } := State.sq_setSq_same a c _

theorem State.unrequested_requestOk (a : State) (c f kind : Nat) :
    (a.unrequested c).requestOk c ((a.unrequested c).chAt c f) f kind = a.requestOk c (a.chAt c f) f kind := by
  have next : ((a.unrequested c).sq c).next = (a.sq c).next := by rw [State.unrequested_sq]
  have queue : ((a.unrequested c).sq c).queue = (a.sq c).queue := by rw [State.unrequested_sq]
  rw [State.chAt_congr next rfl f]
  exact State.requestOk_congr (s := a) (t := a.unrequested c) (fun _ => rfl) rfl queue rfl _ f kind

/-- What CH_REQUEST_ACT does with one request that is due. -/
theorem State.chRequestAct_one (a : State) (c f : Nat) (r : ChTrigger) (hr : (a.sq c).requests = [r]) (due : r.at_ ≤ f) :
    a.chRequestAct c f =
      if !a.requestOk c (a.chAt c f) f r.kind then (a.unrequested c).info ⟨2, c⟩ 0x1803 [r.target]
      else if r.kind = 11 ∧ ((a.unrequested c).inForce f).has (F.SEQ_RUN_CFG_HOLD_AT c) then
        (a.unrequested c).setSq c { (a.unrequested c).sq c with holdFrom := some f }
      else (a.unrequested c).addChTrigger c { r with at_ := f } := by
  have one : (a.sq c).requests.filter (fun (t : ChTrigger) => decide (t.at_ ≤ f)) = [r] := by simp [hr, due]
  have rest : (a.sq c).requests.filter (fun (t : ChTrigger) => !decide (t.at_ ≤ f)) = [] := by simp [hr, due]
  unfold State.chRequestAct
  dsimp only
  rw [one, rest, ← a.unrequested_requestOk c f r.kind]
  rfl

/-! ## Holding at rest (R264) -/

/-- A channel with an empty queue starts nothing. -/
theorem SeqCh.advance_starts (x : SeqCh) (hx : x.queue = []) (may : Seg → Bool) (limit : Int) (f : Nat) (slip before : Int) :
    (x.advance may limit f slip before).starts = [] := by
  unfold SeqCh.advance
  rw [hx]
  rfl

theorem SeqCh.planned_queue (x : SeqCh) (hx : x.queue = []) (w : State) (c f : Nat) (slip : Int) : (x.planned w c f slip).1.queue = [] := by
  unfold SeqCh.planned
  rw [hx]
  rfl

theorem State.holdAtRest_holds (a : State) (c f h : Nat) (held : (a.sq c).holdFrom = some h) (from_ : h ≤ f) (next : (a.sq c).built < f)
    (runs : a.chAt c f = 3) (queue : (a.sq c).queue = []) (active : (a.sq c).active = []) :
    a.holdAtRest c f = (a.setSq c { a.sq c with holdFrom := none }).addChTrigger c { at_ := f, target := 4, cause := 0 } := by
  have starts := fun may limit before => SeqCh.advance_starts _ ((a.sq c).planned_queue queue (a.inForce f) c f (a.sq c).slip) may limit f (a.sq c).slip before
  unfold State.holdAtRest
  simp only [held]
  rw [if_neg (by omega)]
  simp [starts, active]

/-! ## The third miss (R42) and the loss of symbol lock (R422) -/

theorem State.linkOffline_offline (a : State) (c l : Nat) (lost : (a.link c).lostAt = some l) (long : l + 100000 ≤ a.ns)
    (down : a.get (F.STN_LINK_STAT_STATE c) = 0) (up : a.chAt c a.nextFix ≠ 0) :
    a.linkOffline c = a.addChTrigger c { at_ := a.nextFix, target := 0, cause := 0x4013 } := by
  unfold State.linkOffline
  rw [lost]
  exact if_pos ⟨long, down, up⟩

end Sys2Proof.Machine
end

section
/-!
PROOFS about the 50 µs rule of SAFE_STOP, the third miss and pending absorptions (R42, R235, R267), and the transitions of channels.
-/
set_option Elab.async false -- one proof after the other: checking the whole text at once takes more memory than the check allows
namespace Sys2Proof.Machine

/-! ## The 50 µs rule (R267) -/

/-- From `t` to `u` channels have gained triggers alone. -/
structure State.Triggered (t u : State) : Prop where
  rest : u = { t with seq := u.seq }
  next : ∀ c, (u.sq c).next = (t.sq c).next
  built : ∀ c, (u.sq c).built = (t.sq c).built
  kept : ∀ c, ∀ x ∈ (t.sq c).triggers, x ∈ (u.sq c).triggers

namespace State.Triggered

theorem refl (t : State) : t.Triggered t := ⟨rfl, fun _ => rfl, fun _ => rfl, fun _ _ h => h⟩

theorem trans {t u v : State} (h : t.Triggered u) (h' : u.Triggered v) : t.Triggered v where
  rest := by
    have e := h'.rest
    rw [h.rest] at e
    exact e
  next c := (h'.next c).trans (h.next c)
  built c := (h'.built c).trans (h.built c)
  kept c x hx := h'.kept c x (h.kept c x hx)

theorem add (t : State) (c : Nat) (x : ChTrigger) : t.Triggered (t.addChTrigger c x) where
  rest := rfl
  next d := by
    by_cases hd : d = c
    · rw [hd, State.addChTrigger_sq]
    · rw [State.addChTrigger, State.sq_setSq_ne _ _ _ _ hd]
  built d := by
    by_cases hd : d = c
    · rw [hd, State.addChTrigger_sq]
    · rw [State.addChTrigger, State.sq_setSq_ne _ _ _ _ hd]
  kept d y hy := by
    by_cases hd : d = c
    · subst hd
      rw [State.addChTrigger_sq]
      exact List.mem_append_left _ hy
    · rwa [State.addChTrigger, State.sq_setSq_ne _ _ _ _ hd]

variable {t u : State} (h : t.Triggered u)

include h

theorem dev : u.dev = t.dev := by rw [h.rest]; rfl

theorem chAt (c f : Nat) : u.chAt c f = t.chAt c f := by
  have word : u.ch c = t.ch c := by rw [h.rest]; rfl
  exact State.chAt_congr (h.next c) word f

theorem settled (ht : t.Settled) : u.Settled := by
  refine ht.congr ?_ h.next ?_
  · rw [h.rest]
  · rw [h.rest]

end State.Triggered

/-- What the deadline does of one channel. -/
def State.askIfRunning (f c : Nat) (s : State) : State := if s.chAt c f = 3 ∧ (s.sq c).built < f then s.askSafe c f else s

theorem State.askIfRunning_triggered (f c : Nat) (s : State) : s.Triggered (s.askIfRunning f c) := by
  unfold State.askIfRunning
  split
  · exact .add s c _
  · exact .refl s

/-- Every channel of a list that is RUNNING is asked to go to SAFE. -/
theorem State.forEach_askIfRunning (f : Nat) (l : List Nat) (t : State) : t.Triggered (forEach l (State.askIfRunning f) t)
    ∧ ∀ c ∈ l, t.chAt c f = 3 → (t.sq c).built < f → { at_ := f, target := 5, cause := 0 } ∈ ((forEach l (State.askIfRunning f) t).sq c).triggers := by
  induction l generalizing t with
  | nil => exact ⟨.refl t, fun c hc => absurd hc List.not_mem_nil⟩
  | cons d l ih =>
    have first := t.askIfRunning_triggered f d
    obtain ⟨more, asked⟩ := ih (t.askIfRunning f d)
    refine ⟨first.trans more, fun c hc runs open_ => ?_⟩
    rcases List.mem_cons.mp hc with rfl | hc
    · refine more.kept c _ ?_
      have here : t.askIfRunning f c = t.askSafe c f := if_pos ⟨runs, open_⟩
      rw [here, State.askSafe, State.addChTrigger_sq]
      exact List.mem_append_right _ (List.mem_singleton.mpr rfl)
    · exact asked c hc ((first.chAt c f).trans runs) (by rw [first.built c]; exact open_)

theorem State.safeStopDeadline_asks (a : State) (f e : Nat) (entry : a.sys.safeEntry = some e) (late : e + 50 ≤ f) (stops : a.devAt f = 4) :
    a.safeStopDeadline f = forEach (List.range 64) (State.askIfRunning f) a := by
  have deadline : a.safeDeadline f = true := by
    unfold State.safeDeadline
    rw [entry]
    exact decide_eq_true late
  unfold State.safeStopDeadline
  rw [if_neg (by simp [stops, deadline])]
  rfl

/-! ## The third miss (R42) -/

theorem stnWord (c w : Nat) (hc : c < 64) (hw : w < 1024) : inUnits [0x40] (chanAddr 0x40 c w) = true := inUnits_chanAddr _ _ c w hc hw

/-- A miss of frame `k`, counted. -/
def State.missCounted (a : State) (c k : Nat) : State :=
  let x := a.link c
  let t := a.setLink c { x with missFor := some k }
  let t := t.setLink c { t.link c with goodRun := 0, lostRun := x.lostRun + 1 }
  (t.count (F.STN_RX_MISS_MISSED c)).count (F.STN_LINK_STAT_MISS_RUN c)

theorem State.missCounted_within (a : State) (c k : Nat) (hc : c < 64) : a.Within (a.missCounted c k) [.stn] [0x40] := by
  unfold State.missCounted
  extract_lets x noted old run
  have h : a.Within run [.stn] [0x40] := ((State.Within.refl a [.stn] [0x40]).stn _).stn _
  exact (h.count _ 1 (stnWord c 5 hc (by decide))).count _ 1 (stnWord c 0 hc (by decide))

theorem State.missCounted_run (a : State) (c k : Nat) (two : a.get (F.STN_LINK_STAT_MISS_RUN c) = 2) :
    (a.missCounted c k).get (F.STN_LINK_STAT_MISS_RUN c) = 3 := by
  unfold State.missCounted
  extract_lets x noted old run
  have apart : (F.STN_LINK_STAT_MISS_RUN c).addr ≠ (F.STN_RX_MISS_MISSED c).addr := by
    simp [F.STN_LINK_STAT_MISS_RUN, F.STN_RX_MISS_MISSED, chanAddr]
  have before : (run.count (F.STN_RX_MISS_MISSED c)).get (F.STN_LINK_STAT_MISS_RUN c) = 2 :=
    (State.get_put_other_word _ _ _ _ apart).trans two
  rw [State.count, State.get_put_same _ _ _ (show 8 + 4 ≤ 32 by decide), before]
  rfl

/-- A third miss in a row raises its record and takes a channel that is up to SAFE. -/
theorem State.missRule_third (a : State) (c k : Nat) (two : a.get (F.STN_LINK_STAT_MISS_RUN c) = 2) (none_ : a.inbound c k = none)
    (new : (a.link c).missFor ≠ some k) (up : a.get (F.STN_LINK_STAT_STATE c) ≠ 0) (hc : c < 64)
    (going : a.chAt c (k + 2) = 1 ∨ a.chAt c (k + 2) = 2 ∨ a.chAt c (k + 2) = 3 ∨ a.chAt c (k + 2) = 4) :
    a.missRule c k = ((a.missCounted c k).raise 2 false ⟨2, c⟩ 0x4012).addChTrigger c { at_ := k + 2, target := 5, cause := 0x4012 } := by
  have fresh : ((a.link c).missFor == some k || (a.get (F.STN_LINK_STAT_STATE c) == 0 && (a.link c).lostAt.isNone && a.chAt c k == 0)) = false := by
    simp [new, up]
  unfold State.missRule
  extract_lets x noted
  have unseen : noted.inbound c k = none := by
    have last : (noted.link c).last = (a.link c).last := by
      unfold noted
      rw [State.link_setLink_same]
    unfold State.inbound at none_ ⊢
    rw [last]
    exact none_
  rw [if_neg (by rw [fresh]; exact Bool.false_ne_true)]
  simp only [unseen]
  refine if_pos ⟨congrArg (· + 1) two, ?_⟩
  have w := a.missCounted_within c k hc
  have kept : (a.missCounted c k).chAt c (k + 2) = a.chAt c (k + 2) :=
    State.chAt_congr (by rw [State.sq_congr w.seq_eq]) (w.get (F.SEQ_CH_STATE_STATE c) (inUnits_chanAddr [0x40] 0x18 c 0 hc (by decide))) _
  rw [← kept] at going
  exact going

end Sys2Proof.Machine
end

section
/-!
PROOFS about pending absorptions and the sweeps that follow a fall in slip (R224, R235, R538, R546), and that channel transitions are decided.
-/
set_option Elab.async false -- one proof after the other: checking the whole text at once takes more memory than the check allows
namespace Sys2Proof.Machine

/-! ## What the sweeps keep to -/

theorem State.trigGoTo_within (s : State) (k n : Nat) (hk : k < 24) : s.Within (s.trigGoTo k n) [.time] [0x08] := by
  unfold State.trigGoTo
  extract_lets more
  exact ((State.Within.refl s [.time] [0x08]).time _).putB _ _ (tableWord_unit 0x08 0x107 24 k 8 hk (by decide))

theorem State.trigSkip_within (s : State) (k slack : Nat) (hk : k < 24) : s.Within (s.trigSkip k slack).1 [.time] [0x08] := by
  unfold State.trigSkip
  extract_lets x m m' n
  split
  · exact .refl s _ _
  · split
    · exact .refl s _ _
    · exact (s.trigGoTo_within k m' hk).count _ _ (tableWord_unit 0x08 0x107 24 k 8 hk (by decide))

theorem State.trigSweep_within (s : State) (k : Nat) (hk : k < 24) : s.Within (s.trigSweep k) [.time, .err] [0x08, 0x68] := by
  have h : s.Within (s.trigSkip k 4).1 [.time, .err] [0x08, 0x68] := (s.trigSkip_within k 4 hk).mono (by decide) (by decide)
  unfold State.trigSweep
  split
  rename_i t n e
  rw [e] at h
  have unit : inUnits [0x08, 0x68] (F.TIME_TRIG_STAT_SKIP k).addr = true :=
    inUnits_mono (by decide) (tableWord_unit 0x08 0x107 24 k 8 hk (by decide))
  exact .ite (fun _ => h) fun _ => (h.mark _ 1 unit).andThen
    (State.raise_low_within _ 1 ⟨1, 0x08⟩ 0x0832 [k, n] (by decide) (by decide)) (by decide) (by decide)

theorem State.trigSweepAll_within (s : State) : s.Within s.trigSweepAll [.time, .err] [0x08, 0x68] :=
  .ite (fun _ => .refl s _ _) fun _ => State.Within.forEach _ _ (.refl s _ _) fun k hk t h => h.trans (t.trigSweep_within k (List.mem_range.mp hk))

theorem State.lightWarn_within (s : State) (d : Nat) (args : List Int) : s.Within (s.lightWarn d args) [.err] [0x68] := by
  unfold State.lightWarn
  exact .ite (fun _ => .refl s _ _) fun _ => s.raise_low_within 1 ⟨1, 0x58⟩ d args (by decide) (by decide)

theorem State.strobeSkip_within (s : State) (n slack : Nat) (hn : n < 8) : s.Within (s.strobeSkip n slack).1 [.light] [0x58] := by
  unfold State.strobeSkip
  extract_lets x m m' k
  split
  · exact .refl s _ _
  · split
    · exact .refl s _ _
    · have h : s.Within (s.strobeGoTo n m') [.light] [0x58] := (State.Within.refl s [.light] [0x58]).light _
      exact h.count _ _ (tableWord_unit 0x58 0x10D 8 n 0x10 hn (by decide))

theorem State.strobeSweep_within (s : State) (n : Nat) (hn : n < 8) : s.Within (s.strobeSweep n) [.light, .err] [0x58, 0x68] := by
  have h : s.Within (s.strobeSkip n 4).1 [.light, .err] [0x58, 0x68] := (s.strobeSkip_within n 4 hn).mono (by decide) (by decide)
  unfold State.strobeSweep
  split
  rename_i t k e
  rw [e] at h
  have unit : inUnits [0x58, 0x68] (F.LIGHT_S_STAT_SKIP n).addr = true :=
    inUnits_mono (by decide) (tableWord_unit 0x58 0x109 8 n 0x10 hn (by decide))
  exact .ite (fun _ => h) fun _ => (h.mark _ 1 unit).andThen (State.lightWarn_within _ _ _) (by decide) (by decide)

theorem State.strobeSweepAll_within (s : State) : s.Within s.strobeSweepAll [.light, .err] [0x58, 0x68] :=
  .ite (fun _ => .refl s _ _) fun _ => State.Within.forEach _ _ (.refl s _ _) fun n hn t h => h.trans (t.strobeSweep_within n (List.mem_range.mp hn))

theorem State.expoHits_within (s : State) : s.Within s.expoHits [.light, .err] [0x58, 0x68] := by
  refine State.Within.forEach _ _ (.refl s _ _) fun n hn t h => ?_
  have unit : inUnits [0x58, 0x68] (F.LIGHT_S_STAT_EXPO_HIT n).addr = true :=
    inUnits_mono (by decide) (tableWord_unit 0x58 0x109 8 n 0x10 (List.mem_range.mp hn) (by decide))
  exact .ite (fun _ => ((h.light _).mark _ 1 unit).andThen (State.lightWarn_within _ _ _) (by decide) (by decide)) fun _ => h

/-! ## Absorption (R235) -/

/-- A channel error with the fault mark enters its record and asks for FAULT (R34, R577). -/
theorem State.raise_fault (s : State) (c d : Nat) (args : List Int) (hc : c < 64) :
    ∃ t : State, s.Within t [.err] [0x68] ∧ s.raise 2 true ⟨2, c⟩ d args = t.addChTrigger c { at_ := t.nextFix, target := 6, cause := d } := by
  unfold State.raise
  extract_lets entered
  refine ⟨entered, s.enterRecord_within _ (openAddr_chan c hc), ?_⟩
  rw [if_neg (by decide), if_neg (by decide), if_pos ⟨rfl, rfl, rfl⟩]

/-- The check of a slip's bound touches records and the channel's triggers. -/
theorem State.slipCheck_keeps (s : State) (c : Nat) (old new : Int) (hc : c < 64) : s.Within (s.slipCheck c old new) [.err, .seq] [0x68]
    ∧ ((s.slipCheck c old new).sq c).absorbPending = (s.sq c).absorbPending ∧ ((s.slipCheck c old new).sq c).slip = (s.sq c).slip := by
  unfold State.slipCheck
  split
  · obtain ⟨t, w, e⟩ := s.raise_fault c 0x18A0 [] hc
    rw [e, State.addChTrigger_sq, State.sq_congr w.seq_eq]
    exact ⟨(w.mono (by decide) (by decide)).andThen (t.addChTrigger_within c _) (by decide) (by decide), rfl, rfl⟩
  · exact ⟨.refl s _ _, rfl, rfl⟩

theorem seqWord (c w : Nat) (hc : c < 64) (hw : w < 1024) : inUnits [0x18] (chanAddr 0x18 c w) = true := inUnits_chanAddr _ _ c w hc hw

theorem State.get_mark (s : State) (f g : Fld) (n : Nat) : (s.mark f n).get g = (s.put f (s.get f ||| n)).get g := rfl

/-- An absorption uses up what is pending; with an empty queue it is applied whole. -/
theorem State.absorb_done (a : State) (c f : Nat) (hc : c < 64) : ((a.absorb c f).sq c).absorbPending = 0
    ∧ (a.absorb c f).get (F.SEQ_ABSORB_STAT_PENDING c) = 0
    ∧ ((a.sq c).queue = [] → ((a.absorb c f).sq c).slip = (a.sq c).slip - (a.sq c).absorbPending) := by
  unfold State.absorb
  extract_lets x room want amount applied shown marked
  obtain ⟨w, pending, slip⟩ := marked.slipCheck_keeps c x.slip (x.slip - amount) hc
  have h : applied.Within marked [] [0x18] := by
    have put : applied.Within shown [] [0x18] :=
      ((State.Within.refl applied [] [0x18]).put _ _ (seqWord c 0x16 hc (by decide))).put _ _ (seqWord c 0x17 hc (by decide))
    exact .ite (fun _ => put.mark _ 1 (seqWord c 0x17 hc (by decide))) fun _ => put
  have sq : marked.sq c = { x with slip := x.slip - amount, absorbPending := 0 } := by
    rw [State.sq_congr h.seq_eq, State.sq_setSq_same]
  have cleared : shown.get (F.SEQ_ABSORB_STAT_PENDING c) = 0 := by
    rw [State.get_put_same _ _ _ (show 0 + 1 ≤ 32 by decide)]
    rfl
  refine ⟨by rw [pending, sq], ?_, fun queue => ?_⟩
  · rw [w.get _ (inUnits_chanAddr [0x68] 0x18 c 0x17 hc (by decide))]
    unfold marked
    split
    · have apart := shown.get_put_disjoint (F.SEQ_ABSORB_STAT_CLAMPED c) (F.SEQ_ABSORB_STAT_PENDING c)
        (shown.get (F.SEQ_ABSORB_STAT_CLAMPED c) ||| 1) (show 1 + 1 ≤ 32 by decide) rfl (.inl (show 0 + 1 ≤ 1 by decide))
      exact (State.get_mark _ _ _ _).trans (apart.trans cleared)
    · exact cleared
  · have whole : amount = x.absorbPending := by
      unfold amount room
      rw [queue]
      rfl
    rw [slip, sq, whole]

/-- An absorption leaves the device's state alone. -/
theorem State.absorb_dev (a : State) (c f : Nat) (hc : c < 64) : (a.absorb c f).dev = a.dev := by
  unfold State.absorb
  extract_lets x room want amount applied shown marked
  have put : a.Within shown [.seq] [0x18] :=
    (((State.Within.refl a [.seq] [0x18]).seq _).put (b := applied) _ _ (seqWord c 0x16 hc (by decide))).put _ _ (seqWord c 0x17 hc (by decide))
  have h : a.Within marked [.seq] [0x18] := .ite (fun _ => put.mark _ 1 (seqWord c 0x17 hc (by decide))) fun _ => put
  exact (marked.slipCheck_keeps c x.slip (x.slip - amount) hc).1.dev.trans h.dev

/-- A pending amount of a channel that is OFFLINE or IDLE is due. -/
theorem State.absorbDue_rests (a w : State) (c f : Nat) (pending : a.has (F.SEQ_ABSORB_STAT_PENDING c) = true) (st : a.chAt c f = 0 ∨ a.chAt c f = 1) :
    a.absorbDue w c f = true := by
  unfold State.absorbDue
  rcases st with st | st <;> simp [pending, st]

theorem State.sweeps_within (s : State) : s.Within s.trigSweepAll.strobeSweepAll.expoHits [.time, .light, .err] [0x08, 0x58, 0x68] :=
  ((s.trigSweepAll_within.mono (by decide) (by decide)).andThen (State.strobeSweepAll_within _) (by decide) (by decide)).andThen
    (State.expoHits_within _) (by decide) (by decide)

/-! ## The transitions of channels -/

/-- A command at apply instant `f` whose body's transition triggers, added in a settled state, are all that it does. -/
theorem State.Settled.settle_addChTrigger {b : State} (h : b.Settled) (c : Nat) (t : ChTrigger) :
    (b.addChTrigger c t).settle = b.addChTrigger c t := (h.addChTrigger c t).settle

/-- Settles O8: the body of each command adds its trigger, or lets the request lapse, in a settled state. -/
theorem channelTransitionsAreDecided : Obligations.ChannelTransitionsAreDecided := by
  unfold Obligations.ChannelTransitionsAreDecided
  refine ⟨fun s a c f r ha hr due ok kind => ?_, fun s a c f r ha hr due bad => ?_, fun s a c f h ha held from_ next _ runs queue active => ?_,
    fun s a f e ha entry late stops => ?_, fun s a c k ha two none_ new up going => ?_, fun s a t c l ha lost long down up => ?_,
    fun s a c f ha next pending st => ?_⟩
  · have freed : (a.unrequested c).Settled := ha.settled.setSq c _ rfl
    have body : (a.chRequestAct c f).settle = (a.unrequested c).addChTrigger c { r with at_ := f } := by
      rw [a.chRequestAct_one c f r hr due, if_neg (by simp [ok]), if_neg fun h => kind h.1]
      exact freed.settle_addChTrigger c _
    have w := (a.setSq_within c { a.sq c with requests := [] }).trans ((a.unrequested c).addChTrigger_within c { r with at_ := f })
    refine ha.runs (fun x => (x.chRequestAct c f).settle) rfl body w.dev.symm.trans fun u hu => ?_
    rw [hu.sq, State.addChTrigger_sq, State.unrequested_sq]
    exact ⟨rfl, rfl⟩
  · have hc := c.isLt
    have freed : (a.unrequested c).Settled := ha.settled.setSq c _ rfl
    have raised := State.raise_low_within (a.unrequested c) 0 ⟨2, c⟩ 0x1803 [r.target] (by decide) (by decide) (openAddr_chan c hc)
    have body : (a.chRequestAct c f).settle = (a.unrequested c).info ⟨2, c⟩ 0x1803 [r.target] := by
      rw [a.chRequestAct_one c f r hr due, if_pos (by simp [bad])]
      exact (raised.settled freed (congrArg SysSt.next raised.sys_eq)).settle
    have w := (a.setSq_within c { a.sq c with requests := [] }).dev
    refine ha.runs (fun x => (x.chRequestAct c f).settle) rfl body (raised.dev.trans w).symm.trans fun u hu => ?_
    have sq : (u.sq c) = { a.sq c with requests := [] } := by
      rw [hu.sq, ← a.unrequested_sq c]
      exact State.sq_congr raised.seq_eq c
    exact ⟨by rw [sq], by rw [sq], hu.raised (State.raise_low_raised _ 0 _ _ _ (by decide) (by decide))⟩
  · have body : (a.holdAtRest c f).settle = (a.setSq c { a.sq c with holdFrom := none }).addChTrigger c { at_ := f, target := 4, cause := 0 } := by
      rw [a.holdAtRest_holds c f h held from_ next runs queue active]
      exact (ha.settled.setSq c { a.sq c with holdFrom := none } rfl).settle_addChTrigger c _
    have w := (a.setSq_within c { a.sq c with holdFrom := none }).trans (State.addChTrigger_within _ c { at_ := f, target := 4, cause := 0 })
    refine ha.runs (fun x => (x.holdAtRest c f).settle) rfl body w.dev.symm.trans fun u hu => ?_
    rw [hu.sq, State.addChTrigger_sq, State.sq_setSq_same]
    exact ⟨rfl, rfl⟩
  · obtain ⟨more, asked⟩ := State.forEach_askIfRunning f (List.range 64) a
    have body : (a.safeStopDeadline f).settle = forEach (List.range 64) (State.askIfRunning f) a := by
      rw [a.safeStopDeadline_asks f e entry late stops]
      exact (more.settled ha.settled).settle
    refine ha.runs (fun x => (x.safeStopDeadline f).settle) rfl body more.dev.symm.trans fun u hu c runs open_ => ?_
    rw [hu.sq]
    exact asked c (List.mem_range.mpr c.isLt) runs open_
  · have hc := c.isLt
    have counted := a.missCounted_within c k hc
    have raised := State.raise_low_within (a.missCounted c k) 2 ⟨2, c⟩ 0x4012 [] (by decide) (by decide) (openAddr_chan c hc)
    have added := State.addChTrigger_within ((a.missCounted c k).raise 2 false ⟨2, c⟩ 0x4012) c { at_ := k + 2, target := 5, cause := 0x4012 }
    have body : (if a.get (F.STN_LINK_STAT_MISS_RUN c) = 2 ∧ (a.inbound c k).isNone = true then a.missRule c k else a)
        = ((a.missCounted c k).raise 2 false ⟨2, c⟩ 0x4012).addChTrigger c { at_ := k + 2, target := 5, cause := 0x4012 } := by
      rw [if_pos ⟨two, by rw [none_]; rfl⟩, a.missRule_third c k two none_ new up hc going]
    refine ha.runs (fun x => if x.get (F.STN_LINK_STAT_MISS_RUN c) = 2 ∧ (x.inbound c k).isNone then x.missRule c k else x) rfl body
      ((added.dev.trans raised.dev).trans counted.dev).symm.trans fun u hu => ⟨?_, ?_, hu.raised ?_⟩
    · rw [hu.get, added.get _ (by simp [inUnits]), raised.get _ (inUnits_chanAddr [0x68] 0x40 c 0 hc (by decide)), a.missCounted_run c k two]
    · rw [hu.sq, State.addChTrigger_sq, State.sq_congr raised.seq_eq, State.sq_congr counted.seq_eq]
    · have r := State.raise_low_raised (a.missCounted c k) 2 ⟨2, c⟩ 0x4012 [] (by decide) (by decide)
      unfold State.Raised at r ⊢
      rwa [(added.parts .err (by decide)).1]
  · have body := a.linkOffline_offline c l lost long down up
    refine ha.runs (fun x => x.linkOffline c) rfl body (a.addChTrigger_within c _).dev.symm.trans fun u hu => ?_
    rw [hu.sq, State.addChTrigger_sq]
  · have hc := c.isLt
    obtain ⟨used, cleared, whole⟩ := a.absorb_done c f hc
    have swept := (a.absorb c f).sweeps_within
    have body : (if (a.sq c).built < f ∧ a.absorbDue (a.inForce f) c f then (a.absorb c f).trigSweepAll.strobeSweepAll.expoHits else a)
        = (a.absorb c f).trigSweepAll.strobeSweepAll.expoHits := if_pos ⟨next, a.absorbDue_rests _ c f pending st⟩
    refine ha.runs (fun x => if (x.sq c).built < f ∧ x.absorbDue (x.inForce f) c f then ((x.absorb c f).trigSweepAll.strobeSweepAll).expoHits else x)
      rfl body (swept.dev.trans (a.absorb_dev c f hc)).symm.trans fun u hu => ?_
    have sq : u.sq c = (a.absorb c f).sq c := (hu.sq c).trans (State.sq_congr swept.seq_eq c)
    refine ⟨by rw [sq, used], ?_, fun queue => by rw [sq, whole queue]⟩
    rw [hu.get, swept.get _ (inUnits_chanAddr [0x08, 0x58, 0x68] 0x18 c 0x17 hc (by decide)), cleared]

end Sys2Proof.Machine
end

section
/-!
PROOFS about the pins of the resets: only the step and the rows of PORST_N and SYSRST_N change the waiting commands and the levels of those two
pins (`State.pins`). One rule for each operation that device time or a packet uses; here those on the state.
-/
set_option Elab.async false -- one proof after the other: checking the whole text at once takes more memory than the check allows
namespace Sys2Proof.Machine

/-- What only the step and the rows of the reset pins change: the commands that wait, and the levels of PORST_N and SYSRST_N. -/
def State.pins (s : State) : List Instr × Bool × Bool := (s.pending, s.sys.porst, s.sys.sysrst)

/-- A state put together from `s` keeps its pins where the waiting commands and both levels are those of `s`. -/
@[simp] theorem State.mk_pins (s : State) {regs : Tab Word} {marks : List (Nat × Nat × Nat)} {cmd : CmdSt} {host : HostSt} {sys : SysSt}
    {err : ErrSt} {journal : JournalSt} {time : TimeSt} {stream : StreamSt} {pack : PackSt} {seq : Tab SeqCh} {loop : LoopSt} {trace : TraceSt}
    {stn : Tab StnCh} {power : Tab PowCh} {ledger : LedgerSt} {col : ColSt} {axis : AxisSt} {husk : HuskSt} {ridge : RidgeSt} {pair : PairSt}
    {therm : ThermSt} {cal : CalSt} {light : LightSt} {out : List Output} (porst : sys.porst = s.sys.porst) (sysrst : sys.sysrst = s.sys.sysrst) :
    State.pins ⟨s.pending, regs, marks, cmd, host, sys, err, journal, time, stream, pack, seq, loop, trace, stn, power, ledger, col, axis,
      husk, ridge, pair, therm, cal, light, out⟩ = s.pins := by
  simp [State.pins, porst, sysrst]

@[simp] theorem State.ite_pins {c : Prop} [Decidable c] (a b : State) : (if c then a else b).pins = if c then a.pins else b.pins :=
  apply_ite _ _ _ _

@[simp] theorem forEach_pins {α : Type} (l : List α) (f : α → State → State) (s : State) (h : ∀ x s, (f x s).pins = s.pins) :
    (forEach l f s).pins = s.pins :=
  forEach_keeps (fun t => t.pins = s.pins) l f s rfl fun x t ht => (h x t).trans ht

/-! ## Words, transitions and records -/

@[simp] theorem State.setSq_pins (s : State) (c : Nat) (x : SeqCh) : (s.setSq c x).pins = s.pins := by simp [State.setSq]
@[simp] theorem State.bump_pins (s : State) (n : Nat) : (s.bump n).pins = s.pins := by simp [State.bump]
@[simp] theorem State.setReg_pins (s : State) (a : Nat) (v : Word) : (s.setReg a v).pins = s.pins := by simp [State.setReg]
@[simp] theorem State.put_pins (s : State) (f : Fld) (v : Nat) : (s.put f v).pins = s.pins := by simp [State.put]
@[simp] theorem State.closeHead_pins (s : State) (x : Subject) : (s.closeHead x).pins = s.pins := by simp [State.closeHead]
@[simp] theorem State.enterCh_pins (s : State) (c st cause : Nat) : (s.enterCh c st cause).pins = s.pins := by simp [State.enterCh]
@[simp] theorem settleCh_pins (c : Nat) (s : State) : (settleCh c s).pins = s.pins := by simp [settleCh]
@[simp] theorem State.entryEpoch_pins (s : State) (st : Nat) : (s.entryEpoch st).pins = s.pins := by simp [State.entryEpoch]
@[simp] theorem State.addDevTrigger_pins (s : State) (t : DevTrigger) : (s.addDevTrigger t).pins = s.pins := by simp [State.addDevTrigger]
@[simp] theorem State.enterDev_pins (s : State) (st cause : Nat) : (s.enterDev st cause).pins = s.pins := by simp [State.enterDev]
@[simp] theorem settleDev_pins (s : State) : (settleDev s).pins = s.pins := by simp [settleDev]
@[simp] theorem State.settle_pins (s : State) : s.settle.pins = s.pins := by simp [State.settle]
@[simp] theorem State.clocks_pins (s : State) (n : Nat) : (s.clocks n).pins = s.pins := by simp [State.clocks]
@[simp] theorem State.reach_pins (s : State) (t : Nat) : (s.reach t).pins = s.pins := by simp [State.reach]

@[simp] theorem State.clearRead_pins (s : State) (as : List Nat) : (s.clearRead as).pins = s.pins := by
  refine forEach_pins _ _ _ fun a s => ?_
  split <;> simp

@[simp] theorem State.readWords_pins (s : State) (q : Nat) (as : List Nat) : (s.readWords q as).1.pins = s.pins := by simp [State.readWords]

@[simp] theorem State.readPacket_pins (s : State) (p : InFlight) (q : Nat) : (s.readPacket p q).1.pins = s.pins := by
  simp [State.readPacket, apply_ite Prod.fst]

@[simp] theorem State.readNow_pins (s : State) (p : InFlight) (q : Nat) : (s.readNow p q).1.pins = s.pins := by
  simp [State.readNow, apply_ite Prod.fst]

@[simp] theorem State.resetSaved_pins (s : State) (cascade : Bool) : (s.resetSaved cascade).pins = s.pins := by simp [State.resetSaved]
@[simp] theorem State.noteSaved_pins (s : State) (a : Nat) : (s.noteSaved a).pins = s.pins := by simp [State.noteSaved]
@[simp] theorem State.enterRecord_pins (s : State) (r : ErrRec) : (s.enterRecord r).pins = s.pins := by simp [State.enterRecord]

@[simp] theorem State.recordDisplaced_pins (s : State) (x : Subject) (displaced entered : Nat) :
    (s.recordDisplaced x displaced entered).pins = s.pins := by
  simp [State.recordDisplaced]

@[simp] theorem State.haltNow_pins (s : State) : s.haltNow.pins = s.pins := by simp [State.haltNow]
@[simp] theorem State.addChTrigger_pins (s : State) (c : Nat) (t : ChTrigger) : (s.addChTrigger c t).pins = s.pins := by simp [State.addChTrigger]

@[simp] theorem State.raise_pins (s : State) (cls : Nat) (fault : Bool) (x : Subject) (detail : Nat) (args : List Int) :
    (s.raise cls fault x detail args).pins = s.pins := by
  simp [State.raise]

@[simp] theorem State.info_pins (s : State) (x : Subject) (detail : Nat) (args : List Int) : (s.info x detail args).pins = s.pins := by
  simp [State.info]

@[simp] theorem State.acceptRequest_pins (s : State) (bit q : Nat) : (s.acceptRequest bit q).pins = s.pins := by simp [State.acceptRequest]

/-! ## Replies, host paths and what a write does -/

@[simp] theorem State.ringReset_pins (s : State) : s.ringReset.pins = s.pins := by simp [State.ringReset]
@[simp] theorem State.emit_pins (s : State) (o : Output) : (s.emit o).pins = s.pins := by simp [State.emit]
@[simp] theorem State.replyIrq_pins (s : State) : s.replyIrq.pins = s.pins := by simp [State.replyIrq]
@[simp] theorem State.ringWrite_pins (s : State) (r : Reply) : (s.ringWrite r).pins = s.pins := by simp [State.ringWrite]

@[simp] theorem State.drainHeld_pins (n : Nat) (s : State) : (State.drainHeld n s).pins = s.pins := by
  induction n generalizing s with
  | zero => rfl
  | succ n ih =>
    unfold State.drainHeld
    split <;> simp [ih]

@[simp] theorem State.ptpAfresh_pins (s : State) : s.ptpAfresh.pins = s.pins := by simp [State.ptpAfresh]
@[simp] theorem State.putI_pins (s : State) (f : Fld) (v : Int) : (s.putI f v).pins = s.pins := by simp [State.putI]
@[simp] theorem State.setRate_pins (s : State) (num : Int) (den : Nat) : (s.setRate num den).pins = s.pins := by simp [State.setRate]
@[simp] theorem State.coast_pins (s : State) : s.coast.pins = s.pins := by simp [State.coast]

@[simp] theorem State.warn_pins (s : State) (x : Subject) (detail : Nat) (args : List Int) : (s.warn x detail args).pins = s.pins := by
  simp [State.warn]

@[simp] theorem State.enterTime_pins (s : State) (st cause : Nat) : (s.enterTime st cause).pins = s.pins := by simp [State.enterTime]
@[simp] theorem State.loseSource_pins (s : State) : s.loseSource.pins = s.pins := by simp [State.loseSource]
@[simp] theorem State.timeCfgChanged_pins (s : State) : s.timeCfgChanged.pins = s.pins := by simp [State.timeCfgChanged]
@[simp] theorem State.clearSources_pins (s : State) (port : Bool) : (s.clearSources port).pins = s.pins := by simp [State.clearSources]
@[simp] theorem State.unwait_pins (s : State) (cls n : Nat) : (s.unwait cls n).pins = s.pins := by simp [State.unwait]
@[simp] theorem State.setFeed_pins (s : State) (f : Nat) (x : Feed) : (s.setFeed f x).pins = s.pins := by simp [State.setFeed]

@[simp] theorem State.emitRidge_pins (s : State) (type : Nat) (dest : RidgeTo) (o : Output) : (s.emitRidge type dest o).pins = s.pins := by
  simp [State.emitRidge]

@[simp] theorem State.slotChanged_pins (s : State) (n : Nat) : (s.slotChanged n).pins = s.pins := by simp [State.slotChanged]
@[simp] theorem State.setSlot_pins (s : State) (n : Nat) (x : Slot) : (s.setSlot n x).pins = s.pins := by simp [State.setSlot]
@[simp] theorem State.putB_pins (s : State) (f : Fld) (b : Bool) : (s.putB f b).pins = s.pins := by simp [State.putB]
@[simp] theorem State.setEngine_pins (s : State) (e : Nat) (x : Engine) : (s.setEngine e x).pins = s.pins := by simp [State.setEngine]

@[simp] theorem State.freeEngine_pins (s : State) (n : Nat) : (s.freeEngine n).pins = s.pins := by
  unfold State.freeEngine
  split <;> simp

@[simp] theorem State.feedLeaves_pins (s : State) (f : Nat) : (s.feedLeaves f).pins = s.pins := by simp [State.feedLeaves]
@[simp] theorem State.feedStop_pins (s : State) (f : Nat) : (s.feedStop f).pins = s.pins := by simp [State.feedStop]
@[simp] theorem State.feedStart_pins (s : State) (f : Nat) : (s.feedStart f).pins = s.pins := by simp [State.feedStart]
@[simp] theorem State.feedSync_pins (s : State) : s.feedSync.pins = s.pins := by simp [State.feedSync]

@[simp] theorem State.acceptChRequest_pins (s : State) (c kind q : Nat) : (s.acceptChRequest c kind q).pins = s.pins := by
  simp [State.acceptChRequest]

@[simp] theorem State.showCal_pins (s : State) : s.showCal.pins = s.pins := by simp [State.showCal]
@[simp] theorem State.setCal_pins (s : State) (t : Nat) (x : CalTarget) : (s.setCal t x).pins = s.pins := by simp [State.setCal]
@[simp] theorem State.queueRun_pins (s : State) (t : Nat) : (s.queueRun t).pins = s.pins := by simp [State.queueRun]
@[simp] theorem State.wantRun_pins (s : State) (t : Nat) : (s.wantRun t).pins = s.pins := by simp [State.wantRun]
@[simp] theorem State.setLink_pins (s : State) (c : Nat) (x : StnCh) : (s.setLink c x).pins = s.pins := by simp [State.setLink]
@[simp] theorem State.gateWriteFailed_pins (s : State) (c : Nat) : (s.gateWriteFailed c).pins = s.pins := by simp [State.gateWriteFailed]
@[simp] theorem State.mark_pins (s : State) (f : Fld) (bits : Nat) : (s.mark f bits).pins = s.pins := by simp [State.mark]
@[simp] theorem State.portDown_pins (s : State) (c : Nat) : (s.portDown c).pins = s.pins := by simp [State.portDown]
@[simp] theorem State.sbQueue_pins (s : State) (c : Nat) (r : SbReq) : (s.sbQueue c r).pins = s.pins := by simp [State.sbQueue]
@[simp] theorem State.sbGo_pins (s : State) (c : Nat) : (s.sbGo c).pins = s.pins := by simp [State.sbGo]

@[simp] theorem State.writeEffect_pins (old : State) (q : Nat) (w : StagedWrite) (s : State) :
    (State.writeEffect old q w s).pins = s.pins := by
  unfold State.writeEffect
  extract_lets noted cleared
  have hn : noted.pins = s.pins := s.noteSaved_pins w.addr
  have hc : cleared.pins = noted.pins := by simp [cleared]
  simp [hn, hc]

@[simp] theorem State.writeWord_pins (s : State) (w : StagedWrite) : (s.writeWord w).pins = s.pins := by
  unfold State.writeWord
  split <;> simp

@[simp] theorem State.withWrites_pins (s : State) (ws : List StagedWrite) : (s.withWrites ws).pins = s.pins := by simp [State.withWrites]
@[simp] theorem State.takeWrites_pins (s : State) (ws : List StagedWrite) (q : Nat) : (s.takeWrites ws q).pins = s.pins := by simp [State.takeWrites]
@[simp] theorem State.retire_pins (s : State) (p : InFlight) : (s.retire p).pins = s.pins := by simp [State.retire]
@[simp] theorem State.answerRidge_pins (s : State) (p : InFlight) (r : Reply) : (s.answerRidge p r).pins = s.pins := by simp [State.answerRidge]

@[simp] theorem State.keep_pins (s : State) (o : Option Origin) (r : Reply) : (s.keep o r).pins = s.pins := by
  unfold State.keep
  split <;> simp

@[simp] theorem State.count_pins (s : State) (f : Fld) (n : Nat) : (s.count f n).pins = s.pins := by simp [State.count]

@[simp] theorem State.sendEth_pins (s : State) (r : Reply) (o : Option Origin) : (s.sendEth r o).pins = s.pins := by
  unfold State.sendEth
  split <;> simp

@[simp] theorem State.send_pins (s : State) (r : Reply) (o : Option Origin) : (s.send r o).pins = s.pins := by
  unfold State.send
  split <;> simp

@[simp] theorem State.answerAt_pins (s : State) (p : InFlight) (status : Byte) (detail : Nat) (res : List Word) (t : Nat) :
    (s.answerAt p status detail res t).pins = s.pins := by
  simp [State.answerAt]

@[simp] theorem State.confirmBatch_pins (s : State) (b : Scheduled) : (s.confirmBatch b).pins = s.pins := by
  unfold State.confirmBatch
  split <;> simp

/-! ## Batches, reads and the instants of packets -/

@[simp] theorem State.setTrig_pins (s : State) (k : Nat) (x : Trig) : (s.setTrig k x).pins = s.pins := by simp [State.setTrig]
@[simp] theorem State.trigGoTo_pins (s : State) (k n : Nat) : (s.trigGoTo k n).pins = s.pins := by simp [State.trigGoTo]
@[simp] theorem State.trigActivate_pins (s : State) (k f : Nat) : (s.trigActivate k f).pins = s.pins := by simp [State.trigActivate]
@[simp] theorem State.setLamp_pins (s : State) (n : Nat) (x : LightStr) : (s.setLamp n x).pins = s.pins := by simp [State.setLamp]
@[simp] theorem State.strobeGoTo_pins (s : State) (n i : Nat) : (s.strobeGoTo n i).pins = s.pins := by simp [State.strobeGoTo]

@[simp] theorem State.lightWarn_pins (s : State) (detail : Nat) (args : List Int) : (s.lightWarn detail args).pins = s.pins := by
  simp [State.lightWarn]

@[simp] theorem State.strobeActivate_pins (s : State) (n f : Nat) : (s.strobeActivate n f).pins = s.pins := by simp [State.strobeActivate]
@[simp] theorem State.lightCommitted_pins (s old : State) (n f : Nat) : (s.lightCommitted old n f).pins = s.pins := by simp [State.lightCommitted]
@[simp] theorem State.gateDelay_pins (s : State) (c b f : Nat) : (s.gateDelay c b f).pins = s.pins := by simp [State.gateDelay]
@[simp] theorem State.absorbWrite_pins (s : State) (c n : Nat) : (s.absorbWrite c n).pins = s.pins := by simp [State.absorbWrite]
@[simp] theorem State.expoHits_pins (s : State) : s.expoHits.pins = s.pins := by simp [State.expoHits]

@[simp] theorem State.strobeSkip_pins (s : State) (n slack : Nat) : (s.strobeSkip n slack).1.pins = s.pins := by
  simp [State.strobeSkip, apply_ite Prod.fst]

@[simp] theorem State.strobeSweep_pins (s : State) (n : Nat) : (s.strobeSweep n).pins = s.pins := by simp [State.strobeSweep]
@[simp] theorem State.strobeSweepAll_pins (s : State) : s.strobeSweepAll.pins = s.pins := by simp [State.strobeSweepAll]
@[simp] theorem State.trigSkip_pins (s : State) (k slack : Nat) : (s.trigSkip k slack).1.pins = s.pins := by simp [State.trigSkip, apply_ite Prod.fst]
@[simp] theorem State.trigSweep_pins (s : State) (k : Nat) : (s.trigSweep k).pins = s.pins := by simp [State.trigSweep]
@[simp] theorem State.trigSweepAll_pins (s : State) : s.trigSweepAll.pins = s.pins := by simp [State.trigSweepAll]

@[simp] theorem State.commitEffects_pins (old : State) (b : Scheduled) (s : State) : (State.commitEffects old b s).pins = s.pins := by
  unfold State.commitEffects
  extract_lets trigs lamps band gates absorbed
  have ht : trigs.pins = s.pins := by simp [trigs]
  have hl : lamps.pins = trigs.pins := by simp [lamps]
  have hg : gates.pins = lamps.pins := by simp [gates]
  have ha : absorbed.pins = gates.pins := by
    refine forEach_pins _ _ _ fun w s => ?_
    dsimp only
    split
    · split <;> simp
    · rfl
  simp [ha, hg, hl, ht]

@[simp] theorem State.applyBatch_pins (s : State) (b : Scheduled) : (s.applyBatch b).pins = s.pins := by
  unfold State.applyBatch
  split <;> simp

@[simp] theorem State.applyDue_pins (s : State) (f : Nat) : (s.applyDue f).pins = s.pins := by simp [State.applyDue]

@[simp] theorem State.mapInflight_pins (s : State) (q : InFlight → Bool) (g : InFlight → InFlight) : (s.mapInflight q g).pins = s.pins := by
  simp [State.mapInflight]

@[simp] theorem State.takeReads_pins (s : State) (g : Nat) : (s.takeReads g).pins = s.pins := by simp [State.takeReads]
@[simp] theorem State.reachClk_pins (s : State) (c : Nat) : (s.reachClk c).pins = s.pins := by simp [State.reachClk]
@[simp] theorem State.reachBefore_pins (s : State) (g : Nat) : (s.reachBefore g).pins = s.pins := by simp [State.reachBefore]
@[simp] theorem State.applyStreamWords_pins (s : State) (f : Nat) : (s.applyStreamWords f).pins = s.pins := by simp [State.applyStreamWords]

@[simp] theorem State.answer_pins (s : State) (p : InFlight) (status : Byte) (detail : Nat) (res : List Word) :
    (s.answer p status detail res).pins = s.pins := by
  simp [State.answer]

@[simp] theorem State.dropReports_pins (s : State) (id : Nat) : (s.dropReports id).pins = s.pins := by simp [State.dropReports]

@[simp] theorem State.forwardDone_pins (s : State) : s.forwardDone.pins = s.pins := by
  refine forEach_pins _ _ _ fun p s => ?_
  split
  · split
    · simp
    · split <;> simp
  · rfl

end Sys2Proof.Machine
end

section
/-!
PROOFS that no packet changes the pins of the resets: a rule for each opcode of R97, by its unit, and for the operations that it alone uses.
-/
set_option Elab.async false -- one proof after the other: checking the whole text at once takes more memory than the check allows
namespace Sys2Proof.Machine

/-- A packet that is turned away, or goes on. -/
theorem fst_pins_ite {c : Prop} [Decidable c] {a b : State × Verdict} {x : List Instr × Bool × Bool} (ha : a.1.pins = x) (hb : b.1.pins = x) :
    (if c then a else b).1.pins = x := by
  split <;> assumption

/-! ## The opcodes of CMD -/

@[simp] theorem opNop_pins (p : InFlight) (s : State) : (opNop p s).1.pins = s.pins := by simp [opNop, apply_ite Prod.fst]
@[simp] theorem opIdent_pins (p : InFlight) (s : State) : (opIdent p s).1.pins = s.pins := by simp [opIdent, apply_ite Prod.fst]

@[simp] theorem opGetParam_pins (p : InFlight) (s : State) : (opGetParam p s).1.pins = s.pins := by
  simp only [opGetParam]
  repeat' split
  all_goals simp

@[simp] theorem State.applyWords_pins (s : State) (b : Scheduled) : (s.applyWords b).pins = s.pins := by
  unfold State.applyWords
  split <;> simp

@[simp] theorem State.inForce_pins (s : State) (f : Nat) : (s.inForce f).pins = s.pins := by simp [State.inForce]

@[simp] theorem State.setBatch_pins (s : State) (p : Path) (b : List StagedWrite) : (s.setBatch p b).pins = s.pins := by
  unfold State.setBatch
  split <;> simp

@[simp] theorem opSetParam_pins (p : InFlight) (s : State) : (opSetParam p s).1.pins = s.pins := by
  simp only [opSetParam]
  repeat' split
  all_goals simp

@[simp] theorem State.sendCascade_pins (s : State) (b : Scheduled) : (s.sendCascade b).pins = s.pins := by simp [State.sendCascade]
@[simp] theorem State.schedule_pins (s : State) (b : Scheduled) : (s.schedule b).pins = s.pins := by simp [State.schedule]

@[simp] theorem opCommit_pins (p : InFlight) (s : State) : (opCommit p s).1.pins = s.pins := by
  simp only [opCommit]
  repeat' split
  all_goals simp

@[simp] theorem State.giveInner_pins (s : State) (p : InFlight) : (s.giveInner p).pins = s.pins := by simp [State.giveInner]

@[simp] theorem opSnapshot_pins (p : InFlight) (s : State) : (opSnapshot p s).1.pins = s.pins := by
  unfold opSnapshot
  extract_lets ctl n atFrame cascade f es odd words total sent
  have hs : sent.pins = s.pins := by simp [sent]
  iterate 5 refine fst_pins_ite rfl ?_
  split
  · rfl
  · exact fst_pins_ite rfl (fst_pins_ite rfl (fst_pins_ite rfl hs))

@[simp] theorem State.dropPath_pins (s : State) (p : Path) : (s.dropPath p).pins = s.pins := by simp [State.dropPath]
@[simp] theorem State.cutPath_pins (s : State) (p : Path) : (s.cutPath p).pins = s.pins := by simp [State.cutPath]
@[simp] theorem State.dropUnit_pins (s : State) (u : Nat) : (s.dropUnit u).pins = s.pins := by simp [State.dropUnit]
@[simp] theorem State.resetHostif_pins (s : State) : s.resetHostif.pins = s.pins := by simp [State.resetHostif]
@[simp] theorem State.resetCmd_pins (s : State) : s.resetCmd.pins = s.pins := by simp [State.resetCmd]
@[simp] theorem State.keepField_pins (s old : State) (f : Fld) : (s.keepField old f).pins = s.pins := by simp [State.keepField]
@[simp] theorem State.resetMem_pins (s : State) : s.resetMem.pins = s.pins := by simp [State.resetMem]
@[simp] theorem State.resetNet_pins (s : State) : s.resetNet.pins = s.pins := by simp [State.resetNet]
@[simp] theorem State.resetTrace_pins (s : State) : s.resetTrace.pins = s.pins := by simp [State.resetTrace]
@[simp] theorem State.showWalk_pins (s : State) (t : Nat) : (s.showWalk t).pins = s.pins := by simp [State.showWalk]
@[simp] theorem State.aim_pins (s : State) (t : Nat) : (s.aim t).pins = s.pins := by simp [State.aim]
@[simp] theorem State.thermReset_pins (s : State) : s.thermReset.pins = s.pins := by simp [State.thermReset]
@[simp] theorem State.calReset_pins (s : State) : s.calReset.pins = s.pins := by simp [State.calReset]
@[simp] theorem State.lightReset_pins (s : State) : s.lightReset.pins = s.pins := by simp [State.lightReset]
@[simp] theorem State.showJournal_pins (s : State) : s.showJournal.pins = s.pins := by simp [State.showJournal]
@[simp] theorem State.resetErr_pins (s : State) : s.resetErr.pins = s.pins := by simp [State.resetErr]

@[simp] theorem State.resetFields_pins (s : State) (u : Nat) (ro : Bool) : (s.resetFields u ro).pins = s.pins := by
  refine forEach_pins _ _ _ fun e s => ?_
  split <;> simp

@[simp] theorem State.resetUnit_pins (s : State) (u : Nat) : (s.resetUnit u).pins = s.pins := by
  unfold State.resetUnit
  split <;> simp

@[simp] theorem opResetUnit_pins (p : InFlight) (s : State) : (opResetUnit p s).1.pins = s.pins := by simp [opResetUnit, apply_ite Prod.fst]
@[simp] theorem opCairn_pins (p : InFlight) (s : State) : (opCairn p s).1.pins = s.pins := by simp [opCairn, apply_ite Prod.fst]
@[simp] theorem State.enlist_pins (s : State) (p : InFlight) : (s.enlist p).pins = s.pins := by simp [State.enlist]

@[simp] theorem State.acceptRidge_pins (s : State) (id : Nat) (inner op tag : Byte) (target : Word) (body : List Word) :
    (s.acceptRidge id inner op tag target body).pins = s.pins := by
  simp [State.acceptRidge]

@[simp] theorem opForward_pins (p : InFlight) (s : State) : (opForward p s).1.pins = s.pins := by simp [opForward, apply_ite Prod.fst]
@[simp] theorem opDiscard_pins (p : InFlight) (s : State) : (opDiscard p s).1.pins = s.pins := by simp [opDiscard, apply_ite Prod.fst]

@[simp] theorem commandOps_pins (op : Nat) (p : InFlight) (s : State) : (commandOps op p s).1.pins = s.pins := by
  unfold commandOps
  split <;> simp

/-! ## The opcodes of STREAM and PACK -/

@[simp] theorem State.retireStream_pins (s : State) (n : Nat) : (s.retireStream n).pins = s.pins := by simp [State.retireStream]
@[simp] theorem State.put64_pins (s : State) (lo hi : Fld) (v : Nat) : (s.put64 lo hi v).pins = s.pins := by simp [State.put64]
@[simp] theorem State.setStrm_pins (s : State) (n : Nat) (x : Stream) : (s.setStrm n x).pins = s.pins := by simp [State.setStrm]

@[simp] theorem opStreamOpen_pins (p : InFlight) (s : State) : (opStreamOpen p s).1.pins = s.pins := by
  simp only [opStreamOpen]
  repeat' split
  all_goals simp

@[simp] theorem State.feedStream_pins (s : State) (n : Nat) (bs : List Byte) : (s.feedStream n bs).1.pins = s.pins := by simp [State.feedStream]

@[simp] theorem opStreamPush_pins (p : InFlight) (s : State) : (opStreamPush p s).1.pins = s.pins := by
  simp only [opStreamPush]
  repeat' split
  all_goals simp

@[simp] theorem opStreamFetch_pins (p : InFlight) (s : State) : (opStreamFetch p s).1.pins = s.pins := by
  simp only [opStreamFetch]
  repeat' split
  all_goals simp

@[simp] theorem State.releaseSlot_pins (s : State) (n : Nat) (save : Bool) : (s.releaseSlot n save).pins = s.pins := by simp [State.releaseSlot]
@[simp] theorem State.setStaged_pins (s : State) (c : Nat) (l : List Staged) : (s.setStaged c l).pins = s.pins := by simp [State.setStaged]
@[simp] theorem State.dropStaged_pins (s : State) (n : Nat) : (s.dropStaged n).pins = s.pins := by simp [State.dropStaged]
@[simp] theorem State.triggerDev_pins (s : State) (target cause : Nat) : (s.triggerDev target cause).pins = s.pins := by simp [State.triggerDev]
@[simp] theorem State.autoDrain_pins (s : State) : s.autoDrain.pins = s.pins := by simp [State.autoDrain]
@[simp] theorem State.releaseHolds_pins (s : State) (n : Nat) : (s.releaseHolds n).pins = s.pins := by simp [State.releaseHolds]

@[simp] theorem State.freeStream_pins (s : State) (n : Nat) (abort save : Bool) : (s.freeStream n abort save).pins = s.pins := by
  simp [State.freeStream]

@[simp] theorem opStreamClose_pins (p : InFlight) (s : State) : (opStreamClose p s).1.pins = s.pins := by
  simp only [opStreamClose]
  repeat' split
  all_goals simp

@[simp] theorem State.showJobs_pins (s : State) : s.showJobs.pins = s.pins := by simp [State.showJobs]

@[simp] theorem opPackJob_pins (p : InFlight) (s : State) : (opPackJob p s).1.pins = s.pins := by
  unfold opPackJob
  extract_lets b n ctl inLen outLen dec x fresh j held
  refine fst_pins_ite rfl ?_
  split
  · rfl
  · iterate 6 refine fst_pins_ite rfl ?_
    simp [held]

@[simp] theorem opCtxSeed_pins (p : InFlight) (s : State) : (opCtxSeed p s).1.pins = s.pins := by
  simp only [opCtxSeed]
  repeat' split
  all_goals simp

@[simp] theorem State.forgetSlot_pins (s : State) (n : Nat) : (s.forgetSlot n).pins = s.pins := by simp [State.forgetSlot]

@[simp] theorem opCtxPersist_pins (p : InFlight) (s : State) : (opCtxPersist p s).1.pins = s.pins := by
  simp only [opCtxPersist]
  repeat' split
  all_goals simp

@[simp] theorem streamOps_pins (op : Nat) (p : InFlight) (s : State) : (streamOps op p s).1.pins = s.pins := by
  unfold streamOps
  split <;> simp

/-! ## The opcodes of TIME and SEQ -/

@[simp] theorem State.abortNamed_pins (s : State) : s.abortNamed.pins = s.pins := by simp [State.abortNamed]
@[simp] theorem State.movePending_pins (s : State) (d ns : Int) : (s.movePending d ns).pins = s.pins := by simp [State.movePending]
@[simp] theorem State.setCap_pins (s : State) (k : Nat) (x : CapFifo) : (s.setCap k x).pins = s.pins := by simp [State.setCap]
@[simp] theorem State.capStep_pins (s : State) : s.capStep.pins = s.pins := by simp [State.capStep]
@[simp] theorem State.lightPin_pins (s : State) (n : Nat) (b : Bool) : (s.lightPin n b).pins = s.pins := by simp [State.lightPin]
@[simp] theorem State.lampLow_pins (s : State) (n : Nat) : (s.lampLow n).pins = s.pins := by simp [State.lampLow]
@[simp] theorem State.lightStep_pins (s : State) : s.lightStep.pins = s.pins := by simp [State.lightStep]
@[simp] theorem State.trigPin_pins (s : State) (k : Nat) (b : Bool) : (s.trigPin k b).pins = s.pins := by simp [State.trigPin]
@[simp] theorem State.trigLow_pins (s : State) (k : Nat) : (s.trigLow k).pins = s.pins := by simp [State.trigLow]
@[simp] theorem State.trigStep_pins (s : State) : s.trigStep.pins = s.pins := by simp [State.trigStep]
@[simp] theorem State.unitErr_pins (s : State) (u detail : Nat) (args : List Int) : (s.unitErr u detail args).pins = s.pins := by simp [State.unitErr]
@[simp] theorem State.emptyLedger_pins (s : State) (g : LedgerCfg) (h : Nat) : (s.emptyLedger g h).pins = s.pins := by simp [State.emptyLedger]
@[simp] theorem State.stepTime_pins (s : State) (delta : Int) : (s.stepTime delta).pins = s.pins := by simp [State.stepTime]

@[simp] theorem State.firstStep_pins (s : State) (delta : Int) (st cause source : Nat) : (s.firstStep delta st cause source).pins = s.pins := by
  simp [State.firstStep]

@[simp] theorem opTimeStep_pins (p : InFlight) (s : State) : (opTimeStep p s).1.pins = s.pins := by
  unfold opTimeStep
  repeat' split
  all_goals simp

@[simp] theorem State.resetTimeBase_pins (s : State) : s.resetTimeBase.pins = s.pins := by simp [State.resetTimeBase]

@[simp] theorem opTimeReset_pins (p : InFlight) (s : State) : (opTimeReset p s).1.pins = s.pins := by
  unfold opTimeReset
  repeat' split
  all_goals simp

@[simp] theorem opTimeVerdict_pins (p : InFlight) (s : State) : (opTimeVerdict p s).1.pins = s.pins := by simp [opTimeVerdict, apply_ite Prod.fst]
@[simp] theorem opCapRead_pins (p : InFlight) (s : State) : (opCapRead p s).1.pins = s.pins := by simp [opCapRead, apply_ite Prod.fst]

@[simp] theorem State.mapPrograms_pins (s : State) (q : Program → Bool) (f : Program → Program) : (s.mapPrograms q f).pins = s.pins := by
  simp [State.mapPrograms]

@[simp] theorem State.showBroken_pins (s : State) (c : Nat) : (s.showBroken c).pins = s.pins := by simp [State.showBroken]

@[simp] theorem State.layerComplete_pins (s : State) (stream layer : Nat) : (s.layerComplete stream layer).pins = s.pins := by
  unfold State.layerComplete
  split <;> simp

@[simp] theorem State.showLayerExec_pins (s : State) (n : Nat) : (s.showLayerExec n).pins = s.pins := by simp [State.showLayerExec]

@[simp] theorem State.completeProgram_pins (s : State) (stream layer c : Nat) (slip lag : Int) :
    (s.completeProgram stream layer c slip lag).pins = s.pins := by
  simp [State.completeProgram]

@[simp] theorem State.flush_pins (s : State) (c : Nat) (hit : Nat × Nat → Bool) (touched : List (Nat × Nat)) :
    (s.flush c hit touched).pins = s.pins := by
  simp [State.flush]

@[simp] theorem opScanFlush_pins (p : InFlight) (s : State) : (opScanFlush p s).1.pins = s.pins := by
  simp only [opScanFlush]
  repeat' split
  all_goals simp

@[simp] theorem opScanTableLoad_pins (p : InFlight) (s : State) : (opScanTableLoad p s).1.pins = s.pins := by
  simp [opScanTableLoad, apply_ite Prod.fst]

@[simp] theorem opScanPlan_pins (p : InFlight) (s : State) : (opScanPlan p s).1.pins = s.pins := by simp [opScanPlan, apply_ite Prod.fst]

@[simp] theorem instantOps_pins (op : Nat) (p : InFlight) (s : State) : (instantOps op p s).1.pins = s.pins := by
  unfold instantOps
  split <;> simp

/-! ## The opcodes of TRACE, LEDGER and COL -/

@[simp] theorem State.showTrace_pins (s : State) : s.showTrace.pins = s.pins := by simp [State.showTrace]
@[simp] theorem opTraceArm_pins (p : InFlight) (s : State) : (opTraceArm p s).1.pins = s.pins := by simp [opTraceArm, apply_ite Prod.fst]
@[simp] theorem opTraceStop_pins (p : InFlight) (s : State) : (opTraceStop p s).1.pins = s.pins := by simp [opTraceStop, apply_ite Prod.fst]

@[simp] theorem opTraceRead_pins (p : InFlight) (s : State) : (opTraceRead p s).1.pins = s.pins := by
  unfold opTraceRead
  repeat' split
  all_goals simp

@[simp] theorem opTraceForce_pins (p : InFlight) (s : State) : (opTraceForce p s).1.pins = s.pins := by simp [opTraceForce, apply_ite Prod.fst]
@[simp] theorem opLedgerRead_pins (p : InFlight) (s : State) : (opLedgerRead p s).1.pins = s.pins := by simp [opLedgerRead, apply_ite Prod.fst]
@[simp] theorem State.fillsAt_pins (s : State) (h : Nat) : (s.fillsAt h).pins = s.pins := by simp [State.fillsAt]
@[simp] theorem opLedgerFill_pins (p : InFlight) (s : State) : (opLedgerFill p s).1.pins = s.pins := by simp [opLedgerFill, apply_ite Prod.fst]

@[simp] theorem opColRead_pins (p : InFlight) (s : State) : (opColRead p s).1.pins = s.pins := by
  simp only [opColRead]
  repeat' split
  all_goals simp

@[simp] theorem recordOps_pins (op : Nat) (p : InFlight) (s : State) : (recordOps op p s).1.pins = s.pins := by
  unfold recordOps
  split <;> simp

/-! ## The opcodes of AXIS and FBK -/

@[simp] theorem State.setMx_pins (s : State) (a : Nat) (x : MaAxis) : (s.setMx a x).pins = s.pins := by simp [State.setMx]

@[simp] theorem State.axisRequest_pins (s : State) (p : InFlight) (a : Nat) (r : AxisReq) : (s.axisRequest p a r).pins = s.pins := by
  simp [State.axisRequest]

@[simp] theorem opAxisMove_pins (p : InFlight) (s : State) : (opAxisMove p s).1.pins = s.pins := by
  unfold opAxisMove
  split
  · rfl
  · extract_lets n ms odd st x room k asked
    have hs : asked.pins = s.pins := by simp [asked]
    iterate 5 refine fst_pins_ite rfl ?_
    exact fst_pins_ite hs hs

@[simp] theorem opAxisStop_pins (p : InFlight) (s : State) : (opAxisStop p s).1.pins = s.pins := by
  unfold opAxisStop
  repeat' split
  all_goals simp

@[simp] theorem opAxisHome_pins (p : InFlight) (s : State) : (opAxisHome p s).1.pins = s.pins := by
  unfold opAxisHome
  repeat' split
  all_goals simp

@[simp] theorem opAxisClear_pins (p : InFlight) (s : State) : (opAxisClear p s).1.pins = s.pins := by
  unfold opAxisClear
  repeat' split
  all_goals simp

@[simp] theorem opAxisSetPos_pins (p : InFlight) (s : State) : (opAxisSetPos p s).1.pins = s.pins := by
  unfold opAxisSetPos
  repeat' split
  all_goals simp

@[simp] theorem opProbeArm_pins (p : InFlight) (s : State) : (opProbeArm p s).1.pins = s.pins := by
  unfold opProbeArm
  repeat' split
  all_goals simp

@[simp] theorem axisOps_pins (op : Nat) (p : InFlight) (s : State) : (axisOps op p s).1.pins = s.pins := by
  unfold axisOps
  split <;> simp

/-! ## The opcodes of PAIR -/

@[simp] theorem State.joinStart_pins (s : State) : s.joinStart.pins = s.pins := by simp [State.joinStart]
@[simp] theorem opPairJoin_pins (p : InFlight) (s : State) : (opPairJoin p s).1.pins = s.pins := by simp [opPairJoin, apply_ite Prod.fst]
@[simp] theorem opPairSwap_pins (p : InFlight) (s : State) : (opPairSwap p s).1.pins = s.pins := by simp [opPairSwap, apply_ite Prod.fst]
@[simp] theorem State.takeVerdict_pins (s : State) (v : RoleVerdict) : (s.takeVerdict v).pins = s.pins := by simp [State.takeVerdict]
@[simp] theorem opPairVerdict_pins (p : InFlight) (s : State) : (opPairVerdict p s).1.pins = s.pins := by simp [opPairVerdict, apply_ite Prod.fst]
@[simp] theorem opPairDrop_pins (p : InFlight) (s : State) : (opPairDrop p s).1.pins = s.pins := by simp [opPairDrop, apply_ite Prod.fst]

@[simp] theorem pairOps_pins (op : Nat) (p : InFlight) (s : State) : (pairOps op p s).1.pins = s.pins := by
  unfold pairOps
  split <;> simp

/-! ## The opcodes of CAL, THERM and LIGHT -/

@[simp] theorem opCalRun_pins (p : InFlight) (s : State) : (opCalRun p s).1.pins = s.pins := by simp [opCalRun, apply_ite Prod.fst]

@[simp] theorem opSensorReadmit_pins (p : InFlight) (s : State) : (opSensorReadmit p s).1.pins = s.pins := by
  simp [opSensorReadmit, apply_ite Prod.fst]

@[simp] theorem State.lampClearMarks_pins (s : State) (n : Nat) : (s.lampClearMarks n).pins = s.pins := by simp [State.lampClearMarks]
@[simp] theorem opLightClear_pins (p : InFlight) (s : State) : (opLightClear p s).1.pins = s.pins := by simp [opLightClear, apply_ite Prod.fst]
@[simp] theorem opLightMeasure_pins (p : InFlight) (s : State) : (opLightMeasure p s).1.pins = s.pins := by simp [opLightMeasure, apply_ite Prod.fst]

@[simp] theorem plantOps_pins (op : Nat) (p : InFlight) (s : State) : (plantOps op p s).1.pins = s.pins := by
  unfold plantOps
  split <;> simp

/-! ## The opcodes of HUSK -/

@[simp] theorem opHuskInit_pins (p : InFlight) (s : State) : (opHuskInit p s).1.pins = s.pins := by simp [opHuskInit, apply_ite Prod.fst]
@[simp] theorem opHuskPolicy_pins (p : InFlight) (s : State) : (opHuskPolicy p s).1.pins = s.pins := by simp [opHuskPolicy, apply_ite Prod.fst]
@[simp] theorem State.authFail_pins (s : State) : s.authFail.pins = s.pins := by simp [State.authFail]
@[simp] theorem State.showKeys_pins (s : State) : s.showKeys.pins = s.pins := by simp [State.showKeys]

@[simp] theorem opKeyLoad_pins (p : InFlight) (s : State) : (opKeyLoad p s).1.pins = s.pins := by
  unfold opKeyLoad
  repeat' split
  all_goals simp

@[simp] theorem opKeyClear_pins (p : InFlight) (s : State) : (opKeyClear p s).1.pins = s.pins := by
  unfold opKeyClear
  repeat' split
  all_goals simp

@[simp] theorem opHuskAck_pins (p : InFlight) (s : State) : (opHuskAck p s).1.pins = s.pins := by simp [opHuskAck, apply_ite Prod.fst]
@[simp] theorem State.devErr_pins (s : State) (detail : Nat) (args : List Int) : (s.devErr detail args).pins = s.pins := by simp [State.devErr]
@[simp] theorem State.huskStop_pins (s : State) (detail src : Nat) : (s.huskStop detail src).pins = s.pins := by simp [State.huskStop]
@[simp] theorem State.eraseKeys_pins (s : State) : s.eraseKeys.pins = s.pins := by simp [State.eraseKeys]
@[simp] theorem State.stopStream_pins (s : State) (n detail : Nat) : (s.stopStream n detail).pins = s.pins := by simp [State.stopStream]
@[simp] theorem State.zeroize_pins (s : State) : s.zeroize.pins = s.pins := by simp [State.zeroize]
@[simp] theorem State.huskErase_pins (s : State) (src : Nat) : (s.huskErase src).pins = s.pins := by simp [State.huskErase]

@[simp] theorem State.alarmLog_pins (s : State) (src action : Nat) (battery : Bool) : (s.alarmLog src action battery).pins = s.pins := by
  simp [State.alarmLog]

@[simp] theorem opHuskZeroize_pins (p : InFlight) (s : State) : (opHuskZeroize p s).1.pins = s.pins := by simp [opHuskZeroize, apply_ite Prod.fst]

@[simp] theorem islandOps_pins (op : Nat) (p : InFlight) (s : State) : (islandOps op p s).1.pins = s.pins := by
  unfold islandOps
  split <;> simp

/-! ## The opcodes of ERR, and the table -/

@[simp] theorem State.setQueue_pins (s : State) (q : List ErrRec) : (s.setQueue q).pins = s.pins := by simp [State.setQueue]
@[simp] theorem opErrRead_pins (p : InFlight) (s : State) : (opErrRead p s).1.pins = s.pins := by simp [opErrRead, apply_ite Prod.fst]
@[simp] theorem opLogRead_pins (p : InFlight) (s : State) : (opLogRead p s).1.pins = s.pins := by simp [opLogRead, apply_ite Prod.fst]
@[simp] theorem opErrAck_pins (p : InFlight) (s : State) : (opErrAck p s).1.pins = s.pins := by simp [opErrAck, apply_ite Prod.fst]
@[simp] theorem opJournalInfo_pins (p : InFlight) (s : State) : (opJournalInfo p s).1.pins = s.pins := by simp [opJournalInfo, apply_ite Prod.fst]

@[simp] theorem opJournalRead_pins (p : InFlight) (s : State) : (opJournalRead p s).1.pins = s.pins := by
  unfold opJournalRead
  repeat' split
  all_goals simp

@[simp] theorem opJournalRestore_pins (p : InFlight) (s : State) : (opJournalRestore p s).1.pins = s.pins := by
  simp only [opJournalRestore]
  repeat' split
  all_goals simp

@[simp] theorem opCheckpoint_pins (p : InFlight) (s : State) : (opCheckpoint p s).1.pins = s.pins := by simp [opCheckpoint, apply_ite Prod.fst]

@[simp] theorem errorOps_pins (op : Nat) (p : InFlight) (s : State) : (errorOps op p s).1.pins = s.pins := by
  unfold errorOps
  split <;> simp

@[simp] theorem runOp_pins (op : Nat) (p : InFlight) (s : State) : (runOp op p s).1.pins = s.pins := by simp [runOp, apply_ite Prod.fst]

end Sys2Proof.Machine
end

section
/-!
PROOFS that device time passes without a change of the pins of the resets: what starts, what was decided, and `State.arrive`.
-/
set_option Elab.async false -- one proof after the other: checking the whole text at once takes more memory than the check allows
namespace Sys2Proof.Machine

/-! ## The start of packets -/

@[simp] theorem State.setWait_pins (s : State) (order : Nat) (w : Wait) : (s.setWait order w).pins = s.pins := by simp [State.setWait]

@[simp] theorem State.sendMirror_pins (s : State) (number : Nat) (p : InFlight) (batch : List StagedWrite) :
    (s.sendMirror number p batch).pins = s.pins := by
  simp [State.sendMirror]

@[simp] theorem State.startMirror_pins (s : State) (p : InFlight) : (s.startMirror p).pins = s.pins := by
  unfold State.startMirror
  repeat' split
  all_goals simp

@[simp] theorem finishOp_pins (p : InFlight) (r : State × Verdict) : (finishOp p r).pins = r.1.pins := by
  unfold finishOp
  split <;> simp

@[simp] theorem State.startPassed_pins (s : State) (p : InFlight) : (s.startPassed p).pins = s.pins := by
  simp only [State.startPassed]
  split <;> simp

@[simp] theorem State.startPacket_pins (s : State) (p : InFlight) : (s.startPacket p).pins = s.pins := by simp [State.startPacket]

@[simp] theorem State.startAll_pins (l : List InFlight) (held : List Path) (s : State) : (State.startAll l held s).pins = s.pins := by
  induction l generalizing held s with
  | nil => rfl
  | cons p l ih => simp [State.startAll, ih]

@[simp] theorem State.startReady_pins (s : State) : s.startReady.pins = s.pins := State.startAll_pins _ _ _
@[simp] theorem State.pump_pins (s : State) : s.pump.pins = s.pins := by simp [State.pump]

/-! ## Device time -/

@[simp] theorem State.stampReads_pins (s : State) : s.stampReads.pins = s.pins := by simp [State.stampReads]
@[simp] theorem State.instant_pins (s : State) (g : Nat) : (s.instant g).pins = s.pins := by simp [State.instant]

@[simp] theorem State.passInstants_pins (u n : Nat) (s : State) : (State.passInstants u n s).pins = s.pins := by
  induction n generalizing s with
  | zero => rfl
  | succ n ih =>
    unfold State.passInstants
    split <;> simp [ih]

@[simp] theorem State.passTo_pins (s : State) (u : Nat) : (s.passTo u).pins = s.pins := State.passInstants_pins _ _ _
@[simp] theorem State.arrive_pins (s : State) (t : Nat) : (s.arrive t).pins = s.pins := by simp [State.arrive]

/-- The state in which a command acts has the pins that the command met. -/
theorem State.upTo_pins (s : State) (t : Nat) : (s.upTo t).pins = s.pins := by
  rw [State.upTo, State.arrive_pins]
  rfl

end Sys2Proof.Machine
end

section
/-!
PROOFS from what a command's body keeps to (`State.Within`) to what the command leaves unchanged (`State.Only`), through how it ends (`State.Ends`).
-/
set_option Elab.async false -- one proof after the other: checking the whole text at once takes more memory than the check allows
namespace Sys2Proof.Machine

theorem State.Ends.passesOn {s t u : State} (h : s.Ends t u) : u.passesOn = t.passesOn := by
  unfold State.passesOn State.pairRole
  simp only [h.get]

/-- Beside the number of the next MIRROR message, PAIR is as the body has left it. -/
theorem State.Ends.unmirrored_pair {s t u a : State} (h : s.Ends t u) (hp : t.pair = a.pair) : (a.unmirrored u).pair = a.pair := by
  unfold State.unmirrored
  split
  · have e : u.pair = { t.pair with nextMirror := u.pair.nextMirror } := (congrArg State.pair h.eq :)
    rw [e, hp]
  · have e : u.pair = t.pair := h.alone (h.passesOn.symm.trans (Bool.eq_false_iff.mpr ‹_›))
    rw [e, hp]

/-- Beside PAIR, a part is the same whether or not the number of the next MIRROR message counts. -/
theorem Part.same_unmirrored {p : Part} (hp : p ≠ .pair) (a u : State) : p.same a (a.unmirrored u) ↔ p.same a u := by
  unfold State.unmirrored
  split
  · cases p <;> simp_all [Part.same, Part.sameHost, Part.sameFrame]
  · rfl

/-- A part is as the body has left it, where the levels of the reset pins are. -/
theorem State.Ends.same {s t u a : State} (h : s.Ends t u) (pins : a.pins = s.pins) {p : Part} (hp : p ≠ .pair) (w : p.same a t) : p.same a u := by
  obtain ⟨-, porst, sysrst⟩ : s.pending = a.pending ∧ s.sys.porst = a.sys.porst ∧ s.sys.sysrst = a.sys.sysrst := by
    simpa [State.pins] using pins.symm
  rw [h.eq]
  cases p <;> simp_all [Part.same, Part.sameHost, Part.sameFrame]

/-- What a body keeps to, the command leaves. -/
theorem State.Ends.only {s t u a : State} {ps : List Part} {us : List Nat} (h : s.Ends t u) (w : a.Within t ps us) (pins : a.pins = s.pins) :
    a.Only u ps (inUnits us) := by
  refine ⟨fun p hp => ?_, fun x hx => (h.reg x).trans (w.words x hx), fun e he => w.marks e (h.marks ▸ he), ?_⟩
  · by_cases isPair : p = .pair
    · subst isPair
      exact h.unmirrored_pair (w.parts .pair hp)
    · exact (Part.same_unmirrored isPair a u).mpr (h.same pins isPair (w.parts p hp))
  · rw [h.pending]
    exact (congrArg Prod.fst pins).symm

theorem State.Awake.pins {s a : State} {n : Nat} (ha : s.Awake n a) : a.pins = s.pins := by
  rw [ha.1, State.upTo_pins]

/-- A command of a device that is awake, whose body does not bring it into HALT. -/
theorem State.Awake.only {s a : State} {n : Nat} {i : Instr} {ps : List Part} {us : List Nat} (ha : s.Awake n a) (g : State → State)
    (hx : exec i s = .next (s.row (fun s => g (s.arrive n)))) (w : a.Within (g a) ps us) (hd : (g a).dev = a.dev) :
    Runs i s (fun u => a.Only u ps (inUnits us)) :=
  ha.runs g hx rfl hd.symm.trans fun _ h => h.only w ha.pins

/-- A command of a device that is awake, whose body may bring it into HALT. -/
theorem State.Awake.only_edge {s a : State} {n : Nat} {i : Instr} {ps : List Part} {us : List Nat} (ha : s.Awake n a) (g : State → State)
    (hx : exec i s = .next (s.row (fun s => g (s.arrive n)))) (w : a.Within (g a) ps us) (hp : [.time, .light] ⊆ ps := by decide)
    (hu : [0x58] ⊆ us := by decide) : Runs i s (fun u => a.Only u ps (inUnits us)) :=
  ha.runs_edge g hx fun _ h => h.only (w.andThen (haltEdge_within _ _) hp hu) ha.pins

/-- A change of a pin's level on a device that is awake, which does not bring it into HALT. -/
theorem State.Awake.only_pin {s a : State} {n : Nat} {i : Instr} {ps : List Part} {us : List Nat} (ha : s.Awake n a) (g k : State → State)
    (hx : exec i s = .next (s.pinRow (fun s => g (s.arrive n)) k)) (w : a.Within (g a) ps us) (hd : (g a).dev = a.dev) :
    Runs i s (fun u => a.Only u ps (inUnits us)) :=
  ⟨_, hx, (ha.pinRow g k hd.symm.trans).only w ha.pins⟩

/-- A change of a pin's level on a device that is awake, which may bring it into HALT. -/
theorem State.Awake.only_pin_edge {s a : State} {n : Nat} {i : Instr} {ps : List Part} {us : List Nat} (ha : s.Awake n a) (g k : State → State)
    (hx : exec i s = .next (s.pinRow (fun s => g (s.arrive n)) k)) (w : a.Within (g a) ps us) (hp : [.time, .light] ⊆ ps := by decide)
    (hu : [0x58] ⊆ us := by decide) : Runs i s (fun u => a.Only u ps (inUnits us)) :=
  ha.runs_pin g k hx fun _ h => h.only (w.andThen (haltEdge_within _ _) hp hu) ha.pins

end Sys2Proof.Machine
end

section
/-!
PROOFS about what the rows of SYS keep to (R26 to R72, R130, R519): pins, boot, HALT at once, the device's requests, and lost links.
-/
set_option Elab.async false -- one proof after the other: checking the whole text at once takes more memory than the check allows
namespace Sys2Proof.Machine

/-! ## The state word -/

theorem State.dev_put (s : State) (f : Fld) (v : Nat) (h : F.SYS_DEV_STATE_STATE.addr ≠ f.addr := by decide) : (s.put f v).dev = s.dev :=
  s.get_put_other_word f _ v h

theorem State.dev_mark (s : State) (f : Fld) (n : Nat) (h : F.SYS_DEV_STATE_STATE.addr ≠ f.addr := by decide) : (s.mark f n).dev = s.dev :=
  (s.get_mark f _ n).trans (s.dev_put f _ h)

theorem State.warn_dev (s : State) (x : Subject) (d : Nat) (args : List Int) (hx : inUnits [0x68] x.openAddr = true := by decide) :
    (s.warn x d args).dev = s.dev := (s.raise_low_within 1 x d args (by decide) (by decide) hx).dev

theorem State.sys_warn_dev (s : State) (y : SysSt) (d : Nat) : ({ s with sys := y }.warn ⟨0, 0⟩ d).dev = s.dev :=
  (State.warn_dev _ ⟨0, 0⟩ d []).trans (State.dev_congr rfl)

theorem State.ite_dev {c : Prop} [Decidable c] {a b : State} {n : Nat} (ha : c → a.dev = n) (hb : ¬c → b.dev = n) : (if c then a else b).dev = n := by
  split
  · exact ha ‹_›
  · exact hb ‹_›

/-! ## The safety pins and PWRFAIL_N -/

theorem State.triggerDev_within (s : State) (target cause : Nat) : s.Within (s.triggerDev target cause) [.sys] [] :=
  .ite (fun _ => (State.Within.refl s [.sys] []).sys _) fun _ => .refl s _ _

theorem State.safetyEdge_within (s : State) : s.Within s.safetyEdge [.sys] [] := .ite (fun _ => .refl s _ _) fun _ => s.triggerDev_within 4 6

theorem State.setEstop_within (s : State) (b : Bool) : s.Within (s.setEstop b) [.sys] [] := by
  unfold State.setEstop
  extract_lets was old level
  have h : s.Within level [.sys] [] := (State.Within.refl s [.sys] []).sys _
  exact .ite (fun _ => h.trans level.safetyEdge_within) fun _ => h

theorem State.setLaser_within (s : State) (b : Bool) : s.Within (s.setLaser b) [.sys] [] := by
  unfold State.setLaser
  extract_lets was old level
  have h : s.Within level [.sys] [] := (State.Within.refl s [.sys] []).sys _
  exact .ite (fun _ => h.trans level.safetyEdge_within) fun _ => h

theorem State.pwrfailAssert_within (s : State) : s.Within s.pwrfailAssert [.sys, .journal, .err] [0x04, 0x68] := by
  unfold State.pwrfailAssert
  refine .ite (fun _ => .refl s _ _) fun _ => ?_
  extract_lets j old seen
  have h : s.Within seen [.sys, .journal, .err] [0x04, 0x68] := (State.Within.refl s _ _).update rfl rfl fun p hp => by
    cases p <;> simp_all [seen, Part.same, Part.sameHost, Part.sameFrame]
  exact (h.andThen seen.showJournal_within (by decide) (by decide)).andThen (State.devErr_within _ _ _) (by decide) (by decide)

/-! ## Boot -/

theorem State.bootFail_within (s : State) (n : Nat) (f : Fld) (hf : inUnits [0x00] f.addr = true) : s.Within (s.bootFail n f) [.sys] [0x00] :=
  (((State.Within.refl s [.sys] [0x00]).sys _).put _ _).put f _ hf

theorem State.bootFail_dev (s : State) (n : Nat) (f : Fld) (hf : F.SYS_DEV_STATE_STATE.addr ≠ f.addr) : (s.bootFail n f).dev = s.dev :=
  (State.dev_put _ f _ hf).trans (State.dev_put _ _ _)

theorem State.pllLock_within (s : State) : s.Within s.pllLock [.sys] [0x00] := by
  unfold State.pllLock
  refine .ite (fun _ => .refl s _ _) fun _ => ?_
  extract_lets old locked
  have h : s.Within locked [.sys] [0x00] := (State.Within.refl s [.sys] [0x00]).sys _
  exact .ite (fun _ => h.put _ _) fun _ => h

theorem State.pllLock_dev (s : State) : s.pllLock.dev = s.dev := by
  unfold State.pllLock
  split
  · rfl
  · dsimp only
    split
    · exact State.dev_put _ _ _
    · rfl

theorem State.windowStart_within (s : State) (length : Nat) : s.Within (s.windowStart length) [.sys] [] :=
  .ite (fun _ => .refl s _ _) fun _ => (State.Within.refl s [.sys] []).sys _

theorem State.imageRead_within (s : State) (image : FwImage) : s.Within (s.imageRead image) [.sys] [0x00] := by
  unfold State.imageRead
  extract_lets window length used late
  exact .ite (fun _ => .refl s _ _) fun _ => ((State.Within.refl s [.sys] [0x00]).sys _).put _ _

theorem State.imageRead_dev (s : State) (image : FwImage) : (s.imageRead image).dev = s.dev := by
  unfold State.imageRead
  extract_lets window length used late
  split
  · rfl
  · exact State.dev_put _ _ _

theorem authMark_unit (slot : Nat) : inUnits [0x00] (authMark slot).addr = true ∧ F.SYS_DEV_STATE_STATE.addr ≠ (authMark slot).addr := by
  unfold authMark
  split
  · decide
  · split <;> decide

theorem State.imageAuth_within (s : State) : s.Within s.imageAuth [.ridge, .sys] [0x00, 0x48] := by
  unfold State.imageAuth
  split
  · exact .refl s _ _
  · refine .ite (fun _ => .refl s _ _) fun _ => .ite (fun _ => ?_) fun _ => ?_
    · extract_lets old checked
      have h : s.Within checked [.ridge, .sys] [0x00, 0x48] := (State.Within.refl s [.ridge, .sys] [0x00, 0x48]).sys _
      exact .ite (fun _ => (h.put _ _).andThen (State.linksTrain_within _) (by decide) (by decide)) fun _ => h.put _ _
    · have unit := (authMark_unit (s.get F.SYS_BOOT_STAT_SLOT)).1
      dsimp only
      split
      · exact (s.bootFail_within 3 _ unit).mono (by decide) (by decide)
      · have h := (State.Within.refl s [.ridge, .sys] [0x00, 0x48]).sys { s.sys with
          image := none, windowStarted := false, readStart := s.time.clk
          bootExtra := s.sys.bootExtra + (s.time.clk - s.sys.readStart) }
        exact ((h.put _ _ (inUnits_mono (by decide) unit)).put _ _).put _ _

theorem State.imageAuth_dev (s : State) : s.imageAuth.dev = s.dev := by
  unfold State.imageAuth
  split
  · rfl
  · split
    · rfl
    · split
      · dsimp only
        split
        · exact (State.linksTrain_within _).dev.trans (State.dev_put _ _ _)
        · exact State.dev_put _ _ _
      · have apart := (authMark_unit (s.get F.SYS_BOOT_STAT_SLOT)).2
        dsimp only
        split
        · exact s.bootFail_dev 3 _ apart
        · exact (State.dev_put _ _ _).trans ((State.dev_put _ _ _).trans (State.dev_put _ (authMark (s.get F.SYS_BOOT_STAT_SLOT)) _ apart))

theorem State.trainingDone_within (s : State) (ok : Bool) : s.Within (s.trainingDone ok) [.ridge, .sys] [0x00, 0x04, 0x48] := by
  unfold State.trainingDone
  refine .ite (fun _ => .refl s _ _) fun _ => .ite (fun _ => (s.bootFail_within 4 _ (by decide)).mono (by decide) (by decide)) fun _ => ?_
  extract_lets old trained
  have h : s.Within trained [.ridge, .sys] [0x00, 0x04, 0x48] := ((State.Within.refl s [.ridge, .sys] [0x00, 0x04, 0x48]).sys _).put _ _
  exact .ite (fun _ => (h.put _ _).andThen (State.linksTrain_within _) (by decide) (by decide)) fun _ => h

theorem State.trainingDone_dev (s : State) (ok : Bool) : (s.trainingDone ok).dev = s.dev := by
  unfold State.trainingDone
  split
  · rfl
  · split
    · exact s.bootFail_dev 4 _ (by decide)
    · extract_lets old trained
      have h : trained.dev = s.dev := State.dev_put _ _ _
      split
      · exact (State.linksTrain_within _).dev.trans ((State.dev_put _ _ _).trans h)
      · exact h

theorem State.firmwareStart_within (s : State) : s.Within s.firmwareStart [.sys] [0x00] := by
  unfold State.firmwareStart
  split
  · exact .refl s _ _
  · exact .ite (fun _ => .refl s _ _) fun _ => (((State.Within.refl s [.sys] [0x00]).sys _).setReg _ _).put _ _

theorem State.firmwareStart_dev (s : State) : s.firmwareStart.dev = s.dev := by
  unfold State.firmwareStart
  split
  · rfl
  · split
    · rfl
    · exact (State.dev_put _ _ _).trans (State.get_congr _ (State.reg_setReg_ne _ _ _ _ (by decide)))

/-- A boot step that has passed its latest end ends the boot; another changes nothing. -/
theorem State.bootTimeout_cases (s : State) : s.bootTimeout = s ∨ ∃ n, s.bootTimeout = s.bootFail n F.SYS_BOOT_STAT_TIMEOUT := by
  unfold State.bootTimeout
  extract_lets n late
  split
  · exact .inl rfl
  · split
    · exact .inr ⟨4, rfl⟩
    · split
      · exact .inl rfl
      · exact (ite_eq_or_eq _ _ _).symm.imp_right fun h => ⟨n, h⟩

theorem State.bootTimeout_within (s : State) : s.Within s.bootTimeout [.sys] [0x00] := by
  obtain h | ⟨n, h⟩ := s.bootTimeout_cases
  · rw [h]
    exact .refl s _ _
  · rw [h]
    exact s.bootFail_within n _ (by decide)

theorem State.bootTimeout_dev (s : State) : s.bootTimeout.dev = s.dev := by
  obtain h | ⟨n, h⟩ := s.bootTimeout_cases
  · rw [h]
  · rw [h, s.bootFail_dev n _ (by decide)]

theorem State.romStart_within (s : State) (lost : Bool) : s.Within (s.romStart lost) [.sys, .husk, .err] [0x00, 0x60, 0x68] := by
  unfold State.romStart
  refine .ite (fun _ => .refl s _ _) fun _ => .ite (fun _ => (s.bootFail_within 1 _ (by decide)).mono (by decide) (by decide)) fun _ => ?_
  extract_lets island old up
  have h : s.Within island [.sys, .husk, .err] [0x00, 0x60, 0x68] :=
    .ite (fun _ => s.islandLost_within.mono (by decide) (by decide)) fun _ => .refl s _ _
  exact ((h.sys _).put _ _).put _ _

theorem State.romStart_dev (s : State) (lost : Bool) : (s.romStart lost).dev = s.dev := by
  unfold State.romStart
  split
  · rfl
  · split
    · exact s.bootFail_dev 1 _ (by decide)
    · extract_lets island old up
      have h : island.dev = s.dev := (State.Within.ite (fun _ => s.islandLost_within) fun _ => .refl s _ _).dev
      exact (State.dev_put _ _ _).trans ((State.dev_put _ _ _).trans h)

/-! ## The straps -/

theorem State.strapsSeen_within (s : State) : s.Within s.strapsSeen [.sys, .err] [0x00, 0x68] := by
  unfold State.strapsSeen
  refine .ite (fun _ => (State.Within.refl s [.sys, .err] [0x00, 0x68]).sys _) fun _ => ?_
  extract_lets marked old
  have h : s.Within marked [.sys, .err] [0x00, 0x68] := (State.Within.refl s [.sys, .err] [0x00, 0x68]).mark _ _
  exact .ite (fun _ => h) fun _ => (h.sys _).andThen (State.raise_low_within _ 1 ⟨0, 0⟩ _ [] (by decide) (by decide)) (by decide) (by decide)

theorem State.strapsSeen_dev (s : State) : s.strapsSeen.dev = s.dev := by
  unfold State.strapsSeen
  refine State.ite_dev (fun _ => State.dev_congr rfl) fun _ => ?_
  extract_lets marked old
  have h : marked.dev = s.dev := s.dev_mark _ _
  exact State.ite_dev (fun _ => h) fun _ => (marked.sys_warn_dev _ _).trans h

theorem State.strapsLive_within (s : State) (live : Nat) : s.Within (s.strapsLive live) [.sys, .err] [0x00, 0x68] :=
  ((State.Within.refl s [.sys, .err] [0x00, 0x68]).sys _).trans (State.strapsSeen_within _)

theorem State.strapsLive_dev (s : State) (live : Nat) : (s.strapsLive live).dev = s.dev :=
  (State.strapsSeen_dev _).trans (State.dev_congr rfl)

end Sys2Proof.Machine
end

section
/-!
PROOFS about what HALT at once, the device's requests and lost links keep to (R28, R29, R39, R130, R415, R469, R519).
-/
set_option Elab.async false -- one proof after the other: checking the whole text at once takes more memory than the check allows
namespace Sys2Proof.Machine

/-! ## HALT at once and the device's requests -/

/-- What entering HALT at once may change. -/
theorem State.haltNow_within (s : State) : s.Within s.haltNow [.sys, .cmd, .err, .therm] [0x00, 0x68] := by
  by_cases h : s.dev = 5
  · rw [State.haltNow, if_pos h]
    exact .refl s _ _
  · have w := (State.Within.refl s [.sys, .cmd, .err, .therm] [0x00, 0x68]).sys { s.sys with next := [] }
    exact (w.andThen (State.enterDev_within _ 5 0xA) (by decide) (by decide)).andThen (s.haltNow_within_entry h) (by decide) (by decide)

theorem State.pllLoss_within (s : State) : s.Within s.pllLoss [.sys, .cmd, .err, .therm] [0x00, 0x68] := by
  unfold State.pllLoss
  refine .ite (fun _ => .refl s _ _) fun _ => ?_
  extract_lets old lost
  have h : s.Within lost [.sys, .cmd, .err, .therm] [0x00, 0x68] := (State.Within.refl s _ _).sys _
  exact .ite (fun _ => h.andThen (lost.recordDisplaced_within ⟨0, 0⟩ 5 5 (by decide)) (by decide) (by decide)) fun _ => h.trans lost.haltNow_within

/-- A FATAL error enters its record, and halts the device or displaces a record in HALT (R577). -/
theorem State.raise_fatal_within (s : State) (d : Nat) : s.Within (s.raise 5 false ⟨0, 0⟩ d) [.sys, .cmd, .err, .therm] [0x00, 0x68] := by
  unfold State.raise
  extract_lets entered
  have h : s.Within entered [.sys, .cmd, .err, .therm] [0x00, 0x68] :=
    (s.enterRecord_within _ (by decide : inUnits [0x68] (Subject.openAddr ⟨0, 0⟩) = true)).mono (by decide) (by decide)
  refine .ite (fun _ => ?_) fun no => absurd rfl no
  exact .ite (fun _ => h.andThen (entered.recordDisplaced_within ⟨0, 0⟩ 5 5 (by decide)) (by decide) (by decide)) fun _ => h.trans entered.haltNow_within

theorem State.analogTrip_within (s : State) (logged : Bool) : s.Within (s.analogTrip logged) [.sys, .cmd, .err, .therm] [0x00, 0x68] := by
  unfold State.analogTrip
  refine .ite (fun _ => .refl s _ _) fun _ => ?_
  extract_lets old latched tripped
  have h : s.Within tripped [.sys, .cmd, .err, .therm] [0x00, 0x68] := ((State.Within.refl s _ _).sys _).trans (latched.raise_fatal_within 0x5040)
  exact .ite (fun _ => h) fun _ => h.err _

theorem State.requestsAct_within (s : State) (f : Nat) : s.Within (s.requestsAct f) [.sys, .err] [0x68] := by
  unfold State.requestsAct
  extract_lets due old kept
  have h : s.Within kept [.sys, .err] [0x68] := (State.Within.refl s _ _).sys _
  refine h.forEach _ _ fun r _ t w => .ite (fun _ => w.sys _) fun _ => ?_
  exact w.andThen (t.raise_low_within 0 ⟨0, 0⟩ 0x0013 [r.target] (by decide) (by decide)) (by decide) (by decide)

/-- The requests decide no transition. -/
theorem State.requestsAct_next (s : State) (f : Nat) : (s.requestsAct f).sys.next = s.sys.next := by
  unfold State.requestsAct
  extract_lets due old kept
  refine forEach_keeps (fun t => t.sys.next = s.sys.next) due _ kept rfl fun r t ht => ?_
  split
  · exact ht
  · exact (congrArg SysSt.next (t.raise_low_within 0 ⟨0, 0⟩ 0x0013 [r.target] (by decide) (by decide)).sys_eq).trans ht

/-! ## Lost links -/

theorem State.gateWriteFailed_within (s : State) (c : Nat) (hc : c < 64) : s.Within (s.gateWriteFailed c) [.stn, .seq, .err] [0x68] := by
  unfold State.gateWriteFailed
  exact (((State.Within.refl s [.stn, .seq, .err] [0x68]).stn _).andThen
    (State.raise_low_within _ 2 ⟨2, c⟩ 0x4014 [] (by decide) (by decide) (openAddr_chan c hc)) (by decide) (by decide)).seq _

theorem State.portDown_within (s : State) (c : Nat) (hc : c < 64) : s.Within (s.portDown c) [.stn, .seq, .err] [0x40, 0x68] := by
  unfold State.portDown
  extract_lets x busy gate down failed
  have hd : s.Within down [.stn, .seq, .err] [0x40, 0x68] :=
    ((State.Within.refl s [.stn, .seq, .err] [0x40, 0x68]).stn _).put _ _ (inUnits_chanAddr _ _ c 0 hc (by decide))
  have hf : s.Within failed [.stn, .seq, .err] [0x40, 0x68] :=
    .ite (fun _ => hd.andThen (down.gateWriteFailed_within c hc) (by decide) (by decide)) fun _ => hd
  have unit : inUnits [0x40, 0x68] (chanAddr 0x40 c 0x14) = true := inUnits_chanAddr _ _ c 0x14 hc (by decide)
  exact .ite (fun _ => ((hf.put (F.STN_SB_STAT_BUSY c) 0 unit).mark (F.STN_SB_STAT_TIMEOUT c) 1 unit).andThen
    (State.raise_low_within _ 1 ⟨2, c⟩ 0x4050 [] (by decide) (by decide) (openAddr_chan c hc)) (by decide) (by decide)) fun _ => hf

theorem State.symbolLost_within (s : State) (c : Nat) (hc : c < 64) : s.Within (s.symbolLost c) [.stn, .seq, .err] [0x40, 0x68] :=
  .ite (fun _ => .refl s _ _) fun _ => (s.portDown_within c hc).andThen
    (State.raise_low_within _ 1 ⟨2, c⟩ 0x4013 [] (by decide) (by decide) (openAddr_chan c hc)) (by decide) (by decide)

theorem State.ridgeDown_within (s : State) (k : Nat) (hk : k < 4) : s.Within (s.ridgeDown k) [.ridge, .err] [0x48, 0x68] := by
  have unit : inUnits [0x48, 0x68] (wordAddr 0x48 (0 + k)) = true := inUnits_wordAddr _ _ _ (by omega)
  unfold State.ridgeDown
  refine .ite (fun _ => .refl s _ _) fun _ => ?_
  extract_lets down lost shown
  have hd : s.Within down [.ridge, .err] [0x48, 0x68] := ((State.Within.refl s _ _).put _ _ unit).put _ _ unit
  have hs : s.Within shown [.ridge, .err] [0x48, 0x68] := (hd.ridge _).putB _ _
  exact hs.andThen (shown.raise_low_within 1 ⟨1, 0x48⟩ _ [(k : Int)] (by decide) (by decide)) (by decide) (by decide)

/-! ## The PCIe path -/

theorem State.losePath_within (s : State) : s.Within (s.losePath .pcie) [.cmd, .host] [0x01] := by
  unfold State.losePath
  refine .ite (fun _ => .refl s _ _) fun _ => State.Within.host ?_ _
  unfold State.dropPath
  dsimp -zeta only [lossFlds]
  extract_lets cleared mine idle dropped counted cmd orphaned gone told host
  have hc : s.Within cleared [.cmd, .host] [0x01] := State.Within.mark (.ite (fun _ => .refl s _ _) fun _ =>
    ((State.Within.refl s _ _).put F.HOSTIF_LOSS_LOG_UNREPLIED 0).put F.HOSTIF_LOSS_LOG_DISCARDED 0) F.HOSTIF_LOSS_LOG_VALID 1
  have hd : s.Within dropped [.cmd, .host] [0x01] := hc.forEach _ _ fun x _ t w => (w.cmd _).andThen (State.keep_within _ _ _) (by decide) (by decide)
  have hg : s.Within gone [.cmd, .host] [0x01] := ((hd.count F.HOSTIF_LOSS_LOG_DISCARDED _).cmd _).cmd _
  rw [if_pos rfl]
  have ht : s.Within told [.cmd, .host] [0x01] := hg.count F.HOSTIF_LOSS_LOG_UNREPLIED _
  exact (ht.host _).put F.HOSTIF_RING_STAT_HELD 0

theorem State.lanesLost_within (s : State) (l : Lanes) :
    s.Within (s.lanesLost l) [.sys, .cmd, .host, .stn, .ridge, .err, .seq] [0x01, 0x40, 0x48, 0x68] := by
  unfold State.lanesLost
  extract_lets ports links
  have hp : s.Within ports [.sys, .cmd, .host, .stn, .ridge, .err, .seq] [0x01, 0x40, 0x48, 0x68] :=
    (State.Within.refl s _ _).forEach _ _ fun c _ t w => w.andThen (t.symbolLost_within c c.isLt) (by decide) (by decide)
  have hl : s.Within links [.sys, .cmd, .host, .stn, .ridge, .err, .seq] [0x01, 0x40, 0x48, 0x68] :=
    hp.forEach _ _ fun k _ t w => w.andThen (t.ridgeDown_within k k.isLt) (by decide) (by decide)
  exact .ite (fun _ => hl.andThen links.losePath_within (by decide) (by decide)) fun _ => hl

theorem State.perstAssert_within (s : State) : s.Within s.perstAssert [.host, .cmd] [0x00, 0x01] := by
  unfold State.perstAssert
  refine .ite (fun _ => .refl s _ _) fun _ => ?_
  extract_lets log wiped h
  have hw : s.Within wiped [.host, .cmd] [0x00, 0x01] := ((s.losePath_within.mono (by decide) (by decide)).dropUnit 0x01).setReg _ _
  exact (hw.mark F.SYS_RESET_CAUSE_PERST 1).host _

theorem State.perstAssert_dev (s : State) : s.perstAssert.dev = s.dev := by
  unfold State.perstAssert
  refine State.ite_dev (fun _ => rfl) fun _ => ?_
  extract_lets log wiped h
  have hw : s.Within wiped [.cmd, .host] [0x01] := (s.losePath_within.dropUnit 0x01).setReg _ _
  exact ((State.dev_congr (s := wiped.mark F.SYS_RESET_CAUSE_PERST) rfl).trans (wiped.dev_mark _ _)).trans hw.dev

end Sys2Proof.Machine
end

section
/-!
PROOFS that the commands of the device state, of pins, clocks and boot leave the rest alone (R26, R28, R29, R46, R47, R64).
-/
set_option Elab.async false -- one proof after the other: checking the whole text at once takes more memory than the check allows
namespace Sys2Proof.Machine

theorem State.requested_within (s : State) (h : Hdr) (a bit : Nat) : s.Within (s.requested h a bit) [.cmd] [] where
  parts p hp := by
    unfold State.requested
    cases p <;> simp_all [State.bump, State.entered, State.begin, Part.same, Part.sameHost, Part.sameFrame]
  words x _ := s.requested_reg h a bit x
  marks _ he := .inl he

theorem State.acceptRequest_within (s : State) (bit q : Nat) (ok : s.requestCheck bit s.dev = none) :
    s.Within (s.acceptRequest bit q) [.sys, .journal] [] := by
  unfold State.acceptRequest
  simp only [ok, Option.isSome_none, Bool.false_eq_true, if_false]
  exact (State.Within.ite (fun _ => (State.Within.refl s [.sys, .journal] []).journal _) fun _ => .refl s _ _).sys _

/-- A request of DEV_STATE, accepted or refused. -/
theorem State.Serves.devRequest_only {s : State} {h : Hdr} (k : Fin 4) {i : Instr} (hs : s.Serves h.path h.tag)
    (hx : exec i s = .next (s.row (fun s => s.takePkt 0x03 (requestPkt h 0x10 (8 + k))))) :
    Runs i s (fun u => s.Only u [.cmd, .host, .sys, .journal] (inUnits [0x01])) := by
  have rule := fun t => s.entered_wordRule_devState h t k
  cases check : s.requestCheck (8 + k) s.dev with
  | some d =>
    refine hs.runs_refused_ends devState_requestWord hx d (fun t => (rule t).trans (by rw [check, Option.map_some])) fun u ends => ?_
    have entered : s.Within (s.begin.entered 0x03 (requestPkt h 0x10 (8 + k))) [.cmd, .host, .sys, .journal] [0x01] :=
      ((State.Within.refl s _ _).update (c := s.begin) rfl rfl fun p _ => by
        cases p <;> simp [State.begin, Part.same, Part.sameHost, Part.sameFrame]).cmd _
    exact ends.only (entered.andThen (State.answer_within _ _ _ _ _ hs.host rfl) (by decide) (by decide)) rfl
  | none =>
    obtain ⟨sys, -, -, -, -, waits⟩ := s.requested_rest h 0x10 (8 + k)
    have words := s.requested_reg h 0x10 (8 + k)
    have here : (s.requested h 0x10 (8 + k)).requestCheck (8 + k) (s.requested h 0x10 (8 + k)).dev = none := by
      rw [State.requestCheck_congr words sys, State.dev, State.get_congr _ (words _)]
      exact check
    obtain ⟨-, -, regs, cmd⟩ := State.acceptRequest_held _ (8 + k) (s.us + 1) here
    refine hs.runs_request_ends devState_requestWord hx (fun t => (rule t).trans (by rw [check, Option.map_none])) (State.writeEffect_devState _ _ _ k)
      (State.get_congr _ ((State.reg_congr regs _).trans (words _))) ((congrArg CmdSt.inflight cmd).trans waits) fun u ends => ?_
    have held : s.Within ((s.requested h 0x10 (8 + k)).acceptRequest (8 + k) (s.us + 1)) [.cmd, .host, .sys, .journal] [0x01] :=
      ((s.requested_within h 0x10 (8 + k)).mono (by decide) (by decide)).andThen (State.acceptRequest_within _ _ _ here) (by decide) (by decide)
    exact ends.only (held.andThen (State.answer_within _ _ _ _ _ hs.host rfl) (by decide) (by decide)) rfl

/-- Settles O41: each body keeps to the parts and units of its clause, and what brings the device into HALT ends the pulses besides. -/
theorem frameOfSystem : Obligations.FrameOfSystem := by
  unfold Obligations.FrameOfSystem
  simp only [List.forall_mem_cons, List.not_mem_nil, false_imp_iff, implies_true, and_true]
  refine ⟨fun s h hs => ⟨?_, ?_, ?_, ?_⟩, fun s a t length ha => ⟨?_, ?_, ?_, ?_, ?_, ?_⟩, fun s a t image ok ha => ⟨?_, ?_, ?_, ?_, ?_, ?_, ?_⟩,
    fun s a t ha => ⟨?_, ?_⟩, fun s a t live lost ha => ⟨?_, ?_⟩, fun s a f ha => ?_, fun s a t ha => ?_, fun s a t logged ha => ⟨?_, ?_⟩,
    fun s a t lanes ha => ?_⟩
  · exact hs.devRequest_only 0 rfl
  · exact hs.devRequest_only 1 rfl
  · exact hs.devRequest_only 2 rfl
  · exact hs.devRequest_only 3 rfl
  · exact ha.only_pin (fun s => s.setEstop true) _ rfl (a.setEstop_within true) (a.setEstop_within true).dev
  · exact ha.only_pin (fun s => s.setEstop false) _ rfl (a.setEstop_within false) (a.setEstop_within false).dev
  · exact ha.only_pin (fun s => s.setLaser false) _ rfl (a.setLaser_within false) (a.setLaser_within false).dev
  · exact ha.only_pin (fun s => s.setLaser true) _ rfl (a.setLaser_within true) (a.setLaser_within true).dev
  · exact ha.only_pin State.pwrfailRelease _ rfl ((State.Within.refl a _ _).sys _) (State.dev_congr rfl)
  · exact ha.only (fun s => s.windowStart length) rfl (a.windowStart_within length) (a.windowStart_within length).dev
  · exact ha.only_pin State.pllLock _ rfl (a.pllLock_within.mono (by decide) (by decide)) a.pllLock_dev
  · exact ha.only_pin State.pllLock _ rfl (a.pllLock_within.mono (by decide) (by decide)) a.pllLock_dev
  · exact ha.only (fun s => s.imageRead image) rfl ((a.imageRead_within image).mono (by decide) (by decide)) (a.imageRead_dev image)
  · exact ha.only State.imageAuth rfl (a.imageAuth_within.mono (by decide) (by decide)) a.imageAuth_dev
  · exact ha.only (fun s => s.trainingDone ok) rfl (a.trainingDone_within ok) (a.trainingDone_dev ok)
  · exact ha.only State.firmwareStart rfl (a.firmwareStart_within.mono (by decide) (by decide)) a.firmwareStart_dev
  · exact ha.only State.bootTimeout rfl (a.bootTimeout_within.mono (by decide) (by decide)) a.bootTimeout_dev
  · exact ha.only_pin State.perstAssert _ rfl a.perstAssert_within a.perstAssert_dev
  · exact ha.only_pin (fun s => s.perstLevel false) _ rfl ((State.Within.refl a _ _).host _) (State.dev_congr rfl)
  · exact ha.only_pin (fun s => s.strapsLive live) _ rfl ((a.strapsLive_within live).mono (by decide) (by decide)) (a.strapsLive_dev live)
  · exact ha.only (fun s => s.romStart lost) rfl ((a.romStart_within lost).mono (by decide) (by decide)) (a.romStart_dev lost)
  · have w := a.requestsAct_within f
    have body : (a.requestsAct f).settle = a.requestsAct f := (w.settled ha.settled (a.requestsAct_next f)).settle
    refine ha.only (fun s => (s.requestsAct f).settle) rfl ?_ ?_
    · rw [body]
      exact w.mono (by decide) (by decide)
    · rw [body]
      exact w.dev
  · exact ha.only_pin State.pwrfailAssert _ rfl (a.pwrfailAssert_within.mono (by decide) (by decide)) a.pwrfailAssert_within.dev
  · exact ha.only_pin_edge State.pllLoss _ rfl (a.pllLoss_within.mono (by decide) (by decide))
  · exact ha.only_pin_edge (fun s => s.analogTrip logged) _ rfl ((a.analogTrip_within logged).mono (by decide) (by decide))
  · exact ha.only (fun s => s.lanesLost lanes) rfl (a.lanesLost_within lanes) (a.lanesLost_within lanes).dev

end Sys2Proof.Machine
end

section
/-!
PROOFS that three statements of the architecture fail, each by a state that the model carries to another outcome: the step of the time base
inside a step on an empty queue, a candidate's frame computation, and a stream number that names no stream.
-/
set_option Elab.async false -- one proof after the other: checking the whole text at once takes more memory than the check allows
namespace Sys2Proof.Machine

/-! ## A step of the time base within one TIME clock (R195) -/

/-- A TIME_STEP by −5,000 ns that has been accepted and has not started (R219). -/
def backStep : InFlight :=
  { path := .pcie, tag := 9, opcode := 0x20, target := 0, body := [word (fieldOf 64 (-5000)), 0xFFFFFFFF, 0], order := 1, acceptClk := 0 }

/-- A summit 1 ns before the boundary of 10 µs, for which a commit is scheduled; the transition of channel 3 decided for 12 µs moves to 7 µs
with the step. -/
def stepsBack : State :=
  { summit.setSq 3 { next := [(12, 1, 0)] } with
    time := { summit.time with now := 9999 * 2 ^ 32 }
    cmd := { nextOrder := 2, scheduled := [{ f := 10, order := 0, path := .pcie, tag := 1, writes := [], cascade := false }]
             inflight := [backStep] } }

/-- The commit at 10 µs lets the TIME_STEP start; from 5 µs device time is then carried to the moved instant. -/
theorem stepsBack_tick_clk : stepsBack.tick.time.clk = 501 := by decide +kernel

/-- Refutes O54: a step on an empty queue passes as many TIME clocks as lead to the instants up to the next clock, and a TIME_STEP that a
commit at one of them lets start puts device time back, so that more than one passes. -/
theorem not_stepTakesTheFirst : ¬ Obligations.StepTakesTheFirst := by
  unfold Obligations.StepTakesTheFirst
  rintro ⟨-, empty⟩
  obtain ⟨t, hstep, -, hclk⟩ := empty stepsBack (by decide +kernel) (by decide +kernel)
  have ht : stepsBack.tick = t := Host.Outcome.next.inj hstep
  have hstart : stepsBack.time.clk = 0 := by decide +kernel
  rw [← ht, stepsBack_tick_clk, hstart] at hclk
  omega

/-! ## A candidate in the replay of its join (R494) -/

/-- A candidate that has loaded the capture and replays. -/
def replaying : State := { ((ready.put F.PAIR_PSTAT_JOIN_PHASE 3).put F.PAIR_PSTAT_ROLE 3) with pair := { loaded := true } }

/-- Its replay computes the instants, not FRAME_COMPUTE (log entry 231). -/
theorem replaying_frameCompute_built : (replaying.row (fun s => s.frameCompute 20 {})).sys.built = 0 := by decide +kernel

/-- Refutes O9: FRAME_COMPUTE leaves apply instant k + 2 to the replay of a candidate that has the capture of its join. -/
theorem not_framesRunEndToEnd : ¬ Obligations.FramesRunEndToEnd := by
  unfold Obligations.FramesRunEndToEnd
  rintro ⟨-, -, -, -, compute, -⟩
  obtain ⟨u, hu, hbuilt, -⟩ := compute replaying _ 20 {} ⟨rfl, by decide +kernel, by decide +kernel⟩ (by decide +kernel)
  rw [← Host.Outcome.next.inj hu, replaying_frameCompute_built] at hbuilt
  omega

/-! ## A program of a stream whose number names none -/

/-- Channel 3 in SAFE, with a CLEAR that acts at 22 µs and a broken program that has raised its fault; its stream number, 0x70000, is one that
a program of the model can hold, and its S_LAYER_EXEC word would lie at 0x480107, in RIDGE. -/
def farStream : State :=
  { (chanReady 5 3).setSq 3 { triggers := [{ at_ := 20, target := 1, cause := 0, kind := 13 }] } with
    stream := { programs := [{ program3 with stream := 0x70000, faulted := true }] } }

theorem farStream_before : (farStream.upTo (20 * 1000 + 900)).reg 0x480107 = 0 := by decide +kernel

set_option maxRecDepth 2000 in
/-- The CLEAR completes the program, and its stream's word is shown. -/
theorem farStream_frameCompute : (farStream.row (fun s => s.frameCompute 20 {})).reg 0x480107 = 0xFFFFFFFF := by decide +kernel

/-- Refutes O42: FRAME_COMPUTE of a state whose program names stream 0x70000 writes a word of RIDGE. -/
theorem not_frameOfChannels : ¬ Obligations.FrameOfChannels := by
  unfold Obligations.FrameOfChannels
  rintro ⟨-, -, -, -, -, -, -, -, compute, -⟩
  obtain ⟨u, hu, -, words, -⟩ := compute farStream _ 20 {} ⟨rfl, by decide +kernel, by decide +kernel⟩ _ (List.mem_singleton.mpr rfl)
  have same := words 0x480107 (by decide)
  rw [← Host.Outcome.next.inj hu, farStream_frameCompute, farStream_before] at same
  exact absurd same (by decide)

end Sys2Proof.Machine
end

section
/-!
PROOFS about the kinds of commands (R58, R62, R104): every command is a row that reset holds back, a change that is seen in reset too, or a
reset; with what each kind keeps of the queue and of the levels of the reset pins.
-/
set_option Elab.async false -- one proof after the other: checking the whole text at once takes more memory than the check allows
namespace Sys2Proof.Machine

/-- Every command is one of three kinds of row: a command that reset holds back, a change that is seen in reset too, and a reset. -/
theorem exec_cases (i : Instr) (s : State) :
    (seenInReset i = false ∧ ∃ f, exec i s = .next (s.row f))
      ∨ (resets i = false ∧ seenInReset i = true ∧ ∃ f g, exec i s = .next (s.pinRow f g))
      ∨ (resets i = true ∧ seenInReset i = true ∧ ∃ f, exec i s = .next (s.resetRow f)) := by
  cases i with
  | porstAssert | porstRelease | sysrstAssert | sysrstRelease | sysResetBegin => exact .inr (.inr ⟨rfl, rfl, _, rfl⟩)
  | estopAssert | estopRelease | laserEnableDeassert | laserEnableRelease | pwrfailAssert | pwrfailRelease | perstAssert | perstRelease
  | strapMismatch | mainPllLock | mainPllRelock | mainPllLoss | analogThermalTrip => exact .inr (.inl ⟨rfl, rfl, _, _, rfl⟩)
  | meshCheck | voltAlarm | clockAlarm | tempCheck | debugAlarm | alarmSourceDeassert => exact .inr (.inl ⟨rfl, rfl, _, _, rfl⟩)
  | _ => exact .inl ⟨rfl, _, rfl⟩

/-- Settles O56: what reset holds back is a row, and a row does nothing in reset. -/
theorem inResetNothingElseHappens : Obligations.InResetNothingElseHappens := by
  unfold Obligations.InResetNothingElseHappens
  intro i s down unseen
  rcases exec_cases i s with ⟨-, f, hx⟩ | ⟨-, seen, -⟩ | ⟨-, seen, -⟩
  · rw [hx, s.row_in_reset f down]
  · exact absurd seen (Bool.eq_false_iff.mp unseen)
  · exact absurd seen (Bool.eq_false_iff.mp unseen)

/-- A command goes on with the queue as it was, and none but a reset moves the reset pins. -/
theorem exec_runs_pins (i : Instr) (s : State) :
    Runs i s (fun t => t.pending = s.pending ∧ (resets i = false → t.sys.porst = s.sys.porst ∧ t.sys.sysrst = s.sys.sysrst)) := by
  rcases exec_cases i s with ⟨-, f, hx⟩ | ⟨-, -, f, g, hx⟩ | ⟨reset, -, f, hx⟩
  · obtain ⟨pending, levels⟩ := s.row_pins f
    exact ⟨_, hx, pending, fun _ => levels⟩
  · obtain ⟨pending, levels⟩ := s.pinRow_pins f g
    exact ⟨_, hx, pending, fun _ => levels⟩
  · exact ⟨_, hx, s.resetRow_pending f, fun h => absurd reset (Bool.eq_false_iff.mp h)⟩

theorem State.always_goesOn (s : State) : s.goesOn := by
  unfold State.goesOn step
  split
  · exact ⟨_, rfl⟩
  · rename_i c rest _
    obtain ⟨t, ht, -⟩ := exec_runs_pins c { s with pending := rest }
    exact ⟨t, ht⟩

/-- Settles O55: the ends of the three kinds of rows keep the queue, and those of the first two the levels. -/
theorem everyCommandGoesOn : Obligations.EveryCommandGoesOn := by
  unfold Obligations.EveryCommandGoesOn
  exact ⟨exec_runs_pins, State.always_goesOn⟩

end Sys2Proof.Machine
end

section
/-!
PROOFS about a device that rests in reset (R48, R58, R59): it is held, and no transition of it is decided, so that time passes it by. One rule
for each operation that a reset, or what is seen in reset, uses.
-/
set_option Elab.async false -- one proof after the other: checking the whole text at once takes more memory than the check allows
namespace Sys2Proof.Machine

/-- What a reset leaves: the device is held, and it has no transition decided that would take effect later. -/
structure State.AtRest (s : State) : Prop extends s.Held where
  next : s.sys.next = []

theorem mem_tabPut {α : Type} [DecidableEq α] {d : α} {t : Tab α} {k : Nat} {v : α} {e : Nat × α} (h : e ∈ tabPut d t k v) :
    e.1 = k ∨ e ∈ t := by
  unfold tabPut at h
  split at h
  · exact .inr (List.mem_filter.mp h).1
  · rcases (mem_tabInsert k v (tabDrop t k) e).mp h with rfl | h
    · exact .inl rfl
    · exact .inr (List.mem_filter.mp h).1

theorem resetShows_husk (w : Nat) (hw : w < 65536) : resetShows (wordAddr 0x60 w) = true := by
  have unit : wordAddr 0x60 w / 65536 = 0x60 := by
    unfold wordAddr
    omega
  simp [resetShows, unit]

theorem State.reset_atRest : State.reset.AtRest where
  cmd := rfl
  stream := rfl
  pack := rfl
  seq := rfl
  loop := rfl
  trace := rfl
  stn := rfl
  power := rfl
  ledger := rfl
  col := rfl
  axis := rfl
  ridge := rfl
  pair := rfl
  therm := rfl
  cal := rfl
  light := rfl
  firmware := rfl
  faultLow := rfl
  regs _ he := nomatch he
  next := rfl

/-- A word that is not listed reads its reset value. -/
theorem State.reg_of_absent (s : State) {a : Nat} (absent : ∀ e ∈ s.regs, e.1 ≠ a) : s.reg a = resetWord a := by
  rw [State.reg, ← tabGet_filter (resetWord a) (fun k => k == a) s.regs a (beq_self_eq_true a),
    List.filter_eq_nil_iff.mpr fun e he => by simpa using absent e he]
  rfl

namespace State.AtRest

variable {s : State} (h : s.AtRest)
include h

/-- The rule of updates: what reset does not hold may change, as long as the words, the firmware, FAULT_N and the decided transitions stay so. -/
theorem update {pending : List Instr} {regs : Tab Word} {marks : List (Nat × Nat × Nat)} {host : HostSt} {sys : SysSt} {err : ErrSt}
    {journal : JournalSt} {time : TimeSt} {husk : HuskSt} {out : List Output} (shown : ∀ e ∈ regs, resetShows e.1 = true)
    (firmware : sys.firmware = false) (faultLow : sys.faultLow = true) (next : sys.next = []) :
    State.AtRest ⟨pending, regs, marks, s.cmd, host, sys, err, journal, time, s.stream, s.pack, s.seq, s.loop, s.trace, s.stn, s.power, s.ledger,
      s.col, s.axis, husk, s.ridge, s.pair, s.therm, s.cal, s.light, out⟩ :=
  { h with firmware := firmware, faultLow := faultLow, regs := shown, next := next }

/-- Parts beside SYS and the words change. -/
theorem beside {pending : List Instr} {marks : List (Nat × Nat × Nat)} {host : HostSt} {err : ErrSt} {journal : JournalSt} {time : TimeSt}
    {husk : HuskSt} {out : List Output} :
    State.AtRest ⟨pending, s.regs, marks, s.cmd, host, s.sys, err, journal, time, s.stream, s.pack, s.seq, s.loop, s.trace, s.stn, s.power,
      s.ledger, s.col, s.axis, husk, s.ridge, s.pair, s.therm, s.cal, s.light, out⟩ :=
  h.update h.regs h.firmware h.faultLow h.next

/-- SYS changes. -/
theorem levels (f : SysSt → SysSt) (keeps : ∀ y, (f y).firmware = y.firmware ∧ (f y).faultLow = y.faultLow ∧ (f y).next = y.next := by
    exact fun _ => ⟨rfl, rfl, rfl⟩) : (s.levels f).AtRest := by
  obtain ⟨firmware, faultLow, next⟩ := keeps s.sys
  exact h.update h.regs (firmware.trans h.firmware) (faultLow.trans h.faultLow) (next.trans h.next)

theorem setReg (a : Nat) (v : Word) (shown : resetShows a = true := by decide) : (s.setReg a v).AtRest :=
  h.update (fun _ he => (mem_tabPut he).elim (fun e => e ▸ shown) (h.regs _)) h.firmware h.faultLow h.next

theorem put (f : Fld) (v : Nat) (shown : resetShows f.addr = true := by decide) : (s.put f v).AtRest := h.setReg _ _ shown
theorem putB (f : Fld) (b : Bool) (shown : resetShows f.addr = true := by decide) : (s.putB f b).AtRest := h.put _ _ shown

theorem mark (f : Fld) (bits : Nat) (shown : resetShows f.addr = true := by decide) : (s.mark f bits).AtRest :=
  (h.put f (s.get f ||| bits) shown).beside

theorem emit (o : Output) : (s.emit o).AtRest := h.beside
theorem begin : s.begin.AtRest := h.beside

theorem showOutputs (old : State) : (old.showOutputs s).AtRest := by
  rcases old.showOutputs_cases s with e | ⟨o, e⟩
  · rwa [e]
  · rw [e]
    exact h.emit o

theorem keepPins (old : State) : (old.keepPins s).AtRest := h.update h.regs h.firmware h.faultLow h.next

/-- A word that reset clears reads its reset value. -/
theorem reg {a : Nat} (hidden : resetShows a = false) : s.reg a = resetWord a :=
  s.reg_of_absent fun e he same => by simpa [same, hidden] using h.regs e he

/-! ## Records -/

theorem device_head_closed : s.headOpen ⟨0, 0⟩ = false := by
  unfold State.headOpen
  rw [h.reg (by decide)]
  decide +kernel

/-- A WARN of the device joins the records, and no head opens. -/
theorem warn_device (detail : Nat) (args : List Int) : (s.warn ⟨0, 0⟩ detail args).AtRest := by
  rw [State.warn, s.raise_low 1 ⟨0, 0⟩ detail args (by decide) (by decide), State.enterRecord]
  simp only [h.device_head_closed, Bool.false_eq_true, if_false]
  exact h.beside

/-! ## Device time -/

theorem clocks (n : Nat) : (s.clocks n).AtRest := h.beside

theorem reach (t : Nat) : (s.reach t).AtRest := by
  rcases s.reach_clocks t with e | ⟨n, e⟩
  · rwa [e]
  · rw [e]
    exact h.clocks n

theorem nextInstant (u : Nat) : s.nextInstant u = none := by
  unfold State.nextInstant
  rw [h.cmd, h.next, h.seq, h.pair]
  rfl

theorem passTo (u : Nat) : s.passTo u = s := by
  unfold State.passTo State.passInstants
  rw [h.nextInstant]

theorem settle : s.settle = s := by
  refine State.Settled.settle ⟨fun e he => ?_, fun c _ e he => ?_⟩
  · rw [h.next] at he
    exact nomatch he
  · rw [State.sq, h.seq] at he
    exact nomatch he

theorem arrive (t : Nat) : (s.arrive t).AtRest := by
  rw [State.arrive, h.passTo, (h.reach t).settle]
  exact h.reach t

end State.AtRest

/-- Settles O57: the state at reset lists no word, and rests. -/
theorem resetStateIsHeld : Obligations.ResetStateIsHeld := by
  unfold Obligations.ResetStateIsHeld
  exact ⟨rfl, rfl, rfl, fun _ => rfl, fun _ => State.reset_atRest.toHeld⟩

end Sys2Proof.Machine
end

section
/-!
PROOFS about the resets (R58 to R64, R100, R194): what PORST_N, SYSRST_N and RESET_UNIT of SYS leave, and what their releases do.
-/
set_option Elab.async false -- one proof after the other: checking the whole text at once takes more memory than the check allows
namespace Sys2Proof.Machine

/-! ## Every unit at its reset values -/

theorem State.wiped_atRest (s : State) (cause : Nat) (sys : SysSt) (firmware : sys.firmware = false) (faultLow : sys.faultLow = true)
    (next : sys.next = []) : (s.wiped cause sys).AtRest := by
  unfold State.wiped
  refine ((State.reset_atRest.update (fun e he => ?_) firmware faultLow next).setReg (wordAddr 0x00 0x22) (word cause)).emit _
  obtain ⟨x, hx, rfl⟩ := List.mem_map.mp (List.mem_filter.mp he).1
  obtain ⟨unit, -⟩ : x.1 / 65536 = 0x60 ∧ _ := by simpa using (List.mem_filter.mp hx).2
  simp [resetShows, unit]

/-! ## RESET_CAUSE (R61) -/

theorem State.wiped_cause (s : State) (cause : Nat) (sys : SysSt) : (s.wiped cause sys).reg (wordAddr 0x00 0x22) = word cause :=
  State.reg_setReg_same _ _ _

/-- The bits of the reset itself are among those of its RESET_CAUSE. -/
theorem State.resetCause_testBit (s : State) (keep bit n : Nat) (h : bit.testBit n = true) : (s.resetCause keep bit).testBit n = true := by
  simp [State.resetCause, Nat.testBit_or, h]

/-- A one-bit field of a word shows the bit of the number that the word holds. -/
theorem State.get_of_testBit {s : State} {f : Fld} {v : Nat} (hv : s.reg f.addr = word v) (h : v.testBit f.lo = true) (hw : f.width = 1 := by rfl)
    (hn : f.lo + 1 ≤ 32 := by decide) : s.get f = 1 := by
  rw [Nat.testBit_eq_decide_div_mod_eq] at h
  rw [State.get, hv, word, BitVec.toNat_ofNat, hw, bitsOf_mod_two_pow _ _ _ _ hn]
  exact of_decide_eq_true h

/-! ## The straps (R62, R64) -/

theorem State.AtRest.latchStraps {s : State} (h : s.AtRest) (straps : Nat) : (s.latchStraps straps).AtRest := by
  have live : State.AtRest { s with sys := { s.sys with straps := straps } } := h.levels fun y => { y with straps := straps }
  exact ((live.put F.SYS_STRAPS_POS _).put F.SYS_STRAPS_ROLE _).put F.SYS_STRAPS_BOOT _

theorem State.latchStraps_get (s : State) (straps : Nat) :
    (s.latchStraps straps).get F.SYS_STRAPS_POS = straps % 16 ∧ (s.latchStraps straps).get F.SYS_STRAPS_ROLE = straps / 16 % 4
      ∧ (s.latchStraps straps).get F.SYS_STRAPS_BOOT = straps / 64 % 4 := by
  unfold State.latchStraps
  refine ⟨?_, ?_, State.get_put_same _ _ _ (by decide)⟩
  · rw [State.get_put_disjoint _ F.SYS_STRAPS_BOOT F.SYS_STRAPS_POS _ (by decide) rfl (by decide),
      State.get_put_disjoint _ F.SYS_STRAPS_ROLE F.SYS_STRAPS_POS _ (by decide) rfl (by decide)]
    exact State.get_put_same _ _ _ (by decide)
  · rw [State.get_put_disjoint _ F.SYS_STRAPS_BOOT F.SYS_STRAPS_ROLE _ (by decide) rfl (by decide)]
    exact State.get_put_same _ _ _ (by decide)

theorem State.latchStraps_reg (s : State) (straps a : Nat) (h : a ≠ wordAddr 0x00 0x20) : (s.latchStraps straps).reg a = s.reg a := by
  unfold State.latchStraps State.put
  rw [State.reg_setReg_ne _ F.SYS_STRAPS_BOOT.addr a _ h, State.reg_setReg_ne _ F.SYS_STRAPS_ROLE.addr a _ h,
    State.reg_setReg_ne _ F.SYS_STRAPS_POS.addr a _ h]
  exact State.reg_congr (by rfl) a

/-- A look at the live straps finds the latch, or a difference that is known, or one that is new (R64). -/
theorem State.strapsSeen_cases (s : State) :
    s.strapsSeen = { s with sys := { s.sys with strapMismatch := false } } ∨ s.strapsSeen = s.mark F.SYS_STRAPS_MISMATCH
      ∨ s.strapsSeen = { s.mark F.SYS_STRAPS_MISMATCH with
          sys := { (s.mark F.SYS_STRAPS_MISMATCH).sys with strapMismatch := true } }.warn ⟨0, 0⟩ Config.strapDetail.toNat := by
  by_cases same : s.sys.straps % 256 = (s.reg (wordAddr 0x00 0x20)).toNat % 256
  · exact .inl (if_pos same)
  · by_cases known : (s.mark F.SYS_STRAPS_MISMATCH).sys.strapMismatch = true
    · exact .inr (.inl ((if_neg same).trans (if_pos known)))
    · exact .inr (.inr ((if_neg same).trans (if_neg known)))

/-- A look at the straps writes STRAPS, and a head of ERR. -/
theorem State.strapsSeen_reg (s : State) (a : Nat) (h : a ≠ wordAddr 0x00 0x20) (herr : inUnits [0x68] a = false) :
    s.strapsSeen.reg a = s.reg a := by
  have marked : (s.mark F.SYS_STRAPS_MISMATCH).reg a = s.reg a :=
    (State.reg_congr (by rfl) a).trans (s.reg_setReg_ne F.SYS_STRAPS_MISMATCH.addr a _ h)
  rcases s.strapsSeen_cases with e | e | e
  · rw [e]
    exact State.reg_congr (by rfl) a
  · rw [e, marked]
  · rw [e, State.warn, (State.raise_low_within _ 1 ⟨0, 0⟩ _ [] (by decide) (by decide)).words a herr]
    exact (State.reg_congr (by rfl) a).trans marked

@[simp] theorem State.strapsSeen_pins (s : State) : s.strapsSeen.pins = s.pins := by simp [State.strapsSeen]

theorem State.AtRest.strapsSeen {s : State} (h : s.AtRest) : s.strapsSeen.AtRest := by
  have marked : (s.mark F.SYS_STRAPS_MISMATCH).AtRest := h.mark _ _
  rcases s.strapsSeen_cases with e | e | e
  · rw [e]
    exact h.levels fun y => { y with strapMismatch := false }
  · rwa [e]
  · rw [e]
    have noted : State.AtRest { s.mark F.SYS_STRAPS_MISMATCH with sys := { (s.mark F.SYS_STRAPS_MISMATCH).sys with strapMismatch := true } } :=
      marked.levels fun y => { y with strapMismatch := true }
    exact noted.warn_device _ _

theorem State.AtRest.startClocks {s : State} (h : s.AtRest) : s.startClocks.AtRest := h.update h.regs h.firmware h.faultLow h.next

/-- States of the same pins have the same levels of the reset pins. -/
theorem State.levels_of_pins {s t : State} (h : t.pins = s.pins) : t.sys.porst = s.sys.porst ∧ t.sys.sysrst = s.sys.sysrst := by
  simp only [State.pins, Prod.mk.injEq] at h
  exact h.2

/-! ## PORST_N (R58, R62) -/

theorem State.porstAssert_of_released (s : State) (h : s.sys.porst = false) :
    s.porstAssert.AtRest ∧ s.porstAssert.sys.porst = true ∧ s.porstAssert.get F.SYS_RESET_CAUSE_POR = 1 := by
  have e : s.porstAssert = s.wiped (s.resetCause 0 (if s.sys.sysrst then 3 else 1)) { s.sysKept with porst := true } := if_neg (by simp [h])
  rw [e]
  refine ⟨s.wiped_atRest _ _ rfl rfl rfl, rfl, State.get_of_testBit (s.wiped_cause _ _) (s.resetCause_testBit _ _ _ ?_)⟩
  split <;> decide

theorem State.porstRelease_of_asserted (s : State) (straps : Nat) (h : s.sys.porst = true) :
    (s.porstRelease straps).sys.porst = false ∧ (s.porstRelease straps).time.now = 0 ∧ (s.porstRelease straps).get F.SYS_STRAPS_POS = straps % 16
      ∧ (s.porstRelease straps).get F.SYS_STRAPS_ROLE = straps / 16 % 4 ∧ (s.porstRelease straps).get F.SYS_STRAPS_BOOT = straps / 64 % 4 := by
  have e : s.porstRelease straps = ({ s with sys := { s.sys with porst := false, porstClk := s.time.clk } }.latchStraps straps).startClocks :=
    if_neg (by simp [h])
  rw [e]
  obtain ⟨pos, role, boot⟩ := State.latchStraps_get { s with sys := { s.sys with porst := false, porstClk := s.time.clk } } straps
  exact ⟨rfl, rfl, pos, role, boot⟩

/-! ## SYSRST_N and RESET_UNIT of SYS (R58, R100) -/

/-- SYS as SYSRST_N leaves it: the main PLL and the latched trip stay, and `pin` is the level. -/
def State.sysKeptLocked (s : State) (pin : Bool) : SysSt :=
  { s.sysKept with sysrst := pin, pll := s.sys.pll, pllOnce := s.sys.pllOnce, thermtripLow := s.sys.thermtripLow }

/-- The RESET_CAUSE of SYSRST_N or RESET_UNIT of SYS, whose bit joins those before it (R61). -/
def State.sysCause (s : State) (bit : Nat) : Nat := s.resetCause (s.reg (wordAddr 0x00 0x22)).toNat bit

/-- Every unit as SYSRST_N or RESET_UNIT of SYS leaves it, with the strap latch kept. -/
def State.sysLatched (s : State) (bit : Nat) (pin : Bool) : State :=
  (s.wiped (s.sysCause bit) (s.sysKeptLocked pin)).latchStraps ((s.reg (wordAddr 0x00 0x20)).toNat % 256)

/-- The live straps stay, and a main PLL in lock has ended boot step 0. -/
def State.relive (s : State) (straps : Nat) : State :=
  if s.sys.pll then (s.levels fun y => { y with straps := straps }).put F.SYS_BOOT_STAT_STEP 1 else s.levels fun y => { y with straps := straps }

/-- What SYSRST_N or RESET_UNIT of SYS leaves before boot times count. -/
def State.sysWiped (s : State) (bit : Nat) (pin : Bool) : State := (s.sysLatched bit pin).relive s.sys.straps

theorem State.AtRest.relive {s : State} (h : s.AtRest) (straps : Nat) : (s.relive straps).AtRest := by
  have live : (s.levels fun y => { y with straps := straps }).AtRest := h.levels _
  unfold State.relive
  split
  · exact live.put F.SYS_BOOT_STAT_STEP 1
  · exact live

theorem State.relive_levels (s : State) (straps : Nat) :
    (s.relive straps).sys.porst = s.sys.porst ∧ (s.relive straps).sys.sysrst = s.sys.sysrst := by
  unfold State.relive
  split <;> exact ⟨rfl, rfl⟩

theorem State.relive_reg (s : State) (straps a : Nat) (h : a ≠ wordAddr 0x00 0x21) : (s.relive straps).reg a = s.reg a := by
  unfold State.relive
  split
  · exact (State.reg_setReg_ne _ F.SYS_BOOT_STAT_STEP.addr a _ h).trans (State.reg_congr (by rfl) a)
  · exact State.reg_congr (by rfl) a

theorem State.sysReset_of_released (s : State) (bit : Nat) (pin : Bool) (porst : s.sys.porst = false) (sysrst : s.sys.sysrst = false) :
    s.sysReset bit pin = if pin then s.sysWiped bit pin else (s.sysWiped bit pin).startClocks.strapsSeen := by
  unfold State.sysReset
  rw [if_neg (by simp [porst]), if_neg (by simp [sysrst])]
  rfl

theorem State.sysWiped_atRest (s : State) (bit : Nat) (pin : Bool) : (s.sysWiped bit pin).AtRest :=
  ((s.wiped_atRest _ (s.sysKeptLocked pin) rfl rfl rfl).latchStraps _).relive _

theorem State.sysWiped_levels (s : State) (bit : Nat) (pin : Bool) :
    (s.sysWiped bit pin).sys.porst = s.sys.porst ∧ (s.sysWiped bit pin).sys.sysrst = pin :=
  State.relive_levels (s.sysLatched bit pin) _

theorem State.sysWiped_cause (s : State) (bit : Nat) (pin : Bool) : (s.sysWiped bit pin).reg (wordAddr 0x00 0x22) = word (s.sysCause bit) :=
  ((State.relive_reg _ _ _ (by decide)).trans (State.latchStraps_reg _ _ _ (by decide))).trans (s.wiped_cause _ _)

theorem State.sysrstAssert_of_released (s : State) (porst : s.sys.porst = false) (sysrst : s.sys.sysrst = false) :
    (s.sysReset 2 true).AtRest ∧ (s.sysReset 2 true).sys.sysrst = true ∧ (s.sysReset 2 true).get F.SYS_RESET_CAUSE_SYSRST = 1 := by
  rw [s.sysReset_of_released 2 true porst sysrst, if_pos rfl]
  refine ⟨s.sysWiped_atRest 2 true, (s.sysWiped_levels 2 true).2, ?_⟩
  exact State.get_of_testBit (s.sysWiped_cause 2 true) (s.resetCause_testBit _ _ _ (by decide))

/-- RESET_UNIT of SYS resets as SYSRST_N does, and boot begins at once (R100). -/
theorem State.unitReset_of_released (s : State) (porst : s.sys.porst = false) (sysrst : s.sys.sysrst = false) :
    (s.sysReset 8 false).AtRest ∧ (s.sysReset 8 false).inReset = false ∧ (s.sysReset 8 false).get F.SYS_RESET_CAUSE_UNIT = 1 := by
  rw [s.sysReset_of_released 8 false porst sysrst, if_neg (by decide)]
  refine ⟨(s.sysWiped_atRest 8 false).startClocks.strapsSeen, ?_, ?_⟩
  · obtain ⟨hp, hs⟩ := s.sysWiped_levels 8 false
    obtain ⟨kp, ks⟩ := State.levels_of_pins (s.sysWiped 8 false).startClocks.strapsSeen_pins
    rw [State.inReset, kp.trans (hp.trans porst), ks.trans hs]
    rfl
  · refine State.get_of_testBit (v := s.sysCause 8) ?_ (s.resetCause_testBit _ _ _ (by decide))
    exact ((State.strapsSeen_reg _ _ (by decide) (by decide)).trans (State.reg_congr (by rfl) _)).trans (s.sysWiped_cause 8 false)

theorem State.sysrstRelease_of_asserted (s : State) (sysrst : s.sys.sysrst = true) (porst : s.sys.porst = false) :
    s.sysrstRelease.sys.sysrst = false ∧ s.sysrstRelease.time.now = 0 := by
  have e : s.sysrstRelease = (State.startClocks { s with sys := { s.sys with sysrst := false } }).strapsSeen :=
    (if_neg (by simp [sysrst])).trans (if_neg (by simp [porst]))
  rw [e]
  exact ⟨(State.levels_of_pins (State.strapsSeen_pins _)).2, congrArg TimeSt.now (State.strapsSeen_within _).time_eq⟩

/-! ## How a reset's command ends -/

theorem State.resetRow_atRest (s : State) (f : State → State) (h : (f s.begin).AtRest) : (s.resetRow f).AtRest :=
  State.AtRest.showOutputs h.beside _

/-- Words, SYS and device time are as the body `b` has left them. -/
theorem State.resetRow_rest (s b : State) (f : State → State) (body : f s.begin = b) :
    (b.AtRest → (s.resetRow f).Held) ∧ (∀ x : Fld, (s.resetRow f).get x = b.get x) ∧ (s.resetRow f).sys = b.sys
      ∧ (s.resetRow f).time = b.time := by
  subst body
  have regs : (s.resetRow f).regs = (f s.begin).regs := by simp [State.resetRow]
  exact ⟨fun h => (s.resetRow_atRest f h).toHeld, fun x => State.get_congr x (State.reg_congr regs _), by simp [State.resetRow],
    by simp [State.resetRow]⟩

@[simp] theorem State.waitClk_pins (s : State) (c : Nat) : (s.waitClk c).pins = s.pins := by simp [State.waitClk]

/-! ## PERST_N (R60, R61) -/

/-- The words of a unit that has been dropped read their reset values. -/
theorem State.reg_dropUnit_same (s : State) (u w : Nat) (h : w / 65536 = u) : (s.dropUnit u).reg w = resetWord w := by
  have absent : ∀ e ∈ (s.dropUnit u).regs, e.1 ≠ w := fun e he same => by
    have other : e.1 / 65536 ≠ u := by simpa using (List.mem_filter.mp he).2
    exact other (same ▸ h)
  exact (s.dropUnit u).reg_of_absent absent

theorem State.perstAssert_of_released (s : State) (h : s.host.perst = false) :
    s.perstAssert.host.perst = true ∧ s.perstAssert.pathLost .pcie = true ∧ s.perstAssert.get F.SYS_RESET_CAUSE_PERST = 1
      ∧ ∀ w, w / 65536 = 0x01 → w ≠ F.HOSTIF_LOSS_LOG_VALID.addr → s.perstAssert.reg w = resetWord w := by
  unfold State.perstAssert
  rw [if_neg (by simp [h])]
  extract_lets log wiped old
  have marked : (wiped.mark F.SYS_RESET_CAUSE_PERST).get F.SYS_RESET_CAUSE_PERST = 1 := wiped.get_mark_same _ (by decide) rfl
  refine ⟨rfl, s.losePath_pcie, marked, fun w unit apart => ?_⟩
  have other : w ≠ F.SYS_RESET_CAUSE_PERST.addr := fun same => by simp [same, F.SYS_RESET_CAUSE_PERST, wordAddr] at unit
  calc (wiped.mark F.SYS_RESET_CAUSE_PERST).reg w
    _ = wiped.reg w := State.reg_setReg_ne _ _ _ _ other
    _ = ((s.losePath .pcie).dropUnit 0x01).reg w := State.reg_setReg_ne _ _ _ _ apart
    _ = resetWord w := State.reg_dropUnit_same _ _ _ unit

/-- Settles O4: each reset's body on the levels that it met, and the end of its command leaves what it has left. -/
theorem resetsHoldTheBlock : Obligations.ResetsHoldTheBlock := by
  unfold Obligations.ResetsHoldTheBlock
  refine ⟨fun s t porst => ?_, fun s t straps porst => ?_, fun s t porst sysrst => ?_, fun s t sysrst porst => ?_, fun s c asked up => ?_,
    fun s a t ha high => ?_, fun s t => ?_⟩
  · obtain ⟨hp, -⟩ := State.levels_of_pins (s.upTo_pins t)
    obtain ⟨rests, level, cause⟩ := (s.upTo t).porstAssert_of_released (hp.trans porst)
    obtain ⟨held, get, sys, -⟩ := s.resetRow_rest (s.upTo t).porstAssert (fun s => (s.arrive t).porstAssert) rfl
    exact ⟨_, rfl, held rests, (congrArg SysSt.porst sys).trans level, (get _).trans cause⟩
  · obtain ⟨hp, -⟩ := State.levels_of_pins (s.upTo_pins t)
    obtain ⟨level, time, pos, role, boot⟩ := (s.upTo t).porstRelease_of_asserted straps (hp.trans porst)
    obtain ⟨held, get, sys, now⟩ := s.resetRow_rest ((s.upTo t).porstRelease straps) (fun s => (s.arrive t).porstRelease straps) rfl
    exact ⟨_, rfl, (congrArg SysSt.porst sys).trans level, (congrArg TimeSt.now now).trans time, (get _).trans pos,
      (get _).trans role, (get _).trans boot⟩
  · obtain ⟨hp, hs⟩ := State.levels_of_pins (s.upTo_pins t)
    obtain ⟨rests, level, cause⟩ := (s.upTo t).sysrstAssert_of_released (hp.trans porst) (hs.trans sysrst)
    obtain ⟨held, get, sys, -⟩ := s.resetRow_rest ((s.upTo t).sysReset 2 true) (fun s => (s.arrive t).sysReset 2 true) rfl
    exact ⟨_, rfl, held rests, (congrArg SysSt.sysrst sys).trans level, (get _).trans cause⟩
  · obtain ⟨hp, hs⟩ := State.levels_of_pins (s.upTo_pins t)
    obtain ⟨level, time⟩ := (s.upTo t).sysrstRelease_of_asserted (hs.trans sysrst) (hp.trans porst)
    obtain ⟨-, -, sys, now⟩ := s.resetRow_rest (s.upTo t).sysrstRelease (fun s => (s.arrive t).sysrstRelease) rfl
    exact ⟨_, rfl, (congrArg SysSt.sysrst sys).trans level, (congrArg TimeSt.now now).trans time⟩
  · obtain ⟨porst, sysrst⟩ : s.sys.porst = false ∧ s.sys.sysrst = false := by simpa [State.inReset] using up
    obtain ⟨hp, hs⟩ := State.levels_of_pins (s.begin.waitClk_pins c)
    obtain ⟨rests, level, cause⟩ := (s.begin.waitClk c).unitReset_of_released (hp.trans porst) (hs.trans sysrst)
    have body : s.begin.sysResetBegin = (s.begin.waitClk c).sysReset 8 false := by
      rw [State.sysResetBegin, s.begin_rest.2.2.1, asked]
    rw [← body] at rests level cause
    obtain ⟨held, get, sys, -⟩ := s.resetRow_rest _ (fun s => s.sysResetBegin) rfl
    refine ⟨_, rfl, held rests, ?_, (get _).trans cause⟩
    rw [State.inReset, sys]
    exact level
  · obtain ⟨level, lost, cause, words⟩ := State.perstAssert_of_released a high
    refine ha.runs_pin State.perstAssert _ rfl fun u h => ⟨?_, ?_, (h.get_edge _).trans cause, fun w unit apart => ?_⟩
    · exact (congrArg HostSt.perst h.host_edge).trans level
    · exact (congrArg HostSt.pcieLost h.host_edge).trans lost
    · have edge := (haltEdge_within s.begin a.perstAssert).words w (by simp [inUnits, unit])
      exact ((h.reg w).trans edge).trans (words w unit apart)
  · exact State.runs_pin_anywhere _ _ rfl (fun u h => congrArg HostSt.perst h.host_edge) fun u h => congrArg HostSt.perst h.host

end Sys2Proof.Machine
end

section
/-!
PROOFS about steps of a device in reset (R48, R58, R62, R565): every step keeps that a device in reset rests, which says more than
`State.ResetHolds`; `State.ResetHolds` alone is not kept.
-/
set_option Elab.async false -- one proof after the other: checking the whole text at once takes more memory than the check allows
namespace Sys2Proof.Machine

theorem State.inReset_congr {s t : State} (h : t.pins = s.pins) : t.inReset = s.inReset := by
  obtain ⟨porst, sysrst⟩ := State.levels_of_pins h
  rw [State.inReset, porst, sysrst, State.inReset]

theorem State.reach_inReset (s : State) (t : Nat) : (s.reach t).inReset = s.inReset := State.inReset_congr (s.reach_pins t)

/-! ## The key island in reset (R565) -/

theorem State.AtRest.forEach {s : State} (h : s.AtRest) {α : Type} (xs : List α) (f : α → State → State)
    (step : ∀ x ∈ xs, ∀ t : State, t.AtRest → (f x t).AtRest) : (Machine.forEach xs f s).AtRest := by
  induction xs generalizing s with
  | nil => exact h
  | cons x xs ih => exact ih (step x List.mem_cons_self s h) fun y hy => step y (List.mem_cons_of_mem x hy)

theorem State.AtRest.ite {p : Prop} [Decidable p] {a b : State} (ha : p → a.AtRest) (hb : ¬p → b.AtRest) : (if p then a else b).AtRest := by
  split
  · exact ha ‹_›
  · exact hb ‹_›

namespace State.AtRest

variable {s : State} (h : s.AtRest)
include h

theorem showKeys : s.showKeys.AtRest := by
  refine (h.put F.HUSK_STAT_SLOTS_LOADED _).forEach _ _ fun i hi t ht => ?_
  have slot : resetShows (wordAddr 0x60 (0x101 + (i + 1))) = true := resetShows_husk _ (by have := List.mem_range.mp hi; omega)
  exact (ht.putB (F.HUSK_SLOT_LOADED (i + 1)) _ slot).put (F.HUSK_SLOT_KCV (i + 1)) _ slot

theorem eraseKeys : s.eraseKeys.AtRest := by
  have erased : State.AtRest { s with husk := { s.husk with dk := none, keys := [] } } := h.beside
  exact (erased.put F.HUSK_DK_KCV 0).showKeys

theorem alarmLog (src action : Nat) (battery : Bool) : (s.alarmLog src action battery).AtRest := by
  unfold State.alarmLog
  extract_lets e logged
  have he : e < 2 ^ 4 := Nat.mod_lt _ (by decide)
  have entryA : resetShows (wordAddr 0x60 (0x40 + 0x2 * e)) = true := resetShows_husk _ (by omega)
  have entryB : resetShows (wordAddr 0x60 (0x41 + 0x2 * e)) = true := resetShows_husk _ (by omega)
  have hl : logged.AtRest := (((h.put (F.HUSK_LOG_A_SOURCE e) src entryA).put (F.HUSK_LOG_A_ACTION e) action entryA).putB (F.HUSK_LOG_A_ON_BATTERY e)
    battery entryA).put (F.HUSK_LOG_A_VALID e) 1 entryA
  exact (hl.put (F.HUSK_LOG_B e) _ entryB).put F.HUSK_LOG_HEAD _

theorem deassert (src : Nat) : (s.deassert src).AtRest := h.put F.HUSK_STAT_ASSERTED _

/-- In reset an alarm is logged, erases the keys, or leaves its STOP for the end of the next boot. -/
theorem alarm (down : s.inReset = true) (src : Nat) (battery : Bool) : (s.alarm src battery).AtRest := by
  unfold State.alarm
  refine .ite (fun _ => h) fun _ => ?_
  extract_lets asserted latched act keyed dark logged answered emptied erased zeroizes
  have hl : latched.AtRest := (h.put F.HUSK_STAT_ASSERTED _).mark F.HUSK_LATCHED _
  have hw : logged.AtRest := hl.alarmLog _ _ _
  have ha : answered.AtRest := hw.forEach _ _ fun p hp => by
    rw [hw.cmd] at hp
    exact nomatch hp
  have pins : latched.pins = s.pins := by simp [latched, asserted]
  have isDark : dark = true := Bool.or_eq_true_iff.mpr (.inr ((State.inReset_congr pins).trans down))
  have he : erased.AtRest := ha.eraseKeys
  have hz : zeroizes.AtRest := (State.AtRest.ite (fun _ => he.put F.HUSK_STAT_STATE 3) fun _ => he).put F.HUSK_STAT_ZEROIZE_PENDING 1
  refine .ite (fun _ => .ite (fun _ => he.put F.HUSK_STAT_STATE 0) fun light => absurd isDark light) fun _ =>
    .ite (fun _ => .ite (fun _ => hz.beside) fun _ => .ite (fun _ => ha.beside) fun _ => ha) fun light => absurd isDark light

theorem sourceCheckAt (down : s.inReset = true) (src : Nat) (bad battery : Bool) : (s.sourceCheckAt src bad battery).AtRest :=
  .ite (fun _ => h.alarm down src battery) fun _ => h.deassert src

/-! ## Pins in reset (R62, R66) -/

theorem perstLevel (b : Bool) : (s.perstLevel b).AtRest := h.beside

theorem pllHeld (b : Bool) : (s.pllHeld b).AtRest := by
  unfold State.pllHeld
  split
  · exact h
  · exact (h.levels fun y => { y with pll := b, pllOnce := y.pllOnce || b }).put F.SYS_BOOT_STAT_STEP _

theorem tripHeld : s.tripHeld.AtRest := by
  unfold State.tripHeld
  split
  · exact h
  · exact h.levels fun y => { y with thermtripLow := true }

end State.AtRest

/-! ## What every step keeps -/

/-- A device in reset rests: it is held, and no transition of it is decided. -/
def State.ResetRests (s : State) : Prop := s.inReset = true → s.AtRest

theorem State.ResetRests.holds {s : State} (h : s.ResetRests) : s.ResetHolds := fun down => (h down).toHeld

namespace State.ResetRests

variable {s : State} (h : s.ResetRests)
include h

theorem begin : s.begin.ResetRests := fun down => (h (s.begin_inReset ▸ down)).begin

theorem of_pins {t : State} (pins : t.pins = s.pins) (rests : s.AtRest → t.AtRest) : t.ResetRests := fun down =>
  rests (h ((State.inReset_congr pins).symm.trans down))

theorem arrive (t : Nat) : (s.arrive t).ResetRests := h.of_pins (s.arrive_pins t) fun rests => rests.arrive t

theorem row (f : State → State) : (s.row f).ResetRests := fun down => by
  rw [State.inReset_of_pins _ _ (s.row_pins f)] at down
  rw [s.row_in_reset f down]
  exact (h down).begin

theorem pinRow (f g : State → State) (seen : ∀ u : State, u.AtRest → u.inReset = true → (g u).AtRest) : (s.pinRow f g).ResetRests := fun down => by
  rw [State.inReset_of_pins _ _ (s.pinRow_pins f g)] at down
  rw [s.pinRow_in_reset f g down]
  have body : (g s.begin).AtRest := seen s.begin (h down).begin (s.begin_inReset.trans down)
  exact (body.keepPins _).showOutputs _

omit h in
theorem resetRow (f : State → State) (body : (f s.begin).ResetRests) : (s.resetRow f).ResetRests := fun down => by
  obtain ⟨-, -, sys, -⟩ := s.resetRow_rest _ f rfl
  rw [State.inReset, sys] at down
  exact s.resetRow_atRest f (body down)

/-! ## The bodies of the resets -/

theorem porstAssert : s.porstAssert.ResetRests := by
  cases level : s.sys.porst with
  | true => rwa [State.porstAssert, if_pos level]
  | false => exact fun _ => (s.porstAssert_of_released level).1

theorem porstRelease (straps : Nat) : (s.porstRelease straps).ResetRests := by
  unfold State.porstRelease
  cases level : s.sys.porst with
  | false => exact h
  | true =>
    have rests : s.AtRest := h (by simp [State.inReset, level])
    have released : State.AtRest { s with sys := { s.sys with porst := false, porstClk := s.time.clk } } :=
      rests.levels fun y => { y with porst := false, porstClk := s.time.clk }
    exact fun _ => (released.latchStraps straps).startClocks

theorem sysReset (bit : Nat) (pin : Bool) : (s.sysReset bit pin).ResetRests := by
  cases porst : s.sys.porst with
  | true =>
    have rests : s.AtRest := h (by simp [State.inReset, porst])
    unfold State.sysReset
    rw [if_pos porst]
    split
    · exact fun _ => (rests.put F.SYS_RESET_CAUSE_SYSRST 1).levels fun y => { y with sysrst := true }
    · exact h
  | false =>
    cases sysrst : s.sys.sysrst with
    | true => rwa [State.sysReset, if_neg (by simp [porst]), if_pos sysrst]
    | false =>
      rw [s.sysReset_of_released bit pin porst sysrst]
      split
      · exact fun _ => s.sysWiped_atRest bit pin
      · exact fun _ => (s.sysWiped_atRest bit pin).startClocks.strapsSeen

theorem sysrstRelease : s.sysrstRelease.ResetRests := by
  unfold State.sysrstRelease
  split
  · exact h
  · have level : s.sys.sysrst = true := by simpa using ‹¬(!s.sys.sysrst) = true›
    have rests : s.AtRest := h (by simp [State.inReset, level])
    extract_lets old released
    have hr : released.AtRest := rests.levels fun y => { y with sysrst := false }
    split
    · exact fun _ => hr
    · exact fun _ => hr.startClocks.strapsSeen

theorem sysResetBegin : s.sysResetBegin.ResetRests := by
  unfold State.sysResetBegin
  split
  · exact h
  · rename_i c asked
    have up : s.inReset = false := Bool.eq_false_iff.mpr fun down => by simp [(h down).cmd] at asked
    have awake : (s.waitClk c).ResetRests := h.of_pins (s.waitClk_pins c) fun rests => absurd asked (by simp [rests.cmd])
    exact awake.sysReset 8 false

end State.ResetRests

/-- A command of a device that rests in reset leaves it so. -/
theorem exec_keeps_resetRests (i : Instr) {s : State} (h : s.ResetRests) : ∃ t, exec i s = .next t ∧ t.ResetRests := by
  have at_ := fun t => h.begin.arrive t
  cases i with
  | porstAssert t => exact ⟨_, rfl, .resetRow _ (at_ t).porstAssert⟩
  | porstRelease t straps => exact ⟨_, rfl, .resetRow _ ((at_ t).porstRelease straps)⟩
  | sysrstAssert t => exact ⟨_, rfl, .resetRow _ ((at_ t).sysReset 2 true)⟩
  | sysrstRelease t => exact ⟨_, rfl, .resetRow _ (at_ t).sysrstRelease⟩
  | sysResetBegin => exact ⟨_, rfl, .resetRow _ h.begin.sysResetBegin⟩
  | estopAssert t | estopRelease t | laserEnableDeassert t | laserEnableRelease t | pwrfailAssert t | pwrfailRelease t | strapMismatch t =>
    exact ⟨_, rfl, h.pinRow _ _ fun u rests _ => (rests.reach t).levels _⟩
  | perstAssert t | perstRelease t => exact ⟨_, rfl, h.pinRow _ _ fun u rests _ => (rests.reach t).perstLevel _⟩
  | mainPllLock t | mainPllRelock t | mainPllLoss t => exact ⟨_, rfl, h.pinRow _ _ fun u rests _ => (rests.reach t).pllHeld _⟩
  | analogThermalTrip t => exact ⟨_, rfl, h.pinRow _ _ fun u rests _ => (rests.reach t).tripHeld⟩
  | alarmSourceDeassert t source => exact ⟨_, rfl, h.pinRow _ _ fun u rests _ => (rests.reach t).deassert source⟩
  | meshCheck t bad battery | tempCheck t bad battery =>
    exact ⟨_, rfl, h.pinRow _ _ fun u rests down => (rests.reach t).sourceCheckAt ((u.reach_inReset t).trans down) _ bad battery⟩
  | voltAlarm t | clockAlarm t | debugAlarm t =>
    exact ⟨_, rfl, h.pinRow _ _ fun u rests down =>
      .ite (fun _ => rests) fun _ => (rests.reach t).alarm ((u.reach_inReset t).trans down) _ false⟩
  | _ => exact ⟨_, rfl, h.row _⟩

/-- The invariant that `State.ResetHolds` is a part of: it holds at reset, and every step keeps it. -/
theorem reset_resetRests : State.reset.ResetRests := fun _ => State.reset_atRest

theorem step_keeps_resetRests {s t : State} (h : s.ResetRests) (next : step s = .next t) : t.ResetRests := by
  unfold step at next
  split at next
  · exact Host.Outcome.next.inj next ▸ h.pinRow _ _ fun u rests _ => rests.clocks 1
  · rename_i c rest _
    have popped : State.ResetRests { s with pending := rest } := fun down => (h down).beside
    obtain ⟨u, hu, rests⟩ := exec_keeps_resetRests c popped
    exact Host.Outcome.next.inj (hu.symm.trans next) ▸ rests

/-! ## `State.ResetHolds` alone -/

/-- A device held in PORST_N for which a transition to READY has been decided. -/
def decidedInReset : State := { State.reset with sys := { next := [(0, 1, 1)] } }

/-- What another assertion of PORST_N leaves of it. -/
def decidedEntered : State := decidedInReset.resetRow (fun s => (s.arrive 0).porstAssert)

theorem decidedInReset_step : step { decidedInReset with pending := [.porstAssert 0] } = .next decidedEntered := rfl

theorem decidedInReset_resetHolds : State.ResetHolds { decidedInReset with pending := [.porstAssert 0] } :=
  fun _ => { State.reset_atRest.toHeld with }

/-- The transition takes effect in reset, and READY releases FAULT_N. -/
theorem decidedEntered_released : decidedEntered.inReset = true ∧ decidedEntered.sys.faultLow = false := by decide +kernel

/-- Refutes O58: `State.Held` allows a decided transition to wait, and device time that passes in reset lets it take effect. No run from
`State.reset` meets such a state (`reset_resetRests`, `step_keeps_resetRests`). -/
theorem not_resetHoldsTheDevice : ¬ Obligations.ResetHoldsTheDevice := by
  unfold Obligations.ResetHoldsTheDevice
  intro keeps
  obtain ⟨down, released⟩ := decidedEntered_released
  have low : decidedEntered.sys.faultLow = true := (keeps _ _ decidedInReset_resetHolds decidedInReset_step down).faultLow
  exact absurd low (by simp [released])

end Sys2Proof.Machine
end

section
/-!
PROOFS that DISCARD empties its path's batch (R112), and what a served packet that is done at once leaves: its reply, and the batches as its
opcode has left them.
-/
set_option Elab.async false -- one proof after the other: checking the whole text at once takes more memory than the check allows
namespace Sys2Proof.Machine

/-! ## Staged batches (R108) -/

@[simp] theorem State.batch_setBatch_same (s : State) (p : Path) (b : List StagedWrite) : (s.setBatch p b).batch p = b := by cases p <;> rfl

theorem State.batch_setBatch_ne (s : State) {p q : Path} (b : List StagedWrite) (h : q ≠ p) : (s.setBatch p b).batch q = s.batch q := by
  cases p <;> cases q <;> simp_all [State.setBatch, State.batch]

theorem State.batch_congr {s t : State} (h : t.cmd = s.cmd) (q : Path) : t.batch q = s.batch q := by
  cases q <;> simp [State.batch, h]

theorem State.setBatch_dev (s : State) (p : Path) (b : List StagedWrite) : (s.setBatch p b).dev = s.dev := by cases p <;> rfl

theorem State.setBatch_inflight (s : State) (p : Path) (b : List StagedWrite) : (s.setBatch p b).cmd.inflight = s.cmd.inflight := by cases p <;> rfl

theorem State.entered_batch (s : State) (op : Byte) (p : Pkt) (q : Path) : (s.begin.entered op p).batch q = s.batch q := by cases q <;> rfl

/-- Answering a packet leaves every staged batch as it was. -/
theorem State.answer_batch (s : State) (p : InFlight) (st : Byte) (d : Nat) (res : List Word) (hp : p.path ≠ .ridge) (ho : p.orphan = false)
    (q : Path) : (s.answer p st d res).batch q = s.batch q := by
  have sent : (s.answer p st d res).cmd = (s.retire p).cmd := by
    unfold State.answer State.answerAt
    rw [if_neg hp, ho, if_neg Bool.false_ne_true]
    simp
  exact (State.batch_congr sent q).trans (by cases q <;> rfl)

/-! ## A packet that is done at once (R80, R82) -/

/-- A packet that is answered DONE returns its results. -/
theorem State.answer_returned (s : State) (p : InFlight) (res : List Word) (hp : p.path ≠ .ridge) (ho : p.orphan = false) :
    (s.answer p 0 0 res).Returned p.path p.tag res :=
  ⟨s.mkReply p 0 0 res s.ns, s.answer_there p 0 0 res hp ho, rfl, rfl, rfl, rfl, rfl⟩

theorem State.Ends.returned {s t u : State} (h : s.Ends t u) {path : Path} {tag : Byte} {res : List Word} (hr : t.Returned path tag res) :
    u.Returned path tag res := by
  obtain ⟨r, there, hr⟩ := hr
  exact ⟨r, there.imp (h.out _) fun held => h.host ▸ held, hr⟩

/-- A served packet whose opcode, not NOP's, is done at once and leaves `b`, in the device state that it met, ends with its reply to `b`. -/
theorem State.Serves.runs_done {s b : State} {p : Pkt} {op : Byte} {res : List Word} {i : Instr} {P : State → Prop} (hs : s.Serves p.path p.tag)
    (hx : exec i s = .next (s.row (fun s => s.takePkt op p))) (h0 : op ≠ 0)
    (run : runOp op.toNat (s.begin.begun op p) (s.begin.entered op p) = (b, .done res)) (dev : b.dev = s.dev)
    (waits : b.cmd.inflight = [s.begin.begun op p]) (hP : ∀ u : State, s.Ends (b.answer (s.begin.begun op p) 0 0 res) u → P u) : Runs i s P := by
  have body : s.begin.takePkt op p = b.answer (s.begin.begun op p) 0 0 res := State.takePkt_done _ b op p res hs.begin h0 run waits
  have w := b.answer_within (s.begin.begun op p) 0 0 res hs.host rfl
  have ends := s.row_ends (fun s => s.takePkt op p) hs.up
  rw [body, haltEdge_of_not_entered s.begin _ fun hd => dev.symm.trans (w.dev.symm.trans hd)] at ends
  exact ⟨_, hx, hP _ ends⟩

/-! ## DISCARD -/

/-- DISCARD without operands empties its path's batch, and is done with the number of writes that were in it. -/
theorem opDiscard_done (p : InFlight) (s : State) (target : p.target = 0) (body : p.body = []) :
    opDiscard p s = (s.setBatch p.path [], .done [word (s.batch p.path).length]) := if_neg (by simp [target, body])

/-- Settles O53: DISCARD is done at once on the state without its path's batch, and its reply touches no batch. -/
theorem discardEmptiesTheBatch : Obligations.DiscardEmptiesTheBatch := by
  unfold Obligations.DiscardEmptiesTheBatch
  intro s p hs target body
  have run : runOp (0x09 : Byte).toNat (s.begin.begun 0x09 p) (s.begin.entered 0x09 p)
      = ((s.begin.entered 0x09 p).setBatch p.path [], .done [word (s.batch p.path).length]) := by
    rw [← s.entered_batch 0x09 p p.path]
    exact opDiscard_done (s.begin.begun 0x09 p) (s.begin.entered 0x09 p) target body
  refine hs.runs_done rfl (by decide) run (State.setBatch_dev _ _ _) (State.setBatch_inflight _ _ _) fun u ends => ?_
  have left : ∀ q, u.batch q = ((s.begin.entered 0x09 p).setBatch p.path []).batch q := fun q =>
    (State.batch_congr ends.cmd q).trans (State.answer_batch _ _ _ _ _ hs.host rfl q)
  refine ⟨?_, fun q _ other => ?_, ends.returned (State.answer_returned _ (s.begin.begun 0x09 p) _ hs.host rfl)⟩
  · rw [left, State.batch_setBatch_same]
  · rw [left, State.batch_setBatch_ne _ _ other, s.entered_batch]

end Sys2Proof.Machine
end

section
/-!
PROOFS that five statements of the command protocol fail, each in one clause, by a state that the model carries to another outcome: a
moderated interrupt and a cairn's limit that a commit changes on the way, the rank of a scheduled batch, the inner packet of a FORWARD to this
device, and a command ring whose fetch has stopped.
-/
set_option Elab.async false -- one proof after the other: checking the whole text at once takes more memory than the check allows
namespace Sys2Proof.Machine

/-- A commit of one write at the boundary of 10 µs, the first packet accepted on Ethernet port 0. -/
def commitAt10 (w : StagedWrite) : Scheduled := { f := 10, order := 0, path := .eth0, tag := 1, writes := [w] }

/-! ## An interrupt withheld while a commit changes its vector (R89, R110) -/

/-- A reply interrupt of TIME clock 100 is followed by one that moderation of 20 µs withholds; a commit at 10 µs changes VECTOR from 0 to 3. -/
def vectorMoves : State :=
  { (ringed.put F.HOSTIF_RING_CTRL_MOD_US 20) with
    host := { lastIrq := some 100, irqPending := true }
    cmd := { nextOrder := 1, scheduled := [commitAt10 ⟨F.HOSTIF_RING_CTRL_VECTOR.addr, 0x1F0000, 0x30000⟩]
             inflight := [{ waiter 0x04 0 [10, 0] (.commit 10) with path := .eth0, tag := 1 }] } }

/-- What the expiry leaves of it. -/
def vectorMoved : State := vectorMoves.row (fun s => s.moderationRow)

/-- The withheld interrupt is raised on the vector that the commit has set. -/
theorem vectorMoved_interrupts :
    Output.interrupt 3 ∈ vectorMoved.out ∧ Output.interrupt (vectorMoves.get F.HOSTIF_RING_CTRL_VECTOR) ∉ vectorMoved.out := by decide +kernel

/-- Refutes O11: the expiry raises the withheld interrupt on the vector then in force, which a commit on the way may have changed. -/
theorem not_ringsAndPortsTakePackets : ¬ Obligations.RingsAndPortsTakePackets := by
  unfold Obligations.RingsAndPortsTakePackets
  rintro ⟨-, -, -, -, moderated, -⟩
  obtain ⟨u, hu, -, raised⟩ := moderated vectorMoves 100 rfl (by decide +kernel) rfl
  rw [← Host.Outcome.next.inj hu] at raised
  exact vectorMoved_interrupts.2 raised

/-! ## The rank of a scheduled batch (R19, R88) -/

/-- A device that has answered one packet before. -/
def secondPacket : State := { ready with cmd := { nextOrder := 1 } }

/-- COMMIT of the empty batch for the boundary of 20 µs. -/
def commitOf20 : Pkt := ⟨.pcie, 9, 0, [20, 0]⟩

/-- Its batch is scheduled with the COMMIT's place in the acceptance order as its rank. -/
theorem secondPacket_scheduled :
    (secondPacket.row (fun s => s.takePkt 0x04 commitOf20)).cmd.scheduled.map (fun b => b.rank) = [1] := by decide +kernel

/-- Refutes O12: a batch is scheduled with its COMMIT's place in the acceptance order as its rank, where the statement has rank 0. -/
theorem not_systemPacketsRun : ¬ Obligations.SystemPacketsRun := by
  unfold Obligations.SystemPacketsRun
  rintro ⟨-, -, -, -, -, commit, -⟩
  have serves : secondPacket.Serves commitOf20.path commitOf20.tag := by constructor <;> decide +kernel
  obtain ⟨u, hu, -, scheduled, -⟩ := commit secondPacket commitOf20 20 0 serves rfl rfl (by decide +kernel) (by decide +kernel) (by decide) rfl
    (by decide +kernel)
  have ranks := secondPacket_scheduled
  rw [show secondPacket.row (fun s => s.takePkt 0x04 commitOf20) = u from Host.Outcome.next.inj hu, scheduled] at ranks
  exact absurd ranks (by decide)

/-! ## A cairn's limit that a commit raises (R110, R125) -/

/-- A device in SHADOW role with a cairn of device scope in flight, which has applied a MIRROR item: a batch of its keeper that raises
CAIRN_TIMEOUT to 65,535 ms at 10 µs. -/
def limitMoves : State :=
  { (ready.put F.PAIR_PSTAT_ROLE 2) with
    cmd := { nextOrder := 2, inflight := [{ waiter 0x07 0 [1, 7] .cairn with order := 1 }]
             scheduled := [{ commitAt10 ⟨F.CMD_CAIRN_TIMEOUT.addr, 0xFFFF, 0xFFFF⟩ with path := .ridge, tag := 0 }] } }

/-- At the limit that stood before, the cairn waits on. -/
theorem limitMoved_waits : (limitMoves.row (fun s => s.cairnDeadline .pcie 9)).cmd.inflight.isEmpty = false := by decide +kernel

/-- Refutes O13: a commit that raises CAIRN_TIMEOUT before a cairn's limit lets the cairn wait on, where the statement has it answered
TIMEOUT. -/
theorem not_waitingPacketsComplete : ¬ Obligations.WaitingPacketsComplete := by
  unfold Obligations.WaitingPacketsComplete
  rintro ⟨-, -, -, -, -, late, -⟩
  obtain ⟨u, hu, gone, -⟩ := late limitMoves .pcie 9 _ rfl (by decide +kernel) rfl (by decide) (by decide) rfl
  have waits := limitMoved_waits
  rw [show limitMoves.row (fun s => s.cairnDeadline .pcie 9) = u from Host.Outcome.next.inj hu, gone] at waits
  exact absurd waits (by decide)

/-! ## The inner packet of a FORWARD to this device (R126, R127) -/

/-- FORWARD to position 0 of a SET_PARAM that writes 5 to FAB.WEIGHT 0. -/
def forwardsWrite : Pkt := ⟨.pcie, 9, 0, [0x20703, word (F.FAB_WEIGHT 0).addr, 0, 5]⟩

/-- The summit at position 0 runs the inner packet at once. -/
theorem summit_forwardsWrite :
    (summit.row (fun s => s.takePkt 0x08 forwardsWrite)).reg (F.FAB_WEIGHT 0).addr = 5 ∧ summit.reg (F.FAB_WEIGHT 0).addr ≠ 5 := by decide +kernel

/-- Refutes O43: a FORWARD to the summit's own position places its inner packet on the ridge path here, where it starts by the same command; a
SET_PARAM changes its word. -/
theorem not_frameOfHostInterface : ¬ Obligations.FrameOfHostInterface := by
  unfold Obligations.FrameOfHostInterface
  rintro ⟨reads, -⟩
  have serves : summit.Serves forwardsWrite.path forwardsWrite.tag := by constructor <;> decide +kernel
  obtain ⟨u, hu, -, words, -⟩ := reads summit forwardsWrite serves (.forward forwardsWrite) (by simp)
  obtain ⟨after, before⟩ := summit_forwardsWrite
  rw [show summit.row (fun s => s.takePkt 0x08 forwardsWrite) = u from Host.Outcome.next.inj hu, words _ (by decide)] at after
  exact before after

/-! ## A command ring whose fetch has stopped (R87, R92) -/

/-- A device with a read of tag 9 in flight on PCIe, whose ring fetch has stopped on a PARSE_ERR. -/
def fetchStops : State :=
  { waiting 0x02 0 [1] (.read 20) with host := { fetchStopped := true } }

/-- Nothing is taken from the ring, so that nothing is answered. -/
theorem fetchStops_silent : (fetchStops.row (fun s => s.takePkt 0x00 ⟨.pcie, 9, 0, []⟩)).out = []
    ∧ (fetchStops.row (fun s => s.takePkt 0x00 ⟨.pcie, 9, 0, []⟩)).host.held = [] := by decide +kernel

/-- Refutes O51: on PCIe nothing is accepted, and no DUP_TAG answered, once PARSE_ERR or FETCH_ERR has stopped the fetch; the statement does
not exclude it. -/
theorem not_tagInFlightIsDuplicate : ¬ Obligations.TagInFlightIsDuplicate := by
  unfold Obligations.TagInFlightIsDuplicate
  rintro ⟨packets, -⟩
  obtain ⟨u, hu, -, ⟨r, there, -⟩, -⟩ := packets fetchStops ⟨.pcie, 9, 0, []⟩ (by decide +kernel) rfl rfl (by decide) rfl (by decide +kernel)
    (by decide +kernel) (.nop ⟨.pcie, 9, 0, []⟩) (by simp)
  obtain ⟨silent, held⟩ := fetchStops_silent
  rw [← Host.Outcome.next.inj hu, silent, held] at there
  simp at there

end Sys2Proof.Machine
end

section
/-!
PROOFS about the state of build streams (R132 to R138): what stream `n`'s buffers and words read after an update, and what the operations on
streams, contexts and holds keep to.
-/
set_option Elab.async false -- one proof after the other: checking the whole text at once takes more memory than the check allows
namespace Sys2Proof.Machine

/-! ## The words of a stream -/

/-- Words of one stream at different places of its eight are different words. -/
theorem streamWord_ne (n i j : Nat) (h : i ≠ j := by decide) : wordAddr 0x10 (i + 8 * n) ≠ wordAddr 0x10 (j + 8 * n) := by
  unfold wordAddr
  omega

/-- The device's state word stands below the words of every unit but SYS. -/
theorem devStateWord_ne (u w : Nat) (h : 0 < u) : F.SYS_DEV_STATE_STATE.addr ≠ wordAddr u w := by
  show 16 ≠ u * 65536 + w
  omega

/-- No word of a stream is a word of a channel's staging area. -/
theorem streamWord_ne_chStage (n c : Nat) (hn : n < 256) : wordAddr 0x10 (0x100 + 8 * n) ≠ wordAddr 0x10 (0xA00 + c) := by
  unfold wordAddr
  omega

theorem inUnits_streamWord (us : List Nat) (n i : Nat) (hn : n < 256) (hi : i < 0x108) :
    inUnits us (wordAddr 0x10 (i + 8 * n)) = us.contains 0x10 := inUnits_wordAddr us 0x10 _ (by omega)

/-! ## Values of 64 bits -/

/-- Two whole words read the value put into them, wrapped at 64 bits. -/
theorem State.get64_put64_same (s : State) (a b v : Nat) (h : a ≠ b) :
    (s.put64 ⟨a, 0, 32⟩ ⟨b, 0, 32⟩ v).get64 ⟨a, 0, 32⟩ ⟨b, 0, 32⟩ = v % 2 ^ 64 := by
  rw [State.get64, State.put64, State.get_put_other_word _ _ _ _ h, State.get_put_same _ _ _ (by simp), State.get_put_same _ _ _ (by simp)]
  show v % 2 ^ 32 + v / 2 ^ 32 % 2 ^ 32 * 2 ^ 32 = v % 2 ^ 64
  omega

/-! ## Buffers -/

@[simp] theorem State.strm_setStrm_same (s : State) (n : Nat) (x : Stream) : (s.setStrm n x).strm n = x :=
  tabGet_put_same ({} : Stream) s.stream.streams n x

theorem State.strm_congr {s t : State} (h : t.stream = s.stream) (n : Nat) : t.strm n = s.strm n := by rw [State.strm, State.strm, h]

@[simp] theorem State.put_strm (s : State) (f : Fld) (v n : Nat) : (s.put f v).strm n = s.strm n := State.strm_congr (by simp) n

@[simp] theorem State.put64_strm (s : State) (lo hi : Fld) (v n : Nat) : (s.put64 lo hi v).strm n = s.strm n := State.strm_congr (by simp) n

@[simp] theorem State.setReg_strm (s : State) (a : Nat) (v : Word) (n : Nat) : (s.setReg a v).strm n = s.strm n := State.strm_congr (by simp) n

/-- Replacing a stream's buffers shows in its S_INBUF word alone. -/
theorem State.get_setStrm (s : State) (n : Nat) (x : Stream) (f : Fld) (h : f.addr ≠ (F.STREAM_S_INBUF n).addr) :
    (s.setStrm n x).get f = s.get f := State.get_put_other_word _ _ _ _ h

/-- Bytes that the input buffer has room for are taken, all of them (R135). -/
theorem State.feedStream_takes (s : State) (n : Nat) (bs : List Byte) (room : (s.strm n).inbuf.length + bs.length ≤ 1048576) :
    (s.feedStream n bs).2 = bs.length ∧ (s.feedStream n bs).1.strm n = { s.strm n with inbuf := (s.strm n).inbuf ++ bs } := by
  have all : min bs.length (1048576 - (s.strm n).inbuf.length) = bs.length := by omega
  unfold State.feedStream
  simp [all]

theorem State.feedStream_cmd (s : State) (n : Nat) (bs : List Byte) : (s.feedStream n bs).1.cmd = s.cmd := by
  simp [State.feedStream]

theorem State.feedStream_dev (s : State) (n : Nat) (bs : List Byte) : (s.feedStream n bs).1.dev = s.dev := by
  have below : ∀ i, F.SYS_DEV_STATE_STATE.addr ≠ wordAddr 0x10 (i + 8 * n) := fun _ => devStateWord_ne _ _ (by decide)
  unfold State.feedStream State.put64 State.dev
  rw [State.get_put_other_word _ _ _ _ (below _), State.get_put_other_word _ _ _ _ (below _), State.get_setStrm _ _ _ _ (below _)]

/-! ## What the operations keep to -/

namespace State.Within

variable {a b : State} {ps : List Part} {us : List Nat}

theorem pack (h : a.Within b ps us) (x : PackSt) (hq : .pack ∈ ps := by decide) : a.Within { b with pack := x } ps us :=
  h.part .pack hq rfl rfl fun p hp => by cases p <;> simp_all [Part.same, Part.sameHost, Part.sameFrame]

theorem setStrm (h : a.Within b ps us) (n : Nat) (x : Stream) (hn : n < 256) (hq : .stream ∈ ps := by decide)
    (hu : us.contains 0x10 = true := by decide) : a.Within (b.setStrm n x) ps us :=
  (h.stream _ hq).put _ _ ((inUnits_streamWord us n 0x103 hn (by decide)).trans hu)

end State.Within

theorem State.setSlot_within (s : State) (k : Nat) (x : Slot) (hk : k < 256) : s.Within (s.setSlot k x) [.pack] [0x11] :=
  ((State.Within.refl s [.pack] [0x11]).pack _).setReg _ _ (inUnits_wordAddr _ 0x11 (0x100 + k) (by omega))

theorem State.setEngine_within (s : State) (e : Nat) (x : Engine) (he : e < 6) : s.Within (s.setEngine e x) [.pack] [0x11] := by
  have word : inUnits [0x11] (wordAddr 0x11 (0x10 + e)) = true := inUnits_wordAddr _ 0x11 (0x10 + e) (by omega)
  exact (((((State.Within.refl s [.pack] [0x11]).pack _).put _ _ word).putB _ _ word).put _ _ word).put _ _

theorem State.freeEngine_within (s : State) (k : Nat) : s.Within (s.freeEngine k) [.pack] [0x11] := by
  unfold State.freeEngine
  split
  next e h => exact s.setEngine_within e {} (List.mem_range.mp (List.mem_of_find?_eq_some h))
  next => exact .refl s _ _

theorem State.emitRidge_within (s : State) (type : Nat) (d : RidgeTo) (o : Output) : s.Within (s.emitRidge type d o) [] [] := by
  rw [s.emitRidge_eq type d o]
  exact (State.Within.refl s [] []).update rfl rfl fun p _ => by cases p <;> simp [Part.same, Part.sameHost, Part.sameFrame]

theorem State.slotChanged_within (s : State) (k : Nat) : s.Within (s.slotChanged k) [.pack] [] := by
  unfold State.slotChanged
  extract_lets x told
  have htold : s.Within told [.pack] [] := .ite (fun _ => (s.emitRidge_within _ _ _).mono (by decide) (by decide)) fun _ => .refl s _ _
  exact .ite (fun _ => .refl s _ _) fun _ => .ite (fun _ => htold.pack _) fun _ => htold

/-- A number of `n` bytes is below 256 to the power `n`. -/
theorem ofLE_lt (bs : List Byte) : ofLE bs < 256 ^ bs.length := by
  induction bs with
  | nil => decide
  | cons b bs ih =>
    have hb := b.isLt
    rw [ofLE, List.length_cons, Nat.pow_succ]
    omega

theorem leAt_lt (bs : List Byte) (i n : Nat) : leAt bs i n < 256 ^ n :=
  Nat.lt_of_lt_of_le (ofLE_lt _) (Nat.pow_le_pow_right (Nat.zero_lt_succ _) (List.length_take_le _ _))

theorem Stream.context_lt (x : Stream) : x.context < 256 := by
  have h := leAt_lt x.header 12 1
  rwa [Nat.pow_one] at h

/-- Letting a stream's context go touches its buffers and the context. -/
theorem State.releaseSlot_within (s : State) (n : Nat) (save : Bool) (hn : n < 256) :
    s.Within (s.releaseSlot n save) [.stream, .pack] [0x10, 0x11] := by
  unfold State.releaseSlot
  extract_lets x k y fresh z
  have leave : s.Within ((s.setStrm n { x with holdsSlot := false }).freeEngine k) [.stream, .pack] [0x10, 0x11] :=
    ((State.Within.refl s _ _).setStrm n _ hn).andThen (State.freeEngine_within _ k) (by decide) (by decide)
  have left := leave.andThen (State.setSlot_within _ k z x.context_lt) (by decide) (by decide)
  exact .ite (fun _ => .refl s _ _) fun _ => left.andThen (State.slotChanged_within _ k) (by decide) (by decide)

theorem State.setStaged_within (s : State) (c : Nat) (l : List Staged) (hc : c < 64) : s.Within (s.setStaged c l) [.stream] [0x10] :=
  ((State.Within.refl s [.stream] [0x10]).stream _).put _ _ (inUnits_wordAddr _ 0x10 (0xA00 + c) (by omega))

theorem State.dropStaged_within (s : State) (n : Nat) : s.Within (s.dropStaged n) [.stream] [0x10] :=
  State.Within.forEach _ _ (.refl s _ _) fun c hc t ht =>
    .ite (fun _ => ht.trans (t.setStaged_within c _ (List.mem_range.mp hc))) fun _ => ht

theorem State.autoDrain_within (s : State) : s.Within s.autoDrain [.sys] [] :=
  .ite (fun _ => s.triggerDev_within 3 3) fun _ => .refl s _ _

/-! ## What leaves a stream as it is -/

/-- From `s` to `t` stream `n`, the packets in flight and the device's state are as they were. -/
structure State.SameStream (n : Nat) (s t : State) : Prop where
  strm : t.strm n = s.strm n
  state : t.strmState n = s.strmState n
  cmd : t.cmd = s.cmd
  dev : t.dev = s.dev

namespace State.SameStream

variable {n : Nat} {s t u : State}

theorem refl (s : State) : s.SameStream n s := ⟨rfl, rfl, rfl, rfl⟩

theorem trans (h : State.SameStream n s t) (h' : State.SameStream n t u) : State.SameStream n s u :=
  ⟨h'.strm.trans h.strm, h'.state.trans h.state, h'.cmd.trans h.cmd, h'.dev.trans h.dev⟩

theorem put (h : State.SameStream n s t) (f : Fld) (v : Nat) (hstate : (F.STREAM_S_STAT_STATE n).addr ≠ f.addr)
    (hdev : F.SYS_DEV_STATE_STATE.addr ≠ f.addr) : State.SameStream n s (t.put f v) :=
  h.trans ⟨t.put_strm f v n, t.get_put_other_word _ _ v hstate, rfl, t.get_put_other_word _ _ v hdev⟩

end State.SameStream

theorem State.releaseHolds_same (s : State) (n m : Nat) (hn : n < 256) : State.SameStream n s (s.releaseHolds m) :=
  forEach_keeps (State.SameStream n s) _ _ s (.refl s) fun c t ht => by
    split
    · exact ht.put _ _ (streamWord_ne_chStage n c hn) (devStateWord_ne _ _ (by decide))
    · exact ht

theorem State.autoDrain_same (s : State) (n : Nat) (hn : n < 256) : State.SameStream n s s.autoDrain where
  strm := State.strm_congr (s.autoDrain_within.parts .stream (by decide)).1 n
  state := s.autoDrain_within.get _ (inUnits_streamWord _ n 0x100 hn (by decide))
  cmd := s.autoDrain_within.cmd_eq
  dev := s.autoDrain_within.dev

/-- A stream that is freed is FREE with empty buffers (R137). -/
theorem State.freeStream_frees (s : State) (n : Nat) (abort save : Bool) (hn : n < 256) :
    (s.freeStream n abort save).strm n = {} ∧ (s.freeStream n abort save).strmState n = 0
      ∧ (s.freeStream n abort save).cmd = s.cmd ∧ (s.freeStream n abort save).dev = s.dev := by
  unfold State.freeStream
  extract_lets released dropped k emptied used shown
  have hreleased : s.Within released [.stream, .pack] [0x10, 0x11] := s.releaseSlot_within n _ hn
  have hdropped : s.Within dropped [.stream, .pack] [0x10, 0x11] :=
    .ite (fun _ => hreleased.andThen (released.dropStaged_within n) (by decide) (by decide)) fun _ => hreleased
  have hemptied : s.Within emptied [.stream, .pack] [0x10, 0x11] :=
    (hdropped.setStrm n {} hn).setReg _ _ (inUnits_streamWord _ n 0x100 hn (by decide))
  have strm : emptied.strm n = {} := by simp [emptied]
  have state : emptied.strmState n = 0 := by
    simp [State.strmState, State.get, emptied, bitsOf]
  have far : (F.STREAM_S_STAT_STATE n).addr ≠ (F.HUSK_SLOT_IN_USE k).addr := by
    show wordAddr 0x10 (0x100 + 8 * n) ≠ wordAddr 0x60 (0x101 + k)
    unfold wordAddr
    omega
  have hshown : State.SameStream n emptied shown := by
    unfold shown
    split
    · exact .refl emptied
    · exact (State.SameStream.refl emptied).put _ _ far (devStateWord_ne _ _ (by decide))
  have same := (hshown.trans (shown.releaseHolds_same n n hn)).trans (State.autoDrain_same _ n hn)
  exact ⟨same.strm.trans strm, same.state.trans state, same.cmd.trans hemptied.cmd_eq, same.dev.trans hemptied.dev⟩

end Sys2Proof.Machine
end

section
/-!
PROOFS about the packets of build streams (R132 to R137): what each of them leaves when nothing turns it away, and what its command answers.
-/
set_option Elab.async false -- one proof after the other: checking the whole text at once takes more memory than the check allows
namespace Sys2Proof.Machine

/-! ## How a packet's command ends -/

theorem State.Ends.stream {s t u : State} (h : s.Ends t u) : u.stream = t.stream := (congrArg State.stream h.eq :)

/-- Answering a packet leaves the streams, and every word outside the host interface. -/
theorem State.Ends.of_answer {s b u : State} {q : InFlight} {res : List Word} (h : s.Ends (b.answer q 0 0 res) u) (hp : q.path ≠ .ridge)
    (ho : q.orphan = false) :
    (∀ n, u.strm n = b.strm n) ∧ (∀ f : Fld, inUnits [0x01] f.addr = false → u.get f = b.get f) ∧ u.Returned q.path q.tag res := by
  have w := b.answer_within q 0 0 res hp ho
  exact ⟨State.strm_congr (h.stream.trans (w.parts .stream (by decide)).1), fun f hf => (h.get f).trans (w.get f hf),
    h.returned (b.answer_returned q res hp ho)⟩

theorem State.setWait_stream (s : State) (order : Nat) (w : Wait) : (s.setWait order w).stream = s.stream := rfl

theorem State.setWait_inflight (s : State) (order : Nat) (w : Wait) {q : InFlight} (h : s.cmd.inflight = [q]) (hq : q.order = order) :
    (s.setWait order w).cmd.inflight = [{ q with wait := w }] := by
  simp [State.setWait, h, hq]

/-- A served packet whose opcode waits, and not for a FORWARD's replies, stays in flight with what it waits for. -/
theorem State.takePkt_later (s u : State) (op : Byte) (p : Pkt) (w : Wait) (h : s.Serves p.path p.tag)
    (hr : runOp op.toNat (s.begun op p) (s.entered op p) = (u, .later w)) (hu : u.cmd.inflight = [s.begun op p]) (hw : w.isForward = false) :
    s.takePkt op p = u.setWait s.cmd.nextOrder w := by
  have inflight : (u.setWait s.cmd.nextOrder w).cmd.inflight = [{ s.begun op p with wait := w }] :=
    u.setWait_inflight _ w hu rfl
  have ready : (u.setWait s.cmd.nextOrder w).startReady = u.setWait s.cmd.nextOrder w := by
    simp [State.startReady, State.startAll, inflight, State.begun]
  have done : (u.setWait s.cmd.nextOrder w).forwardDone = u.setWait s.cmd.nextOrder w := by
    unfold State.forwardDone
    rw [inflight]
    cases w with
    | forward => exact absurd hw nofun
    | _ => rfl
  rw [s.takePkt_serves op p h, hr]
  exact (congrArg State.forwardDone ready).trans done

/-- A served packet whose opcode waits, and not for a FORWARD's replies, ends with the packet in flight. -/
theorem State.Serves.runs_later {s b : State} {p : Pkt} {op : Byte} {w : Wait} {i : Instr} {P : State → Prop} (hs : s.Serves p.path p.tag)
    (hx : exec i s = .next (s.row (fun s => s.takePkt op p)))
    (run : runOp op.toNat (s.begin.begun op p) (s.begin.entered op p) = (b, .later w)) (dev : b.dev = s.dev)
    (waits : b.cmd.inflight = [s.begin.begun op p]) (hw : w.isForward = false)
    (hP : ∀ u : State, s.Ends (b.setWait s.cmd.nextOrder w) u → P u) : Runs i s P := by
  have body : s.begin.takePkt op p = b.setWait s.cmd.nextOrder w := State.takePkt_later _ b op p w hs.begin run waits hw
  have ends := s.row_ends (fun s => s.takePkt op p) hs.up
  rw [body, haltEdge_of_not_entered s.begin (b.setWait s.cmd.nextOrder w) fun hd => dev.symm.trans hd] at ends
  exact ⟨_, hx, hP _ ends⟩

/-! ## The opcodes -/

/-- Nothing that all stream opcodes check turns away a packet for a stream that there is, on a device without a partner. -/
theorem streamCheck_none {p : InFlight} {s : State} (target : p.target.toNat < 256) (alone : s.pairRole = 0) : streamCheck p s = none := by
  simp [streamCheck, Nat.not_le.mpr target, alone]

/-- The state with the counts of a stream that is opened, from S_INBUF on, and with its buffers empty. -/
def State.countsAfresh (s : State) (n : Nat) : State :=
  (((s.put64 (F.STREAM_S_CHUNK_LO n) (F.STREAM_S_CHUNK_HI n) 0).put (F.STREAM_S_LAYER_PARSED n) 0xFFFFFFFF).put (F.STREAM_S_LAYER_EXEC n)
    0xFFFFFFFF).setStrm n {}

theorem State.get_countsAfresh (s : State) (n : Nat) (f : Fld) (h : f.addr < wordAddr 0x10 (0x103 + 8 * n)) :
    (s.countsAfresh n).get f = s.get f := by
  have apart : ∀ i, 0x103 ≤ i → f.addr ≠ wordAddr 0x10 (i + 8 * n) := fun i hi => by
    unfold wordAddr at h ⊢
    omega
  unfold State.countsAfresh State.put64
  rw [State.get_setStrm _ _ _ _ (apart _ (by decide)), State.get_put_other_word _ _ _ _ (apart _ (by decide)),
    State.get_put_other_word _ _ _ _ (apart _ (by decide)), State.get_put_other_word _ _ _ _ (apart _ (by decide)),
    State.get_put_other_word _ _ _ _ (apart _ (by decide))]

/-- The stream as STREAM_OPEN leaves it. -/
def State.opened (s : State) (n : Nat) : State :=
  (((s.retireStream n).setReg (F.STREAM_S_STAT_STATE n).addr 1).put64 (F.STREAM_S_BYTES_LO n) (F.STREAM_S_BYTES_HI n) 0).countsAfresh n

theorem opStreamOpen_done {p : InFlight} {s : State} (target : p.target.toNat < 256) (alone : s.pairRole = 0) (body : p.body = [])
    (free : s.strmState p.target.toNat = 0) : opStreamOpen p s = (s.opened p.target.toNat, .done []) := by
  simp [opStreamOpen, streamCheck_none target alone, body, free, State.opened, State.countsAfresh]

theorem State.opened_strm (s : State) (n : Nat) : (s.opened n).strm n = {} := State.strm_setStrm_same _ _ _

theorem State.opened_strmState (s : State) (n : Nat) : (s.opened n).strmState n = 1 := by
  unfold State.opened
  rw [State.strmState, State.get_countsAfresh _ _ _ (by show wordAddr _ _ < _; unfold wordAddr; omega), State.put64,
    State.get_put_other_word _ _ _ _ (streamWord_ne n 0x100 0x102), State.get_put_other_word _ _ _ _ (streamWord_ne n 0x100 0x101),
    State.get, State.reg_setReg_same]
  simp [F.STREAM_S_STAT_STATE, bitsOf]

theorem State.opened_bytes (s : State) (n : Nat) : (s.opened n).get64 (F.STREAM_S_BYTES_LO n) (F.STREAM_S_BYTES_HI n) = 0 := by
  unfold State.opened
  rw [State.get64, State.get_countsAfresh _ _ _ (by show wordAddr _ _ < _; unfold wordAddr; omega),
    State.get_countsAfresh _ _ _ (by show wordAddr _ _ < _; unfold wordAddr; omega), ← State.get64]
  exact State.get64_put64_same _ _ _ 0 (streamWord_ne n 0x101 0x102)

theorem State.opened_within (s : State) (n : Nat) (hn : n < 256) : s.Within (s.opened n) [.stream] [0x10] := by
  have word : ∀ i, i < 0x108 → inUnits [0x10] (wordAddr 0x10 (i + 8 * n)) = true := fun i hi => inUnits_streamWord _ n i hn hi
  have cleared := (((State.Within.refl s [.stream] [0x10]).stream (s.retireStream n).stream).setReg _ 1 (word 0x100 (by decide))).put
    (F.STREAM_S_BYTES_LO n) 0 (word _ (by decide)) |>.put (F.STREAM_S_BYTES_HI n) (0 / 2 ^ 32) (word _ (by decide))
  exact ((((cleared.put _ _ (word _ (by decide))).put _ _ (word _ (by decide))).put _ _ (word _ (by decide))).put _ _
    (word _ (by decide))).setStrm n {} hn

@[simp] theorem bytesOfWords_length (ws : List Word) : (bytesOfWords ws).length = 4 * ws.length := by
  induction ws with
  | nil => rfl
  | cons w ws ih =>
    show (leBytes 4 w.toNat ++ bytesOfWords ws).length = _
    rw [List.length_append, ih, List.length_cons]
    show 4 + 4 * ws.length = _
    omega

/-- STREAM_PUSH of `k` bytes in as many words as they need, with zeros behind them, to an OPEN stream with room for them. -/
theorem opStreamPush_done {p : InFlight} {s : State} {k w : Word} {ws : List Word} (target : p.target.toNat < 256) (alone : s.pairRole = 0)
    (body : p.body = k :: w :: ws) (low : 4 * ws.length < k.toNat) (high : k.toNat ≤ 4 * (ws.length + 1))
    (zeros : allZero ((bytesOfWords (w :: ws)).drop k.toNat) = true) (opened : s.strmState p.target.toNat = 1)
    (room : (s.strm p.target.toNat).inbuf.length + k.toNat ≤ 1048576) :
    opStreamPush p s = ((s.feedStream p.target.toNat ((bytesOfWords (w :: ws)).take k.toNat)).1, .done [k]) := by
  have count : bodyWord (k :: w :: ws) 0 = k.toNat := rfl
  have length : ((bytesOfWords (w :: ws)).take k.toNat).length = k.toNat := by
    rw [List.length_take, bytesOfWords_length]
    exact Nat.min_eq_left high
  obtain ⟨taken, -⟩ := s.feedStream_takes p.target.toNat ((bytesOfWords (w :: ws)).take k.toNat) (by omega)
  have low' : ¬ k.toNat < 4 * ws.length + 1 := by omega
  have high' : ¬ 4 * (ws.length + 1) < k.toNat := by omega
  have back : word k.toNat = k := by simp [word]
  simp [opStreamPush, streamCheck_none target alone, body, count, low', high', zeros, opened, taken, length, back]

/-- The stream with a fetch running, and the DMA's signal. -/
def State.fetchStarted (s : State) (n lo hi k : Nat) : State :=
  (s.setStrm n { s.strm n with fetching := true }).emit (.signal "DMA_READ" [lo, hi, k])

theorem State.fetchStarted_strm (s : State) (n lo hi k : Nat) : (s.fetchStarted n lo hi k).strm n = { s.strm n with fetching := true } :=
  (State.strm_congr (s := s.setStrm n { s.strm n with fetching := true }) (by simp [State.fetchStarted]) n).trans (State.strm_setStrm_same _ _ _)

theorem State.fetchStarted_cmd (s : State) (n lo hi k : Nat) : (s.fetchStarted n lo hi k).cmd = s.cmd := by
  simp [State.fetchStarted]

theorem State.fetchStarted_dev (s : State) (n lo hi k : Nat) : (s.fetchStarted n lo hi k).dev = s.dev := by
  have still : (s.setStrm n { s.strm n with fetching := true }).dev = s.dev :=
    State.get_setStrm _ _ _ _ (devStateWord_ne _ _ (by decide))
  exact (State.dev_congr (by simp [State.fetchStarted])).trans still

/-- STREAM_FETCH on the PCIe path of up to 16 MiB to an OPEN stream starts its DMA. -/
theorem opStreamFetch_later {p : InFlight} {s : State} {lo hi k : Word} (target : p.target.toNat < 256) (alone : s.pairRole = 0)
    (path : p.path = .pcie) (body : p.body = [lo, hi, k, 0]) (least : 1 ≤ k.toNat) (limit : k.toNat ≤ 16777216)
    (opened : s.strmState p.target.toNat = 1) :
    opStreamFetch p s = (s.fetchStarted p.target.toNat lo.toNat hi.toNat k.toNat, .later (.fetch p.target.toNat k.toNat)) := by
  have length : ¬(k.toNat = 0 ∨ 16777216 < k.toNat) := by omega
  simp [opStreamFetch, streamCheck_none target alone, path, body, bodyWord, length, opened, State.fetchStarted]

/-- STREAM_CLOSE with ABORT frees a stream in any state but FREE. -/
theorem opStreamClose_done {p : InFlight} {s : State} {b : Word} (target : p.target.toNat < 256) (alone : s.pairRole = 0) (body : p.body = [b])
    (abort : b.toNat = 1 ∨ b.toNat = 3) (taken : s.strmState p.target.toNat ≠ 0) :
    ∃ save, opStreamClose p s = (s.freeStream p.target.toNat true save, .done []) := by
  have options : bodyWord [b] 0 = b.toNat := rfl
  rcases abort with one | three
  · exact ⟨false, by simp [opStreamClose, streamCheck_none target alone, body, options, one, taken]⟩
  · exact ⟨true, by simp [opStreamClose, streamCheck_none target alone, body, options, three, taken]⟩

/-! ## The end of a STREAM_FETCH (R135) -/

/-- The stream once its fetch has ended with bytes for which it has room. -/
def State.fetched (s : State) (n : Nat) (bs : List Byte) : State := ((s.setStrm n { s.strm n with fetching := false }).feedStream n bs).1

theorem State.fetched_strm (s : State) (n : Nat) (bs : List Byte) (room : (s.strm n).inbuf.length + bs.length ≤ 1048576) :
    (s.fetched n bs).strm n = { s.strm n with fetching := false, inbuf := (s.strm n).inbuf ++ bs } := by
  have h := (State.feedStream_takes (s.setStrm n { s.strm n with fetching := false }) n bs (by simpa using room)).2
  rwa [State.strm_setStrm_same] at h

theorem State.fetched_cmd (s : State) (n : Nat) (bs : List Byte) : (s.fetched n bs).cmd = s.cmd :=
  (State.feedStream_cmd _ _ _).trans (by simp)

theorem State.fetched_dev (s : State) (n : Nat) (bs : List Byte) : (s.fetched n bs).dev = s.dev :=
  (State.feedStream_dev _ _ _).trans (State.get_setStrm _ _ _ _ (devStateWord_ne _ _ (by decide)))

theorem State.fetchComplete_done {s : State} {p : InFlight} {n : Nat} {bs : List Byte} (inflight : s.cmd.inflight = [p])
    (waits : p.wait = .fetch n bs.length) (opened : s.strmState n = 1) (room : (s.strm n).inbuf.length + bs.length ≤ 1048576)
    (fetching : (s.strm n).fetching = true) :
    s.fetchComplete p.path p.tag bs = (s.fetched n bs).answer p 0 0 [word bs.length] := by
  have packet : s.fetchPacket p.path p.tag = some (p, n, bs.length) := by simp [State.fetchPacket, inflight, waits]
  have still : (s.setStrm n { s.strm n with fetching := false }).strmState n = 1 :=
    (State.get_setStrm _ _ _ _ (streamWord_ne n 0x100 0x103)).trans opened
  obtain ⟨taken, -⟩ := State.feedStream_takes (s.setStrm n { s.strm n with fetching := false }) n bs (by simpa using room)
  simp [State.fetchComplete, packet, still, fetching, taken, State.fetched]

/-! ## The statement -/

/-- A stream word stands outside the host interface. -/
theorem streamWord_not_hostif (n i : Nat) (hn : n < 256) (hi : i < 0x108) : inUnits [0x01] (wordAddr 0x10 (i + 8 * n)) = false :=
  inUnits_streamWord _ n i hn hi

theorem streamOpen_runs {s : State} {p : Pkt} (hs : s.Serves p.path p.tag) (target : p.target.toNat < 256) (body : p.body = [])
    (free : s.strmState p.target.toNat = 0) :
    Runs (.streamOpen p) s (fun u => u.strmState p.target.toNat = 1 ∧ u.strm p.target.toNat = {}
      ∧ u.get64 (F.STREAM_S_BYTES_LO p.target.toNat) (F.STREAM_S_BYTES_HI p.target.toNat) = 0 ∧ u.Returned p.path p.tag []) := by
  have word : ∀ i, i < 0x108 → inUnits [0x01] (wordAddr 0x10 (i + 8 * p.target.toNat)) = false := fun i hi =>
    streamWord_not_hostif _ i target hi
  have within := (s.begin.entered 0x10 p).opened_within p.target.toNat target
  refine hs.runs_done rfl (by decide) (opStreamOpen_done target hs.alone body free) within.dev
    (congrArg CmdSt.inflight within.cmd_eq) fun u ends => ?_
  obtain ⟨strm, get, returned⟩ := ends.of_answer hs.host rfl
  refine ⟨(get _ (word 0x100 (by decide))).trans (State.opened_strmState _ _), (strm _).trans (State.opened_strm _ _), ?_, returned⟩
  rw [State.get64, get _ (word 0x101 (by decide)), get _ (word 0x102 (by decide))]
  exact State.opened_bytes _ _

theorem streamPush_runs {s : State} {p : Pkt} {k w : Word} {ws : List Word} (hs : s.Serves p.path p.tag) (body : p.body = k :: w :: ws)
    (target : p.target.toNat < 256) (low : 4 * ws.length < k.toNat) (high : k.toNat ≤ 4 * (ws.length + 1))
    (zeros : allZero ((bytesOfWords (w :: ws)).drop k.toNat) = true) (opened : s.strmState p.target.toNat = 1)
    (room : (s.strm p.target.toNat).inbuf.length + k.toNat ≤ 1048576) :
    Runs (.streamPush p) s (fun u => (u.strm p.target.toNat).inbuf = (s.strm p.target.toNat).inbuf ++ (bytesOfWords (w :: ws)).take k.toNat
      ∧ u.Returned p.path p.tag [k]) := by
  have fits : (s.strm p.target.toNat).inbuf.length + ((bytesOfWords (w :: ws)).take k.toNat).length ≤ 1048576 :=
    (Nat.add_le_add_left (List.length_take_le _ _) _).trans room
  obtain ⟨-, fed⟩ := (s.begin.entered 0x11 p).feedStream_takes p.target.toNat _ fits
  refine hs.runs_done rfl (by decide) (opStreamPush_done target hs.alone body low high zeros opened room) (State.feedStream_dev _ _ _)
    (congrArg CmdSt.inflight (State.feedStream_cmd _ _ _)) fun u ends => ?_
  obtain ⟨strm, -, returned⟩ := ends.of_answer hs.host rfl
  exact ⟨congrArg Stream.inbuf ((strm p.target.toNat).trans fed), returned⟩

theorem streamFetch_runs {s : State} {p : Pkt} {lo hi k : Word} (hs : s.Serves p.path p.tag) (body : p.body = [lo, hi, k, 0])
    (path : p.path = .pcie) (target : p.target.toNat < 256) (least : 1 ≤ k.toNat) (limit : k.toNat ≤ 16777216)
    (opened : s.strmState p.target.toNat = 1) :
    Runs (.streamFetch p) s (fun u => (u.strm p.target.toNat).fetching = true
      ∧ Output.signal "DMA_READ" [lo.toNat, hi.toNat, k.toNat] ∈ u.out ∧ u.Waits s.cmd.nextOrder (.fetch p.target.toNat k.toNat)) := by
  have inflight : ((s.begin.entered 0x12 p).fetchStarted p.target.toNat lo.toNat hi.toNat k.toNat).cmd.inflight = [s.begin.begun 0x12 p] :=
    congrArg CmdSt.inflight (State.fetchStarted_cmd _ _ _ _ _)
  refine hs.runs_later rfl (opStreamFetch_later target hs.alone path body least limit opened)
    ((s.begin.entered 0x12 p).fetchStarted_dev _ _ _ _) inflight rfl fun u ends => ⟨?_, ?_, ?_⟩
  · rw [State.strm_congr (ends.stream.trans (State.setWait_stream _ _ _))]
    exact congrArg Stream.fetching ((s.begin.entered 0x12 p).fetchStarted_strm p.target.toNat lo.toNat hi.toNat k.toNat)
  · exact ends.out _ (List.mem_append_right _ (List.mem_singleton.mpr rfl))
  · have waits := (congrArg CmdSt.inflight ends.cmd).trans (State.setWait_inflight _ _ _ inflight rfl)
    exact ⟨_, waits ▸ List.mem_singleton.mpr rfl, rfl, rfl, rfl⟩

theorem streamFetchComplete_runs {s : State} {p : InFlight} {n : Nat} {bytes : List Byte} (inflight : s.cmd.inflight = [p])
    (waits : p.wait = .fetch n bytes.length) (up : s.inReset = false) (host : p.path ≠ .ridge) (orphan : p.orphan = false)
    (opened : s.strmState n = 1) (room : (s.strm n).inbuf.length + bytes.length ≤ 1048576) (fetching : (s.strm n).fetching = true) :
    Runs (.streamFetchComplete p.path p.tag bytes) s (fun u => (u.strm n).inbuf = (s.strm n).inbuf ++ bytes ∧ (u.strm n).fetching = false
      ∧ u.cmd.inflight = [] ∧ u.Returned p.path p.tag [word bytes.length]) := by
  have body : s.begin.fetchComplete p.path p.tag bytes = (s.begin.fetched n bytes).answer p 0 0 [word bytes.length] :=
    State.fetchComplete_done inflight waits opened room fetching
  have idle : ((s.begin.fetched n bytes).answer p 0 0 [word bytes.length]).cmd.inflight = [] :=
    State.answer_inflight _ p 0 0 _ ((congrArg CmdSt.inflight (State.fetched_cmd _ _ _)).trans inflight) host orphan
  have dev : ((s.begin.fetched n bytes).answer p 0 0 [word bytes.length]).dev = s.dev :=
    (State.answer_within _ p 0 0 _ host orphan).dev.trans (State.fetched_dev _ _ _)
  have ends := s.row_ends (fun s => (s.fetchComplete p.path p.tag bytes).pump) up
  rw [body, State.pump_none _ idle, haltEdge_of_not_entered s.begin _ dev.symm.trans] at ends
  obtain ⟨strm, -, returned⟩ := ends.of_answer host orphan
  have left := (strm n).trans (s.begin.fetched_strm n bytes room)
  exact ⟨_, rfl, congrArg Stream.inbuf left, congrArg Stream.fetching left, (congrArg CmdSt.inflight ends.cmd).trans idle, returned⟩

theorem streamClose_runs {s : State} {p : Pkt} {b : Word} (hs : s.Serves p.path p.tag) (body : p.body = [b]) (target : p.target.toNat < 256)
    (abort : b.toNat = 1 ∨ b.toNat = 3) (taken : s.strmState p.target.toNat ≠ 0) :
    Runs (.streamClose p) s (fun u => u.strmState p.target.toNat = 0 ∧ u.strm p.target.toNat = {} ∧ u.Returned p.path p.tag []) := by
  obtain ⟨save, run⟩ := opStreamClose_done (p := s.begin.begun 0x13 p) (s := s.begin.entered 0x13 p) target hs.alone body abort taken
  obtain ⟨freed, state, cmd, dev⟩ := (s.begin.entered 0x13 p).freeStream_frees p.target.toNat true save target
  refine hs.runs_done rfl (by decide) run dev (congrArg CmdSt.inflight cmd) fun u ends => ?_
  obtain ⟨strm, get, returned⟩ := ends.of_answer hs.host rfl
  exact ⟨(get _ (streamWord_not_hostif _ 0x100 target (by decide))).trans state, (strm _).trans freed, returned⟩

/-- Settles O14: each packet by its opcode, which is done at once or, for STREAM_FETCH, waits; the end of a fetch by what it leaves, with no
other packet in flight. -/
theorem streamPacketsRun : Obligations.StreamPacketsRun := by
  unfold Obligations.StreamPacketsRun
  refine ⟨fun _ _ hs target body free => streamOpen_runs hs target body free,
    fun _ _ _ _ _ hs body target low high zeros opened room => streamPush_runs hs body target low high zeros opened room,
    fun _ _ _ _ _ hs body path target least limit opened => streamFetch_runs hs body path target least limit opened,
    fun s path tag bytes p n k inflight waits up hpath htag host orphan opened length room fetching => ?_,
    fun _ _ _ hs body target abort taken => streamClose_runs hs body target abort taken⟩
  subst hpath htag length
  exact streamFetchComplete_runs inflight waits up host orphan opened room fetching

end Sys2Proof.Machine
end

section
/-!
PROOFS that three statements about build streams fail, each in one clause, by a state that the model carries to another outcome: a stream that
waits its turn for an engine, a block that a promotion has already staged, and a block whose channel number names none.
-/
set_option Elab.async false -- one proof after the other: checking the whole text at once takes more memory than the check allows
namespace Sys2Proof.Machine

/-! ## A stream behind another that waits for an engine (R189) -/

/-- Three bytes of code of an OPEN compressed stream that holds context `k`. -/
def coded (k : Nat) : Stream := { header := leBytes 5 0 ++ [2] ++ leBytes 6 0 ++ leBytes 1 k, code := [65, 0, 0], holdsSlot := true }

/-- Stream 8, on context 1, has been waiting for an engine since before stream 7, on context 0, had code to decode; every engine is free. -/
def secondInTurn : State :=
  { (((streaming 1 (coded 0)).put (F.STREAM_S_STAT_STATE 8) 1).setStrm 8 (coded 1)) with pack := { ready := [(0, 8)] } }

/-- Stream 7 joins those that wait: its code is as it was. -/
theorem secondInTurn_waits : ((secondInTurn.row (fun s => s.decodeStream 7)).strm 7).code = [65, 0, 0] := by decide +kernel

/-- On an engine it would be read. -/
theorem secondInTurn_code_is_read :
    (decode (secondInTurn.slot (secondInTurn.strm 7).context) (secondInTurn.strm 7).code (65536 - (secondInTurn.strm 7).plain.length)).rest
      ≠ [65, 0, 0] := by decide +kernel

/-- Refutes O15: DECODE_RESUME of a stream that could have an engine waits while another stream became ready before it; the statement does not
exclude one. -/
theorem not_streamsAreParsed : ¬ Obligations.StreamsAreParsed := by
  unfold Obligations.StreamsAreParsed
  rintro ⟨-, -, -, -, resumed, -⟩
  have runs := resumed secondInTurn 7 0
  iterate 6 specialize runs (by decide +kernel)
  obtain ⟨u, hu, -, code⟩ := runs
  rw [← show secondInTurn.row (fun s => s.decodeStream 7) = u from Host.Outcome.next.inj hu] at code
  exact secondInTurn_code_is_read (code.symm.trans secondInTurn_waits)

/-! ## A block that has been staged before its stream carries it (R499) -/

/-- Program 3 as a stream carries it again after a promotion, which found its first block staged. -/
def resumedProgram : Program := { program3 with skip := 1 }

/-- Stream 7 with the first block of that program at the front. -/
def stagedBefore : State :=
  let s := streaming 1 { header := plainHeader, plain := container 3 blockBody }
  { s with stream := { s.stream with layers := [layer1], programs := [resumedProgram] } }

/-- What the records of the block leave. -/
def blockRecords : RecSt :=
  { base := some 1000, last := some 1005, ended := true, out := [{ type := 5, base := 1000 }, { type := 7, launch := 1005 }] }

/-- The block is discarded, so that none waits. -/
theorem stagedBefore_discards : ((stagedBefore.row (fun s => s.containerBlock 7)).strm 7).waiting = none := by decide +kernel

/-- Refutes O16: a block whose INDEX the partner's staged blocks have covered is discarded, where the statement has it wait for its channel. -/
theorem not_blocksReachTheirChannels : ¬ Obligations.BlocksReachTheirChannels := by
  unfold Obligations.BlocksReachTheirChannels
  rintro ⟨parsed, -⟩
  have runs := parsed stagedBefore 7 blockBody resumedProgram blockRecords
  iterate 19 specialize runs (by decide +kernel)
  obtain ⟨u, hu, waits⟩ := runs
  have discards := stagedBefore_discards
  rw [show stagedBefore.row (fun s => s.containerBlock 7) = u from Host.Outcome.next.inj hu] at discards
  exact absurd (discards.symm.trans waits) nofun

/-! ## A block for a channel whose number names none -/

/-- Stream 7 with a block that waits for channel 0x380000, a number that a block of the model can hold; the channel's CH_STAGE word would lie at
0x480A00, in RIDGE. -/
def farBlock : State := streaming 1 { header := plainHeader, waiting := some ⟨0x380000, block3⟩ }

/-- Staging it takes the channel's hold. -/
theorem farBlock_takes_hold : (farBlock.row (fun s => s.blockStage 7)).reg 0x480A00 ≠ farBlock.reg 0x480A00 := by decide +kernel

/-- Refutes O44: BLOCK_STAGE of a state whose waiting block names channel 0x380000 writes a word of RIDGE. -/
theorem not_frameOfStreams : ¬ Obligations.FrameOfStreams := by
  unfold Obligations.FrameOfStreams
  rintro ⟨-, -, -, staged, -⟩
  obtain ⟨u, hu, -, words, -⟩ := staged farBlock 7 (by decide +kernel) _ (List.mem_singleton.mpr rfl)
  have same := words 0x480A00 (by decide)
  rw [← show farBlock.row (fun s => s.blockStage 7) = u from Host.Outcome.next.inj hu] at same
  exact farBlock_takes_hold same

end Sys2Proof.Machine
end

section
/-!
PROOF that the statement about PACK work fails in one clause, by a state that the model carries to another outcome: a queued job whose limit a
commit moves on the way.
-/
set_option Elab.async false -- one proof after the other: checking the whole text at once takes more memory than the check allows
namespace Sys2Proof.Machine

/-! ## A job's limit that a commit raises (R110, R184) -/

/-- A device that has been promoted from SHADOW. Of its keeper it still has a MIRROR batch, which raises PKT_TIMEOUT from 100 ms to 200 ms at
10 µs (R483); of its host, a job on slot 70 that no engine has taken. -/
def jobLimitMoves : State :=
  { ready with
    cmd := { nextOrder := 2, inflight := [{ waiter 0x18 70 [] (.job 70) with order := 1 }]
             scheduled := [{ commitAt10 ⟨F.CMD_PKT_TIMEOUT.addr, 0xFFFF, 200⟩ with path := .ridge, tag := 0 }] }
    pack := { slots := [(70, { holder := 2 })], jobs := [{ job70 none with order := 1 }] } }

/-- At the limit that stood before, the job waits on. -/
theorem jobLimitMoved_waits : (jobLimitMoves.row (fun s => s.jobDeadline 70)).pack.jobs.isEmpty = false := by decide +kernel

/-- Refutes O17: a commit that raises PKT_TIMEOUT before a queued job's limit lets the job wait on, where the statement has it answered
TIMEOUT. -/
theorem not_packWorkRuns : ¬ Obligations.PackWorkRuns := by
  unfold Obligations.PackWorkRuns
  rintro ⟨-, -, late, -⟩
  obtain ⟨u, hu, gone, -⟩ := late jobLimitMoves 70 _ _ rfl rfl (by decide +kernel) rfl rfl rfl (by decide) rfl
  have waits := jobLimitMoved_waits
  rw [show jobLimitMoves.row (fun s => s.jobDeadline 70) = u from Host.Outcome.next.inj hu, gone] at waits
  exact absurd waits (by decide)

end Sys2Proof.Machine
end

section
/-!
REFUTATIONS about the time base, scanning and pair roles (R195, R220, R344, R489): a slew that ends beside a step of device time, a flush of
programs whose stream number names none, and a PAIR_DROP on a ring whose fetch has stopped.
-/
set_option Elab.async false -- one proof after the other: checking the whole text at once takes more memory than the check allows
namespace Sys2Proof.Machine

/-! ## The end of a slew beside a step of the time base (R195, R220) -/

/-- The summit of `stepsBack`, whose slew ends at its TIME clock 1. -/
def slewStepsBack : State := { stepsBack with time := { stepsBack.time with slewEnd := some 1 } }

/-- The TIME_STEP that starts at the commit puts device time back, so that the clock of the slew's end is not the last that passes. -/
theorem slewStepsBack_slewEnd_clk : (slewStepsBack.row (fun s => s.slewDeadline)).time.clk = 501 := by decide +kernel

/-- Refutes O18: on the way to the end of a slew a commit can let a TIME_STEP start, which puts device time back, so that more TIME clocks pass
than lead to the clock of the end. -/
theorem not_timeBaseIsStepped : ¬ Obligations.TimeBaseIsStepped := by
  unfold Obligations.TimeBaseIsStepped
  rintro ⟨-, -, -, -, -, slew, -⟩
  obtain ⟨u, hu, -, -, -, clk⟩ := slew slewStepsBack 1 rfl (by decide +kernel)
  have start : slewStepsBack.time.clk = 0 := by decide +kernel
  rw [← Host.Outcome.next.inj hu, slewStepsBack_slewEnd_clk, start] at clk
  exact absurd clk (by decide)

/-! ## A flush of a stream whose number names none (R134, R344) -/

/-- Channel 3 with a queued segment of stream 0x70000, whose S_LAYER_EXEC word would lie at 0x480107, in RIDGE. -/
def farSegment : State := ready.setSq 3 { queue := [{ seg := { type := 3, stream := 0x70000 } }] }

/-- SCAN_FLUSH of the whole queue of channel 3. -/
def flushOfAll : Pkt := ⟨.pcie, 9, 3, [1]⟩

theorem farSegment_flushed :
    (farSegment.row (fun s => s.takePkt 0x30 flushOfAll)).reg 0x480107 = 0xFFFFFFFF ∧ farSegment.reg 0x480107 = 0 := by decide +kernel

/-- Refutes O46: SCAN_FLUSH of a program of stream 0x70000 writes a word of RIDGE. -/
theorem not_frameOfScanning : ¬ Obligations.FrameOfScanning := by
  unfold Obligations.FrameOfScanning
  rintro ⟨packets, -⟩
  have serves : farSegment.Serves flushOfAll.path flushOfAll.tag := by constructor <;> decide +kernel
  obtain ⟨u, hu, -, words, -⟩ := packets farSegment flushOfAll serves (.scanFlush flushOfAll) (by simp)
  obtain ⟨after, before⟩ := farSegment_flushed
  rw [show farSegment.row (fun s => s.takePkt 0x30 flushOfAll) = u from Host.Outcome.next.inj hu, words _ (by decide), before] at after
  exact absurd after (by decide)

/-! ## A PAIR_DROP on a ring whose fetch has stopped (R87, R489) -/

/-- The KEEPER at position 0, whose partner of serial 9 reports in and whose PCIe ring fetch has stopped on a PARSE_ERR. -/
def keeperFetchStops : State :=
  { (ready.put F.PAIR_PSTAT_ROLE 1) with
    host := { fetchStopped := true }
    ridge := { map := [{ serial := 0, pos := 0, role := 0 }, { serial := 9, pos := 0, role := 0 }]
               seen := [⟨9, 0, 0, true, 2, 1, false, false, false, false, false, true, 0, 5, 0, 0, 0⟩] } }

/-- PAIR_DROP for instant 100. -/
def dropAt100 : Pkt := ⟨.pcie, 9, 0, [100, 0]⟩

/-- Nothing is taken from the ring, so that nothing waits. -/
theorem keeperFetchStops_drop : (keeperFetchStops.row (fun s => s.takePkt 0x73 dropAt100)).cmd.inflight = [] := by decide +kernel

/-- Refutes O60: on PCIe no packet is taken once PARSE_ERR or FETCH_ERR has stopped the fetch; the rows of PAIR_SWAP and PAIR_DROP do not
exclude it, and have the packet wait for its acknowledgement. -/
theorem not_timePairAndJoinRowsAct : ¬ Obligations.TimePairAndJoinRowsAct := by
  unfold Obligations.TimePairAndJoinRowsAct
  rintro ⟨-, -, -, -, -, -, -, -, -, -, -, -, -, -, -, -, -, -, -, -, -, drop, -⟩
  obtain ⟨u, hu, ⟨x, there, -⟩, -⟩ := drop keeperFetchStops dropAt100 100 0 rfl (by decide +kernel) (by decide +kernel) (by decide +kernel)
    (by decide +kernel) (by decide) (by decide +kernel) (by decide +kernel) (by decide +kernel) (by decide +kernel) rfl (by decide +kernel)
    (by decide +kernel) (by decide +kernel) (by decide +kernel)
  rw [← Host.Outcome.next.inj hu, keeperFetchStops_drop] at there
  exact absurd there List.not_mem_nil

end Sys2Proof.Machine
end

section
/-!
PROOFS about what the operations of the time base, of TRIG outputs and of capture inputs keep to (R193 to R231).
-/
set_option Elab.async false -- one proof after the other: checking the whole text at once takes more memory than the check allows
namespace Sys2Proof.Machine

/-! ## Rate, states and measurements (R193, R198, R206, R207) -/

theorem State.Within.putI {a b : State} {ps : List Part} {us : List Nat} (h : a.Within b ps us) (f : Fld) (v : Int)
    (hx : inUnits us f.addr = true := by decide) : a.Within (b.putI f v) ps us := h.put _ _ hx

theorem State.Within.putSat {a b : State} {ps : List Part} {us : List Nat} (h : a.Within b ps us) (f : Fld) (v : Int)
    (hx : inUnits us f.addr = true := by decide) : a.Within (b.putSat f v) ps us := h.putI _ _ hx

theorem State.setRate_within (s : State) (num : Int) (den : Nat) : s.Within (s.setRate num den) [] [0x08] := (State.Within.refl s _ _).putI _ _

theorem State.servo_within (s : State) (theta : Int) (en ed alpha beta : Nat) : s.Within (s.servo theta en ed alpha beta) [] [0x08] := by
  unfold State.servo
  exact (((State.Within.refl s [] [0x08]).putI _ _).trans (State.setRate_within _ _ _)).putI _ _

theorem State.coast_within (s : State) : s.Within s.coast [] [0x08] := by
  unfold State.coast
  exact (s.setRate_within _ _).putI _ _

/-- A transition of the time base touches its words and the records. -/
theorem State.enterTime_within (s : State) (st cause : Nat) : s.Within (s.enterTime st cause) [.time, .err] [0x08, 0x68] := by
  unfold State.enterTime
  extract_lets +onlyGivenNames old left now held shown
  have hleft : s.Within left [.time, .err] [0x08, 0x68] := .ite (fun _ => (State.Within.refl s _ _).put _ _) fun _ => .refl s _ _
  have hheld : s.Within held [.time, .err] [0x08, 0x68] := .ite (fun _ => hleft.time _) fun _ => hleft
  have hshown : s.Within shown [.time, .err] [0x08, 0x68] := (hheld.put _ _).put _ _
  have raised : ∀ cls d args, cls ≠ 4 → cls ≠ 5 → s.Within (shown.raise cls false ⟨1, 0x08⟩ d args) [.time, .err] [0x08, 0x68] :=
    fun cls d args h4 h5 => hshown.andThen (shown.raise_low_within cls _ d args h4 h5) (by decide) (by decide)
  exact .ite (fun _ => raised 1 _ _ (by decide) (by decide)) fun _ =>
    .ite (fun _ => raised 1 _ _ (by decide) (by decide)) fun _ => raised 0 _ _ (by decide) (by decide)

theorem State.loseSource_within (s : State) : s.Within s.loseSource [.time, .err] [0x08, 0x68] := by
  unfold State.loseSource
  exact .ite (fun _ => (((s.enterTime_within 2 2).andThen (State.coast_within _) (by decide) (by decide)).time _).put _ _)
    fun _ => ((State.Within.refl s _ _).put _ _).time _

theorem State.measurement_within (s : State) (theta : Int) (en ed alpha beta : Nat) (steers : Bool) :
    s.Within (s.measurement theta en ed alpha beta steers) [.time] [0x08] := by
  unfold State.measurement
  extract_lets +onlyGivenNames offset now shown
  have hshown : s.Within shown [.time] [0x08] := ((State.Within.refl s _ _).putSat _ _).time _
  refine .ite (fun _ => hshown) fun _ => ?_
  extract_lets +onlyGivenNames st ok seen now' taken present
  have hpresent : s.Within present [.time] [0x08] := (hshown.time _).put _ _
  refine .ite (fun _ => hpresent.time _) fun _ => ?_
  extract_lets +onlyGivenNames counted
  have hcounted : s.Within counted [.time] [0x08] := hpresent.put _ _
  refine .ite (fun _ => ?_) fun _ => hcounted.time _
  exact .ite (fun _ => hcounted.andThen (counted.servo_within _ _ _ _ _) (by decide) (by decide)) fun _ => hcounted

theorem State.ptpMeasurement_within (s : State) : s.Within s.ptpMeasurement [.time] [0x08] := by
  unfold State.ptpMeasurement
  split
  · exact .refl s _ _
  · exact ((State.Within.refl s _ _).time _).trans (State.measurement_within _ _ _ _ _ _ _)

theorem State.refuseJump_within (s : State) : s.Within s.refuseJump [.time, .err] [0x08, 0x68] := by
  unfold State.refuseJump
  refine .ite (fun _ => .refl s _ _) fun _ => ?_
  extract_lets +onlyGivenNames shown
  have hshown : s.Within shown [.time, .err] [0x08, 0x68] := (((State.Within.refl s _ _).mark _ _).putSat _ _).put _ _
  exact (hshown.trans (shown.enterTime_within _ _)).andThen (State.coast_within _) (by decide) (by decide)

theorem State.leaveHoldover_within (s : State) : s.Within s.leaveHoldover [.time, .err] [0x08, 0x68] := by
  unfold State.leaveHoldover
  refine .ite (fun _ => .refl s _ _) fun _ => ?_
  extract_lets +onlyGivenNames left
  have hleft : s.Within left [.time, .err] [0x08, 0x68] := (s.enterTime_within _ _).put _ _
  exact .ite (fun _ => hleft.andThen (left.servo_within _ _ _ _ _) (by decide) (by decide))
    fun _ => hleft.andThen (left.servo_within _ _ _ _ _) (by decide) (by decide)

theorem State.misalign_within (s : State) : s.Within s.misalign [.err] [0x08, 0x68] := by
  have h : s.Within (s.mark F.TIME_STATE_MISALIGN) [.err] [0x08, 0x68] := (State.Within.refl s _ _).mark _ _
  unfold State.misalign
  exact .ite (fun _ => .refl s _ _) fun _ => .ite (fun _ => .refl s _ _) fun _ =>
    h.andThen (State.raise_low_within _ 3 ⟨1, 0x08⟩ 0x0822 _ (by decide) (by decide)) (by decide) (by decide)

/-! ## PTP (R200 to R205) -/

theorem State.ptpDrop_within (s : State) : s.Within s.ptpDrop [.time] [0x08] := (State.Within.refl s _ _).time _

theorem State.setPathDelay_within (s : State) (twice : Int) : s.Within (s.setPathDelay twice) [.time] [0x08] :=
  ((State.Within.refl s _ _).put _ _).time _

theorem State.syncComplete_within (s : State) (t1 t2 : Int) : s.Within (s.syncComplete t1 t2) [.time] [0x08] := by
  unfold State.syncComplete
  extract_lets +onlyGivenNames now complete
  have h : s.Within complete [.time] [0x08] := (State.Within.refl s _ _).time _
  split
  · exact h
  · exact h.time _

theorem State.ptpElect_within (s : State) : s.Within s.ptpElect [.time] [0x08] := by
  unfold State.ptpElect
  extract_lets +onlyGivenNames best self parent now t t' elected
  have h : s.Within elected [.time] [0x08] := (State.Within.refl s _ _).time _
  exact .ite (fun _ => h.put _ _) fun _ => h

theorem State.ptpMessage_within (s : State) (port : Bool) (m : PtpMsg) (stamp : Nat) : s.Within (s.ptpMessage port m stamp) [.time] [0x08] := by
  unfold State.ptpMessage
  extract_lets +onlyGivenNames rx t
  refine .ite (fun _ => .refl s _ _) fun _ => .ite (fun _ => s.ptpDrop_within) fun _ => ?_
  have h : s.Within s [.time] [0x08] := .refl s _ _
  split
  case h_1 =>
    refine .ite (fun _ => s.ptpDrop_within) fun _ => ?_
    extract_lets +onlyGivenNames followed
    have hf : s.Within followed [.time] [0x08] := h.time _
    exact .ite (fun _ => hf.time _) fun _ => hf.trans (followed.syncComplete_within _ _)
  case h_2 =>
    split
    · exact .ite (fun _ => s.syncComplete_within _ _) fun _ => s.ptpDrop_within
    · exact s.ptpDrop_within
  case h_3 =>
    split
    · refine .ite (fun _ => ?_) fun _ => s.ptpDrop_within
      extract_lets +onlyGivenNames answered first delay
      have hd : s.Within delay [.time] [0x08] := ((h.time _) : s.Within answered _ _).trans (answered.setPathDelay_within _)
      exact .ite (fun _ => hd.trans (delay.syncComplete_within _ _)) fun _ => hd
    · exact s.ptpDrop_within
  case h_4 =>
    split
    · exact .ite (fun _ => s.ptpDrop_within) fun _ => .ite (fun _ => h.time _) fun _ => (h.time _).trans (State.setPathDelay_within _ _)
    · exact s.ptpDrop_within
  case h_5 =>
    split
    · exact .ite (fun _ => (h.time _).trans (State.setPathDelay_within _ _)) fun _ => s.ptpDrop_within
    · exact s.ptpDrop_within
  case h_6 => exact h.emit _
  case h_7 =>
    extract_lets +onlyGivenNames tx
    exact .ite (fun _ => h.emit _) fun _ => (h.emit _).emit _
  case h_8 =>
    refine .ite (fun _ => s.ptpDrop_within) fun _ => ?_
    exact (h.time _).trans (State.ptpElect_within _)
  case h_9 => exact s.ptpDrop_within

theorem State.ptpAnnounce_within (s : State) : s.Within s.ptpAnnounce [.time] [] := by
  unfold State.ptpAnnounce
  exact .ite (fun _ => .refl s _ _) fun _ => ((State.Within.refl s _ _).time _).emit _

theorem State.ptpSyncTx_within (s : State) (stamp : Nat) : s.Within (s.ptpSyncTx stamp) [.time] [] := by
  unfold State.ptpSyncTx
  refine .ite (fun _ => .refl s _ _) fun _ => ?_
  extract_lets +onlyGivenNames q tx now announced
  have h : s.Within announced [.time] [] := ((State.Within.refl s _ _).time _).trans (State.ptpAnnounce_within _)
  exact .ite (fun _ => h.emit _) fun _ => (h.emit _).emit _

theorem State.delayReqTx_within (s : State) (stamp : Nat) : s.Within (s.delayReqTx stamp) [.time] [] := by
  unfold State.delayReqTx
  exact .ite (fun _ => .refl s _ _) fun _ => ((State.Within.refl s _ _).time _).emit _

theorem State.announceLost_within (s : State) : s.Within s.announceLost [.time, .err] [0x08, 0x68] := by
  unfold State.announceLost
  refine .ite (fun _ => .refl s _ _) fun _ => ?_
  extract_lets +onlyGivenNames lost fresh elected
  have h : s.Within elected [.time, .err] [0x08, 0x68] :=
    ((State.Within.refl s _ _).time _).andThen (State.ptpElect_within _) (by decide) (by decide)
  exact .ite (fun _ => h.trans elected.loseSource_within) fun _ => h

theorem State.syncLost_within (s : State) : s.Within s.syncLost [.time, .err] [0x08, 0x68] := .ite (fun _ => .refl s _ _) fun _ => s.loseSource_within

theorem State.ptpSwitch_within (s : State) : s.Within s.ptpSwitch [.time] [0x08] := by
  unfold State.ptpSwitch
  exact .ite (fun _ => .refl s _ _) fun _ => (((State.Within.refl s _ _).put _ _).mark _ _).time _

theorem State.timeCfgChanged_within (s : State) : s.Within s.timeCfgChanged [.time, .err] [0x08, 0x68] := by
  unfold State.timeCfgChanged
  extract_lets +onlyGivenNames port now afresh
  have h : s.Within afresh [.time, .err] [0x08, 0x68] := (State.Within.refl s _ _).time _
  exact .ite (fun _ => h.trans afresh.loseSource_within) fun _ => h

/-! ## Ridge markers (R213 to R216) -/

theorem State.markerSend_within (s : State) : s.Within s.markerSend [.time] [] := by
  unfold State.markerSend
  refine .ite (fun _ => .refl s _ _) fun _ => ?_
  exact (((State.Within.refl s _ _).time _).andThen (State.emitRidge_within _ _ _ _) (by decide) (by decide)).andThen
    (State.emitRidge_within _ _ _ _) (by decide) (by decide)

theorem State.markerRx_within (s : State) (cw : Bool) (m : Marker) (residence : Nat) : s.Within (s.markerRx cw m residence) [.time] [0x08] := by
  unfold State.markerRx
  refine .ite (fun _ => .refl s _ _) fun _ => ?_
  extract_lets +onlyGivenNames sent t heard
  have hheard : s.Within heard [.time] [0x08] := ((s.emitRidge_within _ _ _).mono (by decide) (by decide)).time _
  refine .ite (fun _ => hheard) fun _ => ?_
  extract_lets +onlyGivenNames theta change lim steered now used
  have hsteered : s.Within steered [.time] [0x08] := .ite (fun _ => hheard) fun _ => hheard.putI _ _
  exact (hsteered.time _).trans (State.measurement_within _ _ _ _ _ _ _)

theorem State.markerTurn_within (s : State) : s.Within s.markerTurn [.time] [] := by
  unfold State.markerTurn
  exact .ite (fun _ => .refl s _ _) fun _ => (State.Within.refl s _ _).time _

theorem State.markerLoss_within (s : State) : s.Within s.markerLoss [.time, .err] [0x08, 0x68] := by
  unfold State.markerLoss
  exact .ite (fun _ => .refl s _ _) fun _ => s.loseSource_within.time _

theorem State.splitCheck_within (s : State) : s.Within s.splitCheck [.err] [0x48, 0x68] := by
  unfold State.splitCheck
  refine .ite (fun _ => .refl s _ _) fun _ => ?_
  exact ((State.Within.refl s _ _).put _ _).andThen (State.raise_low_within _ 3 _ _ _ (by decide) (by decide)) (by decide) (by decide)

/-- A marker that is this device's to act on goes to its row as it stands: its type is none that goes on unchanged. -/
theorem State.ridgeIn_marker (s : State) (m : RidgeMsg) (f : State → State) (h : s.takes 0x04 m = true) : s.ridgeIn 0x04 m f = f s := by
  unfold State.takes at h
  simp only [Bool.and_eq_true, Bool.or_eq_true, beq_iff_eq] at h
  obtain ⟨⟨⟨reaches, here⟩, intact⟩, type⟩ := h
  obtain ⟨r, hr⟩ := Option.isSome_iff_exists.mp reaches
  have known : (ridgePriority 0x04).isNone = false := by decide
  have marker : m.type = 0x04 := BitVec.eq_of_toNat_eq type
  have passed : s.passCopy m r = s := by simp [State.passCopy, marker]
  have mine : ¬(m.dst ≠ 0xFF ∧ m.dst.toNat ≠ s.get F.RIDGE_NODE_INDEX) := fun ⟨all, one⟩ => here.elim all one
  unfold State.ridgeIn
  simp only [hr, passed, if_neg mine, intact, type, known, Bool.not_true, Bool.false_eq_true, if_false, ne_eq, not_true_eq_false]

/-! ## TRIG outputs and capture inputs (R222 to R231) -/

theorem trigStat_unit (k : Nat) (hk : k < 24) : inUnits [0x08] (wordAddr 0x08 (0x107 + 8 * k)) = true :=
  tableWord_unit 0x08 0x107 24 k 8 hk (by decide)

theorem State.trigPin_within (s : State) (k : Nat) (b : Bool) : s.Within (s.trigPin k b) [.time] [] := by
  unfold State.trigPin
  extract_lets +onlyGivenNames old set
  have h : s.Within set [.time] [] := (State.Within.refl s _ _).time _
  exact .ite (fun _ => h.emit _) fun _ => h

theorem State.setTrig_within (s : State) (k : Nat) (x : Trig) : s.Within (s.setTrig k x) [.time] [] := (State.Within.refl s _ _).time _

theorem State.trigRise_within (s : State) (k : Nat) (hk : k < 24) : s.Within (s.trigRise k) [.time, .err] [0x08, 0x68] := by
  have unit : inUnits [0x08, 0x68] (wordAddr 0x08 (0x107 + 8 * k)) = true := inUnits_mono (by decide) (trigStat_unit k hk)
  have next : ∀ t n, s.Within t [.time, .err] [0x08, 0x68] → s.Within (t.trigGoTo k n) [.time, .err] [0x08, 0x68] :=
    fun t n h => h.andThen (t.trigGoTo_within k n hk) (by decide) (by decide)
  unfold State.trigRise
  refine .ite (fun _ => .refl s _ _) fun _ => .ite (fun _ => ?_) fun _ => ?_
  · have h : s.Within (s.trigSkip k 0).1 [.time, .err] [0x08, 0x68] := (s.trigSkip_within k 0 hk).mono (by decide) (by decide)
    generalize s.trigSkip k 0 = skip at h ⊢
    obtain ⟨t, n⟩ := skip
    dsimp only at h ⊢
    have hr : s.Within (if 0 < t.trigAhead k (t.trig k).pulse t.ns ∨ (!(t.trig k).active) = true then (t, n)
        else ((t.trigGoTo k ((t.trig k).pulse + 1)).count (F.TIME_TRIG_STAT_SKIPPED k), n + 1)).1 [.time, .err] [0x08, 0x68] := by
      rw [apply_ite Prod.fst]
      exact .ite (fun _ => h) fun _ => (next _ _ h).count _ 1 unit
    revert hr
    generalize (if 0 < t.trigAhead k (t.trig k).pulse t.ns ∨ (!(t.trig k).active) = true then (t, n)
        else ((t.trigGoTo k ((t.trig k).pulse + 1)).count (F.TIME_TRIG_STAT_SKIPPED k), n + 1)) = past
    intro hu
    obtain ⟨u, n'⟩ := past
    dsimp only at hu ⊢
    refine .ite (fun _ => hu) fun _ => ?_
    have marked : s.Within (u.mark (F.TIME_TRIG_STAT_SKIP k)) [.time, .err] [0x08, 0x68] := hu.mark _ 1 unit
    exact .ite (fun _ => marked) fun _ => (marked.andThen (State.setTrig_within _ k _) (by decide) (by decide)).andThen
      (State.raise_low_within _ 1 _ _ _ (by decide) (by decide)) (by decide) (by decide)
  · extract_lets +onlyGivenNames swept x ahead set
    have hswept : s.Within swept [.time, .err] [0x08, 0x68] := (s.trigSweep_within k hk)
    have hset : s.Within set [.time, .err] [0x08, 0x68] := hswept.andThen (swept.setTrig_within k _) (by decide) (by decide)
    refine .ite (fun _ => hswept) fun _ => .ite (fun _ => next _ _ hswept) fun _ => ?_
    exact (next _ _ hset).andThen (State.trigPin_within _ k true) (by decide) (by decide)

theorem State.trigFall_within (s : State) (k : Nat) : s.Within (s.trigFall k) [.time] [] := .ite (fun _ => s.trigLow_within k) fun _ => .refl s _ _

theorem State.setCap_within (s : State) (k : Nat) (x : CapFifo) (hk : k < 8) : s.Within (s.setCap k x) [.time] [0x08] := by
  unfold State.setCap
  exact ((State.Within.refl s _ _).time _).put _ _ (tableWord_unit 0x08 0x201 8 k 2 hk (by decide))

theorem State.capEdge_within (s : State) (k : Nat) (rising : Bool) (hk : k < 8) : s.Within (s.capEdge k rising) [.time, .err] [0x08, 0x68] := by
  unfold State.capEdge
  extract_lets +onlyGivenNames e x counted
  have hcounted : s.Within counted [.time, .err] [0x08, 0x68] :=
    (State.Within.refl s _ _).count _ _ (inUnits_mono (by decide) (tableWord_unit 0x08 0x201 8 k 2 hk (by decide)))
  refine .ite (fun _ => .refl s _ _) fun _ => .ite (fun _ => .ite (fun _ => hcounted) fun _ => ?_) fun _ =>
    (s.setCap_within k _ hk).mono (by decide) (by decide)
  exact (hcounted.andThen (counted.setCap_within k _ hk) (by decide) (by decide)).andThen
    (State.raise_low_within _ 1 _ _ _ (by decide) (by decide)) (by decide) (by decide)

theorem State.ridgeDelay_within (s : State) (k : Nat) (delay : Half) (hk : k < 4) : s.Within (s.ridgeDelay k delay) [] [0x48] := by
  unfold State.ridgeDelay
  exact .ite (fun _ => (State.Within.refl s _ _).put _ _ (inUnits_wordAddr _ _ _ (by omega))) fun _ => .refl s _ _

end Sys2Proof.Machine
end

section
/-!
PROOFS that the commands of the time base, of TRIG outputs and of capture inputs leave the rest alone (R193 to R231).
-/
set_option Elab.async false -- one proof after the other: checking the whole text at once takes more memory than the check allows
namespace Sys2Proof.Machine

/-! ## Commands that come with no instant of their own, and packets that are answered at once -/

theorem State.begin_within (s : State) (ps : List Part) (us : List Nat) : s.Within s.begin ps us :=
  (State.Within.refl s _ _).update rfl rfl fun p _ => by cases p <;> simp [State.begin, Part.same, Part.sameHost, Part.sameFrame]

/-- A command without an instant of its own, on a device out of reset, whose body does not bring it into HALT, ends with what the body leaves. -/
theorem State.runs_now {s : State} {i : Instr} {P : State → Prop} (f : State → State) (hx : exec i s = .next (s.row f)) (up : s.inReset = false)
    (dev : (f s.begin).dev = s.dev) (hP : ∀ u, s.Ends (f s.begin) u → P u) : Runs i s P := by
  have ends := s.row_ends f up
  rw [haltEdge_of_not_entered s.begin _ fun h => dev.symm.trans h] at ends
  exact ⟨_, hx, hP _ ends⟩

theorem State.only_now {s : State} {i : Instr} {ps : List Part} {us : List Nat} (f : State → State) (hx : exec i s = .next (s.row f))
    (up : s.inReset = false) (w : s.begin.Within (f s.begin) ps us) (hu : inUnits us F.SYS_DEV_STATE_STATE.addr = false := by decide) :
    Runs i s (fun u => s.Only u ps (inUnits us)) :=
  s.runs_now f hx up (w.dev hu) fun _ ends => ends.only ((s.begin_within ps us).trans w) rfl

/-- The packet that is served stands in flight, as CMD's part alone shows. -/
theorem State.entered_within (s : State) (op : Byte) (p : Pkt) : s.Within (s.begin.entered op p) [.cmd] [] := (s.begin_within _ _).cmd _

/-- A verdict that answers its packet at once, without results or with a status of its own. -/
inductive Verdict.Answers : Verdict → Prop
  | done : (Verdict.done []).Answers
  | bad (status : Byte) (detail : Nat) : (Verdict.bad status detail).Answers

/-- A served packet whose opcode answers at once changes what the opcode changes, CMD and the host interface. -/
theorem State.Serves.only_answers {s b : State} {p : Pkt} {op : Byte} {v : Verdict} {i : Instr} {ps : List Part} {us : List Nat}
    (hs : s.Serves p.path p.tag) (hx : exec i s = .next (s.row (fun s => s.takePkt op p))) (h0 : op ≠ 0)
    (run : runOp op.toNat (s.begin.begun op p) (s.begin.entered op p) = (b, v)) (answers : v.Answers)
    (w : (s.begin.entered op p).Within b ps us) (hc : .cmd ∉ ps := by decide) (hu : inUnits us F.SYS_DEV_STATE_STATE.addr = false := by decide) :
    Runs i s (fun u => s.Only u (.cmd :: .host :: ps) (inUnits (0x01 :: us))) := by
  have waits : b.cmd.inflight = [s.begin.begun op p] := congrArg CmdSt.inflight (w.cmd_eq hc)
  obtain ⟨st, d, body⟩ : ∃ st d, s.begin.takePkt op p = b.answer (s.begin.begun op p) st d [] := by
    cases answers with
    | done => exact ⟨0, 0, State.takePkt_done _ b op p [] hs.begin h0 run waits⟩
    | bad st d => exact ⟨st, d, State.takePkt_bad _ b op p st d hs.begin run waits⟩
  have answered := b.answer_within (s.begin.begun op p) st d [] hs.host rfl
  refine s.runs_now (fun s => s.takePkt op p) hx hs.up ?_ fun u ends => ?_
  · rw [body]
    exact answered.dev.trans (w.dev hu)
  · rw [body] at ends
    have entered := (s.entered_within op p).mono (List.cons_subset_cons .cmd (List.nil_subset (.host :: ps))) (List.nil_subset (0x01 :: us))
    exact ends.only ((entered.andThen w (fun _ h => .tail _ (.tail _ h)) fun _ h => .tail _ h).andThen answered (by simp) (by simp)) rfl

/-- TIME_VERDICT answers at once, and touches TIME, its words and the records. -/
theorem opTimeVerdict_answers (p : InFlight) (s : State) :
    (opTimeVerdict p s).2.Answers ∧ s.Within (opTimeVerdict p s).1 [.time, .err] [0x08, 0x68] := by
  have bad : ∀ st d, (Verdict.bad st d).Answers ∧ s.Within s [.time, .err] [0x08, 0x68] := fun st d => ⟨.bad st d, .refl s _ _⟩
  unfold opTimeVerdict
  extract_lets +onlyGivenNames v
  split; exact bad _ _
  split; exact bad _ _
  split; exact bad _ _
  split; exact bad _ _
  split
  · exact ⟨.done, .ite (fun _ => s.enterTime_within 2 4) fun _ => .refl s _ _⟩
  · exact ⟨.done, (((s.setRate_within _ _).mono (by decide) (by decide)).put _ _).time _⟩

/-- Settles O45: each body keeps to the parts and units of its clause, and none of them brings the device into HALT. -/
theorem frameOfTime : Obligations.FrameOfTime := by
  unfold Obligations.FrameOfTime
  simp only [List.forall_mem_cons, List.not_mem_nil, false_imp_iff, implies_true, and_true]
  refine ⟨fun s a t stamp port m n ha => ⟨?_, ?_, ?_, ?_, ?_, ?_, ?_⟩, fun s a m k residence ha mine => ?_,
    fun s a t n e rising ha => ⟨?_, ?_, ?_, ?_⟩, fun s a t ha => ?_, fun s up => ⟨?_, ?_, ?_, ?_⟩, fun s p hs => ?_, fun s a t link delay ha => ?_⟩
  · have w := a.ptpMessage_within port m stamp
    exact ha.only (fun s => s.ptpMessage port m stamp) rfl w w.dev
  · have w := a.ptpSyncTx_within stamp
    exact ha.only (fun s => s.ptpSyncTx stamp) rfl (w.mono (by decide) (by decide)) w.dev
  · have w := a.delayReqTx_within stamp
    exact ha.only (fun s => s.delayReqTx stamp) rfl (w.mono (by decide) (by decide)) w.dev
  · exact ha.only State.ptpSwitch rfl a.ptpSwitch_within a.ptpSwitch_within.dev
  · exact ha.only State.markerSend rfl (a.markerSend_within.mono (by decide) (by decide)) a.markerSend_within.dev
  · exact ha.only State.markerTurn rfl (a.markerTurn_within.mono (by decide) (by decide)) a.markerTurn_within.dev
  · have w := a.trigFall_within n
    exact ha.only (fun s => s.trigFall n) rfl (w.mono (by decide) (by decide)) w.dev
  · have w := a.markerRx_within m.cw k residence
    rw [← a.ridgeIn_marker m (fun s => s.markerRx m.cw k residence) mine] at w
    exact ha.only (fun s => s.ridgeIn 0x04 m (fun s => s.markerRx m.cw k residence)) rfl w w.dev
  · exact ha.only State.announceLost rfl (a.announceLost_within.mono (by decide) (by decide)) a.announceLost_within.dev
  · exact ha.only State.syncLost rfl (a.syncLost_within.mono (by decide) (by decide)) a.syncLost_within.dev
  · have w := a.trigRise_within n n.isLt
    exact ha.only (fun s => s.trigRise n) rfl (w.mono (by decide) (by decide)) w.dev
  · have w := a.capEdge_within e rising e.isLt
    exact ha.only (fun s => s.capEdge e rising) rfl (w.mono (by decide) (by decide)) w.dev
  · have w : a.Within a.markerLoss.splitCheck [.time, .err, .sys, .seq] [0x08, 0x48, 0x68] :=
      (a.markerLoss_within.mono (by decide) (by decide)).andThen (State.splitCheck_within _) (by decide) (by decide)
    exact ha.only (fun s => s.markerLoss.splitCheck) rfl w w.dev
  · exact s.only_now State.ptpMeasurement rfl up (s.begin.ptpMeasurement_within.mono (by decide) (by decide))
  · exact s.only_now State.refuseJump rfl up (s.begin.refuseJump_within.mono (by decide) (by decide))
  · exact s.only_now State.leaveHoldover rfl up (s.begin.leaveHoldover_within.mono (by decide) (by decide))
  · exact s.only_now State.misalign rfl up (s.begin.misalign_within.mono (by decide) (by decide))
  · obtain ⟨answers, w⟩ := opTimeVerdict_answers (s.begin.begun 0x22 p) (s.begin.entered 0x22 p)
    have w' := w.mono (qs := [.time, .err, .sys, .seq]) (by decide) (List.Subset.refl _)
    exact hs.only_answers rfl (by decide) rfl answers w'
  · have w := a.ridgeDelay_within link delay link.isLt
    exact ha.only (fun s => s.ridgeDelay link delay) rfl w w.dev

end Sys2Proof.Machine
end

section
/-!
PROOFS about what the operations of the time base leave to be read (R199 to R216): signed fields, transitions, measurements, and the loss of a
source.
-/
set_option Elab.async false -- one proof after the other: checking the whole text at once takes more memory than the check allows
namespace Sys2Proof.Machine

/-! ## Signed fields -/

theorem signedOf_mod (w v : Nat) : signedOf w (v % 2 ^ w) = signedOf w v := by
  unfold signedOf
  rw [Nat.mod_mod]

/-- A number in the range of `w` bits is read back from its field. -/
theorem signedOf_fieldOf (w : Nat) (x : Int) (hw : 0 < w) (lo : -(2 ^ (w - 1) : Nat) ≤ x) (hi : x < (2 ^ (w - 1) : Nat)) :
    signedOf w (fieldOf w x) = x := by
  obtain ⟨n, rfl⟩ : ∃ n, w = n + 1 := ⟨w - 1, by omega⟩
  rw [Nat.add_sub_cancel] at lo hi
  unfold signedOf fieldOf
  have double : (2 ^ (n + 1) : Nat) = 2 * 2 ^ n := by rw [pow_succ, mul_comm]
  rw [Nat.add_sub_cancel, double]
  generalize 2 ^ n = half at *
  have field : x % ((2 * half : Nat) : Int) = if 0 ≤ x then x else x + 2 * half := by
    split
    · exact Int.emod_eq_of_lt ‹_› (by omega)
    · rw [← Int.add_emod_right, Int.emod_eq_of_lt (by omega) (by omega)]
      omega
  rw [field]
  have below : ∀ y : Int, 0 ≤ y → y < 2 * half → y.toNat % (2 * half) = y.toNat := fun y _ _ => Nat.mod_eq_of_lt (by omega)
  split
  · rw [below x ‹_› (by omega), if_pos (by omega)]
    omega
  · rw [below _ (by omega) (by omega), if_neg (by omega)]
    omega

/-- A signed field lies in its range. -/
theorem signedOf_range (w v : Nat) (hw : 0 < w) : -(2 ^ (w - 1) : Nat) ≤ signedOf w v ∧ signedOf w v ≤ ((2 ^ (w - 1) : Nat) : Int) - 1 := by
  obtain ⟨n, rfl⟩ : ∃ n, w = n + 1 := ⟨w - 1, by omega⟩
  unfold signedOf
  have double : (2 ^ (n + 1) : Nat) = 2 * 2 ^ n := by rw [pow_succ, mul_comm]
  have lt := Nat.mod_lt v (Nat.two_pow_pos (n + 1))
  rw [Nat.add_sub_cancel, double] at *
  generalize v % (2 * 2 ^ n) = field at *
  split <;> omega

theorem clampI_range {lo hi : Int} (x : Int) (h : lo ≤ hi) : lo ≤ clampI lo hi x ∧ clampI lo hi x ≤ hi := by
  unfold clampI
  split
  · omega
  · split <;> omega

theorem clampI_eq {lo hi x : Int} (h : lo ≤ x) (h' : x ≤ hi) : clampI lo hi x = x := by
  unfold clampI
  rw [if_neg (by omega), if_neg (by omega)]

theorem State.getI_putI (s : State) (f : Fld) (x : Int) (hf : f.lo + f.width ≤ 32) (hw : 0 < f.width) (lo : -(2 ^ (f.width - 1) : Nat) ≤ x)
    (hi : x < (2 ^ (f.width - 1) : Nat)) : (s.putI f x).getI f = x := by
  rw [State.getI, State.putI, State.get_put_same _ _ _ hf, signedOf_mod, signedOf_fieldOf _ _ hw lo hi]

theorem State.getI_putSat (s : State) (f : Fld) (x : Int) (hf : f.lo + f.width ≤ 32) (hw : 0 < f.width) :
    (s.putSat f x).getI f = clampI (-(2 ^ (f.width - 1) : Nat)) ((2 ^ (f.width - 1) : Nat) - 1) x := by
  have positive := Nat.two_pow_pos (f.width - 1)
  obtain ⟨lo, hi⟩ := clampI_range (lo := -(2 ^ (f.width - 1) : Nat)) (hi := (2 ^ (f.width - 1) : Nat) - 1) x (by omega)
  exact s.getI_putI f _ hf hw lo (by omega)

/-! ## Fields that an operation does not write -/

/-- The field shares no bit with any of these. -/
abbrev Fld.Apart (g : Fld) (fs : List Fld) : Prop := ∀ f ∈ fs, g.addr ≠ f.addr ∨ g.lo + g.width ≤ f.lo ∨ f.lo + f.width ≤ g.lo

theorem State.Raised.congr {s t : State} {cls d : Nat} {x : Subject} (h : s.Raised cls d x) (e : t.err = s.err) : t.Raised cls d x := by
  unfold State.Raised
  rwa [e]

theorem State.coast_get (s : State) (g : Fld) (h : g.addr ≠ F.TIME_RATE_ADJ.addr := by decide) : s.coast.get g = s.get g :=
  (State.get_put_other_word _ _ _ _ h).trans (State.get_put_other_word _ _ _ _ h)

theorem State.servo_get (s : State) (theta : Int) (en ed alpha beta : Nat) (g : Fld) (h : g.addr ≠ F.TIME_RATE_ADJ.addr := by decide)
    (h' : g.addr ≠ F.TIME_RATE_I.addr := by decide) : (s.servo theta en ed alpha beta).get g = s.get g :=
  ((State.get_put_other_word _ _ _ _ h).trans (State.get_put_other_word _ _ _ _ h)).trans (State.get_put_other_word _ _ _ _ h')

/-! ## TIME replaced -/

/-- The state with another TIME part. -/
def State.setTime (s : State) (x : TimeSt) : State := { s with time := x }

theorem State.get_setTime (s : State) (x : TimeSt) (g : Fld) : (s.setTime x).get g = s.get g := rfl
theorem State.setTime_time (s : State) (x : TimeSt) : (s.setTime x).time = x := rfl
theorem State.setTime_out (s : State) (x : TimeSt) : (s.setTime x).out = s.out := rfl
theorem State.setTime_err (s : State) (x : TimeSt) : (s.setTime x).err = s.err := rfl
theorem State.put_time (s : State) (f : Fld) (v : Nat) : (s.put f v).time = s.time := rfl
theorem State.put_out (s : State) (f : Fld) (v : Nat) : (s.put f v).out = s.out := rfl
theorem State.put_err (s : State) (f : Fld) (v : Nat) : (s.put f v).err = s.err := rfl

/-! ## Transitions of the time base (R199) -/

/-- What a transition to `st` notes before the new state is shown: the time spent in HOLDOVER, or where it began. -/
def State.timeNoted (s : State) (st : Nat) : State :=
  let t := if s.get F.TIME_STATE = 2 ∧ st ≠ 2 then s.put F.TIME_HOLDOVER_MS s.holdoverMs else s
  if st = 2 ∧ s.get F.TIME_STATE ≠ 2 then
    { t with time := { t.time with holdSince := t.time.clk, holdRate := t.getI F.TIME_RATE_I, goodRun := 0 } }
  else t

/-- The state and its cause shown. -/
def State.timeShown (s : State) (st cause : Nat) : State := ((s.timeNoted st).put F.TIME_STATE st).put F.TIME_STATE_HOLD_CAUSE cause

/-- A transition is shown, with its event. -/
theorem State.enterTime_eq (s : State) (st cause : Nat) : s.enterTime st cause =
    if st = 2 ∧ cause = 2 then (s.timeShown st cause).warn ⟨1, 0x08⟩ 0x0821
    else if st = 2 ∧ cause = 3 then (s.timeShown st cause).warn ⟨1, 0x08⟩ 0x0820 [(s.timeShown st cause).getI F.TIME_OFFSET]
    else (s.timeShown st cause).info ⟨1, 0x08⟩ (0x0800 + st) [cause] := rfl

/-- Whatever its event, a transition raises one record that triggers nothing. -/
theorem State.enterTime_raises (s : State) (st cause : Nat) :
    ∃ cls d args, cls ≠ 4 ∧ cls ≠ 5 ∧ s.enterTime st cause = (s.timeShown st cause).raise cls false ⟨1, 0x08⟩ d args := by
  rw [s.enterTime_eq]
  split
  · exact ⟨1, _, _, by decide, by decide, rfl⟩
  · split
    · exact ⟨1, _, _, by decide, by decide, rfl⟩
    · exact ⟨0, _, _, by decide, by decide, rfl⟩

theorem State.enterTime_get_shown (s : State) (st cause : Nat) (g : Fld) (h : inUnits [0x68] g.addr = false := by decide) :
    (s.enterTime st cause).get g = (s.timeShown st cause).get g := by
  obtain ⟨cls, d, args, h4, h5, e⟩ := s.enterTime_raises st cause
  rw [e]
  exact (State.raise_low_within _ cls _ d args h4 h5).get g h

theorem State.enterTime_get (s : State) (st cause : Nat) (g : Fld)
    (apart : g.Apart [F.TIME_STATE, F.TIME_STATE_HOLD_CAUSE, F.TIME_HOLDOVER_MS] := by decide) (h : inUnits [0x68] g.addr = false := by decide) :
    (s.enterTime st cause).get g = s.get g := by
  have state := apart F.TIME_STATE (by simp)
  have hold := apart F.TIME_STATE_HOLD_CAUSE (by simp)
  have ms := apart F.TIME_HOLDOVER_MS (by simp)
  have noted : (s.timeNoted st).get g = s.get g := by
    unfold State.timeNoted
    extract_lets t
    have ht : t.get g = s.get g := by
      unfold t
      split
      · exact State.get_put_apart _ _ _ _ (by decide) ms
      · rfl
    split <;> exact ht
  rw [s.enterTime_get_shown st cause g h]
  exact (State.get_put_apart _ _ _ _ (by decide) hold).trans ((State.get_put_apart _ _ _ _ (by decide) state).trans noted)

theorem State.enterTime_state (s : State) (st cause : Nat) (h : st < 4) : (s.enterTime st cause).get F.TIME_STATE = st := by
  rw [s.enterTime_get_shown st cause _]
  exact (State.get_put_apart _ _ _ _ (by decide) (by decide)).trans ((State.get_put_same _ _ _ (by decide)).trans (Nat.mod_eq_of_lt h))

theorem State.enterTime_cause (s : State) (st cause : Nat) (h : cause < 8) : (s.enterTime st cause).get F.TIME_STATE_HOLD_CAUSE = cause := by
  rw [s.enterTime_get_shown st cause _]
  exact (State.get_put_same _ _ _ (by decide)).trans (Nat.mod_eq_of_lt h)

/-- HOLDOVER entered from another state notes the clock and the integral term, and starts to count good measurements. -/
theorem State.enterTime_time_holdover (s : State) (cause : Nat) (h : s.get F.TIME_STATE ≠ 2) : (s.enterTime 2 cause).time
    = { s.time with holdSince := s.time.clk, holdRate := s.getI F.TIME_RATE_I, goodRun := 0 } := by
  obtain ⟨cls, d, args, h4, h5, e⟩ := s.enterTime_raises 2 cause
  rw [e, (State.raise_low_within _ cls _ d args h4 h5).time_eq]
  simp [State.timeShown, State.timeNoted, h]

theorem State.enterTime_lost_raised (s : State) : (s.enterTime 2 2).Raised 1 0x0821 ⟨1, 0x08⟩ := by
  rw [s.enterTime_eq, if_pos ⟨rfl, rfl⟩]
  exact State.raise_low_raised _ 1 _ _ _ (by decide) (by decide)

theorem State.enterTime_refused_raised (s : State) : (s.enterTime 2 3).Raised 1 0x0820 ⟨1, 0x08⟩ := by
  rw [s.enterTime_eq, if_neg (by decide), if_pos ⟨rfl, rfl⟩]
  exact State.raise_low_raised _ 1 _ _ _ (by decide) (by decide)

/-! ## The source is lost (R205, R213) -/

/-- What a device that was LOCKED shows once its source is lost. -/
structure State.SourceLost (s t : State) : Prop where
  state : t.get F.TIME_STATE = 2
  cause : t.get F.TIME_STATE_HOLD_CAUSE = 2
  master : t.get F.TIME_STATE_MASTER = 0
  raised : t.Raised 1 0x0821 ⟨1, 0x08⟩
  time : t.time = { s.time with holdSince := s.time.clk, holdRate := s.getI F.TIME_RATE_I, goodRun := 0, sourcePresent := false }
  other : ∀ g : Fld, g.addr ∉ [F.TIME_STATE.addr, F.TIME_HOLDOVER_MS.addr, F.TIME_RATE_ADJ.addr] → inUnits [0x68] g.addr = false →
    t.get g = s.get g

theorem State.loseSource_eq (s : State) (h : s.get F.TIME_STATE = 1) : s.loseSource =
    ((s.enterTime 2 2).coast.setTime { (s.enterTime 2 2).coast.time with sourcePresent := false }).put F.TIME_STATE_MASTER 0 := if_pos h

theorem State.loseSource_locked (s : State) (h : s.get F.TIME_STATE = 1) : s.SourceLost s.loseSource := by
  have get : ∀ g : Fld, g.Apart [F.TIME_STATE_MASTER] → g.addr ≠ F.TIME_RATE_ADJ.addr → s.loseSource.get g = (s.enterTime 2 2).get g :=
    fun g apart adj => by
      rw [s.loseSource_eq h, State.get_put_apart _ _ _ _ (by decide) (apart _ (by simp)), State.get_setTime, State.coast_get _ g adj]
  refine ⟨?_, ?_, ?_, ?_, ?_, fun g apart err => ?_⟩
  · rw [get _ (by decide) (by decide), State.enterTime_state _ _ _ (by decide)]
  · rw [get _ (by decide) (by decide), State.enterTime_cause _ _ _ (by decide)]
  · rw [s.loseSource_eq h]
    exact State.get_put_same _ _ _ (by decide)
  · refine s.enterTime_lost_raised.congr ?_
    rw [s.loseSource_eq h, State.put_err, State.setTime_err]
    exact ((s.enterTime 2 2).coast_within.parts .err (by decide)).1
  · rw [s.loseSource_eq h, State.put_time, State.setTime_time, (s.enterTime 2 2).coast_within.time_eq, s.enterTime_time_holdover 2 (by omega)]
  · simp only [List.mem_cons, List.not_mem_nil, or_false, not_or] at apart
    obtain ⟨state, ms, adj⟩ := apart
    have word : ∀ fs : List Fld, (∀ f ∈ fs, g.addr ≠ f.addr) → g.Apart fs := fun fs other f hf => .inl (other f hf)
    rw [get g (word _ fun f hf => by rw [List.mem_singleton.mp hf]; exact state) adj,
      State.enterTime_get s 2 2 g (word _ (by simpa using ⟨state, state, ms⟩)) err]

/-! ## Measurements (R206, R207) -/

/-- A measurement is shown. -/
def State.offsetShown (s : State) (theta : Int) : State := (s.putSat F.TIME_OFFSET (nsOf theta)).setTime { s.time with offset := theta }

/-- It comes from the source in use. -/
def State.offsetTaken (s : State) (theta : Int) : State :=
  ((s.offsetShown theta).setTime { s.time with offset := theta, sourcePresent := true, ptpMeasureClk := s.time.clk }).put F.TIME_STATE_MASTER 1

/-- It is counted against the jump rule. -/
def State.offsetCounted (s : State) (theta : Int) : State :=
  (s.offsetTaken theta).put F.TIME_STATE_JUMP_SEEN
    (if (s.offsetShown theta).inThreshold theta then 0 else satN 15 ((s.offsetShown theta).get F.TIME_STATE_JUMP_SEEN + 1))

/-- A measurement that steers: the offsets of an UNSTEPPED device, the servo of a LOCKED one, the run of good ones in HOLDOVER. -/
theorem State.measurement_steers (s : State) (theta : Int) (en ed alpha beta : Nat) : s.measurement theta en ed alpha beta true =
    if (s.offsetShown theta).get F.TIME_STATE = 0 then
      (s.offsetTaken theta).setTime { (s.offsetTaken theta).time with firsts := (theta :: (s.offsetTaken theta).time.firsts).take 3 }
    else if (s.offsetShown theta).get F.TIME_STATE = 1 then
      (if (s.offsetShown theta).inThreshold theta then (s.offsetCounted theta).servo theta en ed alpha beta else s.offsetCounted theta)
    else (s.offsetCounted theta).setTime { (s.offsetCounted theta).time with
      goodRun := if (s.offsetShown theta).inThreshold theta && (s.offsetCounted theta).time.slewEnd.isNone then
        (s.offsetCounted theta).time.goodRun + 1 else 0 } := by
  unfold State.measurement
  exact if_neg (by decide)

theorem State.offsetShown_get (s : State) (theta : Int) (g : Fld) (h : g.addr ≠ F.TIME_OFFSET.addr := by decide) :
    (s.offsetShown theta).get g = s.get g := by
  rw [State.offsetShown, State.get_setTime, State.putSat, State.putI, State.get_put_other_word _ _ _ _ h]

theorem State.inThreshold_congr {s t : State} (h : t.get F.TIME_JUMP_THRESH = s.get F.TIME_JUMP_THRESH) (theta : Int) :
    t.inThreshold theta = s.inThreshold theta := by rw [State.inThreshold, State.inThreshold, h]

theorem State.offsetShown_inThreshold (s : State) (theta : Int) : (s.offsetShown theta).inThreshold theta = s.inThreshold theta :=
  State.inThreshold_congr (s.offsetShown_get theta _) theta

/-- In LOCKED a measurement that steers is counted, and given to the servo where it is within the threshold. -/
theorem State.measurement_locked (s : State) (theta : Int) (en ed alpha beta : Nat) (h : s.get F.TIME_STATE = 1) :
    s.measurement theta en ed alpha beta true =
      if s.inThreshold theta then (s.offsetCounted theta).servo theta en ed alpha beta else s.offsetCounted theta := by
  rw [s.measurement_steers, s.offsetShown_get theta F.TIME_STATE, h, if_neg (by decide), if_pos rfl, s.offsetShown_inThreshold]

theorem State.offsetTaken_time (s : State) (theta : Int) :
    (s.offsetTaken theta).time = { s.time with offset := theta, sourcePresent := true, ptpMeasureClk := s.time.clk } := by
  rw [State.offsetTaken, State.put_time, State.setTime_time]

theorem State.offsetCounted_time (s : State) (theta : Int) :
    (s.offsetCounted theta).time = { s.time with offset := theta, sourcePresent := true, ptpMeasureClk := s.time.clk } := by
  rw [State.offsetCounted, State.put_time, s.offsetTaken_time]

theorem State.offsetTaken_out (s : State) (theta : Int) : (s.offsetTaken theta).out = s.out := by
  rw [State.offsetTaken, State.put_out, State.setTime_out, State.offsetShown, State.setTime_out, State.putSat, State.putI, State.put_out]

theorem State.offsetCounted_out (s : State) (theta : Int) : (s.offsetCounted theta).out = s.out := by
  rw [State.offsetCounted, State.put_out, s.offsetTaken_out]

theorem State.offsetTaken_master (s : State) (theta : Int) : (s.offsetTaken theta).get F.TIME_STATE_MASTER = 1 := by
  rw [State.offsetTaken, State.get_put_same _ _ _ (by decide)]
  rfl

theorem State.offsetCounted_master (s : State) (theta : Int) : (s.offsetCounted theta).get F.TIME_STATE_MASTER = 1 := by
  rw [State.offsetCounted, State.get_put_apart _ _ _ _ (by decide) (by decide), s.offsetTaken_master]

/-- Beside OFFSET, MASTER and JUMP_SEEN no field changes. -/
theorem State.offsetCounted_get (s : State) (theta : Int) (g : Fld) (offset : g.addr ≠ F.TIME_OFFSET.addr := by decide)
    (apart : g.Apart [F.TIME_STATE_MASTER, F.TIME_STATE_JUMP_SEEN] := by decide) : (s.offsetCounted theta).get g = s.get g := by
  rw [State.offsetCounted, State.get_put_apart _ _ _ _ (by decide) (apart F.TIME_STATE_JUMP_SEEN (by simp)), State.offsetTaken,
    State.get_put_apart _ _ _ _ (by decide) (apart F.TIME_STATE_MASTER (by simp)), State.get_setTime, s.offsetShown_get theta g offset]

theorem State.offsetCounted_offset (s : State) (theta : Int) :
    (s.offsetCounted theta).getI F.TIME_OFFSET = clampI (-2147483648) 2147483647 (nsOf theta) := by
  have counted : (s.offsetCounted theta).get F.TIME_OFFSET = (s.putSat F.TIME_OFFSET (nsOf theta)).get F.TIME_OFFSET := by
    rw [State.offsetCounted, State.get_put_apart _ _ _ _ (by decide) (by decide), State.offsetTaken,
      State.get_put_apart _ _ _ _ (by decide) (by decide), State.get_setTime, State.offsetShown, State.get_setTime]
  rw [State.getI, counted, ← State.getI, s.getI_putSat F.TIME_OFFSET _ (by decide) (by decide)]
  rfl

theorem State.offsetCounted_seen (s : State) (theta : Int) : (s.offsetCounted theta).get F.TIME_STATE_JUMP_SEEN =
    if s.inThreshold theta then 0 else satN 15 (s.get F.TIME_STATE_JUMP_SEEN + 1) := by
  rw [State.offsetCounted, State.get_put_same _ _ _ (by decide), s.offsetShown_inThreshold, s.offsetShown_get theta F.TIME_STATE_JUMP_SEEN]
  refine Nat.mod_eq_of_lt ?_
  unfold satN
  show _ < 16
  split
  · decide
  · split <;> omega

/-- A measurement that steers is kept, and beside it TIME changes only by the offsets of an UNSTEPPED device and by the run of good ones. -/
theorem State.measurement_time (s : State) (theta : Int) (en ed alpha beta : Nat) :
    ∃ firsts run, (s.measurement theta en ed alpha beta true).time
      = { s.time with offset := theta, sourcePresent := true, ptpMeasureClk := s.time.clk, firsts := firsts, goodRun := run } := by
  rw [s.measurement_steers]
  split
  · exact ⟨_, s.time.goodRun, by rw [State.setTime_time, s.offsetTaken_time]⟩
  · split
    · split
      · exact ⟨s.time.firsts, s.time.goodRun, by rw [(State.servo_within _ _ _ _ _ _).time_eq, s.offsetCounted_time]⟩
      · exact ⟨s.time.firsts, s.time.goodRun, by rw [s.offsetCounted_time]⟩
    · exact ⟨s.time.firsts, _, by rw [State.setTime_time, s.offsetCounted_time]⟩

/-- A measurement that steers shows that the master is there. -/
theorem State.measurement_master (s : State) (theta : Int) (en ed alpha beta : Nat) :
    (s.measurement theta en ed alpha beta true).get F.TIME_STATE_MASTER = 1 := by
  rw [s.measurement_steers]
  split
  · rw [State.get_setTime, s.offsetTaken_master]
  · split
    · split
      · rw [State.servo_get _ _ _ _ _ _ F.TIME_STATE_MASTER, s.offsetCounted_master]
      · exact s.offsetCounted_master theta
    · rw [State.get_setTime, s.offsetCounted_master]

theorem State.servo_out (s : State) (theta : Int) (en ed alpha beta : Nat) : (s.servo theta en ed alpha beta).out = s.out := by
  unfold State.servo
  dsimp only
  rw [State.putI, State.put_out, State.setRate, State.putI, State.put_out, State.putI, State.put_out]

theorem State.measurement_out (s : State) (theta : Int) (en ed alpha beta : Nat) : (s.measurement theta en ed alpha beta true).out = s.out := by
  rw [s.measurement_steers]
  split
  · rw [State.setTime_out, s.offsetTaken_out]
  · split
    · split
      · rw [State.servo_out, s.offsetCounted_out]
      · exact s.offsetCounted_out theta
    · rw [State.setTime_out, s.offsetCounted_out]

end Sys2Proof.Machine
end

section
/-!
PROOFS about PTP and ridge markers (R200 to R216): what a message, a request, a Sync, an expired timeout and a marker leave.
-/
set_option Elab.async false -- one proof after the other: checking the whole text at once takes more memory than the check allows
namespace Sys2Proof.Machine

/-! ## The jump rule and the exit from HOLDOVER (R199, R207) -/

theorem State.getI_congr {s t : State} {f : Fld} (h : t.get f = s.get f) : t.getI f = s.getI f := by rw [State.getI, State.getI, h]

/-- A jump counted and noted, before HOLDOVER is entered. -/
def State.jumpNoted (s : State) : State :=
  ((s.mark F.TIME_STATE_JUMP_REFUSED).putSat F.TIME_REFUSED_OFFSET (s.getI F.TIME_OFFSET)).put F.TIME_STATE_JUMP_SEEN 0

theorem State.refuseJump_due (s : State) (h : s.jumpDue = true) : s.refuseJump = (s.jumpNoted.enterTime 2 3).coast := by
  unfold State.refuseJump
  exact if_neg (by simp [h])

theorem State.jumpNoted_refused (s : State) : s.jumpNoted.get F.TIME_STATE_JUMP_REFUSED = 1 := by
  rw [State.jumpNoted, State.get_put_apart _ _ _ _ (by decide) (by decide), State.putSat, State.putI, State.get_put_other_word _ _ _ _ (by decide),
    State.get_mark_same _ _ (by decide) rfl]

theorem State.jumpNoted_seen (s : State) : s.jumpNoted.get F.TIME_STATE_JUMP_SEEN = 0 := by
  rw [State.jumpNoted, State.get_put_same _ _ _ (by decide)]
  rfl

theorem State.jumpNoted_offset (s : State) : s.jumpNoted.getI F.TIME_REFUSED_OFFSET = s.getI F.TIME_OFFSET := by
  obtain ⟨lo, hi⟩ := signedOf_range 32 (s.get F.TIME_OFFSET) (by decide)
  have other : s.jumpNoted.getI F.TIME_REFUSED_OFFSET
      = ((s.mark F.TIME_STATE_JUMP_REFUSED).putSat F.TIME_REFUSED_OFFSET (s.getI F.TIME_OFFSET)).getI F.TIME_REFUSED_OFFSET :=
    State.getI_congr (State.get_put_other_word _ _ _ _ (by decide))
  rw [other, State.getI_putSat _ _ _ (by decide) (by decide)]
  exact clampI_eq lo hi

/-- HOLDOVER left, with its source shown, before the servo takes the last measurement. -/
def State.holdoverLeft (s : State) : State := (s.enterTime 1 0).put F.TIME_STATE_SOURCE (if s.isSummit then 1 else 2)

theorem State.leaveHoldover_due (s : State) (h : s.exitDue = true) :
    ∃ theta en ed alpha beta, s.leaveHoldover = s.holdoverLeft.servo theta en ed alpha beta := by
  have e : s.leaveHoldover = if s.holdoverLeft.isSummit then
      s.holdoverLeft.servo s.holdoverLeft.time.offset 16 (2 ^ (32 + (s.holdoverLeft.time.ptpLogSync + 4).toNat))
        (s.holdoverLeft.get F.TIME_SERVO_ALPHA_SHIFT) (s.holdoverLeft.get F.TIME_SERVO_BETA_SHIFT)
      else s.holdoverLeft.servo s.holdoverLeft.time.offset 10000 (2 ^ 32) 1 6 := by
    unfold State.leaveHoldover
    exact if_neg (by simp [h])
  rw [e]
  split
  · exact ⟨_, _, _, _, _, rfl⟩
  · exact ⟨_, _, _, _, _, rfl⟩

theorem State.holdoverLeft_state (s : State) : s.holdoverLeft.get F.TIME_STATE = 1 := by
  rw [State.holdoverLeft, State.get_put_apart _ _ _ _ (by decide) (by decide), State.enterTime_state _ _ _ (by decide)]

theorem State.holdoverLeft_cause (s : State) : s.holdoverLeft.get F.TIME_STATE_HOLD_CAUSE = 0 := by
  rw [State.holdoverLeft, State.get_put_apart _ _ _ _ (by decide) (by decide), State.enterTime_cause _ _ _ (by decide)]

theorem State.holdoverLeft_source (s : State) : s.holdoverLeft.get F.TIME_STATE_SOURCE = if s.isSummit then 1 else 2 := by
  rw [State.holdoverLeft, State.get_put_same _ _ _ (by decide)]
  cases s.isSummit <;> rfl

/-! ## PTP messages (R200 to R204) -/

/-- A message that is for the active port, of its domain, transport and role, acts by its kind. -/
structure State.Hears (s : State) (port : Bool) (m : PtpMsg) : Prop where
  up : s.ptpUp = true
  port : port = s.ptpPort
  domain : m.domain = s.get F.TIME_CFG_DOMAIN
  l2 : m.l2 = s.has F.TIME_CFG_L2
  role : s.ptpForeignTo m = false

theorem State.Hears.passes {s : State} {port : Bool} {m : PtpMsg} (h : s.Hears port m) :
    ¬((!s.ptpUp) = true)
      ∧ ¬((port != s.ptpPort || m.domain != s.get F.TIME_CFG_DOMAIN || m.l2 != s.has F.TIME_CFG_L2 || s.ptpForeignTo m) = true) := by
  obtain ⟨up, port, domain, l2, role⟩ := h
  simp [up, port, domain, l2, role]

/-- A one-step Sync of the master followed completes at once. -/
theorem State.ptpMessage_sync {s : State} {port : Bool} {m : PtpMsg} (stamp : Nat) (h : s.Hears port m) (kind : m.kind = 0)
    (lo : -4 ≤ m.logInterval) (hi : m.logInterval ≤ 1) (one : m.twoStep = false) : s.ptpMessage port m stamp =
      (s.setTime { s.time with ptpLogSync := m.logInterval, ptpMaster := true, ptpAsym := s.getI F.TIME_ASYM }).syncComplete
        (m.stamp + m.correction) (stamp + s.tsCorr 1) := by
  obtain ⟨up, mine⟩ := h.passes
  have interval : ¬(m.logInterval < -4 ∨ 1 < m.logInterval) := by omega
  unfold State.ptpMessage
  dsimp only
  rw [if_neg up, if_neg mine]
  simp only [kind]
  rw [if_neg interval, if_neg (by simp [one])]
  rfl

theorem State.syncComplete_measured (s : State) (t1 t2 d : Int) (h : s.time.ptpDelay = some d) : (s.syncComplete t1 t2).time.measured
    = some ((t2 - t1 - s.time.ptpAsym) * 65536 - d, 16, 2 ^ (32 + (s.time.ptpLogSync + 4).toNat)) := by
  simp [State.syncComplete, h]

theorem State.syncComplete_get (s : State) (t1 t2 : Int) (g : Fld) : (s.syncComplete t1 t2).get g = s.get g := by
  unfold State.syncComplete
  dsimp only
  split <;> rfl

/-- A message of another port or domain is dropped. -/
theorem State.ptpMessage_dropped {s : State} {port : Bool} {m : PtpMsg} (stamp : Nat) (up : s.ptpUp = true)
    (other : port ≠ s.ptpPort ∨ m.domain ≠ s.get F.TIME_CFG_DOMAIN) : s.ptpMessage port m stamp = s.ptpDrop := by
  have foreign : (port != s.ptpPort || m.domain != s.get F.TIME_CFG_DOMAIN || m.l2 != s.has F.TIME_CFG_L2 || s.ptpForeignTo m) = true := by
    rcases other with h | h <;> simp [h]
  unfold State.ptpMessage
  dsimp only
  rw [if_neg (by simp [up]), if_pos foreign]

/-- The one-step answer to the peer delay request in hand gives the path delay. -/
theorem State.ptpMessage_pdelayResp {s : State} {port : Bool} {m : PtpMsg} {t1 : Int} (stamp : Nat) (h : s.Hears port m) (kind : m.kind = 3)
    (req : s.time.ptpReq = some (m.seq, t1)) (one : m.twoStep = false) : s.ptpMessage port m stamp =
      (s.setTime { s.time with ptpReq := none }).setPathDelay (stamp + s.tsCorr 1 - t1 - m.correction) := by
  obtain ⟨up, mine⟩ := h.passes
  unfold State.ptpMessage
  dsimp only
  rw [if_neg up, if_neg mine]
  simp only [kind, req]
  rw [if_neg (by simp), if_neg (by simp [one])]
  rfl

theorem State.setPathDelay_time (s : State) (twice : Int) : (s.setPathDelay twice).time = { s.time with ptpDelay := some (twice * 32768) } := rfl

theorem State.setPathDelay_shown (s : State) (twice : Int) :
    (s.setPathDelay twice).get F.TIME_PATH_DELAY = fieldOf 32 (roundHalfEven (twice * 32768) (2 ^ 24)) := by
  have e : s.setPathDelay twice = (s.put F.TIME_PATH_DELAY (fieldOf 32 (roundHalfEven (twice * 32768) (2 ^ 24)))).setTime
      { s.time with ptpDelay := some (twice * 32768) } := rfl
  have small : fieldOf 32 (roundHalfEven (twice * 32768) (2 ^ 24)) < 2 ^ 32 := by
    unfold fieldOf
    have := Int.emod_lt_of_pos (roundHalfEven (twice * 32768) (2 ^ 24)) (b := ((2 ^ 32 : Nat) : Int)) (by decide)
    omega
  rw [e, State.get_setTime, State.get_put_same _ _ _ (by decide)]
  exact Nat.mod_eq_of_lt small

/-- As slave a summit hears the Sync of the master that it follows, and of any where it follows none. -/
theorem State.ptpForeignTo_sync {s : State} {m : PtpMsg} (kind : m.kind = 0) (summit : s.isSummit = true) (slave : s.time.ptpIsMaster = false)
    (parent : s.time.ptpParent = none ∨ s.time.ptpParent = some m.source) : s.ptpForeignTo m = false := by
  unfold State.ptpForeignTo
  rcases parent with h | h <;> simp [kind, summit, slave, h]

theorem State.ptpForeignTo_pdelayResp {s : State} {m : PtpMsg} (kind : m.kind = 3) (p2p : s.has F.TIME_CFG_P2P = true) :
    s.ptpForeignTo m = false := by
  simp [State.ptpForeignTo, kind, p2p]

/-! ## What PTP sends (R202) -/

theorem State.ptpAnnounce_regs (s : State) : s.ptpAnnounce.regs = s.regs := by
  unfold State.ptpAnnounce
  dsimp only
  split <;> rfl

theorem State.ptpAnnounce_syncSeq (s : State) : s.ptpAnnounce.time.ptpSyncSeq = s.time.ptpSyncSeq := by
  unfold State.ptpAnnounce
  dsimp only
  split <;> rfl

/-- The Sync counted, after the Announce that may go before it. -/
def State.syncAnnounced (s : State) : State := (s.setTime { s.time with ptpSyncSeq := (s.time.ptpSyncSeq + 1) % 65536 }).ptpAnnounce

theorem State.syncAnnounced_get (s : State) (g : Fld) : s.syncAnnounced.get g = s.get g := by
  rw [State.syncAnnounced, State.get_congr g (State.reg_congr (State.ptpAnnounce_regs _) _), State.get_setTime]

theorem State.syncAnnounced_seq (s : State) : s.syncAnnounced.time.ptpSyncSeq = (s.time.ptpSyncSeq + 1) % 65536 := by
  rw [State.syncAnnounced, State.ptpAnnounce_syncSeq, State.setTime_time]

/-- A master sends its Sync with the departure, or announces the departure in a Follow_Up. -/
theorem State.ptpSyncTx_master (s : State) (stamp : Nat) (master : s.time.ptpIsMaster = true) (up : s.ptpUp = true) : s.ptpSyncTx stamp =
    if s.has F.TIME_CFG_ONE_STEP then
      s.syncAnnounced.emit (.signal "PTP_SYNC" [s.time.ptpSyncSeq, s.get F.TIME_CFG_DOMAIN, stamp + s.tsCorr 0, s.ptpVia])
    else (s.syncAnnounced.emit (.signal "PTP_SYNC" [s.time.ptpSyncSeq, s.get F.TIME_CFG_DOMAIN, 0, s.ptpVia])).emit
      (.signal "PTP_FOLLOW_UP" [s.time.ptpSyncSeq, stamp + s.tsCorr 0, s.ptpVia]) := by
  have one : s.syncAnnounced.has F.TIME_CFG_ONE_STEP = s.has F.TIME_CFG_ONE_STEP := by rw [State.has, State.has, s.syncAnnounced_get]
  have via : s.syncAnnounced.ptpVia = s.ptpVia := by rw [State.ptpVia, State.ptpVia, s.syncAnnounced_get]
  rw [← one, ← via, ← s.syncAnnounced_get F.TIME_CFG_DOMAIN]
  unfold State.ptpSyncTx
  exact if_neg (by simp [master, up])

/-- The delay request counted, and kept with its departure. -/
def State.delayAsked (s : State) (stamp : Nat) : State :=
  s.setTime { s.time with ptpDelaySeq := (s.time.ptpDelaySeq + 1) % 65536, ptpReq := some (s.time.ptpDelaySeq, stamp + s.tsCorr 0), ptpPeer := none }

theorem State.delayAsked_get (s : State) (stamp : Nat) (g : Fld) : (s.delayAsked stamp).get g = s.get g := s.get_setTime _ g

/-- A slave summit asks for the path delay end to end. -/
theorem State.delayReqTx_slave (s : State) (stamp : Nat) (slave : s.time.ptpIsMaster = false) (summit : s.isSummit = true) (up : s.ptpUp = true)
    (p2p : s.has F.TIME_CFG_P2P = false) : s.delayReqTx stamp =
      (s.delayAsked stamp).emit (.signal "PTP_DELAY_REQ" [s.time.ptpDelaySeq, s.get F.TIME_CFG_DOMAIN, s.ptpVia]) := by
  have mechanism : (s.delayAsked stamp).has F.TIME_CFG_P2P = false := by rw [State.has, s.delayAsked_get, ← State.has, p2p]
  have via : (s.delayAsked stamp).ptpVia = s.ptpVia := by rw [State.ptpVia, State.ptpVia, s.delayAsked_get]
  have name : (if (s.delayAsked stamp).has F.TIME_CFG_P2P then "PTP_PDELAY_REQ" else "PTP_DELAY_REQ") = "PTP_DELAY_REQ" :=
    if_neg (by simp [mechanism])
  rw [← via, ← s.delayAsked_get stamp F.TIME_CFG_DOMAIN, ← name]
  unfold State.delayReqTx
  exact if_neg (by simp [slave, summit, up])

/-! ## A master that falls silent (R204, R205) -/

/-- With no master heard, the port is master where MASTER_EN lets it be, and follows none. -/
theorem State.ptpElect_none (s : State) (h : s.time.ptpForeign = []) : s.ptpElect.regs = s.regs ∧ s.ptpElect.time.ptpMaster = false
    ∧ s.ptpElect.time.ptpIsMaster = s.has F.TIME_CFG_MASTER_EN := by
  unfold State.ptpElect
  rw [h]
  simp only [bestForeign, Option.map_none, ite_self, Option.isSome_none, Bool.false_and, Bool.false_eq_true, if_false, Bool.and_true, Option.elim_none]
  refine ⟨trivial, ?_⟩
  split <;> exact ⟨rfl, rfl⟩

/-- Once no master is left, the source of a summit that followed one is lost. -/
theorem State.announceLost_alone (s : State) (h : s.time.ptpForeign = []) (heard : s.time.ptpMaster = true)
    (late : s.time.ptpAnnounceClk + s.announceTimeout ≤ s.time.clk) (source : s.ptpSource = true) : s.announceLost = s.ptpElect.loseSource := by
  have source' : s.ptpElect.ptpSource = true := by
    rw [← source]
    unfold State.ptpSource State.isSummit State.cascadeRole State.pairRole
    simp only [State.get_congr _ (State.reg_congr (s.ptpElect_none h).1 _)]
  have e : { s with time := { s.time with ptpForeign := [] } } = s := by rw [← h]
  unfold State.announceLost
  dsimp only
  rw [if_neg (by simp [heard, Nat.not_lt.mpr late]), h, List.filter_nil, e, heard, source']
  rfl

theorem State.syncLost_due (s : State) (source : s.ptpSource = true) (locked : s.get F.TIME_STATE = 1)
    (late : s.time.ptpMeasureClk * 16 + 4 * 2 ^ (s.time.ptpLogSync + 4).toNat * 250000000 ≤ s.time.clk * 16) : s.syncLost = s.loseSource :=
  if_neg (by simp [source, locked, Nat.not_lt.mpr late])

theorem State.ptpAfresh_get (s : State) (g : Fld) : s.ptpAfresh.get g = s.get g := rfl

theorem State.ptpSwitch_due (s : State) (auto : s.has F.TIME_CFG_AUTO_PORT = true)
    (lost : (if s.ptpPort then s.host.pcsLock1 else s.host.pcsLock0) = false) :
    s.ptpSwitch = ((s.put F.TIME_CFG_PTP_PORT (if s.ptpPort then 0 else 1)).mark F.TIME_STATE_PORT_SWITCHED).ptpAfresh := by
  unfold State.ptpSwitch
  exact if_neg (by simp [auto, lost])

/-! ## Ridge markers (R213 to R216) -/

theorem State.emitRidge_time (s : State) (type : Nat) (d : RidgeTo) (o : Output) : (s.emitRidge type d o).time = s.time :=
  (s.emitRidge_within type d o).time_eq

/-- What a marker of the summit carries beside its direction. -/
def State.markerWords (s : State) : List Int :=
  [s.time.nextMarker, s.time.now, 0, s.getI F.TIME_RATE_ADJ, s.get F.TIME_STATE, s.get F.TIME_STATE_HOLD_CAUSE]

theorem State.markerSend_summit (s : State) (h : s.isSummit = true) : s.markerSend =
    ((s.setTime { s.time with nextMarker := (s.time.nextMarker + 1) % 2 ^ 32 }).emitRidge 0x04 (.way true)
      (.signal "MARKER" (0 :: s.markerWords))).emitRidge 0x04 (.way false) (.signal "MARKER" (1 :: s.markerWords)) := by
  unfold State.markerSend
  exact if_neg (by simp [h])

/-- What a device sends on of a marker. -/
def markerOnward (cw : Bool) (m : Marker) (residence : Nat) : Output :=
  .signal "MARKER" [if cw then 0 else 1, m.number, m.departure, m.correction + residence, m.adj, m.state, m.holdCause]

/-- A marker from the direction that is not used is forwarded, and its arrival noted. -/
theorem State.markerRx_unused (s : State) (cw : Bool) (m : Marker) (residence : Nat) (member : s.isSummit = false) (unused : cw ≠ s.time.markerCw) :
    (s.markerRx cw m residence).out = (s.emitRidge 0x04 (.way cw) (markerOnward cw m residence)).out
      ∧ (s.markerRx cw m residence).time.now = s.time.now := by
  have time := s.emitRidge_time 0x04 (.way cw) (markerOnward cw m residence)
  unfold State.markerRx
  rw [if_neg (by simp [member])]
  unfold markerOnward at time ⊢
  generalize s.emitRidge 0x04 (.way cw) _ = sent at time ⊢
  dsimp only
  rw [if_pos (by rw [time]; exact unused)]
  exact ⟨rfl, show sent.time.now = s.time.now by rw [time]⟩

/-- The offset that a marker gives (R215). -/
def State.markerOffset (s : State) (m : Marker) : Int := signedOf 96 (fieldOf 96 ((s.time.now : Int) - (m.departure + m.correction : Nat)))

/-- The arrival of a marker noted. -/
def State.markerHeard (s : State) (cw : Bool) : State :=
  s.setTime { s.time with
    markerClkCw := if cw then some s.time.clk else s.time.markerClkCw
    markerClkCcw := if cw then s.time.markerClkCcw else some s.time.clk }

/-- The change of the summit's ADJ that a marker carries, for a LOCKED member that has used one before. -/
def State.markerChange (s : State) (m : Marker) : Int := if s.time.markerSeen && s.get F.TIME_STATE == 1 then m.adj - s.time.summitAdj else 0

/-- The change added to the own rate. -/
def State.markerSteered (s : State) (change : Int) : State :=
  if change = 0 then s else s.putI F.TIME_RATE_ADJ (clampI (-s.adjLimit) s.adjLimit (s.getI F.TIME_RATE_ADJ + change))

theorem State.markerSteered_time (s : State) (change : Int) : (s.markerSteered change).time = s.time := by
  unfold State.markerSteered
  split
  · rfl
  · rw [State.putI, State.put_time]

theorem State.markerSteered_out (s : State) (change : Int) : (s.markerSteered change).out = s.out := by
  unfold State.markerSteered
  split
  · rfl
  · rw [State.putI, State.put_out]

/-- What TIME keeps of a marker that is used. -/
def State.markerKept (s : State) (m : Marker) (theta change : Int) (t : TimeSt) : TimeSt :=
  { s.time with
    markerNumber := m.number, markerMissed := 0, summitState := m.state, summitAdj := m.adj, markerSeen := true
    adjSum := t.adjSum + change
    markersSince := some (t.markersSince.getD t.clk)
    misalignRun := if (s.get F.TIME_MISALIGN_NS : Int) * 2 ^ 32 < theta.natAbs then t.misalignRun + 1 else 0 }

/-- A marker from the direction that is used is forwarded, noted and measured. -/
theorem State.markerRx_used (s : State) (cw : Bool) (m : Marker) (residence : Nat) (member : s.isSummit = false) (used : cw = s.time.markerCw) :
    ∃ t : State, s.markerRx cw m residence = t.measurement (s.markerOffset m) 10000 (2 ^ 32) 1 6 true
      ∧ t.out = (s.emitRidge 0x04 (.way cw) (markerOnward cw m residence)).out
      ∧ t.time.now = s.time.now ∧ t.time.markerNumber = m.number ∧ t.time.summitState = m.state := by
  have time := s.emitRidge_time 0x04 (.way cw) (markerOnward cw m residence)
  have offset : ∀ t : State, t.time = s.time → s.markerOffset m = t.markerOffset m := fun t h => by rw [State.markerOffset, State.markerOffset, h]
  unfold State.markerRx
  rw [if_neg (by simp [member])]
  unfold markerOnward at *
  generalize s.emitRidge 0x04 (.way cw) _ = sent at time ⊢
  rw [offset sent time, ← time]
  rw [← time] at used
  let steered := (sent.markerHeard cw).markerSteered ((sent.markerHeard cw).markerChange m)
  refine ⟨steered.setTime (steered.markerKept m (sent.markerOffset m) ((sent.markerHeard cw).markerChange m) sent.time),
    if_neg (not_not_intro used), ?_, ?_, ?_, ?_⟩
  · rw [State.setTime_out, State.markerSteered_out, State.markerHeard, State.setTime_out]
  all_goals rw [State.setTime_time, State.markerKept]
  rw [State.markerSteered_time, State.markerHeard, State.setTime_time]

/-- Whether it is used or not, a member sends a marker on, and device time goes on with it. -/
theorem State.markerRx_forwards (s : State) (cw : Bool) (m : Marker) (residence : Nat) (member : s.isSummit = false) :
    markerOnward cw m residence ∈ (s.markerRx cw m residence).out ∧ (s.markerRx cw m residence).time.now = s.time.now := by
  have sent := s.emitRidge_mem 0x04 (.way cw) (markerOnward cw m residence)
  by_cases used : cw = s.time.markerCw
  · obtain ⟨t, e, out, now, -, -⟩ := s.markerRx_used cw m residence member used
    obtain ⟨firsts, run, time⟩ := t.measurement_time (s.markerOffset m) 10000 (2 ^ 32) 1 6
    rw [e, State.measurement_out, out, time]
    exact ⟨sent, now⟩
  · obtain ⟨out, now⟩ := s.markerRx_unused cw m residence member used
    rw [out]
    exact ⟨sent, now⟩

theorem State.markerTurn_stale (s : State) (c : Nat) (used : (if s.time.markerCw then s.time.markerClkCw else s.time.markerClkCcw) = some c)
    (member : s.isSummit = false) (late : c + 75000 ≤ s.time.clk) :
    s.markerTurn = s.setTime { s.time with markerCw := !s.time.markerCw, markerMissed := 0 } := by
  unfold State.markerTurn
  dsimp only
  rw [used]
  exact if_neg (by simp [member, late])

theorem State.markerLoss_stale (s : State) (c d : Nat) (cw : s.time.markerClkCw = some c) (ccw : s.time.markerClkCcw = some d)
    (member : s.isSummit = false) (late : c + 250000 ≤ s.time.clk) (late' : d + 250000 ≤ s.time.clk) :
    s.markerLoss = s.loseSource.setTime { s.loseSource.time with markersSince := none } := by
  unfold State.markerLoss
  dsimp only
  rw [cw, ccw]
  exact if_neg (by simp [member, late, late'])

theorem State.splitCheck_raised {s : State} {cls d : Nat} {x : Subject} (h : s.Raised cls d x) : s.splitCheck.Raised cls d x := by
  unfold State.splitCheck
  dsimp only
  split
  · exact h
  · rw [State.unitErr, State.raise_low _ 3 _ _ _ (by decide) (by decide)]
    exact (h.congr (State.put_err _ _ _)).enterRecord _

theorem State.misalign_due (s : State) (run : 10 ≤ s.time.misalignRun) (member : s.isSummit = false) (first : s.has F.TIME_STATE_MISALIGN = false) :
    s.misalign = (s.mark F.TIME_STATE_MISALIGN).unitErr 0x08 0x0822 [nsOf s.time.offset] := by
  unfold State.misalign
  rw [if_neg (by simp [member, Nat.not_lt.mpr run]), if_neg (by simp [first])]

/-! ## A source chosen in CFG (R221) -/

/-- A summit that is LOCKED loses its source with a change of CFG; its words are the ones that the loss changes. -/
theorem State.timeCfgChanged_locked (s : State) (summit : s.isSummit = true) (locked : s.get F.TIME_STATE = 1) :
    ∃ t : State, (∀ g, t.get g = s.get g) ∧ t.SourceLost s.timeCfgChanged := by
  unfold State.timeCfgChanged
  extract_lets port now afresh
  have here : afresh.get F.TIME_STATE = 1 := locked
  refine ⟨afresh, fun _ => rfl, ?_⟩
  rw [if_pos (show afresh.isSummit = true from summit)]
  exact afresh.loseSource_locked here

end Sys2Proof.Machine
end

section
/-!
PROOFS about a direct write of TIME's CFG word (R7, R105, R221): the checks that it meets, the fields that it leaves, and its effect.
-/
set_option Elab.async false -- one proof after the other: checking the whole text at once takes more memory than the check allows
namespace Sys2Proof.Machine

/-- The address of TIME's CFG word. -/
abbrev cfgAddr : Nat := 0x080010

/-- The write of a value to the whole CFG word. -/
def cfgWrite (v : Word) : StagedWrite := ⟨cfgAddr, BitVec.allOnes 32, v⟩

/-! ## The word written -/

/-- Writing a field leaves the bits below it. -/
theorem bitsOf_writeField_below (old mask v fresh : Word) (acc : Nat) (f : RegField) (lo w : Nat) (h : lo + w ≤ f.lo) :
    bitsOf (writeField old mask v fresh acc f) lo w = bitsOf acc lo w := by
  unfold writeField
  split
  · exact bitsOf_withBits_disjoint _ _ _ _ _ _ (.inl h)
  · exact bitsOf_withBits_disjoint _ _ _ _ _ _ (.inl h)
  · rfl

theorem bitsOf_writeFields_below (old mask v fresh : Word) (lo w : Nat) (fs : List RegField) (acc : Nat) (h : ∀ f ∈ fs, lo + w ≤ f.lo) :
    bitsOf (fs.foldl (writeField old mask v fresh) acc) lo w = bitsOf acc lo w := by
  induction fs generalizing acc with
  | nil => rfl
  | cons f fs ih =>
    rw [List.foldl_cons, ih _ fun g hg => h g (List.mem_cons_of_mem f hg), bitsOf_writeField_below _ _ _ _ _ f lo w (h f List.mem_cons_self)]

/-- The table entry of CFG: SOURCE is the writable field of bit 0, and the others lie above. -/
theorem findWord_cfg : ∃ r f fs, findWord cfgAddr = some r ∧ r.fields = f :: fs ∧ f.acc = .rw ∧ f.lo = 0 ∧ f.width = 1
    ∧ ∀ g ∈ fs, 0 + 1 ≤ g.lo := by
  refine ⟨(findWord cfgAddr).get (by decide +kernel), ((findWord cfgAddr).get (by decide +kernel)).fields.head (by decide +kernel),
    ((findWord cfgAddr).get (by decide +kernel)).fields.tail, by simp, by simp, ?_⟩
  decide +kernel

/-- The write leaves its bit 0 in SOURCE. -/
theorem State.writeWord_cfg (s : State) (v : Word) :
    ∃ x : Word, s.writeWord (cfgWrite v) = s.setReg cfgAddr x ∧ bitsOf x.toNat 0 1 = v.toNat % 2 := by
  obtain ⟨r, f, fs, found, fields, acc, lo, width, above⟩ := findWord_cfg
  refine ⟨writtenWord r (s.reg cfgAddr) (BitVec.allOnes 32) v (s.marked cfgAddr), ?_, ?_⟩
  · unfold State.writeWord
    rw [show findWord (cfgWrite v).addr = some r from found]
    rfl
  · have merged : mergeBits (s.reg cfgAddr) (BitVec.allOnes 32) v = v := by
      rw [mergeBits, BitVec.and_allOnes, BitVec.not_allOnes, BitVec.and_zero, BitVec.zero_or]
    rw [writtenWord, fields, word, BitVec.toNat_ofNat, bitsOf_mod_two_pow _ _ _ _ (by decide), List.foldl_cons,
      bitsOf_writeFields_below _ _ _ _ 0 1 fs _ above]
    unfold writeField
    rw [acc]
    dsimp only
    rw [lo, width, merged, bitsOf_withBits_same]
    simp [bitsOf]

theorem State.writeWord_cfg_source (s : State) (v : Word) : (s.writeWord (cfgWrite v)).get F.TIME_CFG_SOURCE = v.toNat % 2 := by
  obtain ⟨x, e, bit⟩ := s.writeWord_cfg v
  rw [e, State.get, show F.TIME_CFG_SOURCE.addr = cfgAddr from rfl, State.reg_setReg_same]
  exact bit

theorem State.writeWord_cfg_get (s : State) (v : Word) (g : Fld) (h : g.addr ≠ cfgAddr := by decide) : (s.writeWord (cfgWrite v)).get g = s.get g := by
  obtain ⟨x, e, -⟩ := s.writeWord_cfg v
  rw [e, State.get, State.reg_setReg_ne _ _ _ _ h, ← State.get]

theorem State.writeWord_cfg_cmd (s : State) (v : Word) : (s.writeWord (cfgWrite v)).cmd = s.cmd := by
  obtain ⟨x, e, -⟩ := s.writeWord_cfg v
  rw [e]
  simp

/-! ## SET_PARAM of the word -/

/-- No rule of its own keeps CFG from being written. -/
theorem State.wordRule_cfg (s t : State) (v : Word) : s.wordRule t true (cfgWrite v) = none := by
  have split : splitAddr (cfgWrite v).addr = (0x08, 0, 0x10) := by
    show splitAddr cfgAddr = _
    decide
  have bank : bankOf (cfgWrite v).addr = none := by
    show bankOf cfgAddr = _
    decide
  unfold State.wordRule
  simp [split, bank]

/-- The checks of the write read the words alone. -/
theorem State.writesError_cfg {s t : State} (h : t.regs = s.regs) (path : Path) (v : Word) :
    t.writesError path true [cfgWrite v] = s.writesError path true [cfgWrite v] := by
  have role : t.cascadeRole = s.cascadeRole := State.get_congr _ (State.reg_congr h _)
  unfold State.writesError
  simp only [if_true, List.findSome?_cons, List.findSome?_nil, State.wordRule_cfg, State.reg_congr h, role]

/-- A CFG write that nothing turns away is done at once. -/
theorem opSetParam_cfg {p : InFlight} {s : State} {v : Word} (target : p.target.toNat = cfgAddr) (body : p.body = [0, v])
    (check : s.writesError p.path true [cfgWrite v] = none) : opSetParam p s = (s.bump.takeWrites [cfgWrite v] p.boundary, .done []) := by
  have writes : setWrites p.target.toNat p.body = some [cfgWrite v] := by
    rw [body, target]
    simp [setWrites, bodyWord, cfgWrite]
  have ctl : bodyWord p.body 0 = 0 := by rw [body]; rfl
  have len : p.body.length = 2 := by rw [body]; rfl
  have range : rangeError p.target.toNat [cfgWrite v].length = none := by
    rw [target]
    show rangeError cfgAddr 1 = none
    decide +kernel
  have direct : ((0 : Nat) % 2 == 0) = true := rfl
  unfold opSetParam
  simp only [writes, ctl, len, range, direct, check, Nat.reduceLT, Nat.reduceLeDiff, if_false, if_true]

theorem State.noteSaved_cmd (s : State) (a : Nat) : (s.noteSaved a).cmd = s.cmd := by
  unfold State.noteSaved
  split <;> rfl

theorem State.noteSaved_get (s : State) (a : Nat) (g : Fld) : (s.noteSaved a).get g = s.get g := by
  unfold State.noteSaved
  split <;> rfl

/-- The effect of a write that changes SOURCE. -/
theorem State.writeEffect_cfg (old t : State) (q : Nat) (v : Word) (h : (t.noteSaved cfgAddr).get F.TIME_CFG_SOURCE ≠ old.get F.TIME_CFG_SOURCE) :
    State.writeEffect old q (cfgWrite v) t = (t.noteSaved cfgAddr).timeCfgChanged := by
  have split : splitAddr (cfgWrite v).addr = (0x08, 0, 0x10) := by
    show splitAddr cfgAddr = _
    decide
  unfold State.writeEffect
  simp only [split]
  rw [if_neg (by decide), if_neg (by decide), if_neg (by decide), if_pos (by decide)]
  exact if_pos (Or.inl h)

/-- One write that gives no ring its base or size takes its effect on the word as written. -/
theorem State.takeWrites_single (s : State) (w : StagedWrite) (q : Nat) (h : ringCfgWord w.addr = false) :
    s.takeWrites [w] q = State.writeEffect s q w (s.writeWord w) := by
  unfold State.takeWrites
  simp only [List.any_cons, List.any_nil, h, Bool.or_false, Bool.and_false, Bool.false_eq_true, if_false]
  rfl

theorem State.takeWrites_cfg (s : State) (v : Word) (q : Nat) (h : v.toNat % 2 ≠ s.get F.TIME_CFG_SOURCE) :
    s.takeWrites [cfgWrite v] q = ((s.writeWord (cfgWrite v)).noteSaved cfgAddr).timeCfgChanged := by
  have ring : ringCfgWord (cfgWrite v).addr = false := by
    show ringCfgWord cfgAddr = false
    decide
  rw [s.takeWrites_single _ q ring, s.writeEffect_cfg _ q v]
  rw [State.noteSaved_get, s.writeWord_cfg_source v]
  exact h

/-- The device as a CFG write leaves its words, before the change of source takes effect. -/
def State.cfgWritten (s : State) (v : Word) : State := (s.bump.writeWord (cfgWrite v)).noteSaved cfgAddr

theorem State.cfgWritten_source (s : State) (v : Word) : (s.cfgWritten v).get F.TIME_CFG_SOURCE = v.toNat % 2 := by
  rw [State.cfgWritten, State.noteSaved_get, s.bump.writeWord_cfg_source v]

theorem State.bump_get (s : State) (g : Fld) : s.bump.get g = s.get g := rfl

theorem State.cfgWritten_get (s : State) (v : Word) (g : Fld) (h : g.addr ≠ cfgAddr := by decide) : (s.cfgWritten v).get g = s.get g := by
  rw [State.cfgWritten, State.noteSaved_get, s.bump.writeWord_cfg_get v g h, s.bump_get]

theorem State.cfgWritten_inflight (s : State) (v : Word) : (s.cfgWritten v).cmd.inflight = s.cmd.inflight := by
  rw [State.cfgWritten, State.noteSaved_cmd, s.bump.writeWord_cfg_cmd v]
  rfl

/-- A CFG write that nothing turns away, and that changes SOURCE, is done at once with its effect. -/
theorem opSetParam_sourceChange {p : InFlight} {s : State} {v : Word} (target : p.target.toNat = cfgAddr) (body : p.body = [0, v])
    (check : s.writesError p.path true [cfgWrite v] = none) (changes : v.toNat % 2 ≠ s.get F.TIME_CFG_SOURCE) :
    opSetParam p s = ((s.cfgWritten v).timeCfgChanged, .done []) := by
  rw [opSetParam_cfg target body check, s.bump.takeWrites_cfg v _ (by rwa [s.bump_get]), State.cfgWritten]

theorem State.entered_regs (s : State) (op : Byte) (p : Pkt) : (s.begin.entered op p).regs = s.regs := rfl

theorem State.entered_get (s : State) (op : Byte) (p : Pkt) (g : Fld) : (s.begin.entered op p).get g = s.get g := rfl

/-- A summit stays one where its words of role and pair do. -/
theorem State.isSummit_congr {s t : State} (role : t.get F.SYS_STRAPS_ROLE = s.get F.SYS_STRAPS_ROLE)
    (pair : t.get F.PAIR_PSTAT_ROLE = s.get F.PAIR_PSTAT_ROLE) : t.isSummit = s.isSummit := by
  rw [State.isSummit, State.isSummit, State.cascadeRole, State.cascadeRole, State.pairRole, State.pairRole, role, pair]

/-- A summit that is LOCKED loses its source with a change of SOURCE. -/
theorem State.Serves.runs_sourceChange {s : State} {h : Hdr} {v : Word} {P : State → Prop} (hs : s.Serves h.path h.tag)
    (check : s.writesError h.path true [cfgWrite v] = none) (changes : v.toNat % 2 ≠ s.get F.TIME_CFG_SOURCE) (locked : s.get F.TIME_STATE = 1)
    (summit : s.isSummit = true)
    (hP : ∀ u : State, u.get F.TIME_CFG_SOURCE = v.toNat % 2 → u.get F.TIME_STATE = 2 → u.get F.TIME_STATE_HOLD_CAUSE = 2 →
      u.Raised 1 0x0821 ⟨1, 0x08⟩ → u.Answered h.path h.tag 0 0 → P u) : Runs (.timeCfgSourceChange h v) s P := by
  have entered : (s.begin.entered 0x03 (directPkt h cfgAddr [0, v])).writesError h.path true [cfgWrite v] = none := by
    rw [State.writesError_cfg (s.entered_regs _ _) h.path v]
    exact check
  have run : runOp (0x03 : Byte).toNat (s.begin.begun 0x03 (directPkt h cfgAddr [0, v])) (s.begin.entered 0x03 (directPkt h cfgAddr [0, v]))
      = (((s.begin.entered 0x03 (directPkt h cfgAddr [0, v])).cfgWritten v).timeCfgChanged, .done []) :=
    opSetParam_sourceChange (p := s.begin.begun 0x03 (directPkt h cfgAddr [0, v])) rfl rfl entered
      (by rwa [s.entered_get 0x03 (directPkt h cfgAddr [0, v])])
  have inflight : ((s.begin.entered 0x03 (directPkt h cfgAddr [0, v])).cfgWritten v).cmd.inflight = [s.begin.begun 0x03 (directPkt h cfgAddr [0, v])] :=
    State.cfgWritten_inflight _ v
  have source := (s.begin.entered 0x03 (directPkt h cfgAddr [0, v])).cfgWritten_source v
  have other : ∀ g : Fld, g.addr ≠ cfgAddr → ((s.begin.entered 0x03 (directPkt h cfgAddr [0, v])).cfgWritten v).get g = s.get g :=
    fun g hg => by rw [State.cfgWritten_get _ v g hg, s.entered_get]
  generalize (s.begin.entered 0x03 (directPkt h cfgAddr [0, v])).cfgWritten v = w at run inflight source other
  have summit' : w.isSummit = true := (State.isSummit_congr (other _ (by decide)) (other _ (by decide))).trans summit
  obtain ⟨t, same, lost⟩ := w.timeCfgChanged_locked summit' ((other _ (by decide)).trans locked)
  have waits : w.timeCfgChanged.cmd.inflight = [s.begin.begun 0x03 (directPkt h cfgAddr [0, v])] := by
    rw [w.timeCfgChanged_within.cmd_eq, inflight]
  refine hs.runs_done (p := directPkt h cfgAddr [0, v]) rfl (by decide) run (w.timeCfgChanged_within.dev.trans (other _ (by decide))) waits
    fun u ends => ?_
  have answer := w.timeCfgChanged.answer_within (s.begin.begun 0x03 (directPkt h cfgAddr [0, v])) 0 0 [] hs.host rfl
  refine hP u ?_ ?_ ?_ ?_ (ends.answered (State.answer_answered _ (s.begin.begun 0x03 _) 0 0 [] hs.host rfl (by decide)))
  · rw [ends.get, answer.get _, lost.other _ (by decide) (by decide), same, source]
  · rw [ends.get, answer.get _, lost.state]
  · rw [ends.get, answer.get _, lost.cause]
  · exact ends.raised (lost.raised.congr (answer.parts .err (by decide)).1)

end Sys2Proof.Machine
end

section
/-!
PROOFS that the time base follows its source (R199 to R221): PTP, ridge markers, HOLDOVER and the jump rule.
-/
set_option Elab.async false -- one proof after the other: checking the whole text at once takes more memory than the check allows
namespace Sys2Proof.Machine

theorem State.Ends.getI {s t u : State} (h : s.Ends t u) (f : Fld) : u.getI f = t.getI f := State.getI_congr (h.get f)

theorem State.emit_mem (s : State) (o : Output) : o ∈ (s.emit o).out := List.mem_append_right _ (List.mem_singleton.mpr rfl)

/-- A command whose body keeps out of the device state ends with what the body leaves, as the body's lemma has it. -/
theorem State.Awake.runs_to {s a b : State} {n : Nat} {i : Instr} {P : State → Prop} {ps : List Part} {us : List Nat} (ha : s.Awake n a)
    (g : State → State) (hx : exec i s = .next (s.row (fun s => g (s.arrive n)))) (w : a.Within (g a) ps us) (e : g a = b)
    (hP : ∀ u, s.Ends b u → P u) (hu : inUnits us F.SYS_DEV_STATE_STATE.addr = false := by decide) : Runs i s P :=
  ha.runs g hx rfl (w.dev hu).symm.trans fun u ends => hP u (e ▸ ends)

/-- The same, of a command without an instant of its own. -/
theorem State.runs_now_to {s b : State} {i : Instr} {P : State → Prop} {ps : List Part} {us : List Nat} (f : State → State)
    (hx : exec i s = .next (s.row f)) (up : s.inReset = false) (w : s.begin.Within (f s.begin) ps us) (e : f s.begin = b)
    (hP : ∀ u, s.Ends b u → P u) (hu : inUnits us F.SYS_DEV_STATE_STATE.addr = false := by decide) : Runs i s P :=
  s.runs_now f hx up (w.dev hu) fun u ends => hP u (e ▸ ends)

/-- The state in which a PTP measurement that waited is used: it waits no more. -/
def State.measureTaken (s : State) : State := s.setTime { s.time with measured := none }

theorem State.measureTaken_get (s : State) (g : Fld) : s.measureTaken.get g = s.get g := s.get_setTime _ g

theorem State.measureTaken_time (s : State) : s.measureTaken.time = { s.time with measured := none } := s.setTime_time _

/-- A PTP measurement in LOCKED is counted, and given to the servo where it is within the threshold. -/
theorem State.ptpMeasurement_locked {s : State} {theta : Int} {en ed : Nat} (measured : s.time.measured = some (theta, en, ed))
    (source : s.ptpSource = true) (locked : s.get F.TIME_STATE = 1) : s.ptpMeasurement =
      if s.inThreshold theta then
        (s.measureTaken.offsetCounted theta).servo theta en ed (s.get F.TIME_SERVO_ALPHA_SHIFT) (s.get F.TIME_SERVO_BETA_SHIFT)
      else s.measureTaken.offsetCounted theta := by
  have e : s.ptpMeasurement = s.measureTaken.measurement theta en ed (s.get F.TIME_SERVO_ALPHA_SHIFT) (s.get F.TIME_SERVO_BETA_SHIFT) s.ptpSource := by
    unfold State.ptpMeasurement
    rw [measured]
    rfl
  rw [e, source, State.measurement_locked _ theta _ _ _ _ ((s.measureTaken_get _).trans locked), State.inThreshold_congr (s.measureTaken_get _)]

/-- Settles O19: what each body leaves, by the lemma of its operation. -/
theorem timeFollowsItsSource : Obligations.TimeFollowsItsSource := by
  unfold Obligations.TimeFollowsItsSource
  refine ⟨?sync, ?dropped, ?pdelay, ?oneStep, ?twoStep, ?delayReq, ?within, ?beyond, ?refused, ?exit, ?announce, ?syncLoss, ?port, ?cfg, ?send,
    ?forward, ?use, ?turn, ?loss, ?misalign, ?delay⟩
  case sync =>
    intro s a t port m stamp d ha delay mine up l2 summit parent kind domain slave lo hi one
    have hears : a.Hears port m := ⟨up, mine, domain, l2, State.ptpForeignTo_sync kind summit slave parent⟩
    refine ha.runs_to (fun s => s.ptpMessage port m stamp) rfl (a.ptpMessage_within port m stamp)
      (State.ptpMessage_sync stamp hears kind lo hi one) fun u ends => ?_
    refine ⟨?_, ?_⟩
    · rw [ends.time]
      exact State.syncComplete_measured _ _ _ d delay
    · rw [ends.get, State.syncComplete_get, State.get_setTime]
  case dropped =>
    intro s a t port m stamp ha up other
    exact ha.runs_to (fun s => s.ptpMessage port m stamp) rfl (a.ptpMessage_within port m stamp) (State.ptpMessage_dropped stamp up other)
      fun u ends => ends.time
  case pdelay =>
    intro s a t port m stamp q t1 ha req mine up l2 p2p seq kind domain one
    have hears : a.Hears port m := ⟨up, mine, domain, l2, State.ptpForeignTo_pdelayResp kind p2p⟩
    refine ha.runs_to (fun s => s.ptpMessage port m stamp) rfl (a.ptpMessage_within port m stamp)
      (State.ptpMessage_pdelayResp stamp hears kind (seq ▸ req) one) fun u ends => ?_
    refine ⟨?_, ?_, ?_⟩
    · rw [ends.time, State.setPathDelay_time, State.setTime_time]
    · rw [ends.time, State.setPathDelay_time]
    · rw [ends.get, State.setPathDelay_shown]
  case oneStep =>
    intro s a t stamp ha master up one
    refine ha.runs_to (fun s => s.ptpSyncTx stamp) rfl (a.ptpSyncTx_within stamp)
      ((a.ptpSyncTx_master stamp master up).trans (if_pos one)) fun u ends => ?_
    exact ⟨ends.out _ (State.emit_mem _ _), by rw [ends.time]; exact a.syncAnnounced_seq⟩
  case twoStep =>
    intro s a t stamp ha master up two
    refine ha.runs_to (fun s => s.ptpSyncTx stamp) rfl (a.ptpSyncTx_within stamp)
      ((a.ptpSyncTx_master stamp master up).trans (if_neg (by simp [two]))) fun u ends => ?_
    exact ⟨ends.out _ (State.emit_mem _ _),
      ends.out _ (State.emit_out _ _ _ (State.emit_mem _ _)), by rw [ends.time]; exact a.syncAnnounced_seq⟩
  case delayReq =>
    intro s a t stamp ha slave summit up p2p
    refine ha.runs_to (fun s => s.delayReqTx stamp) rfl (a.delayReqTx_within stamp) (a.delayReqTx_slave stamp slave summit up p2p) fun u ends => ?_
    exact ⟨ends.out _ (State.emit_mem _ _), by rw [ends.time]; rfl, by rw [ends.time]; rfl⟩
  case within =>
    intro s theta en ed measured awake source locked ok
    have within : s.begin.inThreshold theta = true := ok
    have e := State.ptpMeasurement_locked (s := s.begin) measured source locked
    rw [if_pos within] at e
    refine s.runs_now_to State.ptpMeasurement rfl awake s.begin.ptpMeasurement_within e fun u ends => ?_
    have time := ends.time.trans ((State.servo_within _ _ _ _ _ _).time_eq.trans (State.offsetCounted_time _ _))
    refine ⟨?_, ?_, ?_, ?_, ?_, ?_⟩
    · rw [time, State.measureTaken_time]
    · rw [time]
    · rw [ends.getI, State.getI_congr (State.servo_get _ _ _ _ _ _ F.TIME_OFFSET), State.offsetCounted_offset]
    · rw [ends.get, State.servo_get _ _ _ _ _ _ F.TIME_STATE_MASTER, State.offsetCounted_master]
    · rw [ends.get, State.servo_get _ _ _ _ _ _ F.TIME_STATE_JUMP_SEEN, State.offsetCounted_seen, State.inThreshold_congr (State.measureTaken_get _ _)]
      exact if_pos within
    · rw [ends.get, State.servo_get _ _ _ _ _ _ F.TIME_STATE, State.offsetCounted_get _ _ F.TIME_STATE, State.measureTaken_get]
      exact locked
  case beyond =>
    intro s theta en ed measured awake source locked jump
    have beyond : ¬s.begin.inThreshold theta = true := Bool.eq_false_iff.mp jump
    have e := State.ptpMeasurement_locked (s := s.begin) measured source locked
    rw [if_neg beyond] at e
    refine s.runs_now_to State.ptpMeasurement rfl awake s.begin.ptpMeasurement_within e fun u ends => ?_
    refine ⟨?_, ?_, ?_⟩
    · rw [ends.get, State.offsetCounted_seen, State.inThreshold_congr (State.measureTaken_get _ _), State.measureTaken_get]
      exact if_neg beyond
    · rw [ends.get, State.offsetCounted_get _ _ F.TIME_RATE_ADJ, State.measureTaken_get]
      rfl
    · rw [ends.get, State.offsetCounted_get _ _ F.TIME_RATE_I, State.measureTaken_get]
      rfl
  case refused =>
    intro s awake due
    refine s.runs_now_to State.refuseJump rfl awake s.begin.refuseJump_within (s.begin.refuseJump_due due) fun u ends => ?_
    refine ⟨?_, ?_, ?_, ?_, ?_, ends.raised ?_⟩
    · rw [ends.get, State.coast_get _ F.TIME_STATE, State.enterTime_state _ _ _ (by decide)]
    · rw [ends.get, State.coast_get _ F.TIME_STATE_HOLD_CAUSE, State.enterTime_cause _ _ _ (by decide)]
    · rw [ends.get, State.coast_get _ F.TIME_STATE_JUMP_REFUSED, State.enterTime_get _ _ _ F.TIME_STATE_JUMP_REFUSED, State.jumpNoted_refused]
    · rw [ends.get, State.coast_get _ F.TIME_STATE_JUMP_SEEN, State.enterTime_get _ _ _ F.TIME_STATE_JUMP_SEEN, State.jumpNoted_seen]
    · rw [ends.getI, State.getI_congr (State.coast_get _ F.TIME_REFUSED_OFFSET), State.getI_congr (State.enterTime_get _ 2 3 F.TIME_REFUSED_OFFSET),
        State.jumpNoted_offset]
      rfl
    · exact (State.enterTime_refused_raised _).congr ((State.coast_within _).parts .err (by decide)).1
  case exit =>
    intro s awake due
    obtain ⟨theta, en, ed, alpha, beta, e⟩ := s.begin.leaveHoldover_due due
    refine s.runs_now_to State.leaveHoldover rfl awake s.begin.leaveHoldover_within e fun u ends => ?_
    refine ⟨?_, ?_, ?_⟩
    · rw [ends.get, State.servo_get _ _ _ _ _ _ F.TIME_STATE, State.holdoverLeft_state]
    · rw [ends.get, State.servo_get _ _ _ _ _ _ F.TIME_STATE_HOLD_CAUSE, State.holdoverLeft_cause]
    · rw [ends.get, State.servo_get _ _ _ _ _ _ F.TIME_STATE_SOURCE, State.holdoverLeft_source]
      rfl
  case announce =>
    intro s a t ha heard late source locked alone
    obtain ⟨words, silent, master⟩ := a.ptpElect_none alone
    have lost := a.ptpElect.loseSource_locked ((State.get_congr _ (State.reg_congr words _)).trans locked)
    refine ha.runs_to State.announceLost rfl a.announceLost_within (a.announceLost_alone alone heard late source) fun u ends => ?_
    refine ⟨?_, ?_, ?_, ?_, ?_, ends.raised lost.raised⟩
    · rw [ends.time, lost.time]
      exact silent
    · rw [ends.time, lost.time]
      exact master
    · rw [ends.get, lost.state]
    · rw [ends.get, lost.cause]
    · rw [ends.get, lost.master]
  case syncLoss =>
    intro s a t ha source locked late
    have lost := a.loseSource_locked locked
    refine ha.runs_to State.syncLost rfl a.syncLost_within (a.syncLost_due source locked late) fun u ends => ?_
    exact ⟨by rw [ends.get, lost.state], by rw [ends.get, lost.cause], ends.raised lost.raised⟩
  case port =>
    intro s a t ha auto lost
    refine ha.runs_to State.ptpSwitch rfl a.ptpSwitch_within (a.ptpSwitch_due auto lost) fun u ends => ?_
    refine ⟨?_, ?_, ?_⟩
    · rw [State.ptpPort, State.has, ends.get, State.ptpAfresh_get, State.get_mark, State.get_put_other_word _ _ _ _ (by decide),
        State.get_put_same _ _ _ (by decide)]
      cases a.ptpPort <;> rfl
    · rw [ends.get, State.ptpAfresh_get, State.get_mark_same _ _ (by decide) rfl]
    · rw [ends.time]
      rfl
  case cfg =>
    intro s h v hs check changes locked summit
    exact hs.runs_sourceChange check changes locked summit fun u source state cause raised answered => ⟨source, state, cause, raised, answered⟩
  case send =>
    intro s a t ha summit
    refine ha.runs_to State.markerSend rfl a.markerSend_within (a.markerSend_summit summit) fun u ends => ?_
    refine ⟨?_, ends.out _ (State.emitRidge_out _ _ _ _ _ (State.emitRidge_mem _ _ _ _)), ends.out _ (State.emitRidge_mem _ _ _ _)⟩
    rw [ends.time, State.emitRidge_time, State.emitRidge_time, State.setTime_time]
  case forward =>
    intro s a m k residence ha member mine
    have row := a.ridgeIn_marker m (fun s => s.markerRx m.cw k residence) mine
    have w := a.markerRx_within m.cw k residence
    obtain ⟨out, now⟩ := a.markerRx_forwards m.cw k residence member
    refine ha.runs_to (fun s => s.ridgeIn 0x04 m (fun s => s.markerRx m.cw k residence)) rfl (row ▸ w) row fun u ends => ⟨ends.out _ out, ?_⟩
    rw [ends.time, now]
  case use =>
    intro s a m k residence ha member mine used near near'
    have row := a.ridgeIn_marker m (fun s => s.markerRx m.cw k residence) mine
    have w := a.markerRx_within m.cw k residence
    obtain ⟨b, e, -, -, number, summit⟩ := a.markerRx_used m.cw k residence member used
    obtain ⟨firsts, run, time⟩ := b.measurement_time (a.markerOffset k) 10000 (2 ^ 32) 1 6
    have offset : a.markerOffset k = (a.time.now : Int) - ((k.departure + k.correction : Nat) : Int) :=
      signedOf_fieldOf 96 _ (by decide) (by omega) (by omega)
    refine ha.runs_to (fun s => s.ridgeIn 0x04 m (fun s => s.markerRx m.cw k residence)) rfl (row ▸ w) (row.trans e) fun u ends => ?_
    refine ⟨?_, ?_, ?_, ?_⟩
    · rw [ends.time, time]
      exact offset
    · rw [ends.time, time]
      exact number
    · rw [ends.time, time]
      exact summit
    · rw [ends.get, State.measurement_master]
  case turn =>
    intro s a t c ha used member late
    exact ha.runs_to State.markerTurn rfl a.markerTurn_within (a.markerTurn_stale c used member late) fun u ends => ends.time
  case loss =>
    intro s a t c d ha cw ccw member late late' locked
    have lost := a.loseSource_locked locked
    have split := a.markerLoss.splitCheck_within
    have w : a.Within a.markerLoss.splitCheck [.time, .err] [0x08, 0x48, 0x68] :=
      (a.markerLoss_within.mono (by decide) (by decide)).andThen split (by decide) (by decide)
    refine ha.runs_to (fun s => s.markerLoss.splitCheck) rfl w rfl fun u ends => ?_
    have stale := a.markerLoss_stale c d cw ccw member late late'
    refine ⟨?_, ?_, ?_, ends.raised (State.splitCheck_raised ?_)⟩
    · rw [ends.get, split.get _, stale, State.get_setTime, lost.state]
    · rw [ends.get, split.get _, stale, State.get_setTime, lost.cause]
    · rw [ends.time, split.time_eq, stale, State.setTime_time]
    · rw [stale]
      exact lost.raised.congr (State.setTime_err _ _)
  case misalign =>
    intro s awake member run first
    refine s.runs_now_to State.misalign rfl awake s.begin.misalign_within (s.begin.misalign_due run member first) fun u ends => ?_
    refine ⟨?_, ends.raised (State.raise_low_raised _ 3 _ _ _ (by decide) (by decide))⟩
    rw [ends.get, State.unitErr, (State.raise_low_within _ 3 _ _ _ (by decide) (by decide)).get _, State.get_mark_same _ _ (by decide) rfl]
  case delay =>
    intro s a t link delay ha up
    refine ha.runs_to (fun s => s.ridgeDelay link delay) rfl (a.ridgeDelay_within link delay link.isLt) (if_pos up) fun u ends => ?_
    rw [ends.get, a.get_put_same (F.RIDGE_LINK_STAT_DELAY link) _ (Nat.le_refl 32)]
    exact Nat.mod_eq_of_lt delay.isLt

end Sys2Proof.Machine
end

section
/-!
REFUTATION about the queues of scanning (R271): a flush of a channel whose only staged block has no record.
-/
set_option Elab.async false -- one proof after the other: checking the whole text at once takes more memory than the check allows
namespace Sys2Proof.Machine

/-- Channel 3, OFFLINE, with an empty queue and one staged block, which holds no record. The parser stages none such (R144), but a state, and a
block that a partner sends, may have one. -/
def recordlessBlock : State := ready.setStaged 3 [{ block3 with records := [] }]

/-- SCAN_FLUSH of everything finds no record to discard, and leaves the block staged. -/
theorem recordlessBlock_stays_staged : tabGet [] (recordlessBlock.row (fun s => s.takePkt 0x30 flushOfAll)).stream.staging 3 ≠ [] := by decide +kernel

/-- Refutes O21: SCAN_FLUSH of everything on a channel without records answers 0 and touches nothing, so that a staged block that holds no record
stays, where the statement has the staging area empty; it does not exclude such a block. -/
theorem not_queuesAndTablesAreServed : ¬ Obligations.QueuesAndTablesAreServed := by
  unfold Obligations.QueuesAndTablesAreServed
  rintro ⟨flushed, -⟩
  have serves : recordlessBlock.Serves flushOfAll.path flushOfAll.tag := by constructor <;> decide +kernel
  obtain ⟨u, hu, -, emptied, -⟩ := flushed recordlessBlock flushOfAll 3 serves rfl (by decide) rfl (by decide +kernel) (by decide +kernel)
  rw [← show recordlessBlock.row (fun s => s.takePkt 0x30 flushOfAll) = u from Host.Outcome.next.inj hu] at emptied
  exact recordlessBlock_stays_staged emptied

end Sys2Proof.Machine
end

section
/-!
PROOFS about the trace of a capture (R310 to R312): its opcodes and its end.
-/
set_option Elab.async false -- one proof after the other: checking the whole text at once takes more memory than the check allows
namespace Sys2Proof.Machine

/-! ## The trace beside the rest of the state -/

theorem State.Within.trace {a b : State} {ps : List Part} {us : List Nat} (h : a.Within b ps us) (x : TraceSt) (hq : .trace ∈ ps := by decide) :
    a.Within { b with trace := x } ps us :=
  h.part .trace hq rfl rfl fun p hp => by cases p <;> simp_all [Part.same, Part.sameHost, Part.sameFrame]

theorem State.Within.trace_eq {a b : State} {ps : List Part} {us : List Nat} (h : a.Within b ps us) (hq : .trace ∉ ps := by decide) :
    b.trace = a.trace := (h.parts .trace hq).2

theorem State.Ends.trace {s t u : State} (h : s.Ends t u) : u.trace = t.trace := (congrArg State.trace h.eq :)

/-- Answering a packet leaves the trace and its words. -/
theorem State.Ends.trace_of_answer {s b u : State} {q : InFlight} {st : Byte} {d : Nat} {res : List Word} (h : s.Ends (b.answer q st d res) u)
    (hp : q.path ≠ .ridge) (ho : q.orphan = false) : u.trace = b.trace ∧ ∀ f : Fld, inUnits [0x01] f.addr = false → u.get f = b.get f := by
  have w := b.answer_within q st d res hp ho
  exact ⟨h.trace.trans w.trace_eq, fun f hf => (h.get f).trans (w.get f hf)⟩

/-- A served packet that its opcode turns away ends with that reply to the state that it met. -/
theorem State.Serves.runs_bad {s : State} {p : Pkt} {op : Byte} {st : Byte} {d : Nat} {i : Instr} {P : State → Prop} (hs : s.Serves p.path p.tag)
    (hx : exec i s = .next (s.row (fun s => s.takePkt op p)))
    (run : runOp op.toNat (s.begin.begun op p) (s.begin.entered op p) = (s.begin.entered op p, .bad st d))
    (hP : ∀ u : State, s.Ends ((s.begin.entered op p).answer (s.begin.begun op p) st d []) u → P u) : Runs i s P := by
  have body := State.takePkt_bad _ _ op p st d hs.begin run rfl
  have w := (s.begin.entered op p).answer_within (s.begin.begun op p) st d [] hs.host rfl
  exact s.runs_now (fun s => s.takePkt op p) hx hs.up (body ▸ w.dev) fun u ends => hP u (body ▸ ends)

/-! ## Opcodes (R311, R312) -/

/-- TSTAT.STATE as written reads back. -/
theorem State.get_put_traceState (s : State) (v : Nat) : (s.put F.TRACE_TSTAT_STATE v).get F.TRACE_TSTAT_STATE = v % 4 :=
  s.get_put_same _ v (by decide)

/-- Showing the samples stored leaves TSTAT.STATE. -/
theorem State.showTrace_state (s : State) : s.showTrace.get F.TRACE_TSTAT_STATE = s.get F.TRACE_TSTAT_STATE := by
  unfold State.showTrace State.put64
  rw [State.get_put_other_word _ _ _ _ (by decide), State.get_put_other_word _ _ _ _ (by decide), State.get_put_other_word _ _ _ _ (by decide)]

/-- COUNT is the number of samples stored, as far as its field reaches. -/
theorem State.showTrace_count (s : State) : s.showTrace.get F.TRACE_TCOUNT = s.trace.rows.length % 2 ^ 17 := by
  unfold State.showTrace State.put64
  rw [State.get_put_other_word _ _ _ _ (by decide), State.get_put_other_word _ _ _ _ (by decide)]
  exact s.get_put_same _ _ (by decide)

theorem State.showTrace_within (s : State) : s.Within s.showTrace [] [0x21] := (((State.Within.refl s [] [0x21]).put _ _).put _ _).put _ _

/-- The state with empty buffers in ARMED, as TRACE_ARM leaves it. -/
def State.traceArmed (s : State) : State := (({ s with trace := {} }.put F.TRACE_TSTAT_STATE 1).put F.TRACE_TRIG_INDEX 0).showTrace

theorem State.traceArmed_within (s : State) : s.Within s.traceArmed [.trace] [0x21] :=
  ((((State.Within.refl s _ _).trace {}).put _ _).put _ _).andThen (State.showTrace_within _) (by decide) (by decide)

theorem State.traceArmed_trace (s : State) : s.traceArmed.trace = {} := (State.showTrace_within _).trace_eq

theorem State.traceArmed_state (s : State) : s.traceArmed.get F.TRACE_TSTAT_STATE = 1 := by
  unfold State.traceArmed
  rw [State.showTrace_state, State.get_put_other_word _ _ _ _ (by decide), State.get_put_traceState]

theorem State.traceArmed_count (s : State) : s.traceArmed.get F.TRACE_TCOUNT = 0 := State.showTrace_count _

/-- TRACE_ARM is done at once outside a capture. -/
theorem opTraceArm_done {p : InFlight} {s : State} (target : p.target = 0) (body : p.body = []) (unarmed : s.get F.TRACE_TSTAT_STATE ≠ 1)
    (untriggered : s.get F.TRACE_TSTAT_STATE ≠ 2) : opTraceArm p s = (s.traceArmed, .done []) := by
  simp [opTraceArm, target, body, unarmed, untriggered, State.traceArmed]

/-- TRACE_ARM is refused during a capture. -/
theorem opTraceArm_refused {p : InFlight} {s : State} (target : p.target = 0) (body : p.body = [])
    (busy : s.get F.TRACE_TSTAT_STATE = 1 ∨ s.get F.TRACE_TSTAT_STATE = 2) : opTraceArm p s = (s, .bad 0x10 0x21F5) := by
  simp [opTraceArm, target, body, busy, refused]

/-- TRACE_FORCE is done at once in ARMED. -/
theorem opTraceForce_done {p : InFlight} {s : State} (target : p.target = 0) (body : p.body = []) (armed : s.get F.TRACE_TSTAT_STATE = 1) :
    opTraceForce p s = ({ s with trace := { s.trace with force := true } }, .done []) := by
  simp [opTraceForce, target, body, armed]

/-- TRACE_STOP ends a capture at once. -/
theorem opTraceStop_done {p : InFlight} {s : State} (target : p.target = 0) (body : p.body = [])
    (busy : s.get F.TRACE_TSTAT_STATE = 1 ∨ s.get F.TRACE_TSTAT_STATE = 2) :
    opTraceStop p s = (s.put F.TRACE_TSTAT_STATE 3, .done []) := by
  simp [opTraceStop, target, body, busy]

/-- TRACE_READ of samples that are stored waits for the next frame boundary; on a host path its results fit a reply. -/
theorem opTraceRead_later {p : InFlight} {s : State} {j n : Word} (host : p.path ≠ .ridge) (body : p.body = [j, n]) (target : p.target.toNat < 16)
    (least : 1 ≤ n.toNat) (most : n.toNat ≤ 4088) (stored : j.toNat + n.toNat ≤ s.trace.rows.length) :
    opTraceRead p s = (s, .later (.read (s.us + 1))) := by
  have count : bodyWord [j, n] 1 = n.toNat := rfl
  have passes : traceReadError p s = none := by
    have first : bodyWord [j, n] 0 = j.toNat := rfl
    simp [traceReadError, body, first, count, Nat.not_le.mpr target, Nat.not_lt.mpr stored, Nat.not_lt.mpr most, Nat.one_le_iff_ne_zero.mp least]
  have fits : ¬ resultLimit p.path < 2 + n.toNat := by
    rw [resultLimit, if_neg host]
    omega
  simp [opTraceRead, passes, body, count, fits]

/-! ## The statement -/

/-- Settles O23: each packet by its opcode, which is done at once, refused, or waits; the end of a capture by what its body writes. -/
theorem traceRuns : Obligations.TraceRuns := by
  unfold Obligations.TraceRuns
  refine ⟨fun s p hs target body unarmed untriggered => ?arm, fun s p hs target body busy => ?refused, fun s p hs target body armed => ?force,
    fun s p hs target body busy => ?stop, fun s p j n hs body target least most stored => ?read, fun s up triggered last => ?done⟩
  case arm =>
    have w := (s.begin.entered 0x40 p).traceArmed_within
    refine hs.runs_done rfl (by decide) (opTraceArm_done target body unarmed untriggered) w.dev (congrArg CmdSt.inflight w.cmd_eq) fun u ends => ?_
    obtain ⟨trace, get⟩ := ends.trace_of_answer hs.host rfl
    exact ⟨(get _ (by decide)).trans (State.traceArmed_state _), trace.trans (State.traceArmed_trace _),
      (get _ (by decide)).trans (State.traceArmed_count _), ends.returned (State.answer_returned _ (s.begin.begun 0x40 p) [] hs.host rfl)⟩
  case refused =>
    refine hs.runs_bad rfl (opTraceArm_refused (p := s.begin.begun 0x40 p) target body busy) fun u ends => ⟨(ends.trace_of_answer hs.host rfl).1, ?_⟩
    exact ends.answered (State.answer_answered _ _ 0x10 0x21F5 [] hs.host rfl (by decide))
  case force =>
    refine hs.runs_done rfl (by decide) (opTraceForce_done target body armed) rfl rfl fun u ends => ?_
    obtain ⟨trace, get⟩ := ends.trace_of_answer hs.host rfl
    exact ⟨trace, (get _ (by decide)).trans armed, ends.returned (State.answer_returned _ (s.begin.begun 0x43 p) [] hs.host rfl)⟩
  case stop =>
    have w : (s.begin.entered 0x41 p).Within ((s.begin.entered 0x41 p).put F.TRACE_TSTAT_STATE 3) [] [0x21] := (State.Within.refl _ _ _).put _ _
    refine hs.runs_done rfl (by decide) (opTraceStop_done target body busy) w.dev (congrArg CmdSt.inflight w.cmd_eq) fun u ends => ?_
    obtain ⟨trace, get⟩ := ends.trace_of_answer hs.host rfl
    exact ⟨trace, (get _ (by decide)).trans (State.get_put_traceState _ 3), ends.returned (State.answer_returned _ (s.begin.begun 0x41 p) [] hs.host rfl)⟩
  case read =>
    refine hs.runs_later rfl (opTraceRead_later (p := s.begin.begun 0x42 p) hs.host body target least most stored) rfl rfl rfl fun u ends => ⟨ends.trace, ?_⟩
    have waits := (congrArg CmdSt.inflight ends.cmd).trans (State.setWait_inflight (s.begin.entered 0x42 p) s.cmd.nextOrder (.read (s.us + 1)) rfl rfl)
    exact ⟨_, waits ▸ List.mem_singleton.mpr rfl, rfl, rfl, rfl⟩
  case done =>
    have w : s.begin.Within (s.begin.put F.TRACE_TSTAT_STATE 3) [] [0x21] := (State.Within.refl _ _ _).put _ _
    have body : s.begin.traceDone = s.begin.put F.TRACE_TSTAT_STATE 3 := if_pos ⟨triggered, last⟩
    refine s.runs_now_to State.traceDone rfl up (body ▸ w) body fun u ends => ⟨?_, ends.trace.trans w.trace_eq⟩
    exact (ends.get _).trans (State.get_put_traceState _ 3)

end Sys2Proof.Machine
end

section
/-!
PROOFS about the trips of the servo loops and of the emission monitor (R298 to R305, R328).
-/
set_option Elab.async false -- one proof after the other: checking the whole text at once takes more memory than the check allows
namespace Sys2Proof.Machine

/-! ## The parts of the loops -/

namespace State.Within

variable {a b : State} {ps : List Part} {us : List Nat}

theorem loop (h : a.Within b ps us) (x : LoopSt) (hq : .loop ∈ ps := by decide) : a.Within { b with loop := x } ps us :=
  h.part .loop hq rfl rfl fun p hp => by cases p <;> simp_all [Part.same, Part.sameHost, Part.sameFrame]

theorem power (h : a.Within b ps us) (x : Tab PowCh) (hq : .power ∈ ps := by decide) : a.Within { b with power := x } ps us :=
  h.part .power hq rfl rfl fun p hp => by cases p <;> simp_all [Part.same, Part.sameHost, Part.sameFrame]

theorem loop_eq (h : a.Within b ps us) (hq : .loop ∉ ps := by decide) : b.loop = a.loop := (h.parts .loop hq).2

theorem power_eq (h : a.Within b ps us) (hq : .power ∉ ps := by decide) : b.power = a.power := (h.parts .power hq).2

end State.Within

theorem State.Ends.loop {s t u : State} (h : s.Ends t u) : u.loop = t.loop := (congrArg State.loop h.eq :)

theorem State.Ends.power {s t u : State} (h : s.Ends t u) : u.power = t.power := (congrArg State.power h.eq :)

theorem State.ma_congr {s t : State} (h : t.loop = s.loop) (n : Nat) : t.ma n = s.ma n := by rw [State.ma, State.ma, h]

theorem State.pow_congr {s t : State} (h : t.power = s.power) (c : Nat) : t.pow c = s.pow c := by rw [State.pow, State.pow, h]

theorem State.ma_setMa_same (s : State) (n : Nat) (x : MaLoop) : (s.setMa n x).ma n = x := tabGet_put_same ({} : MaLoop) s.loop.ma n x

theorem State.pow_setPow_same (s : State) (c : Nat) (x : PowCh) : (s.setPow c x).pow c = x := tabGet_put_same ({} : PowCh) s.power c x

/-- The loops of two axes of a channel are kept apart. -/
theorem State.ax_setAx_ne (s : State) (c : Nat) {a b : Nat} (x : AxLoop) (h : b ≠ a) : (s.setAx c a x).ax c b = s.ax c b :=
  tabGet_put_ne ({} : AxLoop) {} s.loop.ax (3 * c + a) (3 * c + b) x (by omega)

/-! ## The error of a channel that asks for SAFE -/

/-- A CHANNEL error without the fault mark is raised, and a trigger of its channel waits. -/
theorem State.raise_addChTrigger (s : State) (c d : Nat) (x : ChTrigger) (hc : c < 64) :
    s.Within ((s.raise 2 false ⟨2, c⟩ d).addChTrigger c x) [.err, .seq] [0x68]
      ∧ ((s.raise 2 false ⟨2, c⟩ d).addChTrigger c x).Raised 2 d ⟨2, c⟩
      ∧ x ∈ (((s.raise 2 false ⟨2, c⟩ d).addChTrigger c x).sq c).triggers := by
  have raised := s.raise_low_within 2 ⟨2, c⟩ d [] (by decide) (by decide) (openAddr_chan c hc)
  have added := (s.raise 2 false ⟨2, c⟩ d).addChTrigger_within c x
  refine ⟨(raised.mono (by decide) (by decide)).andThen added (by decide) (by decide), ?_, ?_⟩
  · exact (s.raise_low_raised 2 ⟨2, c⟩ d [] (by decide) (by decide)).congr (added.parts .err (by decide)).1
  · rw [State.addChTrigger_sq]
    exact List.mem_append_right _ (List.mem_singleton.mpr rfl)

/-! ## Oscillation and saturation (R298 to R301) -/

/-- What a trip does of one axis: it shows its trips and forgets them. -/
def State.tripMarked (s : State) (c a : Nat) : State :=
  let x := s.ax c a
  let s := if x.oscTrip then s.mark (F.LOOP_AX_STAT_OSC_TRIP c a) else s
  let s := if x.satTrip then s.mark (F.LOOP_AX_STAT_SAT_TRIP c a) else s
  s.setAx c a { x with oscTrip := false, satTrip := false }

/-- The status word of axis `a` stands in the loops' unit. -/
theorem axStat_unit (us : List Nat) (c a : Nat) (hc : c < 64) (ha : a < 3) : inUnits us (chanAddr 0x20 c (0x10 + a)) = us.contains 0x20 :=
  inUnits_chanAddr us 0x20 c _ hc (by omega)

theorem State.tripMarked_within (s : State) (c a : Nat) (hc : c < 64) (ha : a < 3) : s.Within (s.tripMarked c a) [.loop] [0x20] := by
  have word : inUnits [0x20] (chanAddr 0x20 c (0x10 + a)) = true := axStat_unit _ c a hc ha
  unfold State.tripMarked
  extract_lets x osc sat
  have hosc : s.Within osc [.loop] [0x20] := .ite (fun _ => (State.Within.refl s _ _).mark _ 1 word) fun _ => .refl s _ _
  have hsat : s.Within sat [.loop] [0x20] := .ite (fun _ => hosc.mark _ 1 word) fun _ => hosc
  exact hsat.loop _

/-- The trips of an axis are shown: the mark of the second leaves that of the first. -/
theorem State.tripMarked_shows (s : State) (c a : Nat) :
    ((s.ax c a).oscTrip = true → (s.tripMarked c a).get (F.LOOP_AX_STAT_OSC_TRIP c a) = 1)
      ∧ ((s.ax c a).satTrip = true → (s.tripMarked c a).get (F.LOOP_AX_STAT_SAT_TRIP c a) = 1) := by
  unfold State.tripMarked
  extract_lets x osc sat
  refine ⟨fun trip => ?_, fun trip => ?_⟩
  · have marked : osc.get (F.LOOP_AX_STAT_OSC_TRIP c a) = 1 := by
      unfold osc
      rw [if_pos trip]
      exact s.get_mark_same _ (by decide : 5 + 1 ≤ 32) rfl
    show sat.get (F.LOOP_AX_STAT_OSC_TRIP c a) = 1
    unfold sat
    split
    · exact (State.get_put_disjoint osc (F.LOOP_AX_STAT_SAT_TRIP c a) (F.LOOP_AX_STAT_OSC_TRIP c a) _ (by decide : 6 + 1 ≤ 32) rfl
        (.inl (by decide : 5 + 1 ≤ 6))).trans marked
    · exact marked
  · show sat.get (F.LOOP_AX_STAT_SAT_TRIP c a) = 1
    unfold sat
    rw [if_pos trip]
    exact osc.get_mark_same _ (by decide : 6 + 1 ≤ 32) rfl

/-- The other axes of the channel keep their trips and their status words. -/
theorem State.tripMarked_other (s : State) (c : Nat) {a b : Nat} (h : b ≠ a) :
    (s.tripMarked c a).ax c b = s.ax c b ∧ (s.tripMarked c a).reg (chanAddr 0x20 c (0x10 + b)) = s.reg (chanAddr 0x20 c (0x10 + b)) := by
  have apart : chanAddr 0x20 c (0x10 + b) ≠ chanAddr 0x20 c (0x10 + a) := by
    unfold chanAddr
    omega
  unfold State.tripMarked
  extract_lets x osc sat
  refine ⟨?_, ?_⟩
  · have keeps : sat.loop = s.loop := by
      unfold sat osc
      split <;> split <;> rfl
    rw [State.ax_setAx_ne _ c _ h, State.ax, State.ax, keeps]
  · have first : osc.reg (chanAddr 0x20 c (0x10 + b)) = s.reg (chanAddr 0x20 c (0x10 + b)) := by
      unfold osc
      split
      · exact s.reg_setReg_ne _ _ _ apart
      · rfl
    have second : sat.reg (chanAddr 0x20 c (0x10 + b)) = osc.reg (chanAddr 0x20 c (0x10 + b)) := by
      unfold sat
      split
      · exact osc.reg_setReg_ne _ _ _ apart
      · rfl
    exact second.trans first

/-- Marking a list of axes leaves the status word of every other axis. -/
theorem State.forEach_tripMarked_keeps (s : State) (c : Nat) (l : List Nat) {a : Nat} (h : a ∉ l) :
    (forEach l (fun b t => t.tripMarked c b) s).reg (chanAddr 0x20 c (0x10 + a)) = s.reg (chanAddr 0x20 c (0x10 + a)) := by
  induction l generalizing s with
  | nil => rfl
  | cons b l ih =>
    obtain ⟨here, later⟩ := List.ne_and_not_mem_of_not_mem_cons h
    exact (ih (s.tripMarked c b) later).trans (s.tripMarked_other c here).2

/-- Marking a list of axes shows the trips of each. -/
theorem State.forEach_tripMarked_shows (s : State) (c : Nat) (l : List Nat) (nd : l.Nodup) {a : Nat} (ha : a ∈ l) :
    ((s.ax c a).oscTrip = true → (forEach l (fun b t => t.tripMarked c b) s).get (F.LOOP_AX_STAT_OSC_TRIP c a) = 1)
      ∧ ((s.ax c a).satTrip = true → (forEach l (fun b t => t.tripMarked c b) s).get (F.LOOP_AX_STAT_SAT_TRIP c a) = 1) := by
  induction l generalizing s with
  | nil => exact absurd ha List.not_mem_nil
  | cons b l ih =>
    obtain ⟨new, nd⟩ := List.nodup_cons.mp nd
    rcases List.mem_cons.mp ha with rfl | later
    · have keeps := (s.tripMarked c a).forEach_tripMarked_keeps c l new
      obtain ⟨osc, sat⟩ := s.tripMarked_shows c a
      exact ⟨fun trip => (State.get_congr _ keeps).trans (osc trip), fun trip => (State.get_congr _ keeps).trans (sat trip)⟩
    · have still := (s.tripMarked_other c (ne_of_mem_of_not_mem later new)).1
      have shown := ih (s.tripMarked c b) nd later
      rwa [still] at shown

/-- The channel with the trips of its three axes shown. -/
def State.tripsMarked (s : State) (c : Nat) : State := forEach [0, 1, 2] (fun a t => t.tripMarked c a) s

theorem State.tripsMarked_within (s : State) (c : Nat) (hc : c < 64) : s.Within (s.tripsMarked c) [.loop] [0x20] :=
  (State.Within.refl s _ _).forEach _ _ fun a ha t h => h.trans (t.tripMarked_within c a hc ((by decide : ∀ a ∈ [0, 1, 2], a < 3) a ha))

/-- An oscillation waits on an axis of the channel. -/
def State.oscFound (s : State) (c : Nat) : Bool := [0, 1, 2].any (fun a => (s.ax c a).oscTrip)

/-- A saturation waits on an axis of the channel. -/
def State.satFound (s : State) (c : Nat) : Bool := [0, 1, 2].any (fun a => (s.ax c a).satTrip)

/-- The detail of a channel's trip: an oscillation goes before a saturation. -/
def State.tripDetail (s : State) (c : Nat) : Nat := if s.oscFound c then 0x2010 else 0x2011

theorem axis_mem (x : Fin 3) : x.val ∈ [0, 1, 2] := by
  revert x
  decide

/-- What the model asks of the list of axes, the statement asks of the numbers of axes. -/
theorem any_axis_iff (q : Nat → Bool) : [0, 1, 2].any q = true ↔ ∃ x : Fin 3, q x = true := by
  rw [List.any_eq_true]
  refine ⟨fun ⟨a, ha, h⟩ => ⟨⟨a, (by decide : ∀ a ∈ [0, 1, 2], a < 3) a ha⟩, h⟩, fun ⟨x, h⟩ => ⟨x, axis_mem x, h⟩⟩

/-- The error of a trip leaves the state decided for its channel. -/
theorem State.tripsMarked_raise_chAt (s : State) (c d f : Nat) (hc : c < 64) :
    ((s.tripsMarked c).raise 2 false ⟨2, c⟩ d).chAt c f = s.chAt c f := by
  have raised := (s.tripsMarked c).raise_low_within 2 ⟨2, c⟩ d [] (by decide) (by decide) (openAddr_chan c hc)
  have w : s.Within ((s.tripsMarked c).raise 2 false ⟨2, c⟩ d) [.loop, .err] [0x20, 0x68] :=
    ((s.tripsMarked_within c hc).mono (by decide) (by decide)).andThen raised (by decide) (by decide)
  exact State.chAt_congr (congrArg SeqCh.next (State.sq_congr w.seq_eq c)) (w.get _ (inUnits_chanAddr _ 0x18 c 0 hc (by decide))) f

/-- A supervision trip of a channel that is not in SAFE shows the trips, raises its error, and asks for SAFE at the next apply instant. -/
theorem State.supervisionTrip_trips {s : State} {c : Nat} {osc : Bool} (hc : c < 64)
    (found : (if osc then s.oscFound c else s.satFound c && !s.oscFound c) = true) (away : s.chAt c (s.sq c).built ≠ 5) :
    s.supervisionTrip c osc = ((s.tripsMarked c).raise 2 false ⟨2, c⟩ (s.tripDetail c)).addChTrigger c
      { at_ := (s.sq c).built + 1, target := 5, cause := s.tripDetail c, trip := true } := by
  have built : ((s.tripsMarked c).sq c).built = (s.sq c).built := congrArg SeqCh.built (State.sq_congr (s.tripsMarked_within c hc).seq_eq c)
  have goes : ((s.tripsMarked c).raise 2 false ⟨2, c⟩ (s.tripDetail c)).chAt c ((s.tripsMarked c).sq c).built ≠ 5 := by
    rw [s.tripsMarked_raise_chAt c _ _ hc, built]
    exact away
  have hit : ¬(!if osc then s.oscFound c else s.satFound c && !s.oscFound c) = true := by
    rw [found]
    decide
  rw [← built]
  exact (if_neg hit).trans (if_neg goes)

/-- What a supervision trip leaves: trip bits, the error and the trigger. -/
theorem State.runs_supervisionTrip {s : State} {c : Chan} {osc : Bool} {i : Instr} {P : State → Prop}
    (hx : exec i s = .next (s.row (fun s => s.supervisionTrip c osc))) (up : s.inReset = false)
    (found : (if osc then s.oscFound c else s.satFound c && !s.oscFound c) = true) (away : s.chAt c (s.sq c).built ≠ 5)
    (hP : ∀ u : State, u.Raised 2 (s.tripDetail c) ⟨2, c⟩ →
      (∀ x : Fin 3, ((s.ax c x).oscTrip = true → u.get (F.LOOP_AX_STAT_OSC_TRIP c x) = 1)
        ∧ ((s.ax c x).satTrip = true → u.get (F.LOOP_AX_STAT_SAT_TRIP c x) = 1)) →
      { at_ := (s.sq c).built + 1, target := 5, cause := s.tripDetail c, trip := true } ∈ (u.sq c).triggers → P u) : Runs i s P := by
  have hc := c.isLt
  have e := State.supervisionTrip_trips (s := s.begin) hc found away
  obtain ⟨w, raised, asks⟩ := (s.begin.tripsMarked c).raise_addChTrigger c (s.tripDetail c)
    { at_ := (s.sq c).built + 1, target := 5, cause := s.tripDetail c, trip := true } hc
  have whole : s.begin.Within (s.begin.supervisionTrip c osc) [.loop, .err, .seq] [0x20, 0x68] :=
    e ▸ ((s.begin.tripsMarked_within c hc).mono (by decide) (by decide)).andThen w (by decide) (by decide)
  refine s.runs_now_to (fun s => s.supervisionTrip c osc) hx up whole e fun u ends => hP u (ends.raised raised) (fun x => ?_) (ends.sq c ▸ asks)
  obtain ⟨shownOsc, shownSat⟩ := s.begin.forEach_tripMarked_shows c [0, 1, 2] (by decide) (axis_mem x)
  have still : ∀ f : Fld, f.addr = chanAddr 0x20 c (0x10 + x) → u.get f = (s.begin.tripsMarked c).get f := fun f hf =>
    (ends.get f).trans (w.get f (hf ▸ axStat_unit _ c x hc x.isLt))
  exact ⟨fun trip => (still _ rfl).trans (shownOsc trip), fun trip => (still _ rfl).trans (shownSat trip)⟩

/-! ## Following errors (R305, R306) -/

theorem openAddr_axis (n : Nat) (hn : n < 16) : inUnits [0x68] (Subject.openAddr (axisSubject n)) = true :=
  inUnits_wordAddr _ 0x68 (0x140 + n) (by omega)

/-- The word of a machine axis's loop stands in the axes' unit. -/
theorem axisLstat_unit (us : List Nat) (n : Nat) (hn : n < 16) : inUnits us (F.AXIS_LSTAT_FE_TRIP n).addr = us.contains 0x38 :=
  inUnits_wordAddr us 0x38 (0x420 + 0x40 * n) (by omega)

/-- The trip of a machine axis has been acted on. -/
def State.feActed (s : State) (n : Nat) : State := s.setMa n { s.ma n with feTrip := false }

theorem State.feActed_ma (s : State) (n : Nat) : ((s.feActed n).ma n).feTrip = false := by
  rw [State.feActed, State.ma_setMa_same]

/-- A following error within its hard limit shows its flag, is acted on, and raises its error. -/
theorem State.feError_trips (s : State) (n : Nat) (hn : n < 16) :
    s.Within (s.feError n false) [.loop, .err] [0x38, 0x68] ∧ (s.feError n false).get (F.AXIS_LSTAT_FE_TRIP n) = 1
      ∧ ((s.feError n false).ma n).feTrip = false ∧ (s.feError n false).Raised 2 0x2020 (axisSubject n) := by
  have e : s.feError n false = ((s.mark (F.AXIS_LSTAT_FE_TRIP n)).feActed n).raise 2 false (axisSubject n) 0x2020 := rfl
  have raised := ((s.mark (F.AXIS_LSTAT_FE_TRIP n)).feActed n).raise_low_within 2 (axisSubject n) 0x2020 [] (by decide) (by decide) (openAddr_axis n hn)
  have acted : s.Within ((s.mark (F.AXIS_LSTAT_FE_TRIP n)).feActed n) [.loop, .err] [0x38, 0x68] :=
    ((State.Within.refl s _ _).mark _ 1 (axisLstat_unit _ n hn)).loop _
  rw [e]
  refine ⟨acted.andThen raised (by decide) (by decide), ?_, ?_, State.raise_low_raised _ 2 _ _ _ (by decide) (by decide)⟩
  · exact (raised.get _ (axisLstat_unit _ n hn)).trans (s.get_mark_same (F.AXIS_LSTAT_FE_TRIP n) (by decide : 3 + 1 ≤ 32) rfl)
  · rw [State.ma_congr raised.loop_eq, State.feActed_ma]

/-! ## The emission monitor (R328) -/

/-- What commutes with the begin of a command step by step does so along a list. -/
theorem forEach_begin {α : Type} (xs : List α) (f : α → State → State) (h : ∀ x t, f x (State.begin t) = (f x t).begin) (s : State) :
    forEach xs f s.begin = (forEach xs f s).begin := List.foldl_hom State.begin fun t x => h x t

theorem State.writeWord_begin (w : StagedWrite) (s : State) : s.begin.writeWord w = (s.writeWord w).begin := by
  unfold State.writeWord
  split <;> rfl

theorem State.resetSaved_begin (s : State) (cascade : Bool) : s.begin.resetSaved cascade = (s.resetSaved cascade).begin := by
  unfold State.resetSaved
  refine forEach_begin _ _ (fun _ _ => ?_) s
  rfl

/-- Applying a batch does not read what the last command put out. -/
theorem State.applyWords_begin (b : Scheduled) (s : State) : s.begin.applyWords b = (s.applyWords b).begin := by
  unfold State.applyWords
  split
  · rw [State.resetSaved_begin]
    exact forEach_begin _ _ State.writeWord_begin _
  · exact forEach_begin _ _ State.writeWord_begin s

/-- The parameters in force do not depend on what the last command put out. -/
theorem State.inForce_begin_get (s : State) (n : Nat) (f : Fld) : (s.begin.inForce n).get f = (s.inForce n).get f := by
  have e : s.begin.inForce n = (s.inForce n).begin := forEach_begin _ _ State.applyWords_begin s
  rw [e]
  rfl

/-- The channel's monitor has acted on its episode. -/
def State.monActed (s : State) (c : Nat) : State := s.setPow c { s.pow c with monActed := true }

theorem State.monActed_within (s : State) (c : Nat) : s.Within (s.monActed c) [.power] [] := (State.Within.refl s _ _).power _

theorem State.monActed_pow (s : State) (c : Nat) : ((s.monActed c).pow c).monActed = true := by
  rw [State.monActed, State.pow_setPow_same]

section

variable {s : State} {c : Nat} (first : (s.pow c).monActed = false) (enabled : (s.inForce (s.sq c).built).has (F.POWER_PCTRL_MON_EN c) = true)
  (reached : (s.inForce (s.sq c).built).get (F.POWER_COUNTS_MON_COUNT c) ≤ s.get (F.POWER_P_STAT_MON_RUN c))

include first enabled reached

/-- With MON_ACT 1 the monitor warns. -/
theorem State.monitorTrip_warns (act : (s.inForce (s.sq c).built).get (F.POWER_PCTRL_MON_ACT c) = 1) :
    s.monitorTrip c = (s.monActed c).warn ⟨2, c⟩ 0x2801 := by
  unfold State.monitorTrip
  extract_lets f w x acted
  rw [if_neg (by simp [x, w, f, first, enabled, reached])]
  split
  · rfl
  · exact absurd (act.symm.trans ‹_›) (by decide)
  · exact absurd act ‹_›

/-- With MON_ACT 2 the monitor shows its trip, raises its error, and asks for SAFE at the next apply instant. -/
theorem State.monitorTrip_stops (act : (s.inForce (s.sq c).built).get (F.POWER_PCTRL_MON_ACT c) = 2) :
    s.monitorTrip c = (((s.monActed c).mark (F.POWER_P_STAT_MON_TRIP c)).raise 2 false ⟨2, c⟩ 0x2802).addChTrigger c
      { at_ := (s.sq c).built + 1, target := 5, cause := 0x2802 } := by
  unfold State.monitorTrip
  extract_lets f w x acted
  rw [if_neg (by simp [x, w, f, first, enabled, reached])]
  split
  · exact absurd (act.symm.trans ‹_›) (by decide)
  · rfl
  · exact absurd act ‹_›

end

/-! ## The statement -/

/-- Settles O22: what each trip's body leaves, by the lemma of its operation. -/
theorem supervisionTripsAct : Obligations.SupervisionTripsAct := by
  unfold Obligations.SupervisionTripsAct
  refine ⟨fun s c up trips away => ?oscillation, fun s c up trips steady away => ?saturation, fun s n up trips => ?following,
    fun s c up first enabled reached act => ?warns, fun s c up first enabled reached act => ?stops⟩
  case oscillation =>
    have found : s.oscFound c = true := (any_axis_iff _).mpr trips
    have detail : s.tripDetail c = 0x2010 := if_pos found
    refine State.runs_supervisionTrip (osc := true) rfl up found away fun u raised shown asks => ?_
    rw [detail] at raised asks
    exact ⟨raised, fun x => (shown x).1, asks⟩
  case saturation =>
    have found : s.satFound c = true := (any_axis_iff _).mpr trips
    have calm : s.oscFound c = false := Bool.eq_false_iff.mpr fun hit => by
      obtain ⟨x, trip⟩ := (any_axis_iff _).mp hit
      exact Bool.false_ne_true ((steady x).symm.trans trip)
    have detail : s.tripDetail c = 0x2011 := if_neg (by rw [calm]; exact Bool.false_ne_true)
    refine State.runs_supervisionTrip (osc := false) rfl up (by simp [found, calm]) away fun u raised shown asks => ?_
    rw [detail] at raised asks
    exact ⟨raised, fun x => (shown x).2, asks⟩
  case following =>
    obtain ⟨w, shown, acted, raised⟩ := s.begin.feError_trips n n.isLt
    have body : s.begin.followingTrip n = s.begin.feError n false := if_pos trips
    refine s.runs_now_to (fun s => s.followingTrip n) rfl up (body ▸ w) body fun u ends => ⟨(ends.get _).trans shown, ?_, ends.raised raised⟩
    rw [State.ma_congr ends.loop, acted]
  case warns =>
    have body : s.begin.monitorTrip c = (s.begin.monActed c).warn ⟨2, c⟩ 0x2801 :=
      State.monitorTrip_warns first (by rwa [State.has, s.inForce_begin_get]) (by rwa [s.inForce_begin_get]) (by rwa [s.inForce_begin_get])
    have raised := (s.begin.monActed c).raise_low_within 1 ⟨2, c⟩ 0x2801 [] (by decide) (by decide) (openAddr_chan c c.isLt)
    have w : s.begin.Within ((s.begin.monActed c).warn ⟨2, c⟩ 0x2801) [.power, .err] [0x68] :=
      ((s.begin.monActed_within c).mono (by decide) (by decide)).andThen raised (by decide) (by decide)
    refine s.runs_now_to (fun s => s.monitorTrip c) rfl up (body ▸ w) body fun u ends => ⟨?_, ends.raised ?_⟩
    · rw [State.pow_congr (ends.power.trans raised.power_eq), State.monActed_pow]
    · exact State.raise_low_raised _ 1 _ _ _ (by decide) (by decide)
  case stops =>
    have hc := c.isLt
    have body := State.monitorTrip_stops (s := s.begin) (c := c) first (by rwa [State.has, s.inForce_begin_get]) (by rwa [s.inForce_begin_get])
      (by rwa [s.inForce_begin_get])
    obtain ⟨wr, raised, asks⟩ := ((s.begin.monActed c).mark (F.POWER_P_STAT_MON_TRIP c)).raise_addChTrigger c 0x2802
      { at_ := (s.begin.sq c).built + 1, target := 5, cause := 0x2802 } hc
    have marked : s.begin.Within ((s.begin.monActed c).mark (F.POWER_P_STAT_MON_TRIP c)) [.power, .err, .seq] [0x28, 0x68] :=
      ((s.begin.monActed_within c).mono (by decide) (by decide)).mark _ 1 (inUnits_chanAddr _ 0x28 c 0x40 hc (by decide))
    have w := marked.andThen wr (by decide) (by decide)
    refine s.runs_now_to (fun s => s.monitorTrip c) rfl up (body ▸ w) body fun u ends => ⟨?_, ends.sq c ▸ asks, ends.raised raised⟩
    rw [ends.get, wr.get _ (inUnits_chanAddr _ 0x28 c 0x40 hc (by decide))]
    exact State.get_mark_same _ _ (by decide : 5 + 1 ≤ 32) rfl

end Sys2Proof.Machine
end

section
/-!
PROOFS about the digests of COL (R364 to R369): the words in force for a period, a ridge message that is this device's, and what a digest that
is sent, received or filled leaves.
-/
set_option Elab.async false -- one proof after the other: checking the whole text at once takes more memory than the check allows
namespace Sys2Proof.Machine

/-! ## COL beside the rest of the state -/

namespace State.Within

variable {a b : State} {ps : List Part} {us : List Nat}

theorem col (h : a.Within b ps us) (x : ColSt) (hq : .col ∈ ps := by decide) : a.Within { b with col := x } ps us :=
  h.part .col hq rfl rfl fun p hp => by cases p <;> simp_all [Part.same, Part.sameHost, Part.sameFrame]

theorem ledger (h : a.Within b ps us) (x : LedgerSt) (hq : .ledger ∈ ps := by decide) : a.Within { b with ledger := x } ps us :=
  h.part .ledger hq rfl rfl fun p hp => by cases p <;> simp_all [Part.same, Part.sameHost, Part.sameFrame]

theorem col_eq (h : a.Within b ps us) (hq : .col ∉ ps := by decide) : b.col = a.col := (h.parts .col hq).2

theorem ledger_eq (h : a.Within b ps us) (hq : .ledger ∉ ps := by decide) : b.ledger = a.ledger := (h.parts .ledger hq).2

theorem err_eq (h : a.Within b ps us) (hq : .err ∉ ps := by decide) : b.err = a.err := (h.parts .err hq).1

end State.Within

theorem State.Ends.col {s t u : State} (h : s.Ends t u) : u.col = t.col := (congrArg State.col h.eq :)

theorem State.Ends.ledger {s t u : State} (h : s.Ends t u) : u.ledger = t.ledger := (congrArg State.ledger h.eq :)

/-- The digests held are in COL's part; which is the own one, the straps say. -/
theorem State.heldDigest_congr {s t : State} (col : t.col = s.col) (role : t.get F.SYS_STRAPS_ROLE = s.get F.SYS_STRAPS_ROLE)
    (pos : t.get F.SYS_STRAPS_POS = s.get F.SYS_STRAPS_POS) (q d : Nat) : t.heldDigest q d = s.heldDigest q d := by
  have position : t.position = s.position := by rw [State.position, State.position, State.cascadeRole, State.cascadeRole, role, pos]
  rw [State.heldDigest, State.heldDigest, State.ownDigest, State.ownDigest, position, col]

theorem State.Ends.heldDigest {s t u : State} (h : s.Ends t u) (q d : Nat) : u.heldDigest q d = t.heldDigest q d :=
  State.heldDigest_congr h.col (h.get _) (h.get _) q d

/-- A counter reads one more, up to what its field holds. -/
theorem State.get_count_same (s : State) (f : Fld) (h : f.lo + f.width ≤ 32) :
    (s.count f).get f = satN (2 ^ f.width - 1) (s.get f + 1) := by
  have below : satN (2 ^ f.width - 1) (s.get f + 1) < 2 ^ f.width := by
    have := Nat.two_pow_pos f.width
    unfold satN
    split <;> omega
  rw [State.count, s.get_put_same f _ h, Nat.mod_eq_of_lt below]

theorem missWord_unit (us : List Nat) (q : Nat) (hq : q < 16) : inUnits us (wordAddr 0x30 (0x120 + q)) = us.contains 0x30 :=
  inUnits_wordAddr us 0x30 (0x120 + q) (by omega)

/-! ## The words in force for a period (R374) -/

/-- The state with COL's part and the outputs replaced, which no parameter depends on. -/
def State.setCol (s : State) (x : ColSt) (o : List Output) : State := { s with col := x, out := o }

/-- What commutes with each step along a list commutes with the whole list. -/
theorem forEach_hom {α : Type} (g : State → State) (xs : List α) (f : α → State → State) (h : ∀ y t, f y (g t) = g (f y t)) (s : State) :
    forEach xs f (g s) = g (forEach xs f s) := List.foldl_hom g fun t y => h y t

theorem State.writeWord_setCol (w : StagedWrite) (s : State) (x : ColSt) (o : List Output) :
    (s.setCol x o).writeWord w = (s.writeWord w).setCol x o := by
  unfold State.writeWord
  split <;> rfl

theorem State.applyWords_setCol (b : Scheduled) (s : State) (x : ColSt) (o : List Output) :
    (s.setCol x o).applyWords b = (s.applyWords b).setCol x o := by
  have writes : ∀ t : State,
      forEach b.writes (fun w s => s.writeWord w) (t.setCol x o) = (forEach b.writes (fun w s => s.writeWord w) t).setCol x o :=
    forEach_hom (fun t => t.setCol x o) _ _ fun w t => t.writeWord_setCol w x o
  unfold State.applyWords
  split
  · have saved : ∀ c, (s.setCol x o).resetSaved c = (s.resetSaved c).setCol x o := fun c =>
      forEach_hom (fun t => t.setCol x o) _ _ (fun _ _ => rfl) s
    rw [saved]
    exact writes _
  · exact writes s

/-- The words of a period are those kept for it, and else those in force: neither reads the rest of COL. -/
theorem State.atPeriod_setCol (s : State) (d : Nat) (x : ColSt) (o : List Output) (kept : x.words = s.col.words) :
    (s.setCol x o).atPeriod d = (s.atPeriod d).setCol x o := by
  have words : (s.setCol x o).col.words = s.col.words := kept
  have force : (s.setCol x o).inForce d = (s.inForce d).setCol x o :=
    forEach_hom (fun t => t.setCol x o) _ _ (fun b t => t.applyWords_setCol b x o) s
  unfold State.atPeriod
  rw [words]
  split
  · rfl
  · exact force

/-- The positions that lack a digest depend on the digests held and on the words. -/
theorem State.missingDigests_setCol (s : State) (d : Nat) (x : ColSt) (o : List Output) (kept : x.words = s.col.words) (own : x.own = s.col.own)
    (got : x.got = s.col.got) : (s.setCol x o).missingDigests d = s.missingDigests d := by
  have held : ∀ q, (s.setCol x o).heldDigest q d = s.heldDigest q d := fun q => by
    unfold State.heldDigest State.ownDigest
    exact congr (congrArg _ (congrArg _ own)) (congrArg _ got)
  unfold State.missingDigests
  rw [s.atPeriod_setCol d x o kept]
  simp only [held]
  rfl

/-! ## Messages (R466 to R468) -/

/-- Passing a message on only puts out. -/
theorem State.passCopy_eq (s : State) (m : RidgeMsg) (r : Nat) : s.passCopy m r = s.setCol s.col (s.passCopy m r).out := by
  have either : ∀ (p : Prop) [Decidable p] (t : State), t = s.setCol s.col t.out →
      (if p then s else t) = s.setCol s.col (if p then s else t).out :=
    fun p _ t h => by
      split
      · rfl
      · exact h
  exact either _ _ rfl

/-- What a message that is its row's to act on does beside going on. -/
theorem State.ridgeIn_takes {s : State} {m : RidgeMsg} {type : Nat} (f : State → State) (h : s.takes type m = true)
    (known : (ridgePriority type).isNone = false) : ∃ o, s.ridgeIn type m f = f (s.setCol s.col o) := by
  unfold State.takes at h
  simp only [Bool.and_eq_true, Bool.or_eq_true, beq_iff_eq] at h
  obtain ⟨⟨⟨reaches, here⟩, intact⟩, rfl⟩ := h
  obtain ⟨r, hr⟩ := Option.isSome_iff_exists.mp reaches
  have passed := s.passCopy_eq m r
  refine ⟨(s.passCopy m r).out, ?_⟩
  have mine : ¬(m.dst ≠ 0xFF ∧ m.dst.toNat ≠ (s.passCopy m r).get F.RIDGE_NODE_INDEX) := by
    rw [passed]
    exact fun ⟨all, one⟩ => here.elim all one
  rw [← passed]
  unfold State.ridgeIn
  simp only [hr, if_neg mine, intact, known, Bool.not_true, Bool.false_eq_true, if_false, ne_eq, not_true_eq_false]

/-! ## Digests that arrive (R368, R369) -/

theorem State.setCol_within (s : State) (o : List Output) (ps : List Part) (us : List Nat) : s.Within (s.setCol s.col o) ps us :=
  (State.Within.refl s ps us).update rfl rfl fun p _ => by cases p <;> simp [State.setCol, Part.same, Part.sameHost, Part.sameFrame]

theorem State.acceptDigest_within (s : State) (g : Digest) : s.Within (s.acceptDigest g) [.col, .ledger] [] :=
  ((State.Within.refl s [.col, .ledger] []).col (s.acceptDigest g).col).ledger (s.acceptDigest g).ledger

/-- A digest of another position that has been accepted is the one held. -/
theorem State.acceptDigest_held (s : State) (g : Digest) (other : g.pos ≠ s.position) : (s.acceptDigest g).heldDigest g.pos g.d = some g := by
  have first : (s.acceptDigest g).heldDigest g.pos g.d = ((g :: s.col.got).take 128).find? (fun x => x.pos == g.pos && x.d == g.d) := if_neg other
  rw [first, List.take_succ_cons, List.find?_cons_of_pos (by simp)]

/-- A digest of another position that comes from the partner is accepted as filled, and counted (R369). -/
def State.fillTaken (s : State) (g : Digest) : State := (s.acceptDigest { g with filled := true }).count (F.COL_MISS_FILLS g.pos)

theorem State.fillTaken_within (s : State) (g : Digest) (hp : g.pos < 16) : s.Within (s.fillTaken g) [.col, .ledger] [0x30] :=
  ((s.acceptDigest_within { g with filled := true }).mono (by decide) (by decide)).count _ 1 (missWord_unit _ g.pos hp)

theorem State.fillTaken_held (s : State) (g : Digest) (hp : g.pos < 16) (other : g.pos ≠ s.position) :
    (s.fillTaken g).heldDigest g.pos g.d = some { g with filled := true } := by
  have counted := (State.Within.refl (s.acceptDigest { g with filled := true }) [] [0x30]).count (F.COL_MISS_FILLS g.pos) 1
    (missWord_unit _ g.pos hp)
  rw [State.fillTaken, State.heldDigest_congr counted.col_eq (counted.get _) (counted.get _)]
  exact s.acceptDigest_held { g with filled := true } other

theorem State.fillTaken_counts (s : State) (g : Digest) :
    (s.fillTaken g).get (F.COL_MISS_FILLS g.pos) = satN 65535 (s.get (F.COL_MISS_FILLS g.pos) + 1) :=
  (s.acceptDigest { g with filled := true }).get_count_same (F.COL_MISS_FILLS g.pos) (by decide : 16 + 16 ≤ 32)

section

variable {s : State} {b : List Byte} {g : Digest} (read : digestOf b = some g) (other : g.pos ≠ s.position)

include read other

/-- A valid digest of an expected position, the first of its period and in time, is accepted. -/
theorem State.digestRx_accepts (expected : bitsOf ((s.atPeriod g.d).get F.COL_POSITIONS) g.pos 1 = 1) (period : g.d % 10 = 0)
    (inTime : s.ns ≤ (g.d + 8) * 1000) (begun : g.d * 1000 ≤ s.ns + 2000) (first : s.heldDigest g.pos g.d = none) (up : s.dev ≠ 0) :
    s.digestRx b = s.acceptDigest g := by
  unfold State.digestRx
  rw [read]
  simp [expected, other, period, first, up, Nat.not_lt.mpr inTime, Nat.not_lt.mpr begun]

/-- A digest from outside POSITIONS is counted, and warned of at the onset of its position's episode. -/
theorem State.digestRx_outside (outside : bitsOf ((s.atPeriod g.d).get F.COL_POSITIONS) g.pos 1 = 0) :
    s.Within (s.digestRx b) [.col, .err] [0x68]
      ∧ ∃ x, (s.digestRx b).col = { s.col with discarded := s.col.discarded + 1, outside := x } := by
  have counted : ∀ x, s.Within { s with col := { s.col with discarded := s.col.discarded + 1, outside := x } } [.col, .err] [0x68] := fun x =>
    (State.Within.refl s _ _).col _
  unfold State.digestRx
  simp only [read, outside, other, ne_eq, not_false_eq_true, and_self, if_true]
  split
  · exact ⟨counted s.col.outside, _, rfl⟩
  · have warned := State.raise_low_within { s with col := { s.col with discarded := s.col.discarded + 1, outside := g.pos :: s.col.outside } } 1
      ⟨1, 0x30⟩ 0x3020 [g.pos] (by decide) (by decide)
    exact ⟨(counted _).andThen warned (by decide) (by decide), _, warned.col_eq⟩

/-- The partner's copy of an expected digest that is missing is taken where it comes in time. -/
theorem State.digestFill_fills (expected : bitsOf ((s.atPeriod g.d).get F.COL_POSITIONS) g.pos 1 = 1) (inTime : s.ns ≤ (g.d + 9) * 1000)
    (missing : s.heldDigest g.pos g.d = none) :
    s.digestFill (.answer b) = s.fillTaken g := by
  unfold State.digestFill
  simp only [read]
  exact if_neg (by simp [expected, other, missing, inTime])

end

/-- A digest that is read names one of the 16 positions. -/
theorem digestOf_pos {b : List Byte} {g : Digest} (read : digestOf b = some g) : g.pos < 16 := by
  unfold digestOf at read
  extract_lets n at read
  split at read
  · contradiction
  · rw [← Option.some.inj read]
    exact Nat.mod_lt _ (by decide)

/-! ## Digests that leave (R367, R369) -/

theorem State.digestTransmit_sends {s : State} {d : Nat} {g : Digest} (own : s.ownDigest d = some g) (sends : s.sendsDigest d = true) :
    s.digestTransmit d = s.emitRidge 0x07 .digest (.bytes "DIGEST" [d] g.bytes) := by
  unfold State.digestTransmit
  rw [own]
  exact if_pos sends

theorem State.digestFill_answers {s : State} {p d : Nat} {g : Digest} (held : s.heldDigest p d = some g) :
    s.digestFill (.request d [p]) = s.emitRidge 0x14 .partner (.bytes "DIGEST_FILL" [d, p] g.bytes) := by
  have one : s.digestFill (.request d [p]) = s.emitRidge 0x14 .partner (match s.heldDigest p d with
    | some g => .bytes "DIGEST_FILL" [d, p] g.bytes
    | none => .signal "DIGEST_ABSENT" [d, p]) := rfl
  rw [one, held]

end Sys2Proof.Machine
end

section
/-!
PROOFS about the deadline of a period and its verdicts (R370 to R378): the absences counted, the checks made, and the verdicts of the marked beams.
-/
set_option Elab.async false -- one proof after the other: checking the whole text at once takes more memory than the check allows
namespace Sys2Proof.Machine

/-! ## What the rounds of a loop leave -/

/-- What the round of one element of a loop brings about, and every round keeps, holds after it. -/
theorem forEach_brings {α : Type} (P : State → Prop) (xs : List α) (f : α → State → State) {x : α} (hx : x ∈ xs) (s : State)
    (brings : ∀ t, P (f x t)) (keeps : ∀ y t, P t → P (f y t)) : P (forEach xs f s) := by
  induction xs generalizing s with
  | nil => exact absurd hx List.not_mem_nil
  | cons y ys ih =>
    rcases List.mem_cons.mp hx with rfl | later
    · exact forEach_keeps P ys f _ (brings s) keeps
    · exact ih later (f y s)

/-- A reading that the rounds of the listed elements leave alone. -/
theorem forEach_leaves {α β : Type} (read : State → β) (xs : List α) (f : α → State → State) (s : State)
    (leaves : ∀ y ∈ xs, ∀ t, read (f y t) = read t) : read (forEach xs f s) = read s := by
  induction xs generalizing s with
  | nil => rfl
  | cons y ys ih => exact (ih (f y s) fun z hz => leaves z (List.mem_cons_of_mem y hz)).trans (leaves y List.mem_cons_self s)

/-- The rounds before one element, its own, and those after it. -/
theorem forEach_around {α : Type} (before after : List α) (x : α) (f : α → State → State) (s : State) :
    forEach (before ++ x :: after) f s = forEach after f (f x (forEach before f s)) := by
  simp only [forEach, List.foldl_append, List.foldl_cons]

/-- A reading that one element's round alone changes, in a loop that has the element once. -/
theorem forEach_once {α β : Type} (read : State → β) (h : β → β) (xs : List α) (f : α → State → State) {x : α} (hx : x ∈ xs)
    (nd : xs.Nodup) (s : State) (acts : ∀ t, read (f x t) = h (read t)) (leaves : ∀ y ∈ xs, y ≠ x → ∀ t, read (f y t) = read t) :
    read (forEach xs f s) = h (read s) := by
  obtain ⟨before, after, rfl⟩ := List.append_of_mem hx
  obtain ⟨-, fresh, apart⟩ := List.nodup_append.mp nd
  rw [forEach_around, forEach_leaves read after f _ fun y hy => leaves y (by simp [hy]) (ne_of_mem_of_not_mem hy (List.nodup_cons.mp fresh).1), acts,
    forEach_leaves read before f _ fun y hy => leaves y (by simp [hy]) (apart y hy x List.mem_cons_self)]

/-! ## Absences (R376) -/

/-- One more absence of the position, with which its episode begins. -/
def State.episodeBegun (s : State) (q : Nat) : State :=
  { s.count (F.COL_MISS_MISSED q) with col := { s.col with absent := q :: s.col.absent } }

/-- The absence of one position: counted, and warned of at the onset of its episode. -/
def State.absence (q : Nat) (s : State) : State :=
  if (s.count (F.COL_MISS_MISSED q)).col.absent.contains q then s.count (F.COL_MISS_MISSED q)
  else (s.episodeBegun q).warn ⟨1, 0x30⟩ 0x3010 [q]

/-- An absence either goes on, and is counted alone, or begins. -/
theorem State.absence_cases (s : State) (q : Nat) :
    (q ∈ s.col.absent ∧ s.absence q = s.count (F.COL_MISS_MISSED q)) ∨
    (q ∉ s.col.absent ∧ (s.count (F.COL_MISS_MISSED q)).Within (s.absence q) [.col, .err] [0x68]
      ∧ (s.absence q).col = { s.col with absent := q :: s.col.absent } ∧ (s.absence q).Raised 1 0x3010 ⟨1, 0x30⟩) := by
  by_cases on : q ∈ s.col.absent
  · exact .inl ⟨on, if_pos (List.contains_iff_mem.mpr on)⟩
  · have e : s.absence q = (s.episodeBegun q).warn ⟨1, 0x30⟩ 0x3010 [q] := if_neg fun h => on (List.contains_iff_mem.mp h)
    have warned := State.raise_low_within (s.episodeBegun q) 1 ⟨1, 0x30⟩ 0x3010 [q] (by decide) (by decide)
    have begun : (s.count (F.COL_MISS_MISSED q)).Within (s.episodeBegun q) [.col, .err] [0x68] :=
      (State.Within.refl (s.count (F.COL_MISS_MISSED q)) _ _).col _
    rw [e]
    exact .inr ⟨on, begun.andThen warned (by decide) (by decide), warned.col_eq, State.raise_low_raised _ 1 _ _ _ (by decide) (by decide)⟩

theorem State.absence_within (s : State) (q : Nat) (hq : q < 16) : s.Within (s.absence q) [.col, .err] [0x30, 0x68] := by
  have counted : s.Within (s.count (F.COL_MISS_MISSED q)) [.col, .err] [0x30, 0x68] := (State.Within.refl s _ _).count _ 1 (missWord_unit _ q hq)
  obtain ⟨-, e⟩ | ⟨-, w, -⟩ := s.absence_cases q
  · rwa [e]
  · exact counted.andThen w (by decide) (by decide)

/-- An absence changes nothing of COL but the open episodes. -/
theorem State.absence_col (s : State) (q : Nat) : ∃ l, (s.absence q).col = { s.col with absent := l } := by
  obtain ⟨-, e⟩ | ⟨-, -, e, -⟩ := s.absence_cases q
  · exact ⟨s.col.absent, by rw [e]; rfl⟩
  · exact ⟨_, e⟩

/-- Every episode goes on, and that of the position is open. -/
theorem State.mem_absence (s : State) (q r : Nat) (h : r = q ∨ r ∈ s.col.absent) : r ∈ (s.absence q).col.absent := by
  obtain ⟨on, e⟩ | ⟨-, -, e, -⟩ := s.absence_cases q
  · rw [e]
    exact h.elim (· ▸ on) id
  · rw [e]
    exact List.mem_cons.mpr h

/-- The absences of a position are counted one by one, and each position's apart. -/
theorem State.absence_get (s : State) (q r : Nat) (hr : r < 16) :
    (s.absence q).get (F.COL_MISS_MISSED r) = (s.count (F.COL_MISS_MISSED q)).get (F.COL_MISS_MISSED r) := by
  obtain ⟨-, e⟩ | ⟨-, w, -⟩ := s.absence_cases q
  · rw [e]
  · exact w.get _ (missWord_unit _ r hr)

theorem State.absence_counts (s : State) (q : Nat) (hq : q < 16) :
    (s.absence q).get (F.COL_MISS_MISSED q) = satN 65535 (s.get (F.COL_MISS_MISSED q) + 1) :=
  (s.absence_get q q hq).trans (s.get_count_same _ (by decide : 0 + 16 ≤ 32))

theorem State.absence_counts_other (s : State) {q r : Nat} (hr : r < 16) (h : q ≠ r) :
    (s.absence q).get (F.COL_MISS_MISSED r) = s.get (F.COL_MISS_MISSED r) := by
  refine (s.absence_get q r hr).trans (s.get_put_other_word _ _ _ ?_)
  show wordAddr 0x30 (0x120 + r) ≠ wordAddr 0x30 (0x120 + q)
  unfold wordAddr
  omega

/-- Where an episode has been opened, the warning waits for its release. -/
theorem State.absence_warned (s : State) (q r : Nat) (h : r ∈ s.col.absent → s.Raised 1 0x3010 ⟨1, 0x30⟩) :
    r ∈ (s.absence q).col.absent → (s.absence q).Raised 1 0x3010 ⟨1, 0x30⟩ := by
  obtain ⟨-, e⟩ | ⟨-, -, -, raised⟩ := s.absence_cases q
  · have counted : (s.count (F.COL_MISS_MISSED q)).col = s.col ∧ (s.count (F.COL_MISS_MISSED q)).err = s.err := by simp
    rw [e, counted.1]
    exact fun on => (h on).congr counted.2
  · exact fun _ => raised

/-- The period whose absences are counted is noted. -/
def State.absencesNoted (s : State) (d : Nat) : State := s.setCol { s.col with countedFor := some d } s.out

theorem State.lt_of_mem_missingDigests {s : State} {d q : Nat} (h : q ∈ s.missingDigests d) : q < 16 := List.mem_range.mp (List.mem_filter.mp h).1

theorem State.missingDigests_nodup (s : State) (d : Nat) : (s.missingDigests d).Nodup := List.nodup_range.filter _

/-- The absences of a period are counted where they have not been, on a device that builds digests. -/
theorem State.countAbsences_eq (s : State) (d : Nat) :
    s.countAbsences d = if s.col.countedFor == some d || !s.buildsDigest (s.atPeriod d) then s
      else forEach (s.missingDigests d) State.absence (s.absencesNoted d) := by
  have same : (s.absencesNoted d).missingDigests d = s.missingDigests d := s.missingDigests_setCol d _ _ rfl rfl rfl
  rw [← same]
  rfl

theorem State.countAbsences_within (s : State) (d : Nat) : s.Within (s.countAbsences d) [.col, .err] [0x30, 0x68] := by
  have noted : s.Within (s.absencesNoted d) [.col, .err] [0x30, 0x68] := (State.Within.refl s _ _).col { s.col with countedFor := some d }
  rw [s.countAbsences_eq d]
  exact .ite (fun _ => .refl s _ _) fun _ => noted.forEach _ _ fun q hq t h => h.trans (t.absence_within q (State.lt_of_mem_missingDigests hq))

/-- Counting absences changes nothing of COL but the period counted and the open episodes. -/
theorem State.countAbsences_col (s : State) (d : Nat) : ∃ k l, (s.countAbsences d).col = { s.col with countedFor := k, absent := l } := by
  rw [s.countAbsences_eq d]
  split
  · exact ⟨s.col.countedFor, s.col.absent, rfl⟩
  · have noted : ∃ l, (s.absencesNoted d).col = { s.col with countedFor := some d, absent := l } := ⟨s.col.absent, rfl⟩
    exact ⟨some d, forEach_keeps (fun t => ∃ l, t.col = { s.col with countedFor := some d, absent := l }) _ _ _ noted fun q t ⟨_, e⟩ => by
      obtain ⟨l, e'⟩ := t.absence_col q
      exact ⟨l, by rw [e', e]⟩⟩

theorem State.countAbsences_own (s : State) (d k : Nat) : (s.countAbsences d).ownDigest k = s.ownDigest k := by
  obtain ⟨_, _, e⟩ := s.countAbsences_col d
  rw [State.ownDigest, e, State.ownDigest]

theorem State.countAbsences_checked (s : State) (d : Nat) : (s.countAbsences d).col.checked = s.col.checked := by
  obtain ⟨_, _, e⟩ := s.countAbsences_col d
  rw [e]

section

variable {s : State} {d : Nat} (builds : s.buildsDigest (s.atPeriod d) = true) (new : s.col.countedFor ≠ some d)

include builds new

theorem State.countAbsences_due : s.countAbsences d = forEach (s.missingDigests d) State.absence (s.absencesNoted d) := by
  rw [s.countAbsences_eq d, if_neg (by simp [builds, new])]

theorem State.countAbsences_counted : (s.countAbsences d).col.countedFor = some d := by
  rw [State.countAbsences_due builds new]
  exact forEach_keeps (fun t => t.col.countedFor = some d) _ _ _ rfl fun q t h => by
    obtain ⟨l, e⟩ := t.absence_col q
    rw [e]
    exact h

/-- Every missing position is in an open episode, and one more absence of it counted. -/
theorem State.countAbsences_missing {q : Nat} (hq : q ∈ s.missingDigests d) :
    q ∈ (s.countAbsences d).col.absent
      ∧ (s.countAbsences d).get (F.COL_MISS_MISSED q) = satN 65535 (s.get (F.COL_MISS_MISSED q) + 1) := by
  have lt := State.lt_of_mem_missingDigests hq
  rw [State.countAbsences_due builds new]
  constructor
  · exact forEach_brings (fun t => q ∈ t.col.absent) _ State.absence hq _ (fun t => t.mem_absence q q (.inl rfl))
      fun r t h => t.mem_absence r q (.inr h)
  · exact forEach_once (fun t => t.get (F.COL_MISS_MISSED q)) (fun n => satN 65535 (n + 1)) _ State.absence hq (s.missingDigests_nodup d) _
      (fun t => t.absence_counts q lt) fun r _ other t => t.absence_counts_other lt other

/-- A position that becomes absent is warned of. -/
theorem State.countAbsences_warns {q : Nat} (hq : q ∈ s.missingDigests d) (onset : q ∉ s.col.absent) :
    (s.countAbsences d).Raised 1 0x3010 ⟨1, 0x30⟩ := by
  have absent := (State.countAbsences_missing builds new hq).1
  rw [State.countAbsences_due builds new] at absent ⊢
  exact forEach_keeps (fun t => q ∈ t.col.absent → t.Raised 1 0x3010 ⟨1, 0x30⟩) _ State.absence (s.absencesNoted d)
    (fun on => absurd on onset) (fun r t h => t.absence_warned r q h) absent

end

/-! ## The checks of a period (R383) -/

theorem State.pairChecks_within (s : State) (d : Nat) : s.Within (s.pairChecks d) [.col] [] := by
  unfold State.pairChecks
  extract_lets w
  split
  · exact .refl s _ _
  · exact (State.Within.refl s _ _).col _

theorem State.pairChecks_checked {s : State} {d : Nat} {g : Digest} (own : s.ownDigest d = some g) :
    (s.pairChecks d).col.checked.map (fun x => x.1) = some d := by
  unfold State.pairChecks
  extract_lets w
  rw [own]
  rfl

end Sys2Proof.Machine
end

section
/-!
PROOFS about the verdicts of a period (R373 to R378): what one channel's round leaves, and that the verdict of every marked beam is kept.
-/
set_option Elab.async false -- one proof after the other: checking the whole text at once takes more memory than the check allows
namespace Sys2Proof.Machine

/-! ## What a channel's verdict touches -/

/-- From `a` to `b` nothing changes but SEQ, COL's part, and the first six words of COL's blocks of the channels. -/
structure State.InColBlocks (a b : State) : Prop where
  within : a.Within b [.col, .seq] [0x30]
  beyond : ∀ f : Fld, 6 ≤ f.addr % 1024 → b.get f = a.get f

namespace State.InColBlocks

variable {a b : State}

theorem refl (a : State) : a.InColBlocks a := ⟨.refl a _ _, fun _ _ => rfl⟩

theorem trans {c : State} (h : a.InColBlocks b) (h' : b.InColBlocks c) : a.InColBlocks c :=
  ⟨h.within.trans h'.within, fun f hf => (h'.beyond f hf).trans (h.beyond f hf)⟩

theorem put (h : a.InColBlocks b) {c i : Nat} (hc : c < 64) (hi : i < 6) (lo width v : Nat) :
    a.InColBlocks (b.put ⟨chanAddr 0x30 c i, lo, width⟩ v) where
  within := h.within.put _ v (inUnits_chanAddr _ 0x30 c i hc (by omega))
  beyond f hf := by
    refine (b.get_put_other_word _ f v ?_).trans (h.beyond f hf)
    show f.addr ≠ chanAddr 0x30 c i
    unfold chanAddr
    omega

theorem col (h : a.InColBlocks b) (x : ColSt) : a.InColBlocks { b with col := x } := ⟨h.within.col x, h.beyond⟩

theorem setSq (h : a.InColBlocks b) (c : Nat) (x : SeqCh) : a.InColBlocks (b.setSq c x) := ⟨h.within.seq _, h.beyond⟩

end State.InColBlocks

/-- A lost window defers its channel and shows so in the channel's words of COL (R375, R386). -/
theorem State.loseWindow_inColBlocks (s : State) (w : Nat) (e : ColEntry) (kind rival : Nat) (hc : e.ch < 64) :
    s.InColBlocks (s.loseWindow w e kind rival) := by
  unfold State.loseWindow
  extract_lets c j x add deferred shown rivalShown counted placed
  have hdeferred : s.InColBlocks deferred := (State.InColBlocks.refl s).setSq c _
  have hshown : s.InColBlocks shown :=
    (((hdeferred.put hc (by decide) _ _ _).put hc (by decide) _ _ _).put hc (by decide) _ _ _).put hc (by decide) _ _ _
  have hrival : s.InColBlocks rivalShown := by
    unfold rivalShown
    split
    · exact hshown.put hc (by decide) _ _ _
    · exact hshown
  have hcounted : s.InColBlocks counted := by
    unfold counted
    split
    · exact hrival.put hc (by decide) _ _ _
    · exact hrival
  exact ((hcounted.put hc (by decide) _ _ _).put hc (by decide) _ _ _).col _

theorem State.loseWindow_verdicts (s : State) (w : Nat) (e : ColEntry) (kind rival : Nat) :
    (s.loseWindow w e kind rival).col.verdicts = s.col.verdicts := by
  unfold State.loseWindow
  extract_lets c j x add deferred shown rivalShown counted placed
  have hrival : rivalShown.col = s.col := by
    unfold rivalShown
    split <;> simp [shown, deferred]
  have hcounted : counted.col = s.col := by
    unfold counted
    split <;> simp [hrival]
  show placed.col.verdicts = s.col.verdicts
  simp [placed, hcounted]

/-! ## One channel's verdict -/

/-- What the checks found for a channel; without checks its window is lost to the overrun. -/
def findingOf (res : Option (List Finding)) (c : Nat) : Finding :=
  match res with
  | some l => (l.find? (fun (x : Finding) => x.ch == c)).getD { ch := c }
  | none => { ch := c, kind := 5 }

/-- The kind of a beam's loss, 0 for none: the finding's, and else the substitute's for a partner that is gone. -/
def lossKind (res : Option (List Finding)) (subst : ColEntry → Bool) (e : ColEntry) (c : Nat) : Nat :=
  if (findingOf res c).kind ≠ 0 then (findingOf res c).kind else if subst e then 4 else 0

/-- The channel's run of losses ends. -/
def State.lossesEnded (s : State) (c : Nat) : State :=
  { s with col := { s.col with loseRun := tabPut 0 s.col.loseRun c 0, warned := s.col.warned.filter (fun x => x != c) } }

/-- The channel's window is not lost. -/
def State.windowWon (s : State) (c : Nat) : State :=
  { s.put (F.COL_C_STAT_LAST_LOSE c) 0 with col := (s.lossesEnded c).col }

theorem State.windowWon_verdicts (s : State) (c : Nat) : (s.windowWon c).col.verdicts = s.col.verdicts := rfl

/-- A verdict joins those of the latest windows. -/
def State.verdictKept (s : State) (v : WindowVerdict) : State :=
  { s with col := { s.col with verdicts := (v :: s.col.verdicts).take 512 } }

/-- A beam's verdict is fixed: its wins are counted, and the verdict is kept. -/
def State.verdictGiven (s : State) (w c kind wins : Nat) : State :=
  (s.count (F.COL_WINS c) wins).verdictKept ⟨w, c, kind != 0⟩

/-- The round of one channel in VERDICT_FIX. -/
def State.beamVerdict (marked : List ColEntry) (res : Option (List Finding)) (subst : ColEntry → Bool) (w c : Nat) (s : State) : State :=
  match marked.find? (fun e => e.ch == c) with
  | none => s.lossesEnded c
  | some e =>
    if lossKind res subst e c = 0 then (s.verdictGiven w c (lossKind res subst e c) (findingOf res c).wins).windowWon c
    else (s.verdictGiven w c (lossKind res subst e c) (findingOf res c).wins).loseWindow w e (lossKind res subst e c) (findingOf res c).rival

section

variable (marked : List ColEntry) (res : Option (List Finding)) (subst : ColEntry → Bool) (w : Nat)

theorem State.beamVerdict_inColBlocks (s : State) (c : Nat) (hc : c < 64) : s.InColBlocks (s.beamVerdict marked res subst w c) := by
  unfold State.beamVerdict
  split
  · exact (State.InColBlocks.refl s).col _
  next e found =>
    have ch : e.ch = c := by simpa using List.find?_some found
    have kept : s.InColBlocks (s.verdictGiven w c (lossKind res subst e c) (findingOf res c).wins) :=
      ((State.InColBlocks.refl s).put hc (by decide) _ _ _).col _
    split
    · exact (kept.put hc (by decide) _ _ _).col _
    · exact kept.trans (State.loseWindow_inColBlocks _ w e _ _ (ch ▸ hc))

/-- A channel's round adds the verdict of its marked beam, where it has one. -/
theorem State.beamVerdict_verdicts (s : State) (c : Nat) : (s.beamVerdict marked res subst w c).col.verdicts =
    match marked.find? (fun e => e.ch == c) with
    | none => s.col.verdicts
    | some e => (⟨w, c, lossKind res subst e c != 0⟩ :: s.col.verdicts).take 512 := by
  have given : ∀ kind wins, (s.verdictGiven w c kind wins).col.verdicts = (⟨w, c, kind != 0⟩ :: s.col.verdicts).take 512 := by
    simp [State.verdictGiven, State.verdictKept]
  unfold State.beamVerdict
  split
  · rfl
  · split
    · exact (State.windowWon_verdicts _ _).trans (given _ _)
    · exact (State.loseWindow_verdicts _ _ _ _ _).trans (given _ _)

/-- A verdict among the `k` newest is among the `k + 1` newest after another channel's round. -/
theorem State.beamVerdict_keeps (s : State) (c k : Nat) (hk : k < 512) (p : WindowVerdict → Bool) (h : (s.col.verdicts.take k).any p = true) :
    ((s.beamVerdict marked res subst w c).col.verdicts.take (k + 1)).any p = true := by
  obtain ⟨v, hv, hp⟩ := List.any_eq_true.mp h
  refine List.any_eq_true.mpr ⟨v, ?_, hp⟩
  rw [State.beamVerdict_verdicts]
  split
  · exact List.take_subset_take_left _ (Nat.le_succ k) hv
  · rw [List.take_take, Nat.min_eq_left (by omega), List.take_succ_cons]
    exact List.mem_cons_of_mem _ hv

/-- A verdict outlasts as many rounds as the verdicts kept have room for. -/
theorem State.forEach_beamVerdict_keeps (s : State) (l : List Nat) (k : Nat) (hk : k + l.length ≤ 512) (p : WindowVerdict → Bool)
    (h : (s.col.verdicts.take k).any p = true) :
    ((forEach l (State.beamVerdict marked res subst w) s).col.verdicts.take (k + l.length)).any p = true := by
  induction l generalizing s k with
  | nil => exact h
  | cons c l ih =>
    simp only [List.length_cons] at hk ⊢
    have one := s.beamVerdict_keeps marked res subst w c k (by omega) p h
    have rest := ih (s.beamVerdict marked res subst w c) (k + 1) (by omega) one
    rwa [Nat.add_assoc, Nat.add_comm 1] at rest

/-- The rounds of all channels leave the verdict of every marked beam. -/
theorem State.forEach_beamVerdict_has (s : State) (c : Nat) (hc : c < 64) (beam : ∃ e ∈ marked, e.ch = c) (p : WindowVerdict → Bool)
    (hp : ∀ e, p ⟨w, c, lossKind res subst e c != 0⟩ = true) :
    (forEach (List.range 64) (State.beamVerdict marked res subst w) s).col.verdicts.any p = true := by
  obtain ⟨before, after, all⟩ := List.append_of_mem (List.mem_range.mpr hc)
  have few : before.length + (after.length + 1) = 64 := by
    have := congrArg List.length all
    simpa using this.symm
  generalize ht : forEach before (State.beamVerdict marked res subst w) s = t
  have run : forEach (List.range 64) (State.beamVerdict marked res subst w) s
      = forEach after (State.beamVerdict marked res subst w) (t.beamVerdict marked res subst w c) := by
    rw [all, forEach_around, ht]
  have newest : ((t.beamVerdict marked res subst w c).col.verdicts.take 1).any p = true := by
    rw [State.beamVerdict_verdicts]
    split
    next unmarked =>
      obtain ⟨e, he, ch⟩ := beam
      exact absurd (List.find?_eq_none.mp unmarked e he) (by simp [ch])
    next e _ => simp [hp e]
  have kept := State.forEach_beamVerdict_keeps marked res subst w _ after 1 (by omega) p newest
  obtain ⟨v, hv, pv⟩ := List.any_eq_true.mp kept
  rw [run]
  exact List.any_eq_true.mpr ⟨v, List.mem_of_mem_take hv, pv⟩

theorem State.forEach_beamVerdict_inColBlocks (s : State) (l : List Nat) (hl : ∀ c ∈ l, c < 64) :
    s.InColBlocks (forEach l (State.beamVerdict marked res subst w) s) := by
  induction l generalizing s with
  | nil => exact .refl s
  | cons c l ih =>
    exact (s.beamVerdict_inColBlocks marked res subst w c (hl c List.mem_cons_self)).trans (ih _ fun d hd => hl d (List.mem_cons_of_mem c hd))

end

/-! ## VERDICT_FIX -/

/-- The beams of a digest that are marked in the window. -/
def Digest.marked (g : Digest) : List ColEntry := g.entries.filter (fun e => e.mark != 0)

/-- What the checks of the period have found, where they have been made. -/
def State.findingsFor (s : State) (d : Nat) : Option (List Finding) :=
  match s.col.checked with
  | some (k, l) => if k = d then some l else none
  | none => none

/-- The beam meets a zone, as the words `f` give it, that this device shares with a position whose digest of the period is missing (R376). -/
def State.meetsMissing (s f : State) (d : Nat) (e : ColEntry) : Bool :=
  (s.missingDigests d).any (fun q =>
    f.zones.any (fun z => bitsOf z.mask q 1 == 1 && bitsOf z.mask s.position 1 == 1 && z.meets (f.get F.COL_CFG_GUARD) e))

/-- The verdicts of all channels have been fixed, and the checks are used up. -/
def State.verdictsFixed (s f : State) (d : Nat) (g : Digest) (res : Option (List Finding)) : State :=
  let t := forEach (List.range 64) (State.beamVerdict g.marked res (s.meetsMissing f d) ((d + 50) / 10)) s
  { t with col := { t.col with checked := none } }

/-- The period whose checks are complete is shown, with what they found (R384, R386). -/
def State.checksShown (s : State) (d : Nat) : State :=
  ((s.put64 F.COL_CHK_LO F.COL_CHK_HI d).put F.COL_CHK_PAIRS s.col.counted.1).put F.COL_CHK_CONFLICTS s.col.counted.2

section

variable {s : State} {d : Nat} {g : Digest} (own : s.ownDigest d = some g) (enabled : (s.atPeriod d).has F.COL_CFG_ENABLE = true)

include own enabled

/-- The verdicts of an own digest are fixed once the absences are counted, and the checks shown or found to be missing. -/
theorem State.verdictFix_own : s.verdictFix d =
    (if ((s.countAbsences d).findingsFor d).isNone then (s.countAbsences d).devErr 0x30E0 else (s.countAbsences d).checksShown d).verdictsFixed
      (s.atPeriod d) d g ((s.countAbsences d).findingsFor d) := by
  unfold State.verdictFix
  rw [own]
  exact if_neg (by simp [enabled])

/-- With the checks made, the period is shown and its verdicts are fixed on what they found. -/
theorem State.verdictFix_checked {l : List Finding} (checked : s.col.checked = some (d, l)) :
    s.verdictFix d = ((s.countAbsences d).checksShown d).verdictsFixed (s.atPeriod d) d g (some l) := by
  have found : (s.countAbsences d).findingsFor d = some l := by
    rw [State.findingsFor, s.countAbsences_checked d, checked]
    exact if_pos rfl
  rw [State.verdictFix_own own enabled, found]
  rfl

/-- Without checks the error is raised, and every verdict is lost to the overrun. -/
theorem State.verdictFix_unchecked (unchecked : s.col.checked = none) :
    s.verdictFix d = ((s.countAbsences d).devErr 0x30E0).verdictsFixed (s.atPeriod d) d g none := by
  have found : (s.countAbsences d).findingsFor d = none := by rw [State.findingsFor, s.countAbsences_checked d, unchecked]
  rw [State.verdictFix_own own enabled, found]
  rfl

end

theorem State.checksShown_within (s : State) (d : Nat) : s.Within (s.checksShown d) [] [0x30] :=
  ((((State.Within.refl s _ _).put _ _).put _ _).put _ _).put _ _

theorem State.checksShown_period (s : State) (d : Nat) : (s.checksShown d).get64 F.COL_CHK_LO F.COL_CHK_HI = d % 2 ^ 64 := by
  have shown : ∀ f ∈ [F.COL_CHK_LO, F.COL_CHK_HI], (s.checksShown d).get f = (s.put64 F.COL_CHK_LO F.COL_CHK_HI d).get f := fun f hf => by
    unfold State.checksShown
    simp only [List.mem_cons, List.not_mem_nil, or_false] at hf
    rcases hf with rfl | rfl
    all_goals rw [State.get_put_other_word _ _ _ _ (by decide), State.get_put_other_word _ _ _ _ (by decide)]
  rw [State.get64, shown _ (by simp), shown _ (by simp), ← State.get64]
  exact s.get64_put64_same _ _ d (by decide)

section

variable (s f : State) (d : Nat) (g : Digest) (res : Option (List Finding))

theorem State.verdictsFixed_inColBlocks : s.InColBlocks (s.verdictsFixed f d g res) :=
  (s.forEach_beamVerdict_inColBlocks _ _ _ _ _ fun _ => List.mem_range.mp).col _

theorem State.verdictsFixed_checked : (s.verdictsFixed f d g res).col.checked = none := rfl

/-- Every marked beam has its verdict. -/
theorem State.verdictsFixed_has (c : Fin 64) (beam : g.entries.any (fun e => e.mark != 0 && e.ch == c) = true) (p : WindowVerdict → Bool)
    (hp : ∀ e, p ⟨(d + 50) / 10, c, lossKind res (s.meetsMissing f d) e c != 0⟩ = true) :
    (s.verdictsFixed f d g res).col.verdicts.any p = true := by
  obtain ⟨e, he, marks⟩ := List.any_eq_true.mp beam
  obtain ⟨mark, ch⟩ := Bool.and_eq_true_iff.mp marks
  exact s.forEach_beamVerdict_has _ res _ _ c c.isLt ⟨e, List.mem_filter.mpr ⟨he, mark⟩, by simpa using ch⟩ p hp

end

end Sys2Proof.Machine
end

section
/-!
PROOFS about what COL tells the host (R382, R384): the warning of a run of losses and the digest that is read; and the statement about digests.
-/
set_option Elab.async false -- one proof after the other: checking the whole text at once takes more memory than the check allows
namespace Sys2Proof.Machine

/-- A run of losses that has reached its limit is warned of once. -/
theorem State.yieldWarn_warns {s : State} {c : Nat} (hc : c < 64) (on : s.get F.COL_CFG_YIELD_WARN ≠ 0)
    (reached : s.get F.COL_CFG_YIELD_WARN ≤ tabGet 0 s.col.loseRun c) (first : s.col.warned.contains c = false) :
    s.Within (s.yieldWarn c) [.col, .err] [0x68] ∧ (s.yieldWarn c).col.warned = c :: s.col.warned
      ∧ (s.yieldWarn c).Raised 1 0x3011 ⟨2, c⟩ := by
  have fresh : c ∉ s.col.warned := by simpa using first
  have e : s.yieldWarn c = { s with col := { s.col with warned := c :: s.col.warned } }.warn ⟨2, c⟩ 0x3011 [s.get (F.COL_C_STAT_LAST_RIVAL c)] :=
    if_neg (by simp [on, Nat.not_lt.mpr reached, fresh])
  have warned := State.raise_low_within { s with col := { s.col with warned := c :: s.col.warned } } 1 ⟨2, c⟩ 0x3011
    [s.get (F.COL_C_STAT_LAST_RIVAL c)] (by decide) (by decide) (openAddr_chan c hc)
  have noted : s.Within { s with col := { s.col with warned := c :: s.col.warned } } [.col, .err] [0x68] := (State.Within.refl _ _ _).col _
  rw [e]
  exact ⟨noted.andThen warned (by decide) (by decide), congrArg ColSt.warned warned.col_eq,
    State.raise_low_raised _ 1 _ _ _ (by decide) (by decide)⟩

/-- The results of COL_READ: the latest checked period, and its digest of the position where that is held. -/
def colReadWords (d : Nat) : Option Digest → List Word
  | none => lowHigh d ++ [0]
  | some g => lowHigh d ++ [word (1 + (if g.filled then 2 else 0))] ++ wordsOfBytes g.bytes

theorem opColRead_done {p : InFlight} {s : State} (target : p.target.toNat < 16) (body : p.body = []) :
    opColRead p s = (s, .done (colReadWords (s.get64 F.COL_CHK_LO F.COL_CHK_HI)
      (s.heldDigest p.target.toNat (s.get64 F.COL_CHK_LO F.COL_CHK_HI)))) := by
  unfold opColRead
  rw [if_neg (by simp [body]), if_neg (Nat.not_le.mpr target)]
  dsimp only
  split <;> simp [colReadWords, *]

/-- COL_READ is done at once, and leaves COL. -/
theorem State.Serves.runs_colRead {s : State} {p : Pkt} (hs : s.Serves p.path p.tag) (target : p.target.toNat < 16) (body : p.body = []) :
    Runs (.colRead p) s (fun u => u.col = s.col ∧ u.Returned p.path p.tag (colReadWords (s.get64 F.COL_CHK_LO F.COL_CHK_HI)
      (s.heldDigest p.target.toNat (s.get64 F.COL_CHK_LO F.COL_CHK_HI)))) := by
  refine hs.runs_done rfl (by decide) (opColRead_done (p := s.begin.begun 0x60 p) target body) rfl rfl fun u ends => ⟨?_, ?_⟩
  · exact ends.col.trans ((s.begin.entered 0x60 p).answer_within (s.begin.begun 0x60 p) 0 0 _ hs.host rfl).col_eq
  · exact ends.returned (State.answer_returned _ (s.begin.begun 0x60 p) _ hs.host rfl)

/-! ## The statement -/

/-- Settles O25: what each body leaves, by the lemma of its operation. -/
theorem digestsDecideTheYields : Obligations.DigestsDecideTheYields := by
  unfold Obligations.DigestsDecideTheYields
  refine ⟨fun s a d g ha own sends => ?sent, fun s a m g ha read expected other period inTime begun first builds mine => ?received,
    fun s a m g ha read outside other mine => ?outside, fun s a m bytes g ha read expected other inTime missing mine => ?filled,
    fun s a m d p g ha held mine => ?asked, fun s a d ha alone builds new => ?absent, fun s a d g ha own => ?checks,
    fun s a d g l ha own checked enabled => ?verdicts, fun s a d g ha own unchecked enabled => ?overrun,
    fun s c up on reached first => ?run, fun s p hs target body unheld => ?unread, fun s p g hs held target body => ?read⟩
  case sent =>
    have w := a.emitRidge_within 0x07 .digest (.bytes "DIGEST" [d] g.bytes)
    have body := State.digestTransmit_sends own sends
    exact ha.runs_to (fun s => s.digestTransmit d) rfl (body ▸ w) body fun u ends =>
      ⟨ends.out _ (State.emitRidge_mem _ _ _ _), ends.col.trans w.col_eq⟩
  case received =>
    obtain ⟨o, row⟩ := State.ridgeIn_takes (fun s => s.digestRx m.payload) mine (by decide)
    have up : a.dev ≠ 0 := by
      simp only [State.buildsDigest, Bool.and_eq_true, bne_iff_ne] at builds
      exact builds.1.1.2
    have body : a.ridgeIn 0x07 m (fun s => s.digestRx m.payload) = (a.setCol a.col o).acceptDigest g :=
      row.trans (State.digestRx_accepts read other (by rw [a.atPeriod_setCol g.d _ o rfl]; exact expected) period inTime begun first up)
    have w := (a.setCol_within o _ _).trans (State.acceptDigest_within _ g)
    refine ha.runs_to (fun s => s.ridgeIn 0x07 m (fun s => s.digestRx m.payload)) rfl (body ▸ w) body fun u ends => ⟨?_, ?_⟩
    · exact (ends.heldDigest _ _).trans (State.acceptDigest_held _ g other)
    · rw [ends.col]
      rfl
  case outside =>
    obtain ⟨o, row⟩ := State.ridgeIn_takes (fun s => s.digestRx m.payload) mine (by decide)
    obtain ⟨rx, x, col⟩ := State.digestRx_outside (s := a.setCol a.col o) read other (by rw [a.atPeriod_setCol g.d _ o rfl]; exact outside)
    have w := (a.setCol_within o _ _).trans rx
    refine ha.runs_to (fun s => s.ridgeIn 0x07 m (fun s => s.digestRx m.payload)) rfl (row ▸ w) row fun u ends => ?_
    refine ⟨?_, ?_, ends.ledger.trans w.ledger_eq⟩
    · rw [ends.col, col]
      rfl
    · rw [ends.col, col]
      rfl
  case filled =>
    obtain ⟨o, row⟩ := State.ridgeIn_takes (fun s => s.digestFill (.answer bytes)) mine (by decide)
    have lt := digestOf_pos read
    have body : a.ridgeIn 0x14 m (fun s => s.digestFill (.answer bytes)) = (a.setCol a.col o).fillTaken g :=
      row.trans (State.digestFill_fills read other (by rw [a.atPeriod_setCol g.d _ o rfl]; exact expected) inTime missing)
    have w := (a.setCol_within o _ _).trans (State.fillTaken_within _ g lt)
    refine ha.runs_to (fun s => s.ridgeIn 0x14 m (fun s => s.digestFill (.answer bytes))) rfl (body ▸ w) body fun u ends => ⟨?_, ?_⟩
    · exact (ends.heldDigest _ _).trans (State.fillTaken_held _ g lt other)
    · exact (ends.get _).trans (State.fillTaken_counts _ g)
  case asked =>
    obtain ⟨o, row⟩ := State.ridgeIn_takes (fun s => s.digestFill (.request d [p])) mine (by decide)
    have body := row.trans (State.digestFill_answers (s := a.setCol a.col o) held)
    have w := (a.setCol_within o _ _).trans ((a.setCol a.col o).emitRidge_within 0x14 .partner (.bytes "DIGEST_FILL" [d, p] g.bytes))
    exact ha.runs_to (fun s => s.ridgeIn 0x14 m (fun s => s.digestFill (.request d [p]))) rfl (body ▸ w) body fun u ends =>
      ⟨ends.out _ (State.emitRidge_mem _ _ _ _), ends.col.trans w.col_eq⟩
  case absent =>
    have body : a.digestDeadline d = a.countAbsences d := if_neg (by simp [alone])
    refine ha.runs_to (fun s => s.digestDeadline d) rfl (body ▸ a.countAbsences_within d) body fun u ends =>
      ⟨?_, fun q hq => ?_, fun q hq onset => ?_⟩
    · rw [ends.col, State.countAbsences_counted builds new]
    · rw [ends.col, ends.get]
      exact State.countAbsences_missing builds new hq
    · exact ends.raised (State.countAbsences_warns builds new hq onset)
  case checks =>
    have w : a.Within (a.checksStart d) [.col, .err] [0x30, 0x68] :=
      (a.countAbsences_within d).andThen (State.pairChecks_within _ d) (by decide) (by decide)
    refine ha.runs_to (fun s => s.checksStart d) rfl w rfl fun u ends => ?_
    rw [ends.col]
    exact State.pairChecks_checked ((a.countAbsences_own d d).trans own)
  case verdicts =>
    have body := State.verdictFix_checked own enabled checked
    have fixed := ((a.countAbsences d).checksShown d).verdictsFixed_inColBlocks (a.atPeriod d) d g (some l)
    have shown : a.Within ((a.countAbsences d).checksShown d) [.col, .seq, .err] [0x30, 0x68] :=
      ((a.countAbsences_within d).mono (by decide) (by decide)).andThen (State.checksShown_within _ d) (by decide) (by decide)
    have w := shown.andThen fixed.within (by decide) (by decide)
    refine ha.runs_to (fun s => s.verdictFix d) rfl (body ▸ w) body fun u ends => ⟨?_, ?_, fun c beam => ?_⟩
    · rw [State.get64, ends.get, ends.get, fixed.beyond _ (by decide), fixed.beyond _ (by decide), ← State.get64, State.checksShown_period]
    · rw [ends.col, State.verdictsFixed_checked]
    · rw [ends.col]
      exact State.verdictsFixed_has _ _ d g _ c beam _ fun e => by simp
  case overrun =>
    have body := State.verdictFix_unchecked own enabled unchecked
    have fixed := ((a.countAbsences d).devErr 0x30E0).verdictsFixed_inColBlocks (a.atPeriod d) d g none
    have raised : a.Within ((a.countAbsences d).devErr 0x30E0) [.col, .seq, .err, .sys] [0x30, 0x68] :=
      ((a.countAbsences_within d).mono (by decide) (by decide)).andThen (State.devErr_within _ 0x30E0 []) (by decide) (by decide)
    have w := raised.andThen fixed.within (by decide) (by decide)
    refine ha.runs_to (fun s => s.verdictFix d) rfl (body ▸ w) body fun u ends => ⟨ends.raised ?_, fun c beam => ?_⟩
    · exact (State.devErr_raised _ 0x30E0 []).congr fixed.within.err_eq
    · rw [ends.col]
      exact State.verdictsFixed_has _ _ d g _ c beam _ fun e => by simp [lossKind, findingOf]
  case run =>
    obtain ⟨w, warned, raised⟩ := State.yieldWarn_warns (s := s.begin) c.isLt on reached first
    exact s.runs_now_to (fun s => s.yieldWarn c) rfl up w rfl fun u ends => ⟨(congrArg ColSt.warned ends.col).trans warned, ends.raised raised⟩
  case unread =>
    have done := hs.runs_colRead target body
    rw [unheld] at done
    exact done
  case read =>
    have done := hs.runs_colRead target body
    rw [held] at done
    exact done

end Sys2Proof.Machine
end

section
/-!
PROOFS that the commands of the machine axes leave the rest alone (R426 to R459): the axis packets, and what is seen on the feedback lines.
-/
set_option Elab.async false -- one proof after the other: checking the whole text at once takes more memory than the check allows
namespace Sys2Proof.Machine

/-! ## AXIS beside the rest of the state -/

namespace State.Within

variable {a b : State} {ps : List Part} {us : List Nat}

theorem axis (h : a.Within b ps us) (x : AxisSt) (hq : .axis ∈ ps := by decide) : a.Within { b with axis := x } ps us :=
  h.part .axis hq rfl rfl fun p hp => by cases p <;> simp_all [Part.same, Part.sameHost, Part.sameFrame]

theorem setFb (h : a.Within b ps us) (n : Nat) (x : FbkCh) (hq : .axis ∈ ps := by decide) : a.Within (b.setFb n x) ps us := h.axis _ hq

theorem setMx (h : a.Within b ps us) (n : Nat) (x : MaAxis) (hq : .axis ∈ ps := by decide) : a.Within (b.setMx n x) ps us := h.axis _ hq

end State.Within

/-- A word of FBK's table for one axis. -/
theorem fbkWord_unit {n w : Nat} (hn : n < 16) (hw : w < 0x20 := by decide) : inUnits [0x39, 0x68] (wordAddr 0x39 (w + 0x20 * n)) = true :=
  inUnits_wordAddr _ 0x39 (w + 0x20 * n) (by omega)

/-- A word of AXIS's table for one axis. -/
theorem axisWord_unit {n w : Nat} (hn : n < 16) (hw : w < 0x1000 := by decide) : inUnits [0x38, 0x68] (wordAddr 0x38 (w + 0x40 * n)) = true :=
  inUnits_wordAddr _ 0x38 (w + 0x40 * n) (by omega)

/-! ## The records that an axis raises -/

/-- A CHANNEL error with the fault mark of a subject that is no scan channel is its entry (R577). -/
theorem State.raise_fault_within (s : State) (x : Subject) (d : Nat) (args : List Int) (kind : x.kind ≠ 2)
    (hx : inUnits [0x68] x.openAddr = true) : s.Within (s.raise 2 true x d args) [.err] [0x68] := by
  unfold State.raise
  extract_lets entered
  rw [if_neg (by decide), if_neg (by decide), if_neg fun h => kind h.2.2]
  exact s.enterRecord_within _ hx

/-- An occurrence of an event keeps its episode open, and raises it at the onset. -/
theorem State.episode_within (s : State) (cls : Nat) (x : Subject) (d : Nat) (args : List Int) (h4 : cls ≠ 4) (h5 : cls ≠ 5)
    (hx : inUnits [0x68] x.openAddr = true) : s.Within (s.episode cls x d args) [.err] [0x68] := by
  unfold State.episode
  extract_lets fresh e _ noted
  have h : s.Within noted [.err] [0x68] := (State.Within.refl s _ _).err _
  exact .ite (fun _ => h.trans (noted.raise_low_within cls x d args h4 h5 hx)) fun _ => h

/-! ## Feedback lines (R430 to R442) -/

theorem State.homeEdgeAt_within (s : State) (n : Nat) (level : Bool) : s.Within (s.homeEdgeAt n level) [.axis, .err] [0x39, 0x68] :=
  (State.Within.refl s _ _).setFb _ _

section

variable (s : State) {n : Nat} (hn : n < 16)

include hn

/-- A WARN event of an axis, once per episode. -/
theorem State.axisWarn_within (d : Nat) (args : List Int) : s.Within (s.episode 1 (axisSubject n) d args) [.axis, .err] [0x39, 0x68] :=
  (s.episode_within 1 _ d args (by decide) (by decide) (openAddr_axis n hn)).mono (by decide) (by decide)

theorem State.addPos_within (d : Int) : s.Within (s.addPos n d) [.axis, .err] [0x39, 0x68] :=
  (State.Within.refl s _ _).putI _ _ (fbkWord_unit hn)

theorem State.showLevels_within : s.Within (s.showLevels n) [.axis, .err] [0x39, 0x68] :=
  (State.Within.refl s _ _).put _ _ (fbkWord_unit hn)

/-- A counted edge moves the counter and its speed. -/
theorem State.countEdge_within (d : Int) : s.Within (s.countEdge n d) [.axis, .err] [0x39, 0x68] := by
  unfold State.countEdge
  extract_lets d' x period moved timed
  have h : s.Within timed [.axis, .err] [0x39, 0x68] :=
    .ite (fun _ => (s.addPos_within hn d').putI _ _ (fbkWord_unit hn)) fun _ => s.addPos_within hn d'
  exact (h.put _ _ (fbkWord_unit hn)).setFb _ _

theorem State.quadChange_within (la lb : Bool) : s.Within (s.quadChange n la lb) [.axis, .err] [0x39, 0x68] := by
  unfold State.quadChange
  extract_lets x seen d counted
  have h : s.Within seen [.axis, .err] [0x39, 0x68] := (State.Within.refl s _ _).setFb _ _
  refine State.Within.trans (b := counted) ?_ (counted.showLevels_within hn)
  exact .ite (fun _ => h) fun _ => .ite (fun _ => (h.count _ 1 (fbkWord_unit hn)).trans (State.axisWarn_within _ hn _ _)) fun _ =>
    .ite (fun _ => h) fun _ => h.trans (seen.countEdge_within hn d)

theorem State.hallChange_within (hall : Nat) : s.Within (s.hallChange n hall) [.axis, .err] [0x39, 0x68] := by
  unfold State.hallChange
  extract_lets x shown good set d
  have hshown : s.Within shown [.axis, .err] [0x39, 0x68] := (State.Within.refl s _ _).put _ _ (fbkWord_unit hn)
  have hset : s.Within set [.axis, .err] [0x39, 0x68] := (hshown.put _ _ (fbkWord_unit hn)).setFb _ _
  refine .ite (fun _ => .refl s _ _) fun _ => .ite (fun _ => ?_) fun _ => .ite (fun _ => hset) fun _ => .ite (fun _ => ?_) fun _ => ?_
  · exact ((hshown.put _ _ (fbkWord_unit hn)).count _ 1 (fbkWord_unit hn)).trans (State.axisWarn_within _ hn _ _)
  · exact hset.trans (set.countEdge_within hn d)
  · exact (hset.count _ 1 (fbkWord_unit hn)).trans (State.axisWarn_within _ hn _ _)

/-- An index event latches, and one out of its place is warned of and may correct the counter. -/
theorem State.indexEvent_within : s.Within (s.indexEvent n) [.axis, .err] [0x39, 0x68] := by
  unfold State.indexEvent
  extract_lets +onlyGivenNames x seen shown c _ latched per dev counted warned
  have hshown : s.Within shown [.axis, .err] [0x39, 0x68] := ((State.Within.refl s _ _).setFb _ _).trans (seen.showLevels_within hn)
  have hlatched : s.Within latched [.axis, .err] [0x39, 0x68] := (hshown.put _ _ (fbkWord_unit hn)).setFb _ _
  have hwarned : s.Within warned [.axis, .err] [0x39, 0x68] :=
    (((hlatched.putI _ _ (fbkWord_unit hn)).mark _ 1 (fbkWord_unit hn)).count _ 1 (fbkWord_unit hn)).trans (counted.axisWarn_within hn _ _)
  refine .ite (fun _ => hshown) fun _ => .ite (fun _ => hlatched) fun _ => .ite (fun _ => ?_) fun _ => hwarned
  exact (((hwarned.trans (warned.addPos_within hn _)).setFb _ _).mark _ 1 (fbkWord_unit hn)).andThen
    (State.raise_low_within _ 0 _ _ _ (by decide) (by decide) (openAddr_axis n hn)) (by decide) (by decide)

theorem State.probeEdge_within (level : Bool) : s.Within (s.probeEdge n level) [.axis, .err] [0x39, 0x68] := by
  unfold State.probeEdge
  extract_lets x shown e fits armed c latched
  have h : s.Within shown [.axis, .err] [0x39, 0x68] := ((State.Within.refl s _ _).setFb _ _).trans (State.showLevels_within _ hn)
  refine .ite (fun _ => h) fun _ => .ite (fun _ => ?_) fun _ => .ite (fun _ => h.mark _ 1 (fbkWord_unit hn)) fun _ => h
  exact (((((h.put _ _ (fbkWord_unit hn)).put _ _ (fbkWord_unit hn)).put _ _ (fbkWord_unit hn)).mark _ 1 (fbkWord_unit hn)).put _ _
    (fbkWord_unit hn)).setFb _ _

/-! ## Serial sensors and speed (R435 to R440) -/

theorem State.serialMissing_within : s.Within (s.serialMissing n) [.axis, .err] [0x39, 0x68] := by
  unfold State.serialMissing
  extract_lets x ended
  have h : s.Within ended [.axis, .err] [0x39, 0x68] := (State.Within.refl s _ _).setFb _ _
  exact .ite (fun _ => .refl s _ _) fun _ =>
    ((h.count _ 1 (fbkWord_unit hn)).put _ _ (fbkWord_unit hn)).trans (State.axisWarn_within _ hn _ _)

theorem State.serialStart_within (t : Nat) : s.Within (s.serialStart n t) [.axis, .err] [0x39, 0x68] := by
  unfold State.serialStart
  extract_lets ended x begun
  have h : s.Within ended [.axis, .err] [0x39, 0x68] := .ite (fun _ => s.serialMissing_within hn) fun _ => .refl s _ _
  refine .ite (fun _ => .refl s _ _) fun _ => .ite (fun _ => h.setFb _ _) fun _ => ?_
  exact .ite (fun _ => (h.setFb _ _).emit _) fun _ => h.setFb _ _

theorem State.serialComplete_within (code crc : Nat) (nE nW : Bool) :
    s.Within (s.serialComplete n code nE nW crc) [.axis, .err] [0x39, 0x68] := by
  have ok : s.Within (s.put (F.FBK_FSTAT_SER_FAIL n) 0) [.axis, .err] [0x39, 0x68] := (State.Within.refl s _ _).put _ _ (fbkWord_unit hn)
  unfold State.serialComplete
  extract_lets +onlyGivenNames x
  cases x.busy with
  | none => exact .refl s _ _
  | some t =>
    refine .ite (fun _ => (State.Within.refl s _ _).setFb _ _) fun _ => .ite (fun _ => s.serialMissing_within hn) fun _ => ?_
    cases x.reading with
    | none => exact (ok.putI _ _ (fbkWord_unit hn)).setFb _ _
    | some r => exact ((ok.trans (State.addPos_within _ hn _)).setFb _ _).putI _ _ (fbkWord_unit hn)

theorem State.stillCheck_within : s.Within (s.stillCheck n) [.axis, .err] [0x39, 0x68] := by
  have h := State.Within.refl s [.axis, .err] [0x39, 0x68]
  unfold State.stillCheck
  extract_lets src
  refine .ite (fun _ => h) fun _ => ?_
  cases (s.fb n).lastEdge with
  | none => exact h
  | some t =>
    exact .ite (fun _ => (h.put _ _ (fbkWord_unit hn)).put _ _ (fbkWord_unit hn)) fun _ =>
      .ite (fun _ => h.putI _ _ (fbkWord_unit hn)) fun _ => h

/-! ## An axis that enters FAULT (R438, R453) -/

theorem State.axFlush_within : s.Within (s.axFlush n) [.axis, .loop, .err] [0x38, 0x68] :=
  ((State.Within.refl s _ _).count _ _ (axisWord_unit hn)).setMx _ _

theorem State.endRamp_within : s.Within (s.endRamp n) [.axis, .loop, .err] [0x38, 0x68] :=
  .ite (fun _ => (((State.Within.refl s _ _).setMx _ _).mark _ 1 (axisWord_unit hn)).andThen
    (State.raise_low_within _ 0 _ _ _ (by decide) (by decide) (openAddr_axis n hn)) (by decide) (by decide)) fun _ => .refl s _ _

theorem State.axFault_within (f cause : Nat) : s.Within (s.axFault n f cause) [.axis, .loop, .err] [0x38, 0x68] := by
  unfold State.axFault
  extract_lets +onlyGivenNames rested x _ set _ stopped
  have h : s.Within rested [.axis, .loop, .err] [0x38, 0x68] := (s.axFlush_within hn).trans (State.endRamp_within _ hn)
  have hset : s.Within set [.axis, .loop, .err] [0x38, 0x68] := h.setMx _ _
  have hstopped : s.Within stopped [.axis, .loop, .err] [0x38, 0x68] := hset.loop _
  exact .ite (fun _ => h) fun _ => (hstopped.put _ _ (axisWord_unit hn)).put _ _ (axisWord_unit hn)

theorem State.serialLost_within : s.Within (s.serialLost n) [.axis, .loop, .err] [0x38, 0x68] :=
  .ite (fun _ => .refl s _ _) fun _ => (s.axFault_within hn _ _).andThen
    (State.raise_fault_within _ (axisSubject n) _ _ (show 3 ≠ 2 by decide) (openAddr_axis n hn)) (by decide) (by decide)

end

/-! ## Axis packets (R458, R459) -/

/-- A served packet that its opcode stops is answered with its detail and results and leaves nothing in flight. -/
theorem State.takePkt_stopped (s u : State) (op : Byte) (p : Pkt) (d : Nat) (res : List Word) (h : s.Serves p.path p.tag)
    (hr : runOp op.toNat (s.begun op p) (s.entered op p) = (u, .stopped d res)) (hu : u.cmd.inflight = [s.begun op p]) :
    s.takePkt op p = u.answer (s.begun op p) 1 d res := by
  rw [s.takePkt_serves op p h, hr]
  exact State.pump_idle _ (State.answer_inflight u _ 1 d res hu h.host rfl)

/-- A served packet that is answered, or waits for anything but a FORWARD's replies, changes what its opcode changes, CMD and the host
interface. -/
theorem State.Serves.only_runs {s b : State} {p : Pkt} {op : Byte} {v : Verdict} {i : Instr} {ps : List Part} {us : List Nat}
    (hs : s.Serves p.path p.tag) (hx : exec i s = .next (s.row (fun s => s.takePkt op p))) (h0 : op ≠ 0)
    (run : runOp op.toNat (s.begin.begun op p) (s.begin.entered op p) = (b, v)) (waitsFor : ∀ w, v = .later w → w.isForward = false)
    (w : (s.begin.entered op p).Within b ps us) (hc : .cmd ∉ ps := by decide) (hu : inUnits us F.SYS_DEV_STATE_STATE.addr = false := by decide) :
    Runs i s (fun u => s.Only u (.cmd :: .host :: ps) (inUnits (0x01 :: us))) := by
  have waits : b.cmd.inflight = [s.begin.begun op p] := congrArg CmdSt.inflight (w.cmd_eq hc)
  have answered := fun st d res => b.answer_within (s.begin.begun op p) st d res hs.host rfl
  have finished : b.Within (s.begin.takePkt op p) [.cmd, .host] [0x01] := by
    cases v with
    | done res => exact State.takePkt_done _ b op p res hs.begin h0 run waits ▸ answered 0 0 res
    | stopped d res => exact State.takePkt_stopped _ b op p d res hs.begin run waits ▸ answered 1 d res
    | bad st d => exact State.takePkt_bad _ b op p st d hs.begin run waits ▸ answered st d []
    | later x => exact State.takePkt_later _ b op p x hs.begin run waits (waitsFor x rfl) ▸ (State.Within.refl b _ _).cmd _
  refine s.runs_now (fun s => s.takePkt op p) hx hs.up (finished.dev.trans (w.dev hu)) fun u ends => ?_
  have entered := (s.entered_within op p).mono (List.cons_subset_cons .cmd (List.nil_subset (.host :: ps))) (List.nil_subset (0x01 :: us))
  exact ends.only ((entered.andThen w (fun _ h => .tail _ (.tail _ h)) fun _ h => .tail _ h).andThen finished (by simp) (by simp)) rfl

/-- What an axis opcode may come to: it changes AXIS alone, and waits for no FORWARD's replies. -/
def KeepsToAxis (s : State) (r : State × Verdict) : Prop := s.Within r.1 [.axis] [] ∧ ∀ w, r.2 = .later w → w.isForward = false

namespace KeepsToAxis

variable {s t : State}

theorem bad (s : State) (st : Byte) (d : Nat) : KeepsToAxis s (s, .bad st d) := ⟨.refl s _ _, nofun⟩

theorem done (h : s.Within t [.axis] []) (res : List Word) : KeepsToAxis s (t, .done res) := ⟨h, nofun⟩

theorem stopped (h : s.Within t [.axis] []) (d : Nat) (res : List Word) : KeepsToAxis s (t, .stopped d res) := ⟨h, nofun⟩

theorem later (h : s.Within t [.axis] []) (f : Nat) : KeepsToAxis s (t, .later (.axisAt f)) := ⟨h, fun _ e => Verdict.later.inj e ▸ rfl⟩

theorem ite {c : Prop} [Decidable c] {q r : State × Verdict} (hq : KeepsToAxis s q) (hr : KeepsToAxis s r) :
    KeepsToAxis s (if c then q else r) := by
  split
  · exact hq
  · exact hr

end KeepsToAxis

section

open KeepsToAxis

variable (p : InFlight) (s : State)

theorem State.axisRequest_within (n : Nat) (r : AxisReq) : s.Within (s.axisRequest p n r) [.axis] [] := (State.Within.refl s _ _).setMx _ _

theorem opAxisMove_keeps : KeepsToAxis s (opAxisMove p s) := by
  unfold opAxisMove
  cases axisTarget p with
  | none => exact bad s _ _
  | some n =>
    have taken (k : Nat) (ms : List Move) : s.Within (if k = 0 then s else s.axisRequest p n (.moves ms)) [.axis] [] :=
      .ite (fun _ => .refl s _ _) fun _ => s.axisRequest_within p n _
    exact ite (bad s _ _) (ite (bad s _ _) (ite (bad s _ _) (ite (bad s _ _) (ite (bad s _ _)
      (ite (done (taken _ _) _) (stopped (taken _ _) _ _))))))

theorem opAxisStop_keeps : KeepsToAxis s (opAxisStop p s) := by
  unfold opAxisStop
  cases axisTarget p with
  | none => exact bad s _ _
  | some n => exact ite (bad s _ _) (ite (bad s _ _) (later (s.axisRequest_within p n _) _))

theorem opAxisHome_keeps : KeepsToAxis s (opAxisHome p s) := by
  unfold opAxisHome
  cases axisTarget p with
  | none => exact bad s _ _
  | some n => exact ite (bad s _ _) (ite (bad s _ _) (done (s.axisRequest_within p n _) _))

theorem opAxisClear_keeps : KeepsToAxis s (opAxisClear p s) := by
  unfold opAxisClear
  cases axisTarget p with
  | none => exact bad s _ _
  | some n => exact ite (bad s _ _) (done (s.axisRequest_within p n _) _)

theorem opAxisSetPos_keeps : KeepsToAxis s (opAxisSetPos p s) := by
  unfold opAxisSetPos
  cases axisTarget p with
  | none => exact bad s _ _
  | some n => exact ite (bad s _ _) (ite (bad s _ _) (done (s.axisRequest_within p n _) _))

theorem opProbeArm_keeps : KeepsToAxis s (opProbeArm p s) := by
  unfold opProbeArm
  cases axisTarget p with
  | none => exact bad s _ _
  | some n => exact ite (bad s _ _) (done (s.axisRequest_within p n _) _)

end

/-! ## The statement -/

/-- A served packet whose opcode keeps to AXIS changes AXIS, CMD and the host interface. -/
theorem State.Serves.only_axis {s : State} {p : Pkt} {op : Byte} {i : Instr} (hs : s.Serves p.path p.tag)
    (hx : exec i s = .next (s.row (fun s => s.takePkt op p))) (h0 : op ≠ 0)
    (keeps : KeepsToAxis (s.begin.entered op p) (runOp op.toNat (s.begin.begun op p) (s.begin.entered op p))) :
    Runs i s (fun u => s.Only u [.cmd, .host, .axis] (inUnits [0x01])) :=
  hs.only_runs hx h0 rfl keeps.2 keeps.1

/-- A command on a feedback line changes AXIS, the words of FBK and the records raised. -/
theorem State.Awake.only_feedback {s a : State} {t : Nat} {i : Instr} (ha : s.Awake t a) (g : State → State)
    (hx : exec i s = .next (s.row (fun s => g (s.arrive t)))) (w : a.Within (g a) [.axis, .err] [0x39, 0x68]) :
    Runs i s (fun u => a.Only u [.axis, .err, .sys, .seq] (inUnits [0x39, 0x68])) :=
  ha.only g hx (w.mono (by decide) (List.Subset.refl _)) w.dev

/-- Settles O47: each body keeps to the parts and units of its clause, and none of them brings the device into HALT. -/
theorem frameOfAxes : Obligations.FrameOfAxes := by
  unfold Obligations.FrameOfAxes
  simp only [List.forall_mem_cons, List.not_mem_nil, false_imp_iff, implies_true, and_true]
  refine ⟨fun s p hs => ⟨?_, ?_, ?_, ?_, ?_, ?_⟩, fun s a t code crc n la lb nE nW hall ha => ⟨?_, ?_, ?_, ?_, ?_, ?_, ?_, ?_, ?_⟩,
    fun s a t n ha => ?_, fun s a t ha => ?_⟩
  · exact hs.only_axis rfl (by decide) (opAxisMove_keeps _ _)
  · exact hs.only_axis rfl (by decide) (opAxisStop_keeps _ _)
  · exact hs.only_axis rfl (by decide) (opAxisHome_keeps _ _)
  · exact hs.only_axis rfl (by decide) (opAxisClear_keeps _ _)
  · exact hs.only_axis rfl (by decide) (opAxisSetPos_keeps _ _)
  · exact hs.only_axis rfl (by decide) (opProbeArm_keeps _ _)
  · exact ha.only_feedback (fun s => s.quadChange n la lb) rfl (a.quadChange_within n.isLt la lb)
  · exact ha.only_feedback (fun s => s.hallChange n hall) rfl (a.hallChange_within n.isLt hall)
  · exact ha.only_feedback (fun s => s.indexEvent n) rfl (a.indexEvent_within n.isLt)
  · exact ha.only_feedback (fun s => s.serialStart n t) rfl (a.serialStart_within n.isLt t)
  · exact ha.only_feedback (fun s => s.serialComplete n code nE nW crc) rfl (a.serialComplete_within n.isLt code crc nE nW)
  · exact ha.only_feedback (fun s => s.serialMissing n) rfl (a.serialMissing_within n.isLt)
  · exact ha.only_feedback (fun s => s.stillCheck n) rfl (a.stillCheck_within n.isLt)
  · exact ha.only_feedback (fun s => s.probeEdge n la) rfl (a.probeEdge_within n.isLt la)
  · exact ha.only_feedback (fun s => s.homeEdgeAt n la) rfl (a.homeEdgeAt_within n la)
  · have w := a.serialLost_within n.isLt
    exact ha.only (fun s => s.serialLost n) rfl (w.mono (by decide) (by decide)) w.dev
  · have w : a.Within a.endEpisodes [.err] [] := (State.Within.refl a _ _).err _
    exact ha.only State.endEpisodes rfl w w.dev

end Sys2Proof.Machine
end

section
/-!
REFUTATIONS about the feedback of the machine axes (R432, R442): what an index event or a home edge latches is the counter before any count of its
TIME clock, where the statements have the counter after it; and a probe that is armed again is still known to have been hit.
-/
set_option Elab.async false -- one proof after the other: checking the whole text at once takes more memory than the check allows
namespace Sys2Proof.Machine

/-! ## An index event and a home edge in the TIME clock of a count (R432, R442) -/

/-- Axis 2 has counted a quadrature edge at 5 µs, from 0 to 1. -/
def countedAt5 : State := (ready.put (F.FBK_FCFG_SRC 2) 1).row (fun s => (s.arrive 5000).quadChange 2 true false)

theorem countedAt5_pos : (countedAt5.upTo 5000).get (F.FBK_POS 2) = 1 := by decide +kernel

/-- An index event in the TIME clock of the edge latches the value before it. -/
theorem countedAt5_index : (countedAt5.row (fun s => (s.arrive 5000).indexEvent 2)).get (F.FBK_IDX_POS 2) = 0 := by decide +kernel

/-- Refutes O26: an index event in the TIME clock of a count latches the counter from before it (R432), where the statement has it latch the
counter as it stands after. -/
theorem not_feedbackCounts : ¬ Obligations.FeedbackCounts := by
  unfold Obligations.FeedbackCounts
  rintro ⟨-, -, -, -, index, -⟩
  obtain ⟨u, hu, latched, -⟩ := index countedAt5 _ 5000 2 ⟨rfl, by decide +kernel, by decide +kernel⟩ (by decide +kernel) (by decide +kernel)
  have before := countedAt5_index
  rw [show countedAt5.row (fun s => (s.arrive 5000).indexEvent 2) = u from Host.Outcome.next.inj hu] at before
  exact absurd (before.symm.trans (latched.trans countedAt5_pos)) (by decide)

/-- A home edge in the TIME clock of the edge is latched with the value before it. -/
theorem countedAt5_home :
    ((countedAt5.row (fun s => (s.arrive 5000).homeEdgeAt 2 true)).fb 2).homeEdge.map Prod.fst = some 0 := by decide +kernel

/-- Refutes O27: a home edge in the TIME clock of a count is latched with the counter from before it (R442), where the statement has the
counter as it stands after. -/
theorem not_probesAndHomesLatch : ¬ Obligations.ProbesAndHomesLatch := by
  unfold Obligations.ProbesAndHomesLatch
  rintro ⟨-, home, -⟩
  obtain ⟨u, hu, latched, -⟩ := home countedAt5 _ 5000 2 true ⟨rfl, by decide +kernel, by decide +kernel⟩
  have edge := congrArg FbkCh.homeEdge latched
  have before := countedAt5_home
  rw [show countedAt5.row (fun s => (s.arrive 5000).homeEdgeAt 2 true) = u from Host.Outcome.next.inj hu,
    show (u.fb 2).homeEdge = some ((countedAt5.upTo 5000).get (F.FBK_POS 2), _, true) from edge, countedAt5_pos] at before
  exact absurd before (by decide)

/-! ## A probe that is armed again (R442) -/

/-- PROBE_ARM of axis 2. -/
def armProbe2 : Pkt := ⟨.pcie, 9, 2, []⟩

/-- The probe of axis 2 was armed for 3 µs and has been hit by a rising edge at 5 µs. -/
def hitAt5 : State :=
  ((ready.put (F.FBK_FCFG_PROBE_EDGE 2) 1).setFb 2 { armAt := some 3 }).row (fun s => (s.arrive 5000).probeEdge 2 true)

/-- It is to be armed again, at 26 µs. -/
def rearmed : State := hitAt5.row (fun s => s.takePkt 0x6D armProbe2)

/-- Arming does not take back that the probe has been hit: edges up to the apply instant still set PROBE_OVR. -/
theorem rearmed_hit : ((rearmed.row (fun s => ((s.ahead 26).axisRequestAct 2 26).pump)).fb 2).hitSinceArm = true := by decide +kernel

/-- Refutes O28: PROBE_ARM acts 2 µs ahead of its apply instant (R426), and edges before that instant of a probe that has been hit still set
PROBE_OVR (R442), so the hit stays noted; the statement has it forgotten at once. -/
theorem not_axisPacketsRun : ¬ Obligations.AxisPacketsRun := by
  unfold Obligations.AxisPacketsRun
  rintro ⟨-, -, -, -, -, -, -, -, -, -, arm⟩
  obtain ⟨u, hu, armed⟩ := arm rearmed _ 2 26 ⟨rfl, by decide +kernel, by decide +kernel⟩ (by decide +kernel) (by decide +kernel)
  have hit := rearmed_hit
  rw [show rearmed.row (fun s => ((s.ahead 26).axisRequestAct 2 26).pump) = u from Host.Outcome.next.inj hu, show u.fb 2 = _ from armed] at hit
  exact absurd hit (by decide)

end Sys2Proof.Machine
end

section
/-!
REFUTATIONS about the ring, pairs, joins and error records (R87, R110, R196, R487, R489, R494, R588): each statement fails in one clause, by a
state that the model carries to another outcome.
-/
set_option Elab.async false -- one proof after the other: checking the whole text at once takes more memory than the check allows
namespace Sys2Proof.Machine

/-! ## A heartbeat evaluation half the range of device time ahead (R196, R487) -/

/-- A KEEPER that has heard its partner's heartbeat 0. -/
def heardOnce : State := { (ready.put F.PAIR_PSTAT_ROLE 1) with pair := { hbLast := some 0 } }

/-- An instant that lies 2⁶³ ns or more ahead is not reached, so that its evaluation finds nothing. -/
theorem heardOnce_loss :
    (heardOnce.row (fun s => (s.arrive ((2 ^ 63 * 100 + 20) * 1000)).beatLoss (2 ^ 63))).get F.PAIR_PSTAT_PARTNER_LOST = 0 := by decide +kernel

/-- Refutes O29: the clause of PARTNER_HEARTBEAT_LOSS bounds no heartbeat number, and for number 2⁶³ the instant lies out of range of the signed
difference of R196. -/
theorem not_ringIsFormed : ¬ Obligations.RingIsFormed := by
  unfold Obligations.RingIsFormed
  rintro ⟨-, -, -, -, -, -, -, -, -, -, -, -, -, loss, -⟩
  obtain ⟨u, hu, lost, -⟩ := loss heardOnce _ (2 ^ 63) 0 ⟨rfl, by decide +kernel, by decide +kernel⟩ (by decide +kernel) (by decide +kernel) (by decide +kernel)
    (by decide) (by decide +kernel)
  rw [← Host.Outcome.next.inj hu, heardOnce_loss] at lost
  exact absurd lost (by decide)

/-! ## A PAIR_DROP on a ring whose fetch has stopped (R87, R489) -/

/-- Refutes O31: no packet is taken from the command ring of a KEEPER once its fetch has stopped; the clause of PAIR_DROP does not exclude it,
and has the packet wait for its acknowledgement. -/
theorem not_pairRolesChange : ¬ Obligations.PairRolesChange := by
  unfold Obligations.PairRolesChange
  rintro ⟨-, -, -, -, -, -, drop, -⟩
  obtain ⟨u, hu, ⟨x, there, -⟩, -⟩ := drop keeperFetchStops dropAt100 100 0 rfl (by decide +kernel) (by decide +kernel) (by decide +kernel)
    (by decide +kernel) (by decide) (by decide +kernel) (by decide +kernel) (by decide +kernel) (by decide +kernel) rfl (by decide +kernel)
    (by decide +kernel) (by decide +kernel) (by decide +kernel)
  rw [← Host.Outcome.next.inj hu, keeperFetchStops_drop] at there
  exact absurd there List.not_mem_nil

/-! ## A mirrored block that a candidate holds back until the capture has loaded (R494) -/

/-- A candidate in CUT that holds one mirrored block for channel 3. -/
def holdsBlock : State :=
  let s := (ready.put F.PAIR_PSTAT_ROLE 3).put F.PAIR_PSTAT_JOIN_PHASE 2
  { s with pair := { joinCut := some 100, held := [(0, .block 3 block3)] } }

/-- A capture in which nothing runs. -/
def idleCapture : Capture :=
  { c := 100, epoch := 0, words := [], scheduled := [], stream := {}, seq := [], loop := {}, power := [], ledger := {}, col := {}, axis := {} }

/-- Its message. -/
def captureMsg : RidgeMsg := ridgeMsg 5000 0x30 []

theorem holdsBlock_stages :
    (holdsBlock.row (fun s => (s.arrive captureMsg.t).ridgeIn 0x30 captureMsg fun s => s.transferIn (.capture idleCapture) 0)).stream.staging ≠ [] := by
  decide +kernel

/-- Refutes O32: what the keeper mirrored while the copy went on is applied as soon as the capture has loaded, so that a held block is staged
besides what the capture holds. -/
theorem not_joinsGoThroughTheirPhases : ¬ Obligations.JoinsGoThroughTheirPhases := by
  unfold Obligations.JoinsGoThroughTheirPhases
  rintro ⟨-, -, -, -, -, -, capture, -⟩
  obtain ⟨u, hu, -, -, stream, -⟩ := capture holdsBlock _ captureMsg idleCapture 0 ⟨rfl, by decide +kernel, by decide +kernel⟩ (by decide +kernel) rfl
    (by decide +kernel)
  rw [← Host.Outcome.next.inj hu] at stream
  exact holdsBlock_stages (congrArg StreamSt.staging stream)

/-! ## A replay that clears a channel with a program of a stream whose number names none (R134, R494) -/

/-- `farStream` as a candidate that has replayed the instants up to 21. -/
def farReplay : State :=
  let s := (farStream.put F.PAIR_PSTAT_ROLE 3).put F.PAIR_PSTAT_JOIN_PHASE 3
  { s with pair := { loaded := true }, sys := { s.sys with built := 21 } }

theorem farReplay_before : (farReplay.upTo 20900).reg 0x480107 = 0 := by decide +kernel

set_option maxRecDepth 2000 in
/-- The CLEAR at instant 22 completes the program, and its stream's word is shown. -/
theorem farReplay_replayed : (farReplay.row (fun s => (s.arrive 20900).replayAll)).reg 0x480107 = 0xFFFFFFFF := by decide +kernel

/-- Refutes O48: the replay of a candidate whose program names stream 0x70000 writes a word of RIDGE. -/
theorem not_frameOfRingAndPairs : ¬ Obligations.FrameOfRingAndPairs := by
  unfold Obligations.FrameOfRingAndPairs
  rintro ⟨-, -, -, -, -, -, replay, -⟩
  obtain ⟨u, hu, -, words, -⟩ := replay farReplay _ 20900 ⟨rfl, by decide +kernel, by decide +kernel⟩ _ (List.mem_singleton.mpr rfl)
  have same := words 0x480107 (by decide)
  rw [← Host.Outcome.next.inj hu, farReplay_replayed, farReplay_before] at same
  exact absurd same (by decide)

/-! ## A batch that lapses before a record's release (R110, R588) -/

/-- An error of channel 3 at time 0. -/
def earlyError : ErrRec := { cls := 2, subject := ⟨2, 3⟩, detail := 0x4012 }

/-- That error, held, and a commit at 10 µs that asks to ARM the channel, which is OFFLINE. -/
def armLapses : State :=
  { ready with
    err := { held := [earlyError] }
    cmd := { nextOrder := 1, scheduled := [commitAt10 ⟨chanAddr 0x18 3 0, 0x200, 0x200⟩]
             inflight := [{ waiter 0x04 0 [10, 0] (.commit 10) with path := .eth0, tag := 1 }] } }

/-- The lapse of the request is noted by a record of its own, which is held when the first is released. -/
theorem armLapses_held : (armLapses.row (fun s => s.errRelease.settle)).err.held ≠ [] := by decide +kernel

/-- Refutes O38: device time passes to the release, 20 µs after the record's time, and a request that lapses on the way adds a held record. -/
theorem not_recordsAreReleased : ¬ Obligations.RecordsAreReleased := by
  unfold Obligations.RecordsAreReleased
  rintro ⟨release, -⟩
  obtain ⟨u, hu, -, held, -⟩ := release armLapses earlyError (by decide +kernel) (by decide +kernel) (by decide) (by decide)
  refine armLapses_held ?_
  rw [show armLapses.row (fun s => s.errRelease.settle) = u from Host.Outcome.next.inj hu, held]
  decide +kernel

end Sys2Proof.Machine
end

section
/-!
PROOFS about timeouts and core restarts (R593 to R595), with what raising a record leaves of ERR beside the records held.
-/
set_option Elab.async false -- one proof after the other: checking the whole text at once takes more memory than the check allows
namespace Sys2Proof.Machine

/-! ## Raising a record -/

/-- A record that enters changes the records held and the clocks of the open heads; `g` reads another part of ERR. -/
theorem State.enterRecord_of_err (s : State) (r : ErrRec) {α : Type} (g : ErrSt → α)
    (hg : ∀ e h k, g { e with held := h, headClk := k } = g e := by intros; rfl) : g (s.enterRecord r).err = g s.err := by
  unfold State.enterRecord
  dsimp only
  split
  · split
    · simpa using hg s.err _ s.err.headClk
    · simpa using hg s.err _ _
  · split
    · exact hg s.err _ s.err.headClk
    · simpa using hg s.err _ _

theorem State.raise_low_of_err (s : State) (cls : Nat) (x : Subject) (d : Nat) (args : List Int) (h4 : cls ≠ 4) (h5 : cls ≠ 5) {α : Type}
    (g : ErrSt → α) (hg : ∀ e h k, g { e with held := h, headClk := k } = g e := by intros; rfl) :
    g (s.raise cls false x d args).err = g s.err := by
  rw [s.raise_low cls x d args h4 h5]
  exact s.enterRecord_of_err _ g hg

/-- What has been raised stays raised when an INFO, WARN or UNIT record follows. -/
theorem State.Raised.raise_low {s : State} {cls d : Nat} {x : Subject} (h : s.Raised cls d x) (cls' : Nat) (y : Subject) (d' : Nat)
    (args : List Int) (h4 : cls' ≠ 4) (h5 : cls' ≠ 5) : (s.raise cls' false y d' args).Raised cls d x := by
  rw [s.raise_low cls' y d' args h4 h5]
  exact h.enterRecord _

theorem State.devErr_of_err (s : State) (d : Nat) (args : List Int) {α : Type} (g : ErrSt → α)
    (hg : ∀ e h k, g { e with held := h, headClk := k } = g e := by intros; rfl) : g (s.devErr d args).err = g s.err := by
  have entered : ∀ r, g (s.enterRecord r).err = g s.err := fun r => s.enterRecord_of_err r g hg
  unfold State.devErr State.raise State.recordDisplaced State.addDevTrigger
  dsimp only
  split
  · exact absurd ‹4 = 5› (by decide)
  · split
    · split
      · exact (State.enterRecord_of_err _ _ g hg).trans (entered _)
      · split <;> exact entered _
    · exact absurd rfl ‹¬4 = 4›

/-! ## Core restarts (R595) -/

theorem State.coreRestart_within (s : State) (n : Nat) : s.Within (s.coreRestart n) [.err] [0x68] :=
  .ite (fun _ => .refl s _ _) fun _ =>
    (((State.Within.refl s _ _).put _ _).err _).trans (State.raise_low_within _ 3 ⟨1, 0x68⟩ 0x6840 [n] (by decide) (by decide))

/-- The restart of core `n` is counted, and the core is down. -/
def State.restartCounted (s : State) (n : Nat) : State :=
  let t := s.put F.ERR_RESTARTS
    (withBits (s.get F.ERR_RESTARTS) (8 * n) 8 (satN 255 (bitsOf (s.get F.ERR_RESTARTS) (8 * n) 8 + 1)))
  { t with err := { t.err with
      coresDown := t.err.coresDown ++ [n]
      restartsAt := t.err.restartsAt.filter (fun e => decide (t.time.clk < e.2 + 250000000)) ++ [(n, t.time.clk)] } }

theorem State.restartCounted_err (s : State) (n : Nat) :
    (s.restartCounted n).err.coresDown = s.err.coresDown ++ [n] ∧ (s.restartCounted n).err.held = s.err.held := by
  simp [State.restartCounted]

theorem State.restartCounted_within (s : State) (n : Nat) : s.Within (s.restartCounted n) [.err] [0x68] :=
  ((State.Within.refl s _ _).put _ _).err _

theorem State.coreRestart_up (s : State) (n : Nat) (up : s.err.coresDown.contains n = false) :
    s.coreRestart n = (s.restartCounted n).raise 3 false ⟨1, 0x68⟩ 0x6840 [n] := by
  unfold State.coreRestart
  rw [if_neg (Bool.eq_false_iff.mp up)]
  rfl

/-- A core that is not down is down from its restart on, with 0x6840; what has been raised stays raised. -/
theorem State.coreRestart_restarts (s : State) (n : Nat) (up : s.err.coresDown.contains n = false) :
    n ∈ (s.coreRestart n).err.coresDown ∧ (s.coreRestart n).Raised 3 0x6840 ⟨1, 0x68⟩
      ∧ ∀ {cls d : Nat} {x : Subject}, s.Raised cls d x → (s.coreRestart n).Raised cls d x := by
  obtain ⟨down, held⟩ := s.restartCounted_err n
  rw [s.coreRestart_up n up]
  refine ⟨?_, State.raise_low_raised _ _ _ _ _ (by decide) (by decide), fun h => State.Raised.raise_low ?_ _ _ _ _ (by decide) (by decide)⟩
  · rw [State.raise_low_of_err _ 3 ⟨1, 0x68⟩ 0x6840 _ (by decide) (by decide) ErrSt.coresDown, down]
    exact List.mem_append_right _ (List.mem_singleton.mpr rfl)
  · rw [State.Raised, held]
    exact h

theorem State.coreReturns_idle (s : State) (n : Nat) (down : s.err.coresDown.contains n = true) (idle : s.cmd.inflight = []) :
    s.coreReturns n = s.coreBack n := by
  unfold State.coreReturns
  simp only [down, idle, List.filter_nil]
  exact State.pump_none _ idle

theorem State.coreBack_up (s : State) (n : Nat) : n ∉ (s.coreBack n).err.coresDown := by simp [State.coreBack]

/-- The restarts of core `n` that lie in the last second. -/
abbrev State.recentRestarts (s : State) (n : Nat) : List (Nat × Nat) :=
  s.err.restartsAt.filter (fun e => e.1 == n && decide (s.time.clk < e.2 + 250000000))

/-- The restarts of core `n` are forgotten. -/
def State.restartsForgotten (s : State) (n : Nat) : State :=
  { s with err := { s.err with restartsAt := s.err.restartsAt.filter (fun e => e.1 != n) } }

theorem State.repeatedRestart_third (s : State) (n : Nat) (third : 3 ≤ (s.recentRestarts n).length) :
    s.repeatedRestart n = (s.restartsForgotten n).devErr 0x6841 [n] := if_neg (Nat.not_lt.mpr third)

/-! ## Timeouts (R593, R594) -/

/-- An LPDDR5 request without data whose repetition has failed too is counted twice. -/
def State.retryCounted (s : State) (noData : Bool) : State :=
  if noData then (s.count F.MEM_TIMEOUTS_COUNT).count F.MEM_TIMEOUTS_RETRY_FAIL else s

theorem State.retryCounted_within (s : State) (noData : Bool) : s.Within (s.retryCounted noData) [] [0x04] :=
  .ite (fun _ => ((State.Within.refl s _ _).count _ _).count _ _) fun _ => .refl s _ _

theorem State.count_timeouts_retryFail (s : State) :
    (s.count F.MEM_TIMEOUTS_COUNT).get F.MEM_TIMEOUTS_RETRY_FAIL = s.get F.MEM_TIMEOUTS_RETRY_FAIL :=
  State.get_put_apart _ _ _ _ (by decide) (.inr (.inr (by decide)))

theorem State.retryCounted_counts (s : State) (noData : Bool) :
    (s.retryCounted noData).get F.MEM_TIMEOUTS_COUNT
        = (if noData then satN 65535 (s.get F.MEM_TIMEOUTS_COUNT + 1) else s.get F.MEM_TIMEOUTS_COUNT)
      ∧ (s.retryCounted noData).get F.MEM_TIMEOUTS_RETRY_FAIL
        = (if noData then satN 65535 (s.get F.MEM_TIMEOUTS_RETRY_FAIL + 1) else s.get F.MEM_TIMEOUTS_RETRY_FAIL) := by
  cases noData with
  | false => exact ⟨rfl, rfl⟩
  | true =>
    constructor
    · calc (s.retryCounted true).get F.MEM_TIMEOUTS_COUNT
          _ = (s.count F.MEM_TIMEOUTS_COUNT).get F.MEM_TIMEOUTS_COUNT :=
            State.get_put_apart _ _ _ _ (by decide) (.inr (.inl (by decide)))
          _ = satN 65535 (s.get F.MEM_TIMEOUTS_COUNT + 1) := s.get_count_same F.MEM_TIMEOUTS_COUNT (by decide)
    · refine (State.get_count_same _ F.MEM_TIMEOUTS_RETRY_FAIL (by decide)).trans ?_
      rw [s.count_timeouts_retryFail]
      rfl

/-- The image of core `n` has failed, and its error has been raised; the restart of the core is still to come. -/
def State.imageFailed (s : State) (noData : Bool) (n : Nat) : State :=
  ((s.retryCounted noData).count F.MEM_ECC_UNCORR).raise 3 false ⟨1, 0x04⟩ 0x0425 [n]

theorem State.memTimeout_firmware (s : State) (noData : Bool) (core : Fin 4) :
    s.memTimeout noData true (.firmware core) = (s.imageFailed noData core).coreRestart core := by
  unfold State.memTimeout State.memFault State.imageFailed State.retryCounted State.unitErr
  cases noData <;> simp

theorem State.imageFailed_raised (s : State) (noData : Bool) (n : Nat) : (s.imageFailed noData n).Raised 3 0x0425 ⟨1, 0x04⟩ :=
  State.raise_low_raised _ 3 _ _ _ (by decide) (by decide)

theorem State.imageFailed_within (s : State) (noData : Bool) (n : Nat) :
    ((s.retryCounted noData).count F.MEM_ECC_UNCORR).Within (s.imageFailed noData n) [.err] [0x68] :=
  State.raise_low_within _ 3 ⟨1, 0x04⟩ 0x0425 [n] (by decide) (by decide)

theorem State.imageFailed_coresDown (s : State) (noData : Bool) (n : Nat) : (s.imageFailed noData n).err.coresDown = s.err.coresDown := by
  have w : s.Within ((s.retryCounted noData).count F.MEM_ECC_UNCORR) [] [0x04] := (s.retryCounted_within noData).count _ _
  rw [State.imageFailed, State.raise_low_of_err _ 3 ⟨1, 0x04⟩ 0x0425 [n] (by decide) (by decide) ErrSt.coresDown, w.err_eq]

/-- Settles O39: each body's branch; a failed image's error stays raised when its core is restarted. -/
theorem timeoutsAndRestartsAreHandled : Obligations.TimeoutsAndRestartsAreHandled := by
  unfold Obligations.TimeoutsAndRestartsAreHandled
  refine ⟨fun s a t ha => ?_, fun s a t region ha idle => ?_, fun s a t noData core ha up idle => ?_, fun s a t core ha up => ?_,
    fun s a t core ha down idle => ?_, fun s a t core ha third => ?_⟩
  · have w : a.Within (a.ringTimeout false) [.host] [0x01] := ((State.Within.refl a _ _).mark _ _).host _
    refine ha.runs_to (fun s => s.ringTimeout false) rfl w rfl fun u h => ⟨?_, ?_, h.cmd.trans w.cmd_eq⟩
    · exact (h.get _).trans (a.get_mark_same F.HOSTIF_RING_STAT_FETCH_ERR (by decide) rfl)
    · rw [h.host]
      rfl
  · have body : (a.memTimeout true false region).pump = a.count F.MEM_TIMEOUTS_COUNT := State.pump_none _ idle
    have w : a.Within (a.count F.MEM_TIMEOUTS_COUNT) [] [0x04] := (State.Within.refl a _ _).count _ _
    refine ha.runs_to (fun s => (s.memTimeout true false region).pump) rfl (body ▸ w) body fun u h => ⟨?_, ?_, ?_⟩
    · exact (h.get _).trans (a.get_count_same F.MEM_TIMEOUTS_COUNT (by decide))
    · exact (h.get _).trans a.count_timeouts_retryFail
    · rw [h.err, w.err_eq]
  · have restart := State.coreRestart_within (a.imageFailed noData core) core
    have w : a.Within ((a.imageFailed noData core).coreRestart core) [.err] [0x04, 0x68] :=
      ((((a.retryCounted_within noData).mono (by decide) (by decide)).count _ _).andThen (a.imageFailed_within noData core) (by decide)
        (by decide)).andThen restart (by decide) (by decide)
    have body : (a.memTimeout noData true (.firmware core)).pump = (a.imageFailed noData core).coreRestart core := by
      rw [a.memTimeout_firmware]
      exact State.pump_none _ ((congrArg CmdSt.inflight w.cmd_eq).trans idle)
    have counts : ∀ f : Fld, f.addr = F.MEM_TIMEOUTS_COUNT.addr → ((a.imageFailed noData core).coreRestart core).get f
        = (a.retryCounted noData).get f := fun f hf =>
      (restart.get f (hf ▸ by decide)).trans (((a.imageFailed_within noData core).get f (hf ▸ by decide)).trans
        (State.get_put_other_word _ _ _ _ (hf ▸ by decide)))
    obtain ⟨count, retry⟩ := a.retryCounted_counts noData
    obtain ⟨down, -, kept⟩ := (a.imageFailed noData core).coreRestart_restarts core (by rw [a.imageFailed_coresDown]; exact up)
    refine ha.runs_to (fun s => (s.memTimeout noData true (.firmware core)).pump) rfl (body ▸ w) body fun u h => ⟨?_, ?_, ?_, ?_⟩
    · exact (h.get _).trans ((counts F.MEM_TIMEOUTS_RETRY_FAIL rfl).trans retry)
    · exact (h.get _).trans ((counts F.MEM_TIMEOUTS_COUNT rfl).trans count)
    · rw [h.err]
      exact down
    · exact h.raised (kept (a.imageFailed_raised noData core))
  · obtain ⟨down, raised, -⟩ := a.coreRestart_restarts core up
    refine ha.runs_to (fun s => s.coreRestart core) rfl (a.coreRestart_within core) rfl fun u h => ⟨?_, h.raised raised⟩
    rw [h.err]
    exact down
  · have body := a.coreReturns_idle core down idle
    have w : a.Within (a.coreBack core) [.err] [] := (State.Within.refl a _ _).err _
    refine ha.runs_to (fun s => s.coreReturns core) rfl (body ▸ w) body fun u h => ?_
    rw [h.err]
    exact ⟨a.coreBack_up core, rfl⟩
  · have body := a.repeatedRestart_third core third
    have w : a.Within ((a.restartsForgotten core).devErr 0x6841 [core]) [.err, .sys] [0x68] :=
      ((State.Within.refl a _ _).err _).trans (State.devErr_within _ _ _)
    refine ha.runs_to (fun s => s.repeatedRestart core) rfl (body ▸ w) body fun u h => ⟨h.raised (State.devErr_raised _ _ _), ?_⟩
    rw [h.err, State.devErr_of_err _ _ _ ErrSt.restartsAt]
    rfl

end Sys2Proof.Machine
end

section
/-!
PROOFS about calibration (R522, R523, R527): runs that are queued, started and ended.
-/
set_option Elab.async false -- one proof after the other: checking the whole text at once takes more memory than the check allows
namespace Sys2Proof.Machine

/-! ## INFO, WARN and UNIT records -/

theorem State.info_raised (s : State) (x : Subject) (d : Nat) (args : List Int) : (s.info x d args).Raised 0 d x :=
  s.raise_low_raised 0 x d args (by decide) (by decide)

theorem State.warn_raised (s : State) (x : Subject) (d : Nat) (args : List Int) : (s.warn x d args).Raised 1 d x :=
  s.raise_low_raised 1 x d args (by decide) (by decide)

theorem State.info_within (s : State) (x : Subject) (d : Nat) (args : List Int) (hx : inUnits [0x68] x.openAddr = true := by decide) :
    s.Within (s.info x d args) [.err] [0x68] := s.raise_low_within 0 x d args (by decide) (by decide) hx

theorem State.warn_within (s : State) (x : Subject) (d : Nat) (args : List Int) (hx : inUnits [0x68] x.openAddr = true := by decide) :
    s.Within (s.warn x d args) [.err] [0x68] := s.raise_low_within 1 x d args (by decide) (by decide) hx

/-! ## Words of a table of eight words to an entry -/

/-- Words of one entry at different places of its eight are different words. -/
theorem entryWord_ne (u n i j : Nat) (h : i ≠ j := by decide) : wordAddr u (i + 8 * n) ≠ wordAddr u (j + 8 * n) := by
  unfold wordAddr
  omega

/-- The same word of two entries. -/
theorem otherEntryWord_ne (u i : Nat) {n m : Nat} (h : n ≠ m) : wordAddr u (i + 8 * n) ≠ wordAddr u (i + 8 * m) := by
  unfold wordAddr
  omega

theorem calWord_unit (us : List Nat) (t i : Nat) (ht : t < 84) (hi : i < 0x108 := by decide) :
    inUnits us (wordAddr 0x51 (i + 8 * t)) = us.contains 0x51 := inUnits_wordAddr us 0x51 _ (by omega)

/-! ## CAL beside the rest of the state -/

theorem State.Within.cal {a b : State} {ps : List Part} {us : List Nat} (h : a.Within b ps us) (x : CalSt) (hq : .cal ∈ ps := by decide) :
    a.Within { b with cal := x } ps us :=
  h.part .cal hq rfl rfl fun p hp => by cases p <;> simp_all [Part.same, Part.sameHost, Part.sameFrame]

theorem State.Within.cal_eq {a b : State} {ps : List Part} {us : List Nat} (h : a.Within b ps us) (hq : .cal ∉ ps := by decide) :
    b.cal = a.cal := h.parts .cal hq

theorem State.Ends.cal {s t u : State} (h : s.Ends t u) : u.cal = t.cal := (congrArg State.cal h.eq :)

theorem State.calT_congr {s t : State} (h : t.cal = s.cal) (n : Nat) : t.calT n = s.calT n := by rw [State.calT, State.calT, h]

theorem State.calT_setCal_same (s : State) (n : Nat) (x : CalTarget) : (s.setCal n x).calT n = x :=
  tabGet_put_same ({} : CalTarget) s.cal.targets n x

theorem State.setCal_within (s : State) (n : Nat) (x : CalTarget) : s.Within (s.setCal n x) [.cal] [] := (State.Within.refl s _ _).cal _

/-! ## What the host is shown -/

/-- RUNNING of target `t` follows the queue. -/
def State.showRunning (t : Nat) (s : State) : State := s.putB (F.CAL_T_STAT_RUNNING t) (s.calT t).started.isSome

theorem State.showRunning_within (s : State) (t : Nat) (ht : t < 84) : s.Within (s.showRunning t) [] [0x51] :=
  (State.Within.refl s _ _).putB _ _ (calWord_unit _ t 0x100 ht)

/-- STAT follows the queue. -/
def State.showRunCounts (s : State) : State :=
  (s.put F.CAL_STAT_RUNNING ((List.range 84).filter (fun t => (s.calT t).started.isSome)).length).put F.CAL_STAT_QUEUED
    ((List.range 84).filter (fun t => (s.calT t).queued)).length

theorem State.showCal_eq (s : State) : s.showCal = forEach (List.range 84) State.showRunning s.showRunCounts := rfl

theorem State.showRunCounts_within (s : State) : s.Within s.showRunCounts [] [0x51] := ((State.Within.refl s _ _).put _ _).put _ _

theorem State.showCal_within (s : State) : s.Within s.showCal [] [0x51] :=
  s.showRunCounts_within.forEach _ _ fun t ht c h => h.trans (c.showRunning_within t (List.mem_range.mp ht))

theorem State.showCal_running (s : State) (t : Nat) (ht : t < 84) :
    s.showCal.get (F.CAL_T_STAT_RUNNING t) = if (s.calT t).started.isSome then 1 else 0 := by
  have acts : ∀ c : State, ((c.showRunning t).cal, (c.showRunning t).get (F.CAL_T_STAT_RUNNING t))
      = (c.cal, if (tabGet {} c.cal.targets t).started.isSome then 1 else 0) := fun c => by
    rw [(c.showRunning_within t ht).cal_eq, State.showRunning, State.putB, State.get_put_same _ _ _ (Nat.le_of_ble_eq_true rfl), State.calT]
    split <;> rfl
  have leaves : ∀ y ∈ List.range 84, y ≠ t → ∀ c : State, ((c.showRunning y).cal, (c.showRunning y).get (F.CAL_T_STAT_RUNNING t))
      = (c.cal, c.get (F.CAL_T_STAT_RUNNING t)) := fun y hy hne c => by
    rw [(c.showRunning_within y (List.mem_range.mp hy)).cal_eq]
    exact congrArg _ (State.get_put_other_word _ _ _ _ (otherEntryWord_ne 0x51 0x100 hne.symm))
  have once := forEach_once (fun c => (c.cal, c.get (F.CAL_T_STAT_RUNNING t)))
    (fun r => (r.1, if (tabGet {} r.1.targets t).started.isSome then 1 else 0)) (List.range 84) State.showRunning (List.mem_range.mpr ht)
    List.nodup_range s.showRunCounts acts leaves
  rw [s.showCal_eq]
  refine (congrArg Prod.snd once).trans ?_
  rw [s.showRunCounts_within.cal_eq]
  rfl

theorem State.showCal_lastFail (s : State) (t : Nat) (ht : t < 84) :
    s.showCal.get (F.CAL_T_STAT_LAST_FAIL t) = s.get (F.CAL_T_STAT_LAST_FAIL t) := by
  have round : ∀ y ∈ List.range 84, ∀ c : State, (c.showRunning y).get (F.CAL_T_STAT_LAST_FAIL t) = c.get (F.CAL_T_STAT_LAST_FAIL t) := fun y _ c =>
    State.get_put_apart _ _ _ _ (Nat.le_of_ble_eq_true rfl) (.inr (.inr (Nat.le_of_ble_eq_true rfl)))
  have counts : wordAddr 0x51 (0x100 + 8 * t) ≠ wordAddr 0x51 1 := by
    unfold wordAddr
    omega
  rw [s.showCal_eq, forEach_leaves (fun c => c.get (F.CAL_T_STAT_LAST_FAIL t)) _ _ _ round]
  exact (State.get_put_other_word _ _ _ _ counts).trans (State.get_put_other_word _ _ _ _ counts)

/-! ## Packets that wait for a run (R527) -/

theorem State.queueRun_within (s : State) (t : Nat) : s.Within (s.queueRun t) [.cal] [0x51] :=
  .ite (fun _ => .refl s _ _) fun _ => ((s.setCal_within t _).mono (by decide) (by decide)).andThen (State.showCal_within _) (by decide) (by decide)

/-- A run has been queued, or is under way. -/
theorem State.queueRun_queues (s : State) (t : Nat) : (((s.queueRun t).calT t).queued || ((s.queueRun t).calT t).started.isSome) = true := by
  unfold State.queueRun
  dsimp only
  split
  · assumption
  · rw [State.calT_congr (State.showCal_within _).cal_eq, State.calT_setCal_same]
    rfl

theorem opCalRun_later {p : InFlight} {s : State} (target : p.target.toNat < 84) (body : p.body = []) (up : s.calUp p.target.toNat = true) :
    opCalRun p s = (s.queueRun p.target.toNat, .later (.calRun p.target.toNat)) := by
  unfold opCalRun
  simp only [body, up]
  rw [if_neg (by omega), if_neg (by decide), if_neg (by omega), if_neg (by decide)]

/-- The one packet in flight, which waits for a run of target `t`, is answered. -/
theorem State.answerCal_one {s : State} {p : InFlight} {t : Nat} (inflight : s.cmd.inflight = [p]) (waits : p.wait = .calRun t) (st : Byte) (d : Nat)
    (res : List Word) : s.answerCal t st d res = s.answer p st d res := by
  unfold State.answerCal
  simp [inflight, waits, forEach]

/-! ## A run starts and ends (R522, R523) -/

theorem State.calStart_first {s : State} {t : Nat} (first : (List.range 84).find? (fun x => (s.calT x).queued) = some t) (on : s.calOn = true)
    (room : ((List.range 84).filter (fun x => (s.calT x).started.isSome)).length < 8) (up : s.calUp t = true) :
    s.calStart = (s.setCal t { s.calT t with queued := false, started := some s.time.clk }).showCal := by
  unfold State.calStart
  simp only [on, first, up, Bool.not_true, Bool.false_eq_true, false_or, Nat.not_le.mpr room, if_false, if_true]

/-- How wide the eye is that a scan found. -/
def eyeWidth (eye : EyeScan) : Nat := match eye.phase with
  | some (a, b) => b + 1 - a
  | none => 0

theorem eyeWidth_eq (eye : EyeScan) : eyeWidth eye = (eye.phase.map (fun e => e.2 + 1 - e.1)).getD 0 := by
  unfold eyeWidth
  cases eye.phase <;> rfl

/-- The centre of what a scan found, or `d`. -/
def eyeCentre (e : Option (Nat × Nat)) (d : Nat) : Nat := match e with
  | some (a, b) => (a + b) / 2
  | none => d

/-- Target `t` after a scan: the run is over, and a successful one gives the centres. -/
def CalTarget.scanned (x : CalTarget) (t : Nat) (eye : EyeScan) (failed : Bool) : CalTarget :=
  { x with
    started := none
    phase := if failed then x.phase else satN 63 (eyeCentre eye.phase x.phase)
    thresh := if failed then x.thresh else if t < 68 then satN 31 (eyeCentre eye.thresh x.thresh) else x.thresh
    found := x.found || !failed }

/-- A failed run is counted, and a successful one gives tap targets. -/
def State.eyeNoted (s : State) (t : Nat) (failed : Bool) : State := if failed then s.count (F.CAL_FAILS t) else s.aim t

/-- The run's words, but for its record. -/
def State.runShown (s : State) (t : Nat) (failed : Bool) (width temp : Nat) : State :=
  let s := ((s.putB (F.CAL_T_STAT_LAST_FAIL t) failed).wrapCount (F.CAL_RUNS t)).put (F.CAL_FAILS_EYE t) width
  (s.put64 (F.CAL_LAST_T_LO t) (F.CAL_LAST_T_HI t) s.ns).put (F.CAL_LAST_TEMP t) temp

/-- INFO 0x5101 of a run that succeeded, WARN 0x5102 of one that failed. -/
def State.runRecorded (s : State) (t : Nat) (failed : Bool) : State :=
  if failed then s.warn ⟨1, 0x51⟩ 0x5102 [t] else s.info ⟨1, 0x51⟩ 0x5101 [t]

/-- What stands once a run's end has been noted, before the packets that waited for it are answered. -/
def State.runOver (s : State) (t : Nat) (x : CalTarget) (failed : Bool) (w : Nat) : State :=
  ((((s.setCal t x).eyeNoted t failed).runShown t failed w (s.calT t).temp).runRecorded t failed).showCal

theorem State.calEnd_eq (s : State) (t : Nat) (eye : EyeScan) (failed : Bool) (hf : decide (eyeWidth eye < s.get F.CAL_CFG_EYE_MIN) = failed) :
    ∃ res, s.calEnd t eye = if (s.calT t).started.isNone then s
      else (s.runOver t ((s.calT t).scanned t eye failed) failed (eyeWidth eye)).answerCal t 0 0 [res] := by
  subst hf
  exact ⟨_, rfl⟩

theorem State.calEnd_running {s : State} {t c w : Nat} {eye : EyeScan} (running : (s.calT t).started = some c)
    (width : (eye.phase.map (fun e => e.2 + 1 - e.1)).getD 0 = w) :
    ∃ x res, s.calEnd t eye = (s.runOver t x (decide (w < s.get F.CAL_CFG_EYE_MIN)) w).answerCal t 0 0 [res] ∧ x.started = none := by
  rw [← eyeWidth_eq] at width
  subst width
  obtain ⟨res, ended⟩ := s.calEnd_eq t eye _ rfl
  rw [if_neg (by simp [running])] at ended
  exact ⟨_, res, ended, rfl⟩

theorem State.aim_within (s : State) (t : Nat) (ht : t < 84) : s.Within (s.aim t) [] [0x51] := by
  have word : ∀ i, i < 0x108 → inUnits [0x51] (wordAddr 0x51 (i + 8 * t)) = true := fun i hi => calWord_unit _ t i ht hi
  have h := (State.Within.refl s [] [0x51]).put (F.CAL_T_TGT_PHASE t) (clampI 0 63 ((s.calT t).phase + (s.margin t).1)).toNat (word 0x101 (by decide))
  unfold State.aim State.showWalk
  exact (State.Within.ite (fun _ => h.put _ _ (word 0x101 (by decide))) fun _ => h).putB _ _ (word 0x100 (by decide))

theorem State.eyeNoted_within (s : State) (t : Nat) (failed : Bool) (ht : t < 84) : s.Within (s.eyeNoted t failed) [] [0x51] :=
  .ite (fun _ => (State.Within.refl _ _ _).count _ _ (calWord_unit _ t 0x103 ht)) fun _ => State.aim_within _ t ht

theorem State.runShown_within (s : State) (t : Nat) (failed : Bool) (width temp : Nat) (ht : t < 84) :
    s.Within (s.runShown t failed width temp) [] [0x51] := by
  have word : ∀ i, i < 0x108 → inUnits [0x51] (wordAddr 0x51 (i + 8 * t)) = true := fun i hi => calWord_unit _ t i ht hi
  unfold State.runShown State.wrapCount State.put64
  exact ((((((State.Within.refl s _ _).putB _ _ (word 0x100 (by decide))).put _ _ (word 0x102 (by decide))).put _ _ (word 0x103 (by decide))).put _ _
    (word 0x104 (by decide))).put _ _ (word 0x105 (by decide))).put _ _ (word 0x106 (by decide))

/-- LAST_FAIL says whether the run failed; what is put after it lies in other words. -/
theorem State.runShown_lastFail (s : State) (t : Nat) (failed : Bool) (width temp : Nat) :
    (s.runShown t failed width temp).get (F.CAL_T_STAT_LAST_FAIL t) = if failed then 1 else 0 := by
  unfold State.runShown State.wrapCount State.put64 State.putB
  rw [State.get_put_other_word _ _ _ _ (entryWord_ne 0x51 t 0x100 0x106), State.get_put_other_word _ _ _ _ (entryWord_ne 0x51 t 0x100 0x105),
    State.get_put_other_word _ _ _ _ (entryWord_ne 0x51 t 0x100 0x104), State.get_put_other_word _ _ _ _ (entryWord_ne 0x51 t 0x100 0x103),
    State.get_put_other_word _ _ _ _ (entryWord_ne 0x51 t 0x100 0x102), State.get_put_same _ _ _ (Nat.le_of_ble_eq_true rfl)]
  cases failed <;> rfl

theorem State.runRecorded_within (s : State) (t : Nat) (failed : Bool) : s.Within (s.runRecorded t failed) [.err] [0x68] :=
  .ite (fun _ => s.warn_within _ _ _) fun _ => s.info_within _ _ _

theorem State.runRecorded_raised (s : State) (t : Nat) (failed : Bool) :
    (s.runRecorded t failed).Raised (if failed then 1 else 0) (if failed then 0x5102 else 0x5101) ⟨1, 0x51⟩ := by
  cases failed with
  | true => simpa [State.runRecorded] using s.warn_raised ⟨1, 0x51⟩ 0x5102 [t]
  | false => simpa [State.runRecorded] using s.info_raised ⟨1, 0x51⟩ 0x5101 [t]

section

variable (s : State) (t : Nat) (x : CalTarget) (failed : Bool) (w : Nat) (ht : t < 84)
include ht

theorem State.runOver_within : (s.setCal t x).Within (s.runOver t x failed w) [.err] [0x51, 0x68] :=
  (((((s.setCal t x).eyeNoted_within t failed ht).andThen (State.runShown_within _ t failed w _ ht) (by decide) (by decide)).mono (by decide) (by decide)).andThen
    (State.runRecorded_within _ t failed) (by decide) (by decide)).andThen (State.showCal_within _) (by decide) (by decide)

theorem State.runOver_lastFail : (s.runOver t x failed w).get (F.CAL_T_STAT_LAST_FAIL t) = if failed then 1 else 0 := by
  have recorded := (State.runRecorded_within (((s.setCal t x).eyeNoted t failed).runShown t failed w (s.calT t).temp) t failed).get (F.CAL_T_STAT_LAST_FAIL t)
    (calWord_unit _ t 0x100 ht)
  exact (State.showCal_lastFail _ t ht).trans (recorded.trans (State.runShown_lastFail _ t failed w _))

end

/-- Settles O34: CAL_RUN queues and waits; the first queued run starts; a run that ends is noted and shown before its packet is answered. -/
theorem calibrationRuns : Obligations.CalibrationRuns := by
  unfold Obligations.CalibrationRuns
  refine ⟨fun s p n hs hn ht body up => ?_, fun s a t n ha first on room up idle => ?_, fun s a t target eye c w p ha running width inflight waits hp ho => ?_⟩
  · subst hn
    have w := (s.begin.entered 0x80 p).queueRun_within p.target.toNat
    have inflight : ((s.begin.entered 0x80 p).queueRun p.target.toNat).cmd.inflight = [s.begin.begun 0x80 p] := congrArg CmdSt.inflight w.cmd_eq
    refine hs.runs_later rfl (opCalRun_later ht body up) w.dev inflight rfl fun u ends => ⟨?_, ?_⟩
    · rw [State.calT_congr (ends.cal.trans (State.Within.cal_eq ((State.Within.refl _ [.cmd] []).cmd _)))]
      exact State.queueRun_queues _ _
    · have waiting := (congrArg CmdSt.inflight ends.cmd).trans (State.setWait_inflight _ _ _ inflight rfl)
      exact ⟨_, waiting ▸ List.mem_singleton.mpr rfl, rfl, rfl, rfl⟩
  · have ht : n < 84 := List.mem_range.mp (List.mem_of_find?_eq_some first)
    have start := State.calStart_first first on room up
    have w : a.Within (a.setCal n { a.calT n with queued := false, started := some a.time.clk }).showCal [.cal] [0x51] :=
      ((a.setCal_within n _).mono (by decide) (by decide)).andThen (State.showCal_within _) (by decide) (by decide)
    have body := (congrArg State.pump start).trans (State.pump_none _ ((congrArg CmdSt.inflight w.cmd_eq).trans idle))
    have shown := State.calT_setCal_same a n { a.calT n with queued := false, started := some a.time.clk }
    refine ha.runs_to (fun s => s.calStart.pump) rfl (body ▸ w) body fun u h => ?_
    rw [State.calT_congr (h.cal.trans (State.showCal_within _).cal_eq), shown, h.get, State.showCal_running _ n ht, shown]
    exact ⟨rfl, rfl, rfl⟩
  · obtain ⟨x, res, ended, done⟩ := State.calEnd_running running width
    have noted := a.runOver_within target x (decide (w < a.get F.CAL_CFG_EYE_MIN)) w target.isLt
    have waiting := (congrArg CmdSt.inflight noted.cmd_eq).trans inflight
    rw [State.answerCal_one waiting waits] at ended
    have answered := State.answer_within (a.runOver target x (decide (w < a.get F.CAL_CFG_EYE_MIN)) w) p 0 0 [res] hp ho
    have all : a.Within (a.calEnd target eye) [.cal, .err, .cmd, .host] [0x01, 0x51, 0x68] := ended ▸
      (((a.setCal_within target x).mono (by decide) (by decide)).andThen noted (by decide) (by decide)).andThen answered (by decide) (by decide)
    have body : (a.calEnd target eye).pump = _ := (congrArg State.pump ended).trans
      (State.pump_none _ (State.answer_inflight _ p 0 0 [res] waiting hp ho))
    refine ha.runs_to (fun s => (s.calEnd target eye).pump) rfl (body ▸ ended ▸ all) body fun u h => ⟨?_, ?_, ?_, ?_⟩
    · rw [State.calT_congr (h.cal.trans (answered.cal_eq.trans noted.cal_eq)), State.calT_setCal_same]
      exact done
    · rw [State.has, h.get, answered.get _ (calWord_unit _ target 0x100 target.isLt), a.runOver_lastFail target x _ w target.isLt]
      cases decide (w < a.get F.CAL_CFG_EYE_MIN) <;> rfl
    · refine h.raised (State.Raised.congr ?_ answered.err_eq)
      have raised := State.runRecorded_raised (((a.setCal target x).eyeNoted target (decide (w < a.get F.CAL_CFG_EYE_MIN))).runShown target
        (decide (w < a.get F.CAL_CFG_EYE_MIN)) w (a.calT target).temp) target (decide (w < a.get F.CAL_CFG_EYE_MIN))
      simp only [decide_eq_true_eq] at raised
      exact raised.congr (State.showCal_within _).err_eq
    · exact h.answered (State.answer_answered _ p 0 0 [res] hp ho (by decide))

end Sys2Proof.Machine
end

section
/-!
PROOFS about what the husk, the release of records, the cores and the journal keep to (R552 to R600).
-/
set_option Elab.async false -- one proof after the other: checking the whole text at once takes more memory than the check allows
namespace Sys2Proof.Machine

/-! ## Opcodes that keep to parts and units -/

/-- What an opcode may come to: it changes these parts and units alone, and waits for no FORWARD's replies. -/
def KeepsTo (ps : List Part) (us : List Nat) (s : State) (r : State × Verdict) : Prop :=
  s.Within r.1 ps us ∧ ∀ w, r.2 = .later w → w.isForward = false

namespace KeepsTo

variable {s t : State} {ps : List Part} {us : List Nat}

theorem bad (s : State) (ps : List Part) (us : List Nat) (st : Byte) (d : Nat) : KeepsTo ps us s (s, .bad st d) := ⟨.refl s _ _, nofun⟩

theorem badAfter (h : s.Within t ps us) (st : Byte) (d : Nat) : KeepsTo ps us s (t, .bad st d) := ⟨h, nofun⟩

theorem done (h : s.Within t ps us) (res : List Word) : KeepsTo ps us s (t, .done res) := ⟨h, nofun⟩

theorem later (h : s.Within t ps us) {w : Wait} (hw : w.isForward = false) : KeepsTo ps us s (t, .later w) :=
  ⟨h, fun _ e => Verdict.later.inj e ▸ hw⟩

theorem ite {c : Prop} [Decidable c] {q r : State × Verdict} (hq : c → KeepsTo ps us s q) (hr : ¬c → KeepsTo ps us s r) :
    KeepsTo ps us s (if c then q else r) := by
  split
  · exact hq ‹_›
  · exact hr ‹_›

end KeepsTo

/-- A served packet whose opcode keeps to parts and units changes those, CMD and the host interface. -/
theorem State.Serves.only_keeps {s : State} {p : Pkt} {op : Byte} {i : Instr} {ps : List Part} {us : List Nat} (hs : s.Serves p.path p.tag)
    (hx : exec i s = .next (s.row (fun s => s.takePkt op p))) (h0 : op ≠ 0)
    (keeps : KeepsTo ps us (s.begin.entered op p) (runOp op.toNat (s.begin.begun op p) (s.begin.entered op p)))
    (hc : .cmd ∉ ps := by decide) (hu : inUnits us F.SYS_DEV_STATE_STATE.addr = false := by decide) :
    Runs i s (fun u => s.Only u (.cmd :: .host :: ps) (inUnits (0x01 :: us))) :=
  hs.only_runs hx h0 rfl keeps.2 keeps.1 hc hu

/-! ## Keys -/

theorem slotWord_unit (us : List Nat) (i : Nat) (hi : i < 0x1000) : inUnits us (wordAddr 0x60 (0x101 + i)) = us.contains 0x60 :=
  inUnits_wordAddr us 0x60 _ (by omega)

theorem State.showKeys_within (s : State) : s.Within s.showKeys [] [0x60] := by
  unfold State.showKeys
  refine State.Within.forEach _ _ ((State.Within.refl s _ _).put _ _) fun i hi t h => ?_
  have shown : inUnits [0x60] (wordAddr 0x60 (0x101 + (i + 1))) = true :=
    slotWord_unit _ _ (by have := List.mem_range.mp hi; omega)
  exact (h.putB _ _ shown).put _ _ shown

theorem State.eraseKeys_within (s : State) : s.Within s.eraseKeys [.husk] [0x60] :=
  (((State.Within.refl s [.husk] [0x60]).husk _).put _ _).andThen (State.showKeys_within _) (by decide) (by decide)

theorem State.authFail_within (s : State) : s.Within s.authFail [] [0x60] := ((State.Within.refl s _ _).put _ _).count _ _

section

open KeepsTo

variable (p : InFlight) (s : State)

/-- What the key packets and CHECKPOINT change besides CMD and the host interface. -/
abbrev KeepsToKeys : State → State × Verdict → Prop := KeepsTo [.husk, .journal] [0x04, 0x60, 0x68]

theorem opHuskInit_keeps : KeepsToKeys s (opHuskInit p s) :=
  ite (fun _ => bad s _ _ _ _) fun _ => ite (fun _ => bad s _ _ _ _) fun _ => ite (fun _ => bad s _ _ _ _) fun _ =>
    ite (fun _ => bad s _ _ _ _) fun _ => done ((((State.Within.refl s _ _).husk _).put _ _).put _ _) _

theorem opHuskPolicy_keeps : KeepsToKeys s (opHuskPolicy p s) :=
  ite (fun _ => bad s _ _ _ _) fun _ => ite (fun _ => bad s _ _ _ _) fun _ => ite (fun _ => bad s _ _ _ _) fun _ =>
    ite (fun _ => bad s _ _ _ _) fun _ => ite (fun _ => bad s _ _ _ _) fun _ => done (((State.Within.refl s _ _).put _ _).put _ _) _

theorem keySlotCheck_bad (v : Verdict) (h : keySlotCheck p s = .error v) : ∃ st d, v = .bad st d := by
  unfold keySlotCheck at h
  dsimp only at h
  split at h
  · exact ⟨_, _, (Except.error.inj h).symm⟩
  · split at h
    · exact ⟨_, _, (Except.error.inj h).symm⟩
    · split at h
      · exact ⟨_, _, (Except.error.inj h).symm⟩
      · split at h
        · exact ⟨_, _, (Except.error.inj h).symm⟩
        · cases h

theorem opKeyLoad_keeps : KeepsToKeys s (opKeyLoad p s) := by
  unfold opKeyLoad
  refine ite (fun _ => bad s _ _ _ _) fun _ => ?_
  split
  · rename_i v refusal
    obtain ⟨st, d, rfl⟩ := keySlotCheck_bad p s v refusal
    exact bad s _ _ st d
  · split
    · exact badAfter (s.authFail_within.mono (by decide) (by decide)) _ _
    · exact done ((((State.Within.refl s _ _).husk _).put _ _).andThen (State.showKeys_within _) (by decide) (by decide)) _

theorem opKeyClear_keeps : KeepsToKeys s (opKeyClear p s) := by
  unfold opKeyClear
  refine ite (fun _ => bad s _ _ _ _) fun _ => ?_
  split
  · rename_i v refusal
    obtain ⟨st, d, rfl⟩ := keySlotCheck_bad p s v refusal
    exact bad s _ _ st d
  · exact done (((State.Within.refl s _ _).husk _).andThen (State.showKeys_within _) (by decide) (by decide)) _

theorem opHuskAck_keeps : KeepsToKeys s (opHuskAck p s) :=
  ite (fun _ => bad s _ _ _ _) fun _ => ite (fun _ => bad s _ _ _ _) fun _ => ite (fun _ => bad s _ _ _ _) fun _ =>
    done (((State.Within.refl s _ _).put _ _).husk _) _

theorem opCheckpoint_keeps : KeepsToKeys s (opCheckpoint p s) :=
  ite (fun _ => bad s _ _ _ _) fun _ => ite (fun _ => bad s _ _ _ _) fun _ => ite (fun _ => bad s _ _ _ _) fun _ =>
    later (.refl s _ _) rfl

end

/-! ## Alarm sources, zeroization and the battery -/

theorem State.deassert_within (s : State) (src : Nat) : s.Within (s.deassert src) [] [0x60] := (State.Within.refl s _ _).put _ _

theorem State.zeroizeDone_idle_within (s : State) (idle : s.cmd.inflight = []) : s.Within s.zeroizeDone [] [0x60] := by
  unfold State.zeroizeDone
  refine .ite (fun _ => .refl s _ _) fun _ => ?_
  extract_lets ended
  have none : ended.cmd.inflight = [] := idle
  rw [none]
  exact ((State.Within.refl s _ _).put _ _).put _ _

theorem State.zeroizeDone_pump_within (s : State) (idle : s.cmd.inflight = []) : s.Within s.zeroizeDone.pump [] [0x60] := by
  have w := s.zeroizeDone_idle_within idle
  rw [State.pump_none _ ((congrArg CmdSt.inflight w.cmd_eq).trans idle)]
  exact w

theorem State.vbatCheck_within (s : State) (mv : Nat) : s.Within (s.vbatCheck mv) [.err] [0x60, 0x68] := by
  unfold State.vbatCheck
  extract_lets low was shown
  have h : s.Within shown [.err] [0x60, 0x68] := (State.Within.refl s _ _).putB _ _
  exact .ite (fun _ => h.andThen (shown.warn_within _ _ _) (by decide) (by decide)) fun _ => h

/-! ## Records, cores and the journal -/

theorem State.rateEnd_within (s : State) : s.Within s.rateEnd [.err] [] := by
  unfold State.rateEnd
  split
  · exact .ite (fun _ => (State.Within.refl s _ _).err _) fun _ => .refl s _ _
  · exact .refl s _ _

theorem State.logTimeout_within (s : State) : s.Within s.logTimeout [.err] [0x68] := ((State.Within.refl s _ _).mark _ _).err _

theorem State.repeatedRestart_within (s : State) (n : Nat) : s.Within (s.repeatedRestart n) [.err, .sys] [0x68] :=
  .ite (fun _ => .refl s _ _) fun _ => ((State.Within.refl s _ _).err _).trans (State.devErr_within _ _ _)

theorem State.baseDone_within (s : State) : s.Within s.baseDone [.journal] [0x04, 0x68] := by
  unfold State.baseDone
  split
  · exact .refl s _ _
  · exact ((State.Within.refl s _ _).journal _).andThen (State.showJournal_within _) (by decide) (by decide)

/-! ## The statement -/

/-- A command that changes ERR, its words and what a record may ask for. -/
theorem State.Awake.only_errors {s a : State} {t : Nat} {i : Instr} (ha : s.Awake t a) (g : State → State)
    (hx : exec i s = .next (s.row (fun s => g (s.arrive t)))) (w : a.Within (g a) [.err, .sys] [0x68]) :
    Runs i s (fun u => a.Only u [.err, .sys, .seq] (inUnits [0x68])) :=
  ha.only g hx (w.mono (by decide) (by decide)) w.dev

/-- Settles O50: each body keeps to the parts and units of its clause, and none of them brings the device into HALT. -/
theorem frameOfKeysAndErrors : Obligations.FrameOfKeysAndErrors := by
  unfold Obligations.FrameOfKeysAndErrors
  simp only [List.forall_mem_cons, List.not_mem_nil, false_imp_iff, implies_true, and_true]
  refine ⟨fun s p hs => ⟨?_, ?_, ?_, ?_, ?_, ?_⟩, fun s a t source ha => ?_, fun s a t ha idle => ?_, fun s a t mv ha => ?_,
    fun s a t core ha => ⟨?_, ?_, ?_, ?_⟩, fun s a t ha => ⟨?_, ?_⟩⟩
  · exact hs.only_keeps rfl (by decide) (opHuskInit_keeps _ _)
  · exact hs.only_keeps rfl (by decide) (opHuskPolicy_keeps _ _)
  · exact hs.only_keeps rfl (by decide) (opKeyLoad_keeps _ _)
  · exact hs.only_keeps rfl (by decide) (opKeyClear_keeps _ _)
  · exact hs.only_keeps rfl (by decide) (opHuskAck_keeps _ _)
  · exact hs.only_keeps rfl (by decide) (opCheckpoint_keeps _ _)
  · exact ha.only_pin (fun s => s.deassert source) (fun s => (s.reach t).deassert source) rfl (a.deassert_within source)
      (a.deassert_within source).dev
  · have w := a.zeroizeDone_pump_within idle
    exact ha.only (fun s => s.zeroizeDone.pump) rfl w w.dev
  · have w := a.vbatCheck_within mv
    exact ha.only (fun s => s.vbatCheck mv) rfl (w.mono (by decide) (by decide)) w.dev
  · exact ha.only_errors State.rateEnd rfl (a.rateEnd_within.mono (by decide) (by decide))
  · exact ha.only_errors State.logTimeout rfl (a.logTimeout_within.mono (by decide) (by decide))
  · exact ha.only_errors (fun s => s.coreRestart core) rfl ((a.coreRestart_within core).mono (by decide) (by decide))
  · exact ha.only_errors (fun s => s.repeatedRestart core) rfl (a.repeatedRestart_within core)
  · have w := a.baseDone_within
    exact ha.only State.baseDone rfl (w.mono (by decide) (by decide)) w.dev
  · have w := a.checkpointFail_within
    exact ha.only State.checkpointFail rfl (w.mono (by decide) (by decide)) w.dev

end Sys2Proof.Machine
end

section
/-!
PROOFS about what thermal, lamp and light commands keep to (R506 to R548).
-/
set_option Elab.async false -- one proof after the other: checking the whole text at once takes more memory than the check allows
namespace Sys2Proof.Machine

/-! ## THERM (R508, R514, R516, R518, R520) -/

theorem State.markFailed_within (s : State) (n : Nat) : s.Within (s.markFailed n) [.err] [0x50, 0x68] :=
  .ite (fun _ => .refl s _ _) fun _ =>
    ((State.Within.refl s _ _).put F.THERM_FLAGS_FAILED _).andThen (State.warn_within _ ⟨1, 0x50⟩ 0x5001 [n]) (by decide) (by decide)

theorem State.quorum_within (s : State) : s.Within s.quorum [.therm, .err, .sys] [0x68] := by
  unfold State.quorum
  extract_lets lost was _ noted
  have h : s.Within noted [.therm, .err, .sys] [0x68] := (State.Within.refl s _ _).therm _
  exact .ite (fun _ => h.andThen (noted.devErr_within _ _) (by decide) (by decide)) fun _ => h

theorem State.sensorFailed_within (s : State) (n : Nat) : s.Within (s.sensorFailed n) [.therm, .err, .sys] [0x50, 0x68] := by
  unfold State.sensorFailed
  extract_lets _ marked
  refine .ite (fun _ => .refl s _ _) fun _ => ?_
  have h : s.Within marked [.therm, .err, .sys] [0x50, 0x68] :=
    ((State.Within.refl s _ _).therm _).andThen (State.markFailed_within _ n) (by decide) (by decide)
  exact (h.put _ _).andThen (State.quorum_within _) (by decide) (by decide)

theorem State.thermalShutdown_within (s : State) : s.Within s.thermalShutdown [.therm, .err, .sys] [0x50, 0x68] := by
  unfold State.thermalShutdown
  extract_lets starts _ noted raised
  refine .ite (fun _ => .refl s _ _) fun _ => ?_
  have h : s.Within noted [.therm, .err, .sys] [0x50, 0x68] := (State.Within.refl s _ _).therm _
  have h' : s.Within raised [.therm, .err, .sys] [0x50, 0x68] := ((h.put _ _).put _ _).andThen
    (State.raise_low_within _ 3 ⟨1, 0x50⟩ 0x5010 _ (by decide) (by decide)) (by decide) (by decide)
  exact h'.andThen (raised.triggerDev_within 4 7) (by decide) (by decide)

theorem State.thermalClear_within (s : State) : s.Within s.thermalClear [] [0x50] :=
  .ite (fun _ => (State.Within.refl s _ _).put _ _) fun _ => .refl s _ _

theorem State.powerBand_within (s : State) : s.Within s.powerBand [.therm] [0x50] :=
  .forEach _ _ ((State.Within.refl s _ _).therm _) fun _ _ _ h => h.put _ _

theorem State.shutLimit_within (s : State) : s.Within s.shutLimit [.sys, .cmd, .err, .therm] [0x00, 0x68] := by
  unfold State.shutLimit
  split
  · exact .refl s _ _
  · exact .ite (fun _ => .refl s _ _) fun _ => ((State.Within.refl s _ _).therm _).trans (State.raise_fatal_within _ 0x5031)

/-! ## LIGHT's strings (R534 to R546) -/

/-- A word of one of the eight strings is a word of LIGHT. -/
theorem lampWord_unit {us : List Nat} {n w : Nat} (hn : n < 8) (hw : w < 0x200 := by decide) (hu : us.contains 0x58 = true := by decide) :
    inUnits us (wordAddr 0x58 (w + 0x10 * n)) = true := by
  rw [inUnits_wordAddr _ _ _ (by omega)]
  exact hu

section

variable {s t : State} {ps : List Part} {us : List Nat}

theorem State.Within.setLamp (h : s.Within t ps us) (n : Nat) (x : LightStr) (hq : .light ∈ ps := by decide) : s.Within (t.setLamp n x) ps us :=
  h.light _ hq

end

section

variable (s : State) {n : Nat} (hn : n < 8)

include hn

theorem State.lightPin_within (b : Bool) : s.Within (s.lightPin n b) [.light] [0x58] := by
  unfold State.lightPin
  extract_lets shown
  have h : s.Within shown [.light] [0x58] := (State.Within.refl s _ _).putB _ _ (lampWord_unit hn)
  exact .ite (fun _ => h.emit _) fun _ => h

theorem State.lampOn_within (w : Nat) (stretch asked : Bool) : s.Within (s.lampOn n w stretch asked) [.light] [0x58] := by
  unfold State.lampOn
  extract_lets x lit
  have h : s.Within lit [.light] [0x58] := (State.Within.refl s _ _).setLamp _ _
  exact ((h.put _ _ (lampWord_unit hn)).put _ _ (lampWord_unit hn)).trans (State.lightPin_within _ hn true)

theorem State.lampOff_within : s.Within (s.lampOff n) [.light] [0x58] :=
  .ite (fun _ => s.lampLow_within n hn) fun _ => .refl s _ _

theorem State.rowLoad_within : s.Within (s.rowLoad n) [.light] [0x58] := by
  unfold State.rowLoad
  extract_lets x room first
  refine .ite (fun _ => .refl s _ _) fun _ => ?_
  dsimp only
  have h : ∀ v : LightSt, ∀ a b, s.Within ({ ((s.setLamp n a).put (F.LIGHT_S_STAT_LOAD_PEND n) 0).put (F.LIGHT_STR_OUT_N n) b with light := v })
      [.light] [0x58] := fun v a b =>
    ((((State.Within.refl s _ _).setLamp n a).put _ _ (lampWord_unit hn)).put _ _ (lampWord_unit hn)).light v
  exact .ite (fun _ => ((h _ _ _).emit _).emit _) fun _ => h _ _ _

theorem State.pwmStart_within : s.Within (s.pwmStart n) [.light] [0x58] := by
  unfold State.pwmStart
  extract_lets fallen x p on short count due ask plain counted _ reset skipped
  have off : s.Within fallen [.light] [0x58] := s.lampOff_within hn
  refine .ite (fun _ => off) fun _ => ?_
  have h : s.Within counted [.light] [0x58] := off.setLamp _ _
  refine .ite (fun _ => ?_) fun _ => ?_
  · exact (((h.setLamp _ _).put _ _ (lampWord_unit hn)).count _ _ (lampWord_unit hn)).trans (State.lampOn_within _ hn _ _ _)
  · have h' : s.Within skipped [.light] [0x58] :=
      .ite (fun _ => (h.setLamp _ _).count _ _ (lampWord_unit hn)) fun _ => h
    exact .ite (fun _ => h'.trans (State.lampOn_within _ hn _ _ _)) fun _ =>
      .ite (fun _ => h'.put _ _ (lampWord_unit hn)) fun _ => h'.trans (State.lampOn_within _ hn _ _ _)

theorem State.diagnosticPulse_within : s.Within (s.diagnosticPulse n) [.light] [0x58] := by
  unfold State.diagnosticPulse
  extract_lets x next mid due counted
  refine .ite (fun _ => .refl s _ _) fun _ => .ite (fun _ => ?_) fun _ => .ite (fun _ => ?_) fun _ => .refl s _ _
  · have h : s.Within counted [.light] [0x58] :=
      .ite (fun _ => (((State.Within.refl s _ _).setLamp _ _).put _ _ (lampWord_unit hn)).count _ _ (lampWord_unit hn)) fun _ => .refl s _ _
    exact h.trans (State.lampOn_within _ hn _ _ _)
  · exact ((State.Within.refl s _ _).setLamp _ _).count _ _ (lampWord_unit hn)

/-- In HALT the strobe pulses that fall due are counted as skipped. -/
theorem State.strobeSkips_within (t : State) (k : Nat) (h : s.Within t [.light] [0x58]) :
    s.Within (if 0 < t.strobeAhead n (t.lamp n).pulse t.ns ∨ !(t.lamp n).active then (t, k)
      else ((t.strobeGoTo n ((t.lamp n).pulse + 1)).count (F.LIGHT_STR_SKIPPED n), k + 1)).1 [.light] [0x58] := by
  split
  · exact h
  · exact (h.setLamp _ _).count _ _ (lampWord_unit hn)

theorem State.strobeRise_within : s.Within (s.strobeRise n) [.light, .err] [0x58, 0x68] := by
  unfold State.strobeRise
  extract_lets x swept ahead passed y risen w ask
  have sweep : s.Within swept [.light, .err] [0x58, 0x68] := s.strobeSweep_within n hn
  have rises : s.Within risen [.light, .err] [0x58, 0x68] := (sweep.setLamp _ _).setLamp _ _
  refine .ite (fun _ => .refl s _ _) fun _ => .ite (fun _ => ?_) fun _ => .ite (fun _ => sweep) fun _ => .ite (fun _ => sweep.setLamp _ _)
    fun _ => .ite (fun _ => rises) fun _ => .ite (fun _ => ?_) fun _ => ?_
  · have h := s.strobeSkip_within n 0 hn
    split
    rename_i t k skip
    rw [skip] at h
    have h' := s.strobeSkips_within hn t k h
    split
    rename_i t' k' skips
    rw [skips] at h'
    have h'' : s.Within t' [.light, .err] [0x58, 0x68] := h'.mono (by decide) (by decide)
    refine .ite (fun _ => h'') fun _ => ?_
    extract_lets marked _
    have m : s.Within marked [.light, .err] [0x58, 0x68] := h''.mark _ _ (lampWord_unit hn)
    exact .ite (fun _ => m) fun _ => (m.setLamp _ _).andThen (State.lightWarn_within _ _ _) (by decide) (by decide)
  · exact rises.andThen (State.lampOn_within _ hn _ _ _) (by decide) (by decide)
  · exact rises.andThen (State.lampOn_within _ hn _ _ _) (by decide) (by decide)

theorem State.lampOffFault_within : s.Within (s.lampOffFault n) [.light, .err] [0x58, 0x68] :=
  .ite (fun _ => .refl s _ _) fun _ => (((s.lampLow_within n hn).mono (by decide) (by decide)).put _ _ (lampWord_unit hn)).andThen
    (State.lightWarn_within _ _ _) (by decide) (by decide)

theorem State.lampDeclare_within : s.Within (s.lampDeclare n) [.err] [0x58, 0x68] := by
  have h := State.Within.refl s [.err] [0x58, 0x68]
  exact .ite (fun _ => (h.put _ _ (lampWord_unit hn)).andThen (State.lightWarn_within _ _ _) (by decide) (by decide)) fun _ =>
    .ite (fun _ => ((h.put _ _ (lampWord_unit hn)).put _ _ (lampWord_unit hn)).andThen (State.lightWarn_within _ _ _) (by decide) (by decide))
      fun _ => h

theorem State.lampClearMarks_within : s.Within (s.lampClearMarks n) [] [0x58] :=
  (((State.Within.refl s _ _).put _ _ (lampWord_unit hn)).put _ _ (lampWord_unit hn)).put _ _ (lampWord_unit hn)

theorem State.lampClear_within : s.Within (s.lampClear n) [] [0x58] := .ite (fun _ => s.lampClearMarks_within hn) fun _ => .refl s _ _

theorem State.stretchStarved_within : s.Within (s.stretchStarved n) [.err] [0x58, 0x68] :=
  .ite (fun _ => .refl s _ _) fun _ =>
    ((State.Within.refl s _ _).put _ _ (lampWord_unit hn)).andThen (State.lightWarn_within _ _ _) (by decide) (by decide)

end

/-! ## LIGHT and THERM packets (R527, R548) -/

section

open KeepsTo

variable (p : InFlight) (s : State)

/-- What the packets change besides CMD and the host interface. -/
abbrev KeepsToLight : State → State × Verdict → Prop := KeepsTo [.light, .therm] [0x50, 0x58]

theorem opLightClear_keeps : KeepsToLight s (opLightClear p s) :=
  ite (fun _ => bad s _ _ _ _) fun range => ite (fun _ => bad s _ _ _ _) fun _ =>
    have hn : p.target.toNat < 8 := Nat.lt_of_not_le range
    done ((((s.lampClearMarks_within hn).mono (by decide) (by decide)).put _ _ (lampWord_unit hn)).setLamp _ _) _

theorem opLightMeasure_keeps : KeepsToLight s (opLightMeasure p s) :=
  ite (fun _ => bad s _ _ _ _) fun _ => ite (fun _ => bad s _ _ _ _) fun _ => ite (fun _ => bad s _ _ _ _) fun _ =>
    later ((State.Within.refl s _ _).setLamp _ _) rfl

theorem opSensorReadmit_keeps : KeepsToLight s (opSensorReadmit p s) :=
  ite (fun _ => bad s _ _ _ _) fun _ => ite (fun _ => bad s _ _ _ _) fun _ => ite
    (fun _ => done (((State.Within.refl s _ _).put _ _).therm _) _) fun _ => done (.refl s _ _) _

end

/-! ## The statement -/

/-- A command on a string, at its own time, that changes LIGHT and its words. -/
theorem State.Awake.only_light {s a : State} {t : Nat} {i : Instr} (ha : s.Awake t a) (g : State → State)
    (hx : exec i s = .next (s.row (fun s => g (s.arrive t)))) (w : a.Within (g a) [.light] [0x58]) :
    Runs i s (fun u => a.Only u [.light] (inUnits [0x58])) :=
  ha.only g hx w w.dev

/-- One that raises records besides. -/
theorem State.Awake.only_light_errors {s a : State} {t : Nat} {i : Instr} (ha : s.Awake t a) (g : State → State)
    (hx : exec i s = .next (s.row (fun s => g (s.arrive t)))) (w : a.Within (g a) [.light, .err] [0x58, 0x68]) :
    Runs i s (fun u => a.Only u [.light, .err, .sys, .seq] (inUnits [0x58, 0x68])) :=
  ha.only g hx (w.mono (by decide) (by decide)) w.dev

/-- Settles O49: each body keeps to the parts and units of its clause; only SHUTDOWN_LIMIT_EXPIRY halts the device. -/
theorem frameOfThermalAndLight : Obligations.FrameOfThermalAndLight := by
  unfold Obligations.FrameOfThermalAndLight
  simp only [List.forall_mem_cons, List.not_mem_nil, false_imp_iff, implies_true, and_true]
  refine ⟨fun s n up => ⟨?_, ?_, ?_⟩, fun s a f ha => ?_, fun s a t ha => ?_, fun s a t n ha => ⟨?_, ?_, ?_, ?_, ?_⟩,
    fun s a t n ha => ⟨?_, ?_⟩, fun s n up => ⟨?_, ?_, ?_⟩, fun s p hs => ⟨?_, ?_, ?_⟩⟩
  · exact State.only_now (fun s => s.sensorFailed n) rfl up ((s.begin.sensorFailed_within n).mono (by decide) (by decide))
  · exact State.only_now State.thermalShutdown rfl up (s.begin.thermalShutdown_within.mono (by decide) (by decide))
  · exact State.only_now State.thermalClear rfl up (s.begin.thermalClear_within.mono (by decide) (by decide))
  · have w := a.powerBand_within
    exact ha.only State.powerBand rfl (w.mono (by decide) (by decide)) w.dev
  · exact ha.only_edge State.shutLimit rfl (a.shutLimit_within.mono (by decide) (by decide))
  · exact ha.only_light (fun s => s.pwmStart n) rfl (a.pwmStart_within n.isLt)
  · exact ha.only_light (fun s => s.lampOff n) rfl (a.lampOff_within n.isLt)
  · exact ha.only_light (fun s => s.rowLoad n) rfl (a.rowLoad_within n.isLt)
  · exact ha.only_light (fun s => s.lampOff n) rfl (a.lampOff_within n.isLt)
  · exact ha.only_light (fun s => s.diagnosticPulse n) rfl (a.diagnosticPulse_within n.isLt)
  · exact ha.only_light_errors (fun s => s.strobeRise n) rfl (a.strobeRise_within n.isLt)
  · exact ha.only_light_errors (fun s => s.lampOffFault n) rfl (a.lampOffFault_within n.isLt)
  · exact State.only_now (fun s => s.lampDeclare n) rfl up ((s.begin.lampDeclare_within n.isLt).mono (by decide) (by decide))
  · exact State.only_now (fun s => s.lampClear n) rfl up ((s.begin.lampClear_within n.isLt).mono (by decide) (by decide))
  · exact State.only_now (fun s => s.stretchStarved n) rfl up ((s.begin.stretchStarved_within n.isLt).mono (by decide) (by decide))
  · exact hs.only_keeps rfl (by decide) (opLightClear_keeps _ _)
  · exact hs.only_keeps rfl (by decide) (opLightMeasure_keeps _ _)
  · exact hs.only_keeps rfl (by decide) (opSensorReadmit_keeps _ _)

end Sys2Proof.Machine
end

section
/-!
PROOFS about the key island (R552 to R573): what erasing, stopping and zeroizing leave of its words, its keys and the records raised.
-/
set_option Elab.async false -- one proof after the other: checking the whole text at once takes more memory than the check allows
namespace Sys2Proof.Machine

/-! ## Fields -/

theorem State.get_lt (s : State) (f : Fld) : s.get f < 2 ^ f.width := Nat.mod_lt _ (Nat.two_pow_pos _)

/-- A one-bit field that is set reads 1. -/
theorem State.get_of_has (s : State) (f : Fld) (h : s.has f = true) (one : f.width = 1 := by rfl) : s.get f = 1 := by
  have lt := s.get_lt f
  have ne : s.get f ≠ 0 := by simpa [State.has] using h
  rw [one] at lt
  omega

theorem State.Ends.husk {s t u : State} (h : s.Ends t u) : u.husk = t.husk := (congrArg State.husk h.eq :)

theorem State.Ends.husk_edge {s b u : State} (h : s.Ends (haltEdge s.begin b) u) : u.husk = b.husk :=
  h.husk.trans ((haltEdge_within s.begin b).parts .husk (by decide)).1

theorem State.Within.husk_eq {a b : State} {ps : List Part} {us : List Nat} (h : a.Within b ps us) (hq : .husk ∉ ps := by decide) :
    b.husk = a.husk := (h.parts .husk hq).1

/-! ## Records that have been raised stay raised -/

namespace State.Raised

variable {s : State} {cls d : Nat} {x : Subject}

theorem warn (h : s.Raised cls d x) (y : Subject) (d' : Nat) (args : List Int) : (s.warn y d' args).Raised cls d x :=
  h.raise_low 1 y d' args (by decide) (by decide)

theorem unitErr (h : s.Raised cls d x) (u d' : Nat) (args : List Int) : (s.unitErr u d' args).Raised cls d x :=
  h.raise_low 3 ⟨1, u⟩ d' args (by decide) (by decide)

theorem devErr (h : s.Raised cls d x) (d' : Nat) (args : List Int) : (s.devErr d' args).Raised cls d x := by
  unfold State.devErr State.raise
  extract_lets entered
  have held : entered.Raised cls d x := h.enterRecord _
  rw [if_neg (by decide), if_pos rfl]
  split
  · exact held.enterRecord _
  · split
    · exact held
    · exact held

/-- A fault of a channel that enters its record. -/
theorem raise_fault (h : s.Raised cls d x) (y : Subject) (d' : Nat) : (s.raise 2 true y d').Raised cls d x := by
  unfold State.raise
  extract_lets entered
  have held : entered.Raised cls d x := h.enterRecord _
  rw [if_neg (by decide), if_neg (by decide)]
  split
  · exact held.congr (by simp)
  · exact held

theorem within (h : s.Raised cls d x) {t : State} {ps : List Part} {us : List Nat} (w : s.Within t ps us) (hq : .err ∉ ps := by decide) :
    t.Raised cls d x := h.congr (w.err_eq hq)

end State.Raised

/-! ## Streams that stop and state that is zeroized (R157, R568, R569) -/

theorem State.unitErr_within (s : State) (u d : Nat) (args : List Int) (hu : u < 256) : s.Within (s.unitErr u d args) [.err] [0x68] :=
  s.raise_low_within 3 ⟨1, u⟩ d args (by decide) (by decide)
    ((inUnits_wordAddr [0x68] 0x68 _ (show 0x180 + u < 65536 by omega)).trans rfl)

/-- A stream that a detail below 2^16 stops. -/
theorem State.stopStream_within (s : State) (n d : Nat) (hn : n < 256) (hd : d / 256 < 256) :
    s.Within (s.stopStream n d) [.stream, .err, .sys] [0x10, 0x68] := by
  unfold State.stopStream
  extract_lets x emptied shown
  have h : s.Within shown [.stream, .err, .sys] [0x10, 0x68] := by
    have unit : inUnits [0x10, 0x68] (wordAddr 0x10 (0x100 + 0x8 * n)) = true := inUnits_streamWord _ n 0x100 hn (by decide)
    have e : s.Within emptied [.stream, .err, .sys] [0x10, 0x68] := (State.Within.refl s _ _).setStrm n _ hn
    exact ((e.put _ _ unit).put _ _ unit).put _ _ unit
  exact .ite (fun _ => .refl s _ _) fun _ =>
    (h.andThen (shown.unitErr_within _ _ _ hd) (by decide) (by decide)).andThen (State.autoDrain_within _) (by decide) (by decide)

theorem State.Raised.stopStream {s : State} {cls d : Nat} {x : Subject} (h : s.Raised cls d x) (n d' : Nat) :
    (s.stopStream n d').Raised cls d x := by
  unfold State.stopStream
  extract_lets y emptied shown
  have held : shown.Raised cls d x := h.congr (by simp [shown, emptied])
  split
  · exact h
  · exact (held.unitErr _ _ _).within (State.autoDrain_within _)


/-- What zeroization may change, and what it leaves of the records raised: one of its steps. -/
structure State.Zeroizes (s t : State) : Prop where
  within : s.Within t [.stream, .seq, .err, .journal, .pack] [0x10, 0x11, 0x68]
  raised : ∀ {cls d : Nat} {x : Subject}, s.Raised cls d x → t.Raised cls d x

namespace State.Zeroizes

variable {s t u : State}

theorem refl (s : State) : s.Zeroizes s := ⟨.refl s _ _, id⟩

theorem trans (h : s.Zeroizes t) (h' : t.Zeroizes u) : s.Zeroizes u := ⟨h.within.trans h'.within, fun r => h'.raised (h.raised r)⟩

/-- A step that raises nothing. -/
theorem quiet (h : s.Zeroizes t) (w : t.Within u [.stream, .seq, .journal, .pack] [0x10, 0x11]) : s.Zeroizes u :=
  h.trans ⟨w.mono (by decide) (by decide), fun r => r.within w⟩

theorem ite {c : Prop} [Decidable c] (h : c → s.Zeroizes t) (h' : ¬c → s.Zeroizes u) : s.Zeroizes (if c then t else u) := by
  split
  · exact h ‹_›
  · exact h' ‹_›

theorem forEach {α : Type} (xs : List α) (f : α → State → State) (h : s.Zeroizes t) (step : ∀ y ∈ xs, ∀ u, State.Zeroizes u (f y u)) :
    s.Zeroizes (Machine.forEach xs f t) := by
  induction xs generalizing t with
  | nil => exact h
  | cons y ys ih => exact ih (h.trans (step y List.mem_cons_self t)) fun z hz => step z (List.mem_cons_of_mem y hz)

end State.Zeroizes

theorem State.raise_fault_zeroizes (s : State) (c d : Nat) (hc : c < 64) : s.Zeroizes (s.raise 2 true ⟨2, c⟩ d) := by
  refine ⟨?_, fun r => r.raise_fault _ _⟩
  obtain ⟨t, w, e⟩ := s.raise_fault c d [] hc
  rw [e]
  exact (w.mono (by decide) (by decide)).andThen (t.addChTrigger_within c _) (by decide) (by decide)

theorem State.zeroize_zeroizes (s : State) : s.Zeroizes s.zeroize := by
  unfold State.zeroize
  extract_lets enc cleared emptied open_ _ _ erased
  have queues : s.Zeroizes cleared := .forEach _ _ (.refl s) fun c hc t => by
    have hc := List.mem_range.mp hc
    extract_lets held unstaged x hit
    have staging : t.Zeroizes unstaged :=
      .ite (fun _ => (State.Zeroizes.refl t).quiet ((t.setStaged_within c [] hc).mono (by decide) (by decide))) fun _ => .refl t
    refine .ite (fun _ => ?_) fun _ => staging
    exact (staging.quiet ((unstaged.setSq_within c _).mono (by decide) (by decide))).trans (State.raise_fault_zeroizes _ c 0x6021 hc)
  have buffers : s.Zeroizes emptied := queues.forEach _ _ fun n hn t =>
    .ite (fun _ => (State.Zeroizes.refl t).quiet ((State.Within.refl t _ _).setStrm n _ (List.mem_range.mp hn))) fun _ => .refl t
  clear_value emptied
  have forgotten : emptied.Within erased [.stream, .seq, .journal, .pack] [0x10, 0x11] :=
    ((State.Within.refl emptied [.stream, .seq, .journal, .pack] [0x10, 0x11]).journal erased.journal).pack erased.pack
  have images : s.Zeroizes erased := buffers.quiet forgotten
  refine images.forEach _ _ fun k hk t => .ite (fun _ => ?_) fun _ => .refl t
  exact (State.Zeroizes.refl t).quiet (((t.setSlot_within k _ (List.mem_range.mp hk)).mono (by decide) (by decide)).andThen
    (State.slotChanged_within _ k) (by decide) (by decide))

/-! ## Keys (R555 to R558, R568, R575) -/

/-- The words of the island that showing the keys leaves: those below the SLOT words, but for SLOTS_LOADED. -/
def Fld.besideKeys (f : Fld) : Prop := f.addr < wordAddr 0x60 0x102 ∧ (f.addr ≠ wordAddr 0x60 0 ∨ f.lo + f.width ≤ 8 ∨ 15 ≤ f.lo)

theorem State.showKeys_get (s : State) (f : Fld) (h : f.besideKeys) : s.showKeys.get f = s.get f := by
  obtain ⟨below, apart⟩ := h
  unfold State.showKeys
  refine (forEach_leaves (fun t => t.get f) _ _ _ fun i _ t => ?_).trans (s.get_put_apart _ f _ (by decide) apart)
  have ne : f.addr ≠ wordAddr 0x60 (0x101 + (i + 1)) := by
    unfold wordAddr at below ⊢
    omega
  exact (State.get_put_other_word _ _ _ _ ne).trans (State.get_put_other_word _ _ _ _ ne)

/-- SLOT's LOADED bit follows the key held. -/
theorem State.showKeys_loaded (s : State) (n : Nat) (h1 : 1 ≤ n) (h64 : n ≤ 64) :
    s.showKeys.get (F.HUSK_SLOT_LOADED n) = if (tabGet [] s.husk.keys n).isEmpty then 0 else 1 := by
  obtain ⟨i, rfl⟩ : ∃ i, n = i + 1 := ⟨n - 1, by omega⟩
  unfold State.showKeys
  have shown := forEach_once (fun t : State => (t.get (F.HUSK_SLOT_LOADED (i + 1)), t.husk))
    (fun x => (if (tabGet [] x.2.keys (i + 1)).isEmpty then 0 else 1, x.2)) (List.range 64)
    (fun i s => (s.putB (F.HUSK_SLOT_LOADED (i + 1)) (!(tabGet [] s.husk.keys (i + 1)).isEmpty)).put (F.HUSK_SLOT_KCV (i + 1))
      (if (tabGet [] s.husk.keys (i + 1)).isEmpty then 0 else keyCheckValue (tabGet [] s.husk.keys (i + 1))))
    (List.mem_range.mpr (show i < 64 by omega)) List.nodup_range (s.put F.HUSK_STAT_SLOTS_LOADED s.husk.keys.length)
    (fun t => ?_) fun j _ ne t => ?_
  · exact congrArg Prod.fst shown
  · refine Prod.ext ?_ (by simp)
    rw [State.get_put_apart _ _ _ _ (Nat.le_of_ble_eq_true rfl) (.inr (.inl (Nat.le_of_ble_eq_true rfl))), State.putB,
      State.get_put_same _ _ _ (Nat.le_of_ble_eq_true rfl)]
    cases (tabGet [] t.husk.keys (i + 1)).isEmpty <;> rfl
  · have other : wordAddr 0x60 (0x101 + (i + 1)) ≠ wordAddr 0x60 (0x101 + (j + 1)) := by
      unfold wordAddr
      omega
    exact Prod.ext ((State.get_put_other_word _ _ _ _ other).trans (State.get_put_other_word _ _ _ _ other)) (by simp)

theorem State.showKeys_husk (s : State) : s.showKeys.husk = s.husk := s.showKeys_within.husk_eq

theorem State.eraseKeys_husk (s : State) : s.eraseKeys.husk = { s.husk with dk := none, keys := [] } := by
  unfold State.eraseKeys
  rw [State.showKeys_husk]
  simp

theorem State.eraseKeys_get (s : State) (f : Fld) (h : f.besideKeys) (check : f.addr ≠ F.HUSK_DK_KCV.addr) : s.eraseKeys.get f = s.get f :=
  (State.showKeys_get _ f h).trans (State.get_put_other_word _ _ _ _ check)

/-! ## STOP (R567) -/

/-- The fields that a STOP leaves: those of words that it does not write, and those of HUSK's status apart from STOP. -/
def Fld.besideStop (f : Fld) : Prop :=
  inUnits [0x49, 0x68] f.addr = false ∧ (f.addr ≠ wordAddr 0x60 0 ∨ f.lo + f.width ≤ 2 ∨ 3 ≤ f.lo)

/-- STOP closes the gates, unless they are closed. -/
def State.gatesClosed (s : State) : State :=
  if s.has F.HUSK_STAT_STOP then s else { s.put F.HUSK_STAT_STOP 1 with husk := { s.husk with gateClk := s.time.clk + 250 } }

/-- A paired device that is stopped makes a local stop. -/
def State.stoppedLocally (s : State) (clk : Nat) : State :=
  if !s.paired ∨ s.has F.PAIR_PSTAT_LOCAL_STOP then s
  else { (s.put F.PAIR_PSTAT_LOCAL_STOP 1).unitErr 0x49 0x4940 with husk := { s.husk with syncClk := clk } }

theorem State.huskStop_eq (s : State) (d src : Nat) :
    s.huskStop d src = (s.gatesClosed.stoppedLocally (s.time.clk + 250)).devErr d [src] := by
  unfold State.huskStop State.gatesClosed State.stoppedLocally
  split <;> simp only [State.put_rest]

theorem State.gatesClosed_within (s : State) : s.Within s.gatesClosed [.husk] [0x60] :=
  .ite (fun _ => .refl s _ _) fun _ => ((State.Within.refl s _ _).put _ _).husk _

theorem State.gatesClosed_get (s : State) (f : Fld) (apart : f.addr ≠ wordAddr 0x60 0 ∨ f.lo + f.width ≤ 2 ∨ 3 ≤ f.lo) :
    s.gatesClosed.get f = s.get f := by
  unfold State.gatesClosed
  split
  · rfl
  · exact s.get_put_apart F.HUSK_STAT_STOP f 1 (by decide) apart

theorem State.gatesClosed_stop (s : State) : s.gatesClosed.get F.HUSK_STAT_STOP = 1 := by
  unfold State.gatesClosed
  split
  · exact s.get_of_has _ ‹_›
  · exact s.get_put_same F.HUSK_STAT_STOP 1 (by decide)

theorem State.gatesClosed_held (s : State) : s.gatesClosed.husk.dk = s.husk.dk ∧ s.gatesClosed.husk.keys = s.husk.keys := by
  unfold State.gatesClosed
  split
  · exact ⟨rfl, rfl⟩
  · simp

theorem State.stoppedLocally_within (s : State) (clk : Nat) : s.Within (s.stoppedLocally clk) [.husk, .err] [0x49, 0x68] :=
  .ite (fun _ => .refl s _ _) fun _ => (((State.Within.refl s _ _).put _ _).andThen (State.unitErr_within _ 0x49 0x4940 [] (by decide))
    (by decide) (by decide)).husk _

theorem State.stoppedLocally_held (s : State) (clk : Nat) :
    (s.stoppedLocally clk).husk.dk = s.husk.dk ∧ (s.stoppedLocally clk).husk.keys = s.husk.keys := by
  unfold State.stoppedLocally
  split <;> exact ⟨rfl, rfl⟩

theorem State.Raised.stoppedLocally {s : State} {cls d : Nat} {x : Subject} (h : s.Raised cls d x) (clk : Nat) :
    (s.stoppedLocally clk).Raised cls d x := by
  have stopped : (s.put F.PAIR_PSTAT_LOCAL_STOP 1).Raised cls d x := h.congr (by simp)
  have raised := stopped.unitErr 0x49 0x4940 []
  unfold State.stoppedLocally
  split
  · exact h
  · exact raised.within ((State.Within.refl _ [.husk] []).husk _)

section

variable (s : State) (d src : Nat)

theorem State.huskStop_get (f : Fld) (h : f.besideStop) : (s.huskStop d src).get f = s.get f := by
  obtain ⟨units, apart⟩ := h
  have mild : inUnits [0x68] f.addr = false := Bool.eq_false_iff.mpr fun t => Bool.eq_false_iff.mp units (inUnits_mono (by decide) t)
  rw [s.huskStop_eq, (State.devErr_within _ _ _).get f mild, (State.stoppedLocally_within _ _).get f units, s.gatesClosed_get f apart]

theorem State.huskStop_stop : (s.huskStop d src).get F.HUSK_STAT_STOP = 1 := by
  rw [s.huskStop_eq, (State.devErr_within _ _ _).get _, (State.stoppedLocally_within _ _).get _, s.gatesClosed_stop]

theorem State.huskStop_held : (s.huskStop d src).husk.dk = s.husk.dk ∧ (s.huskStop d src).husk.keys = s.husk.keys := by
  rw [s.huskStop_eq, (State.devErr_within _ _ _).husk_eq]
  obtain ⟨dk, keys⟩ := s.gatesClosed.stoppedLocally_held (s.time.clk + 250)
  exact ⟨dk.trans s.gatesClosed_held.1, keys.trans s.gatesClosed_held.2⟩

theorem State.huskStop_raised : (s.huskStop d src).Raised 4 d ⟨0, 0⟩ := by
  rw [s.huskStop_eq]
  exact State.devErr_raised _ _ _

theorem State.Raised.huskStop {s : State} {cls d : Nat} {x : Subject} (h : s.Raised cls d x) (d' src : Nat) :
    (s.huskStop d' src).Raised cls d x := by
  have closed : s.gatesClosed.Raised cls d x := h.within s.gatesClosed_within
  rw [s.huskStop_eq]
  exact (closed.stoppedLocally _).devErr _ _

end

/-! ## ERASE (R568) -/

/-- STOP, with every key erased and an armed island in ERASED. -/
def State.islandErased (s : State) (src : Nat) : State :=
  let t := (s.huskStop 0x6011 src).eraseKeys
  if t.get F.HUSK_STAT_STATE = 2 then t.put F.HUSK_STAT_STATE 3 else t

/-- The encrypted streams that run are stopped. -/
def State.encryptedStopped (s : State) : State :=
  forEach (List.range 256) (fun n s =>
    if s.has (F.STREAM_S_STAT_ENCRYPTED n) && (s.strmState n == 1 || s.strmState n == 2) then s.stopStream n 0x6020 else s) s

/-- Zeroization begins. -/
def State.zeroizing (s : State) : State := (s.put F.HUSK_STAT_ZEROIZING 1).put F.HUSK_STAT_ZEROIZE_PENDING 1

theorem State.huskErase_eq (s : State) (src : Nat) : s.huskErase src = (s.islandErased src).encryptedStopped.zeroizing.zeroize := rfl

theorem State.encryptedStopped_within (s : State) : s.Within s.encryptedStopped [.stream, .err, .sys] [0x10, 0x68] :=
  .forEach _ _ (.refl s _ _) fun n hn t h =>
    .ite (fun _ => h.trans (t.stopStream_within n 0x6020 (List.mem_range.mp hn) (by decide))) fun _ => h

theorem State.Raised.encryptedStopped {s : State} {cls d : Nat} {x : Subject} (h : s.Raised cls d x) : s.encryptedStopped.Raised cls d x :=
  forEach_keeps (fun t => t.Raised cls d x) _ _ s h fun n t ht => by
    split
    · exact ht.stopStream n 0x6020
    · exact ht

section

variable (s : State) (src : Nat)

theorem State.islandErased_state : (s.huskStop 0x6011 src).eraseKeys.Within (s.islandErased src) [] [0x60] :=
  .ite (fun _ => (State.Within.refl _ _ _).put _ _) fun _ => .refl _ _ _

theorem State.islandErased_within : s.Within (s.islandErased src) [.husk, .err, .sys] [0x49, 0x60, 0x68] :=
  ((s.huskStop_within 0x6011 src).andThen (State.eraseKeys_within _) (by decide) (by decide)).andThen (s.islandErased_state src)
    (by decide) (by decide)

/-- The fields that a STOP and the erasure of the keys leave, STATE apart. -/
theorem State.islandErased_get (f : Fld) (stop : f.besideStop) (keys : f.besideKeys) (check : f.addr ≠ F.HUSK_DK_KCV.addr)
    (state : f.addr ≠ wordAddr 0x60 0 ∨ 2 ≤ f.lo) : (s.islandErased src).get f = s.get f := by
  have erased : (s.huskStop 0x6011 src).eraseKeys.get f = s.get f := (State.eraseKeys_get _ f keys check).trans (s.huskStop_get _ _ f stop)
  unfold State.islandErased
  dsimp only
  split
  · exact (State.get_put_apart _ F.HUSK_STAT_STATE f 3 (by decide) (state.imp_right .inr)).trans erased
  · exact erased

theorem State.islandErased_stop : (s.islandErased src).get F.HUSK_STAT_STOP = 1 := by
  have stop : (s.huskStop 0x6011 src).eraseKeys.get F.HUSK_STAT_STOP = 1 :=
    (State.eraseKeys_get _ F.HUSK_STAT_STOP ⟨by decide, by decide⟩ (by decide)).trans (s.huskStop_stop _ _)
  unfold State.islandErased
  dsimp only
  split
  · exact (State.get_put_apart _ F.HUSK_STAT_STATE _ 3 (by decide) (by decide)).trans stop
  · exact stop

/-- An armed island is in ERASED. -/
theorem State.islandErased_armed (armed : s.get F.HUSK_STAT_STATE = 2) : (s.islandErased src).get F.HUSK_STAT_STATE = 3 := by
  have kept : (s.huskStop 0x6011 src).eraseKeys.get F.HUSK_STAT_STATE = 2 :=
    ((State.eraseKeys_get _ F.HUSK_STAT_STATE ⟨by decide, by decide⟩ (by decide)).trans (s.huskStop_get _ _ _ ⟨by decide, by decide⟩)).trans armed
  unfold State.islandErased
  exact (congrArg (State.get · F.HUSK_STAT_STATE) (if_pos kept)).trans (State.get_put_same _ F.HUSK_STAT_STATE 3 (by decide))

theorem State.islandErased_husk : (s.islandErased src).husk.dk = none ∧ (s.islandErased src).husk.keys = [] := by
  rw [(s.islandErased_state src).husk_eq, State.eraseKeys_husk]
  exact ⟨rfl, rfl⟩

theorem State.Raised.islandErased {s : State} {cls d : Nat} {x : Subject} (h : s.Raised cls d x) (src : Nat) :
    (s.islandErased src).Raised cls d x :=
  ((h.huskStop _ _).within (State.eraseKeys_within _)).within (s.islandErased_state src)

theorem State.islandErased_raised : (s.islandErased src).Raised 4 0x6011 ⟨0, 0⟩ :=
  ((s.huskStop_raised _ _).within (State.eraseKeys_within _)).within (s.islandErased_state src)

theorem State.zeroizing_get (f : Fld) (apart : f.addr ≠ wordAddr 0x60 0 ∨ f.lo + f.width ≤ 3 ∨ 5 ≤ f.lo) : s.zeroizing.get f = s.get f :=
  (State.get_put_apart _ F.HUSK_STAT_ZEROIZE_PENDING f 1 (by decide) (apart.imp_right (·.imp (·.trans (by decide)) id))).trans
    (s.get_put_apart F.HUSK_STAT_ZEROIZING f 1 (by decide) (apart.imp_right (·.imp id (le_trans (by decide)))))

theorem State.zeroizing_within : s.Within s.zeroizing [] [0x60] := ((State.Within.refl s _ _).put _ _).put _ _

/-- A field that neither the streams nor zeroization change is as the erased island has it. -/
theorem State.huskErase_get (f : Fld) (units : inUnits [0x10, 0x11, 0x68] f.addr = false)
    (apart : f.addr ≠ wordAddr 0x60 0 ∨ f.lo + f.width ≤ 3 ∨ 5 ≤ f.lo) : (s.huskErase src).get f = (s.islandErased src).get f := by
  have streams : inUnits [0x10, 0x68] f.addr = false := Bool.eq_false_iff.mpr fun t => Bool.eq_false_iff.mp units (inUnits_mono (by decide) t)
  rw [s.huskErase_eq, (State.zeroize_zeroizes _).within.get f units, State.zeroizing_get _ f apart, (State.encryptedStopped_within _).get f streams]

theorem State.huskErase_zeroizing : (s.huskErase src).get F.HUSK_STAT_ZEROIZING = 1 := by
  rw [s.huskErase_eq, (State.zeroize_zeroizes _).within.get _]
  exact (State.get_put_apart _ F.HUSK_STAT_ZEROIZE_PENDING _ 1 (by decide) (by decide)).trans
    (State.get_put_same _ F.HUSK_STAT_ZEROIZING 1 (by decide))

theorem State.huskErase_pending : (s.huskErase src).get F.HUSK_STAT_ZEROIZE_PENDING = 1 := by
  rw [s.huskErase_eq, (State.zeroize_zeroizes _).within.get _]
  exact State.get_put_same _ F.HUSK_STAT_ZEROIZE_PENDING 1 (by decide)

theorem State.huskErase_husk : (s.huskErase src).husk.dk = none ∧ (s.huskErase src).husk.keys = [] := by
  rw [s.huskErase_eq, (State.zeroize_zeroizes _).within.husk_eq, (State.zeroizing_within _).husk_eq, (State.encryptedStopped_within _).husk_eq]
  exact s.islandErased_husk src

theorem State.Raised.huskErase {s : State} {cls d : Nat} {x : Subject} (h : (s.islandErased src).Raised cls d x) :
    (s.huskErase src).Raised cls d x := by
  rw [s.huskErase_eq]
  exact (State.zeroize_zeroizes _).raised (h.encryptedStopped.within (State.zeroizing_within _))

theorem State.huskErase_within :
    s.Within (s.huskErase src) [.husk, .stream, .seq, .err, .sys, .journal, .pack] [0x10, 0x11, 0x49, 0x60, 0x68] := by
  rw [s.huskErase_eq]
  have island := (s.islandErased_within src).mono (qs := [.husk, .stream, .seq, .err, .sys, .journal, .pack])
    (vs := [0x10, 0x11, 0x49, 0x60, 0x68]) (by decide) (by decide)
  have streams := island.andThen (State.encryptedStopped_within _) (by decide) (by decide)
  exact (streams.andThen (State.zeroizing_within _) (by decide) (by decide)).andThen (State.zeroize_zeroizes _).within (by decide) (by decide)

end

end Sys2Proof.Machine
end

section
/-!
PROOFS about the husk's alarms (R561 to R568): a source that is newly asserted is latched, logged and warned of, and acts by the state and the
policy.
-/
set_option Elab.async false -- one proof after the other: checking the whole text at once takes more memory than the check allows
namespace Sys2Proof.Machine

/-! ## Bits of a field -/

/-- HUSK's part holds no words. -/
theorem State.get_husk (s : State) (y : HuskSt) (f : Fld) : State.get { s with husk := y } f = s.get f := rfl

theorem bitsOf_field (s : State) (f : Fld) (v i : Nat) (hf : f.lo + f.width ≤ 32) (hi : i + 1 ≤ f.width) :
    bitsOf ((s.put f v).get f) i 1 = bitsOf v i 1 := by
  rw [State.get_put_same _ _ _ hf, bitsOf_mod_two_pow _ _ _ _ hi]

theorem bitsOf_or_two_pow (v i : Nat) : bitsOf (v ||| 2 ^ i) i 1 = 1 := by
  have set : (v ||| 2 ^ i).testBit i = true := by simp
  rw [Nat.testBit_eq_decide_div_mod_eq] at set
  exact of_decide_eq_true set

/-! ## Replies to packets that wait (R81) -/

theorem lossFlds_unit (p : Path) : inUnits [0x01, 0x09] (lossFlds p).1.addr = true := by cases p <;> decide

theorem State.answerRidge_within (s : State) (p : InFlight) (r : Reply) : s.Within (s.answerRidge p r) [.cmd] [] :=
  .ite (fun _ => .refl s _ _) fun _ => .ite (fun _ => (State.Within.refl s _ _).cmd _) fun _ =>
    (s.emitRidge_within _ _ _).mono (by decide) (by decide)

/-- An answer to any packet changes CMD, the host interface and its words. -/
theorem State.answers_within (s : State) (p : InFlight) (st : Byte) (d : Nat) (res : List Word) :
    s.Within (s.answer p st d res) [.cmd, .host] [0x01, 0x09] := by
  unfold State.answer State.answerAt
  extract_lets r retired
  have h : s.Within retired [.cmd, .host] [0x01, 0x09] := (State.Within.refl s _ _).cmd _
  refine .ite (fun _ => ?_) fun _ => .ite (fun _ => ?_) fun _ => ?_
  · exact h.andThen (retired.answerRidge_within p r) (by decide) (by decide)
  · exact (h.count _ _ (lossFlds_unit p.path)).andThen (State.keep_within _ _ _) (by decide) (by decide)
  · exact h.andThen (retired.send_within _ _) (by decide) (by decide)

/-! ## A newly asserted source (R562, R565) -/

/-- The source is asserted and latched. -/
def State.alarmSeen (s : State) (src : Nat) : State :=
  (s.put F.HUSK_STAT_ASSERTED (withBits (s.get F.HUSK_STAT_ASSERTED) src 1 1)).mark F.HUSK_LATCHED (2 ^ src)

/-- It is logged with what it does, and the HUSK_ZEROIZEs that wait are turned away. -/
def State.alarmEntered (s : State) (src action : Nat) : State :=
  forEach ((s.alarmLog src action false).cmd.inflight.filter (fun p => p.wait == .zeroize)) (fun p s => s.answer p 0x10 0x6031 [])
    (s.alarmLog src action false)

/-- What follows a log entry by the policy (R564, R567, R568). -/
def State.alarmActs (s : State) (src act : Nat) : State :=
  if act ≤ s.husk.inForce then s
  else
    let t := { s with husk := { s.husk with inForce := act } }
    if act = 2 then t.huskErase src else t.huskStop 0x6010 src

section

variable (s : State) (src : Nat)

theorem State.alarmSeen_within : s.Within (s.alarmSeen src) [] [0x60] := ((State.Within.refl s _ _).put _ _).mark _ _

theorem State.alarmSeen_get (f : Fld) (apart : f.addr ≠ wordAddr 0x60 0 ∨ f.lo + f.width ≤ 16) (latch : f.addr ≠ wordAddr 0x60 2) :
    (s.alarmSeen src).get f = s.get f := by
  unfold State.alarmSeen
  rw [State.get_mark, State.get_put_other_word _ _ _ _ latch]
  exact s.get_put_apart F.HUSK_STAT_ASSERTED f _ (by decide) (apart.imp_right .inl)

theorem State.alarmSeen_asserted (h : src < 6) : bitsOf ((s.alarmSeen src).get F.HUSK_STAT_ASSERTED) src 1 = 1 := by
  unfold State.alarmSeen
  rw [State.get_mark, State.get_put_other_word _ _ _ _ (by decide), bitsOf_field _ _ _ _ (by decide) h, bitsOf_withBits_same]
  rfl

theorem State.alarmSeen_latched (h : src < 6) : bitsOf ((s.alarmSeen src).get F.HUSK_LATCHED) src 1 = 1 := by
  unfold State.alarmSeen
  rw [State.get_mark, bitsOf_field _ _ _ _ (by decide) h, bitsOf_or_two_pow]

theorem State.alarmSeen_husk : (s.alarmSeen src).husk = s.husk := (s.alarmSeen_within src).husk_eq

theorem State.alarmSeen_up (up : s.inReset = false) : (s.alarmSeen src).inReset = false := by
  rw [State.inReset, (s.alarmSeen_within src).sys_eq]
  exact up

theorem State.alarmSeen_state : ((s.alarmSeen src).get F.HUSK_STAT_STATE == 1) = (s.get F.HUSK_STAT_STATE == 1) := by
  rw [s.alarmSeen_get src _ (by decide) (by decide)]

theorem State.alarmSeen_eq :
    (s.put F.HUSK_STAT_ASSERTED (withBits (s.get F.HUSK_STAT_ASSERTED) src 1 1)).mark F.HUSK_LATCHED (2 ^ src) = s.alarmSeen src := rfl

/-- In an island that is KEYED the source erases every key; a device that is awake is warned besides. -/
theorem State.alarm_keyed (new : bitsOf (s.get F.HUSK_STAT_ASSERTED) src 1 = 0) (state : s.get F.HUSK_STAT_STATE = 1) (up : s.inReset = false) :
    s.alarm src false = ((((s.alarmSeen src).alarmEntered src 2).eraseKeys).put F.HUSK_STAT_STATE 0).warn ⟨1, 0x60⟩ 0x6001 [src] := by
  simp only [State.alarm, new, s.alarmSeen_eq src, s.alarmSeen_state src, s.alarmSeen_up src up, state, State.alarmEntered, Nat.zero_ne_one,
    Bool.or_self, beq_self_eq_true, Bool.false_eq_true, if_true, if_false]

/-- In another island it warns, and acts by the policy. -/
theorem State.alarm_acts (new : bitsOf (s.get F.HUSK_STAT_ASSERTED) src 1 = 0) (state : s.get F.HUSK_STAT_STATE ≠ 1) (up : s.inReset = false) :
    s.alarm src false = (((s.alarmSeen src).alarmEntered src ((s.alarmSeen src).alarmAction src)).warn ⟨1, 0x60⟩ 0x6001 [src]).alarmActs src
      ((s.alarmSeen src).alarmAction src) := by
  simp only [State.alarm, new, s.alarmSeen_eq src, s.alarmSeen_state src, s.alarmSeen_up src up, beq_false_of_ne state, State.alarmEntered,
    State.alarmActs, Nat.zero_ne_one, Bool.or_self, Bool.false_eq_true, if_false]
  rfl

theorem State.alarmSeen_action : (s.alarmSeen src).alarmAction src = s.alarmAction src := by
  unfold State.alarmAction
  rw [s.alarmSeen_get src F.HUSK_STAT_STATE (by decide) (by decide), s.alarmSeen_get src F.HUSK_POLICY (by decide) (by decide)]

/-! ## The log (R565) -/

theorem State.logHead_lt : s.get F.HUSK_LOG_HEAD < 16 := s.get_lt F.HUSK_LOG_HEAD

/-- A word of the log's entry `e`. -/
theorem logWord_unit (w e : Nat) (hw : w < 0x100) (he : e < 16) : inUnits [0x60] (wordAddr 0x60 (w + 2 * e)) = true :=
  inUnits_wordAddr _ 0x60 _ (by omega)

theorem State.alarmLog_within (action : Nat) (battery : Bool) : s.Within (s.alarmLog src action battery) [] [0x60] := by
  have entry : inUnits [0x60] (wordAddr 0x60 (0x40 + 0x2 * s.get F.HUSK_LOG_HEAD)) = true := logWord_unit _ _ (by decide) s.logHead_lt
  have time : inUnits [0x60] (wordAddr 0x60 (0x41 + 0x2 * s.get F.HUSK_LOG_HEAD)) = true := logWord_unit _ _ (by decide) s.logHead_lt
  unfold State.alarmLog
  extract_lets e entered
  have h : s.Within entered [] [0x60] :=
    ((((State.Within.refl s _ _).put _ _ entry).put _ _ entry).putB _ _ entry).put _ _ entry
  exact (h.put _ _ time).put _ _

/-- A log entry leaves the words below the log, but for LOG_HEAD. -/
theorem State.alarmLog_get (action : Nat) (battery : Bool) (f : Fld) (below : f.addr < wordAddr 0x60 0x40) (head : f.addr ≠ wordAddr 0x60 6) :
    (s.alarmLog src action battery).get f = s.get f := by
  have ne : ∀ w e, 0x40 ≤ w → f.addr ≠ wordAddr 0x60 (w + 2 * e) := by
    intro w e hw
    unfold wordAddr at below ⊢
    omega
  unfold State.alarmLog
  extract_lets e entered
  have h : entered.get f = s.get f :=
    ((((State.get_put_other_word _ _ _ _ (ne 0x40 e (by decide))).trans (State.get_put_other_word _ _ _ _ (ne 0x40 e (by decide)))).trans
      (State.get_put_other_word _ _ _ _ (ne 0x40 e (by decide))))).trans (State.get_put_other_word _ _ _ _ (ne 0x40 e (by decide)))
  exact ((State.get_put_other_word _ _ _ _ head).trans (State.get_put_other_word _ _ _ _ (ne 0x41 e (by decide)))).trans h

/-- The entry at LOG_HEAD names the source. -/
theorem State.alarmLog_source (action : Nat) (battery : Bool) :
    (s.alarmLog src action battery).get (F.HUSK_LOG_A_SOURCE (s.get F.HUSK_LOG_HEAD)) = src % 8 := by
  have lt := s.logHead_lt
  unfold State.alarmLog
  extract_lets e entered
  have time : wordAddr 0x60 (0x40 + 0x2 * e) ≠ wordAddr 0x60 (0x41 + 0x2 * e) := by unfold wordAddr; omega
  have head : wordAddr 0x60 (0x40 + 0x2 * e) ≠ wordAddr 0x60 6 := by unfold wordAddr; omega
  have source : entered.get (F.HUSK_LOG_A_SOURCE e) = src % 8 := by
    have apart : ∀ (t : State) (f : Fld) (v : Nat), f.lo + f.width ≤ 32 → 3 ≤ f.lo → (t.put f v).get (F.HUSK_LOG_A_SOURCE e)
        = t.get (F.HUSK_LOG_A_SOURCE e) := fun t f v fits lo => t.get_put_apart f _ v fits (.inr (.inl lo))
    have valid := Nat.le_of_ble_eq_true (rfl : Nat.ble 3 (F.HUSK_LOG_A_VALID e).lo = true)
    have battery := Nat.le_of_ble_eq_true (rfl : Nat.ble 3 (F.HUSK_LOG_A_ON_BATTERY e).lo = true)
    have action := Nat.le_of_ble_eq_true (rfl : Nat.ble 3 (F.HUSK_LOG_A_ACTION e).lo = true)
    exact (((apart _ _ _ (Nat.le_of_ble_eq_true rfl) valid).trans (apart _ _ _ (Nat.le_of_ble_eq_true rfl) battery)).trans
      (apart _ _ _ (Nat.le_of_ble_eq_true rfl) action)).trans (State.get_put_same _ _ _ (Nat.le_of_ble_eq_true rfl))
  exact ((State.get_put_other_word _ _ _ _ head).trans (State.get_put_other_word _ _ _ _ time)).trans source

theorem State.alarmEntered_answers (action : Nat) :
    (s.alarmLog src action false).Within (s.alarmEntered src action) [.cmd, .host] [0x01, 0x09] :=
  .forEach _ _ (.refl _ _ _) fun p _ t h => h.trans (t.answers_within p 0x10 0x6031 [])

theorem State.alarmEntered_within (action : Nat) : s.Within (s.alarmEntered src action) [.cmd, .host] [0x01, 0x09, 0x60] :=
  ((s.alarmLog_within src action false).mono (by decide) (by decide)).andThen (s.alarmEntered_answers src action) (by decide) (by decide)

/-- What an entry leaves: the words below the log, but for LOG_HEAD and the host interface's. -/
theorem State.alarmEntered_get (action : Nat) (f : Fld) (below : f.addr < wordAddr 0x60 0x40) (head : f.addr ≠ wordAddr 0x60 6)
    (host : inUnits [0x01, 0x09] f.addr = false) : (s.alarmEntered src action).get f = s.get f :=
  ((s.alarmEntered_answers src action).get f host).trans (s.alarmLog_get src action false f below head)

theorem State.alarmEntered_source (action : Nat) :
    (s.alarmEntered src action).get (F.HUSK_LOG_A_SOURCE (s.get F.HUSK_LOG_HEAD)) = src % 8 := by
  have lt := s.logHead_lt
  have host : inUnits [0x01, 0x09] (F.HUSK_LOG_A_SOURCE (s.get F.HUSK_LOG_HEAD)).addr = false :=
    inUnits_wordAddr _ 0x60 (0x40 + 0x2 * s.get F.HUSK_LOG_HEAD) (by omega)
  exact ((s.alarmEntered_answers src action).get _ host).trans (s.alarmLog_source src action false)

/-! ## What an alarm brings, whatever it does (R562 to R565) -/

end

/-- The fields that no alarm's action changes. -/
def Fld.besideAlarm (f : Fld) : Prop :=
  inUnits [0x10, 0x11, 0x49, 0x68] f.addr = false ∧ f.addr < wordAddr 0x60 0x102 ∧ f.addr ≠ wordAddr 0x60 4
    ∧ (f.addr ≠ wordAddr 0x60 0 ∨ 15 ≤ f.lo)

namespace Fld.besideAlarm

variable {f : Fld}

theorem stop (h : f.besideAlarm) : f.besideStop := by
  obtain ⟨units, -, -, apart⟩ := h
  exact ⟨Bool.eq_false_iff.mpr fun t => Bool.eq_false_iff.mp units (inUnits_mono (by decide) t), apart.imp_right fun lo => .inr (by omega)⟩

theorem keys (h : f.besideAlarm) : f.besideKeys := by
  obtain ⟨-, below, -, apart⟩ := h
  exact ⟨below, apart.imp_right .inr⟩

end Fld.besideAlarm

section

variable (s : State) (src : Nat)

theorem State.huskErase_beside (f : Fld) (h : f.besideAlarm) : (s.huskErase src).get f = s.get f := by
  obtain ⟨units, -, check, apart⟩ := id h
  rw [s.huskErase_get src f (Bool.eq_false_iff.mpr fun t => Bool.eq_false_iff.mp units (inUnits_mono (by decide) t))
    (apart.imp_right fun lo => .inr (by omega)), s.islandErased_get src f h.stop h.keys check (apart.imp_right fun lo => by omega)]

theorem State.alarmActs_beside (act : Nat) (f : Fld) (h : f.besideAlarm) : (s.alarmActs src act).get f = s.get f := by
  unfold State.alarmActs
  split
  · rfl
  · dsimp only
    split
    · exact State.huskErase_beside _ src f h
    · exact State.huskStop_get _ _ _ f h.stop

theorem State.Raised.alarmActs {s : State} {cls d : Nat} {x : Subject} (h : s.Raised cls d x) (src act : Nat) :
    (s.alarmActs src act).Raised cls d x := by
  have same : ∀ y : HuskSt, State.Raised { s with husk := y } cls d x := fun y => h.congr rfl
  unfold State.alarmActs
  split
  · exact h
  · dsimp only
    split
    · exact ((same _).islandErased src).huskErase
    · exact (same _).huskStop _ _

/-- Whatever an alarm does, the fields beside are as its log entry leaves them, and it warns. -/
theorem State.alarm_brings (new : bitsOf (s.get F.HUSK_STAT_ASSERTED) src 1 = 0) (up : s.inReset = false) :
    (s.alarm src false).Raised 1 0x6001 ⟨1, 0x60⟩ ∧ ∃ action, ∀ f : Fld, f.besideAlarm →
      (s.alarm src false).get f = ((s.alarmSeen src).alarmEntered src action).get f := by
  by_cases state : s.get F.HUSK_STAT_STATE = 1
  · rw [s.alarm_keyed src new state up]
    refine ⟨State.warn_raised _ _ _ _, 2, fun f h => ?_⟩
    obtain ⟨units, -, check, apart⟩ := id h
    rw [(State.warn_within _ _ _ _).get f (Bool.eq_false_iff.mpr fun t => Bool.eq_false_iff.mp units (inUnits_mono (by decide) t)),
      State.get_put_apart _ F.HUSK_STAT_STATE f 0 (by decide) (apart.imp_right fun lo => .inr (le_trans (by decide) lo)),
      State.eraseKeys_get _ f h.keys check]
  · rw [s.alarm_acts src new state up]
    refine ⟨(State.warn_raised _ _ _ _).alarmActs _ _, (s.alarmSeen src).alarmAction src, fun f h => ?_⟩
    obtain ⟨units, -⟩ := id h
    rw [State.alarmActs_beside _ _ _ f h,
      (State.warn_within _ _ _ _).get f (Bool.eq_false_iff.mpr fun t => Bool.eq_false_iff.mp units (inUnits_mono (by decide) t))]

/-- A source that is newly asserted is asserted, latched, logged and warned of. -/
theorem State.alarm_notes (new : bitsOf (s.get F.HUSK_STAT_ASSERTED) src 1 = 0) (up : s.inReset = false) (h : src < 6) :
    bitsOf ((s.alarm src false).get F.HUSK_STAT_ASSERTED) src 1 = 1 ∧ bitsOf ((s.alarm src false).get F.HUSK_LATCHED) src 1 = 1
      ∧ (s.alarm src false).get (F.HUSK_LOG_A_SOURCE (s.get F.HUSK_LOG_HEAD)) = src ∧ (s.alarm src false).Raised 1 0x6001 ⟨1, 0x60⟩ := by
  obtain ⟨raised, action, same⟩ := s.alarm_brings src new up
  have lt := s.logHead_lt
  have head : (s.alarmSeen src).get F.HUSK_LOG_HEAD = s.get F.HUSK_LOG_HEAD := s.alarmSeen_get src _ (by decide) (by decide)
  have log : (F.HUSK_LOG_A_SOURCE (s.get F.HUSK_LOG_HEAD)).besideAlarm := by
    have ne : ∀ w, w < 0x40 → wordAddr 0x60 (0x40 + 0x2 * s.get F.HUSK_LOG_HEAD) ≠ wordAddr 0x60 w := fun w hw => by unfold wordAddr; omega
    exact ⟨inUnits_wordAddr _ 0x60 (0x40 + 0x2 * s.get F.HUSK_LOG_HEAD) (by omega), by
      show wordAddr 0x60 (0x40 + 0x2 * s.get F.HUSK_LOG_HEAD) < wordAddr 0x60 0x102
      unfold wordAddr
      omega, ne 4 (by decide), .inl (ne 0 (by decide))⟩
  refine ⟨?_, ?_, ?_, raised⟩
  · rw [same F.HUSK_STAT_ASSERTED ⟨by decide, by decide, by decide, by decide⟩,
      State.alarmEntered_get _ _ _ _ (by decide) (by decide) (by decide), s.alarmSeen_asserted src h]
  · rw [same F.HUSK_LATCHED ⟨by decide, by decide, by decide, by decide⟩,
      State.alarmEntered_get _ _ _ _ (by decide) (by decide) (by decide), s.alarmSeen_latched src h]
  · rw [same _ log, ← head, State.alarmEntered_source, Nat.mod_eq_of_lt (by omega)]

/-! ## What it does by the state and the policy (R564, R567, R568) -/

/-- The state in which a source acts: it is seen, logged and warned of. -/
def State.alarmWarned (s : State) (src action : Nat) : State :=
  ((s.alarmSeen src).alarmEntered src action).warn ⟨1, 0x60⟩ 0x6001 [src]

theorem State.alarmWarned_husk (action : Nat) : (s.alarmWarned src action).husk = s.husk := by
  unfold State.alarmWarned
  rw [(State.warn_within _ _ _ _).husk_eq, (State.alarmEntered_within _ _ _).husk_eq, s.alarmSeen_husk]

/-- The fields of the island's words below the log, but for ASSERTED, LATCHED and LOG_HEAD. -/
theorem State.alarmWarned_get (action : Nat) (f : Fld) (below : f.addr < wordAddr 0x60 0x40) (head : f.addr ≠ wordAddr 0x60 6)
    (latch : f.addr ≠ wordAddr 0x60 2) (units : inUnits [0x01, 0x09, 0x68] f.addr = false)
    (apart : f.addr ≠ wordAddr 0x60 0 ∨ f.lo + f.width ≤ 16) : (s.alarmWarned src action).get f = s.get f := by
  have fewer : ∀ us, us ⊆ [0x01, 0x09, 0x68] → inUnits us f.addr = false :=
    fun us h => Bool.eq_false_iff.mpr fun t => Bool.eq_false_iff.mp units (inUnits_mono h t)
  unfold State.alarmWarned
  rw [(State.warn_within _ _ _ _).get f (fewer _ (by decide)), State.alarmEntered_get _ _ _ f below head (fewer _ (by decide)),
    s.alarmSeen_get src f apart latch]

/-- In an armed or erased island a source acts by its field of the policy. -/
theorem State.alarm_armed (new : bitsOf (s.get F.HUSK_STAT_ASSERTED) src 1 = 0) (armed : s.get F.HUSK_STAT_STATE = 2) (up : s.inReset = false)
    (act : Nat) (policy : bitsOf (s.get F.HUSK_POLICY) (2 * src) 2 = act) : s.alarm src false = (s.alarmWarned src act).alarmActs src act := by
  have action : s.alarmAction src = act := by
    unfold State.alarmAction
    rw [if_pos (.inl armed), policy]
  rw [s.alarm_acts src new (by omega) up, s.alarmSeen_action, action, State.alarmWarned]

/-- In an EMPTY island it acts on nothing. -/
theorem State.alarm_empty (new : bitsOf (s.get F.HUSK_STAT_ASSERTED) src 1 = 0) (empty : s.get F.HUSK_STAT_STATE = 0) (up : s.inReset = false) :
    s.alarm src false = s.alarmWarned src 0 := by
  have action : s.alarmAction src = 0 := by
    unfold State.alarmAction
    rw [if_neg (by omega)]
  rw [s.alarm_acts src new (by omega) up, s.alarmSeen_action, action, State.alarmActs, if_pos (Nat.zero_le _), State.alarmWarned]

/-- STOP takes force where nothing is in force. -/
theorem State.alarmActs_stops (none : s.husk.inForce = 0) :
    s.alarmActs src 1 = { s with husk := { s.husk with inForce := 1 } }.huskStop 0x6010 src := by
  unfold State.alarmActs
  rw [if_neg (by omega)]
  exact if_neg (by decide)

/-- ERASE takes force where it is not in force. -/
theorem State.alarmActs_erases (less : s.husk.inForce < 2) :
    s.alarmActs src 2 = { s with husk := { s.husk with inForce := 2 } }.huskErase src := by
  unfold State.alarmActs
  rw [if_neg (by omega)]
  exact if_pos rfl

/-- With action STOP the gates close and 0x6010 is raised; the keys stay. -/
theorem State.alarm_stops (new : bitsOf (s.get F.HUSK_STAT_ASSERTED) src 1 = 0) (armed : s.get F.HUSK_STAT_STATE = 2) (up : s.inReset = false)
    (policy : bitsOf (s.get F.HUSK_POLICY) (2 * src) 2 = 1) (none : s.husk.inForce = 0) :
    (s.alarm src false).get F.HUSK_STAT_STOP = 1 ∧ (s.alarm src false).husk.keys = s.husk.keys
      ∧ (s.alarm src false).Raised 4 0x6010 ⟨0, 0⟩ := by
  rw [s.alarm_armed src new armed up 1 policy, State.alarmActs_stops _ _ (by rw [s.alarmWarned_husk, none])]
  have keys : (s.alarmWarned src 1).husk.keys = s.husk.keys := congrArg HuskSt.keys (s.alarmWarned_husk src 1)
  exact ⟨State.huskStop_stop _ _ _, (State.huskStop_held _ _ _).2.trans keys, State.huskStop_raised _ _ _⟩

/-- With action ERASE every key goes, the island is ERASED, zeroization begins, and 0x6011 is raised. -/
theorem State.alarm_erases (new : bitsOf (s.get F.HUSK_STAT_ASSERTED) src 1 = 0) (armed : s.get F.HUSK_STAT_STATE = 2) (up : s.inReset = false)
    (policy : bitsOf (s.get F.HUSK_POLICY) (2 * src) 2 = 2) (less : s.husk.inForce < 2) :
    ((s.alarm src false).husk.dk = none ∧ (s.alarm src false).husk.keys = []) ∧ (s.alarm src false).get F.HUSK_STAT_STATE = 3
      ∧ (s.alarm src false).get F.HUSK_STAT_ZEROIZING = 1 ∧ (s.alarm src false).get F.HUSK_STAT_STOP = 1
      ∧ (s.alarm src false).Raised 4 0x6011 ⟨0, 0⟩ := by
  rw [s.alarm_armed src new armed up 2 policy, State.alarmActs_erases _ _ (by rw [s.alarmWarned_husk]; exact less)]
  have state : (s.alarmWarned src 2).get F.HUSK_STAT_STATE = 2 :=
    (s.alarmWarned_get src 2 _ (by decide) (by decide) (by decide) (by decide) (by decide)).trans armed
  refine ⟨State.huskErase_husk _ _, ?_, State.huskErase_zeroizing _ _, ?_, (State.islandErased_raised _ _).huskErase⟩
  · rw [State.huskErase_get _ _ _ (by decide) (by decide)]
    exact State.islandErased_armed _ _ ((State.get_husk _ _ _).trans state)
  · rw [State.huskErase_get _ _ _ (by decide) (by decide), State.islandErased_stop]

/-- In a KEYED island every key goes and the island is EMPTY. -/
theorem State.alarm_empties (new : bitsOf (s.get F.HUSK_STAT_ASSERTED) src 1 = 0) (keyed : s.get F.HUSK_STAT_STATE = 1) (up : s.inReset = false) :
    ((s.alarm src false).husk.dk = none ∧ (s.alarm src false).husk.keys = []) ∧ (s.alarm src false).get F.HUSK_STAT_STATE = 0 := by
  rw [s.alarm_keyed src new keyed up, (State.warn_within _ _ _ _).husk_eq, (State.warn_within _ _ _ _).get _,
    State.get_put_same _ _ _ (by decide)]
  simp [State.eraseKeys_husk]

/-! ## Sources that cease, AUTH, zeroization and the battery (R553, R561, R562, R568) -/

theorem State.deassert_clears (h : src < 6) : bitsOf ((s.deassert src).get F.HUSK_STAT_ASSERTED) src 1 = 0 := by
  rw [State.deassert, bitsOf_field _ _ _ _ (by decide) h, bitsOf_withBits_same]
  rfl

theorem State.deassert_get (f : Fld) (apart : f.addr ≠ wordAddr 0x60 0) : (s.deassert src).get f = s.get f :=
  State.get_put_other_word _ _ _ _ apart

theorem State.zeroizeDone_ends (idle : s.cmd.inflight = []) (runs : s.has F.HUSK_STAT_ZEROIZING = true) :
    s.zeroizeDone = (s.put F.HUSK_STAT_ZEROIZING 0).put F.HUSK_STAT_ZEROIZE_PENDING 0 := by
  unfold State.zeroizeDone
  rw [runs, if_neg (by decide)]
  simp [idle]

theorem State.vbatCheck_warns (mv : Nat) (low : mv < 2400) (first : s.has F.HUSK_STAT_VBAT_LOW = false) :
    s.vbatCheck mv = (s.putB F.HUSK_STAT_VBAT_LOW true).warn ⟨1, 0x60⟩ 0x6002 [mv] := by
  simp [State.vbatCheck, low, first]

end

theorem State.authAlarm_raises (s : State) (limited : bitsOf (s.get F.HUSK_POLICY) 16 8 ≠ 0)
    (reached : bitsOf (s.get F.HUSK_POLICY) 16 8 ≤ s.get F.HUSK_AUTH_FAILS_RUN) :
    s.authAlarm = ((s.put F.HUSK_AUTH_FAILS_RUN 0).alarm 5 false).deassert 5 := by
  unfold State.authAlarm
  exact if_neg (by omega)

/-- AUTH returns RUN to 0, is latched and warned of, and does not stay asserted. -/
theorem State.authAlarm_notes (s : State) (limited : bitsOf (s.get F.HUSK_POLICY) 16 8 ≠ 0)
    (reached : bitsOf (s.get F.HUSK_POLICY) 16 8 ≤ s.get F.HUSK_AUTH_FAILS_RUN) (new : bitsOf (s.get F.HUSK_STAT_ASSERTED) 5 1 = 0)
    (up : s.inReset = false) : s.authAlarm.get F.HUSK_AUTH_FAILS_RUN = 0 ∧ bitsOf (s.authAlarm.get F.HUSK_LATCHED) 5 1 = 1
      ∧ bitsOf (s.authAlarm.get F.HUSK_STAT_ASSERTED) 5 1 = 0 ∧ s.authAlarm.Raised 1 0x6001 ⟨1, 0x60⟩ := by
  have new' : bitsOf ((s.put F.HUSK_AUTH_FAILS_RUN 0).get F.HUSK_STAT_ASSERTED) 5 1 = 0 := by
    rw [State.get_put_other_word _ _ _ _ (by decide), new]
  have up' : (s.put F.HUSK_AUTH_FAILS_RUN 0).inReset = false := by
    rw [State.inReset, State.put_sys]
    exact up
  obtain ⟨-, latched, -, raised⟩ := State.alarm_notes _ 5 new' up' (by decide)
  obtain ⟨-, action, same⟩ := State.alarm_brings _ 5 new' up'
  rw [s.authAlarm_raises limited reached, State.deassert_get _ _ F.HUSK_AUTH_FAILS_RUN (by decide), State.deassert_get _ _ F.HUSK_LATCHED (by decide)]
  refine ⟨?_, latched, State.deassert_clears _ 5 (by decide), raised.within (State.deassert_within _ 5)⟩
  rw [same F.HUSK_AUTH_FAILS_RUN ⟨by decide, by decide, by decide, by decide⟩, State.alarmEntered_get _ _ _ _ (by decide) (by decide) (by decide),
    State.alarmSeen_get _ _ _ (by decide) (by decide), State.get_put_same _ _ _ (by decide)]
  rfl

/-! ## The statement -/

theorem State.sourceCheckAt_bad (s : State) (src : Nat) (battery : Bool) : s.sourceCheckAt src true battery = s.alarm src battery := if_pos rfl

theorem State.sourceCheckAt_good (s : State) (src : Nat) (battery : Bool) : s.sourceCheckAt src false battery = s.deassert src :=
  if_neg Bool.false_ne_true

theorem State.Awake.up {s a : State} {n : Nat} (ha : s.Awake n a) : a.inReset = false := by
  obtain ⟨-, porst, sysrst⟩ : s.pending = a.pending ∧ s.sys.porst = a.sys.porst ∧ s.sys.sysrst = a.sys.sysrst := by
    simpa [State.pins] using ha.pins.symm
  obtain ⟨-, up, -⟩ := ha
  rw [State.inReset, ← porst, ← sysrst]
  exact up

/-- A command on a pin that ends with what its body leaves, as the body's lemma has it. -/
theorem State.Awake.runs_pin_to {s a b : State} {n : Nat} {i : Instr} {P : State → Prop} (ha : s.Awake n a) (g k : State → State)
    (hx : exec i s = .next (s.pinRow (fun s => g (s.arrive n)) k)) (e : g a = b) (hP : ∀ u, s.Ends (haltEdge s.begin b) u → P u) :
    Runs i s P := by
  subst e
  exact ha.runs_pin g k hx hP

/-- VOLT_ALARM while the power is good. -/
theorem State.Awake.runs_volt {s a b : State} {n : Nat} {P : State → Prop} (ha : s.Awake n a) (power : s.sys.pwrfail = false)
    (e : a.alarm 1 false = b) (hP : ∀ u, s.Ends (haltEdge s.begin b) u → P u) : Runs (.voltAlarm n) s P := by
  obtain ⟨eq, up, -⟩ := ha
  have h := s.pinRow_ends (fun s => if s.sys.pwrfail then s else (s.arrive n).alarm 1 false)
    (fun s => if s.sys.porst || s.sys.pwrfail then s else (s.reach n).alarm 1 false) up
  rw [if_neg (show ¬s.begin.sys.pwrfail = true from Bool.eq_false_iff.mp power), ← State.upTo, ← eq, e] at h
  exact ⟨_, rfl, hP _ h⟩

theorem State.Ends.source_edge {s b u : State} (h : s.Ends (haltEdge s.begin b) u) (e : Nat) (he : e < 16) :
    u.get (F.HUSK_LOG_A_SOURCE e) = b.get (F.HUSK_LOG_A_SOURCE e) :=
  h.get_edge _ (inUnits_wordAddr _ 0x60 (0x40 + 0x2 * e) (by omega))

/-- Settles O37: what every newly asserted source brings (`alarm_notes`), and what it does in a KEYED, an EMPTY and an armed island. -/
theorem alarmsAct : Obligations.AlarmsAct := by
  unfold Obligations.AlarmsAct
  refine ⟨fun s a t ha new armed policy none => ?_, fun s a t battery ha => ?_, fun s a t ha power new empty => ?_,
    fun s a t ha new keyed => ?_, fun s a t ha new armed policy less => ?_, fun s a t ha new => ?_, fun s a t ha limited reached new => ?_,
    fun s a t source ha => ?_, fun s a t ha idle runs => ?_, fun s a t mv ha low first => ?_⟩
  · obtain ⟨asserted, latched, -, raised⟩ := a.alarm_notes 0 new ha.up (by decide)
    obtain ⟨stop, keys, stopped⟩ := a.alarm_stops 0 new armed ha.up policy none
    exact ha.runs_pin_to (fun s => s.sourceCheckAt 0 true false) _ rfl (a.sourceCheckAt_bad 0 false) fun u h =>
      ⟨(congrArg (bitsOf · 0 1) (h.get_edge _)).trans asserted, (congrArg (bitsOf · 0 1) (h.get_edge _)).trans latched,
        (h.get_edge _).trans stop, (congrArg HuskSt.keys h.husk_edge).trans keys, h.raised_edge raised, h.raised_edge stopped⟩
  · exact ha.runs_pin_to (fun s => s.sourceCheckAt 0 false battery) _ rfl (a.sourceCheckAt_good 0 battery) fun u h =>
      ⟨(congrArg (bitsOf · 0 1) (h.get_edge _)).trans (a.deassert_clears 0 (by decide)), (h.get_edge _).trans (a.deassert_get 0 _ (by decide)),
        h.husk_edge.trans (a.deassert_within 0).husk_eq⟩
  · obtain ⟨-, latched, source, raised⟩ := a.alarm_notes 1 new ha.up (by decide)
    have stop : (a.alarm 1 false).get F.HUSK_STAT_STOP = a.get F.HUSK_STAT_STOP := by
      rw [a.alarm_empty 1 new empty ha.up, a.alarmWarned_get 1 0 _ (by decide) (by decide) (by decide) (by decide) (by decide)]
    exact ha.runs_volt power rfl fun u h => ⟨(congrArg (bitsOf · 1 1) (h.get_edge _)).trans latched,
      (h.source_edge _ a.logHead_lt).trans source, (h.get_edge _).trans stop, h.raised_edge raised⟩
  · obtain ⟨-, -, -, raised⟩ := a.alarm_notes 2 new ha.up (by decide)
    obtain ⟨⟨dk, keys⟩, state⟩ := a.alarm_empties 2 new keyed ha.up
    exact ha.runs_pin_to (fun s => s.alarm 2 false) _ rfl rfl fun u h => ⟨(congrArg HuskSt.dk h.husk_edge).trans dk,
      (congrArg HuskSt.keys h.husk_edge).trans keys, (h.get_edge _).trans state, h.raised_edge raised⟩
  · obtain ⟨⟨dk, keys⟩, state, zeroizing, stop, raised⟩ := a.alarm_erases 3 new armed ha.up policy less
    exact ha.runs_pin_to (fun s => s.sourceCheckAt 3 true false) _ rfl (a.sourceCheckAt_bad 3 false) fun u h =>
      ⟨(congrArg HuskSt.dk h.husk_edge).trans dk, (congrArg HuskSt.keys h.husk_edge).trans keys, (h.get_edge _).trans state,
        (h.get_edge _).trans zeroizing, (h.get_edge _).trans stop, h.raised_edge raised⟩
  · obtain ⟨asserted, latched, source, raised⟩ := a.alarm_notes 4 new ha.up (by decide)
    exact ha.runs_pin_to (fun s => s.alarm 4 false) _ rfl rfl fun u h => ⟨(congrArg (bitsOf · 4 1) (h.get_edge _)).trans asserted,
      (congrArg (bitsOf · 4 1) (h.get_edge _)).trans latched, (h.source_edge _ a.logHead_lt).trans source, h.raised_edge raised⟩
  · obtain ⟨run, latched, asserted, raised⟩ := a.authAlarm_notes limited reached new ha.up
    exact ha.runs_edge State.authAlarm rfl fun u h => ⟨(h.get_edge _).trans run, (congrArg (bitsOf · 5 1) (h.get_edge _)).trans latched,
      (congrArg (bitsOf · 5 1) (h.get_edge _)).trans asserted, h.raised_edge raised⟩
  · exact ha.runs_pin_to (fun s => s.deassert source) _ rfl rfl fun u h =>
      ⟨(congrArg (bitsOf · source 1) (h.get_edge _)).trans (a.deassert_clears source source.isLt),
        (h.get_edge _).trans (a.deassert_get source _ (by decide)), h.husk_edge.trans (a.deassert_within source).husk_eq⟩
  · have w := a.zeroizeDone_idle_within idle
    have body : a.zeroizeDone.pump = (a.put F.HUSK_STAT_ZEROIZING 0).put F.HUSK_STAT_ZEROIZE_PENDING 0 := by
      rw [State.pump_none _ ((congrArg CmdSt.inflight w.cmd_eq).trans idle), a.zeroizeDone_ends idle runs]
    refine ha.runs_to (fun s => s.zeroizeDone.pump) rfl (a.zeroizeDone_pump_within idle) body fun u h => ⟨?_, ?_, ?_⟩
    · rw [h.get, State.get_put_apart _ _ _ _ (by decide) (by decide), State.get_put_same _ _ _ (by decide), Nat.zero_mod]
    · rw [h.get, State.get_put_same _ _ _ (by decide), Nat.zero_mod]
    · rw [h.husk]
      simp
  · refine ha.runs_to (fun s => s.vbatCheck mv) rfl (a.vbatCheck_within mv) (a.vbatCheck_warns mv low first) fun u h =>
      ⟨?_, h.raised (State.warn_raised _ _ _ _)⟩
    rw [h.get, (State.warn_within _ _ _ _).get _, State.putB, State.get_put_same _ _ _ (by decide)]
    rfl

end Sys2Proof.Machine
end

section
/-!
PROOFS about the key packets (R555 to R573): HUSK_INIT, HUSK_POLICY, KEY_LOAD, KEY_CLEAR, HUSK_ACK and HUSK_ZEROIZE.
-/
set_option Elab.async false -- one proof after the other: checking the whole text at once takes more memory than the check allows
namespace Sys2Proof.Machine

/-! ## Packets whose opcode changes more than what it returns -/

section

variable {s b : State} {p : Pkt} {op : Byte} {i : Instr} {P : State → Prop} {ps : List Part} {us : List Nat}

/-- A served packet whose opcode is done ends with its reply to what the opcode leaves. -/
theorem State.Serves.runs_done_within {res : List Word} (hs : s.Serves p.path p.tag)
    (hx : exec i s = .next (s.row (fun s => s.takePkt op p))) (h0 : op ≠ 0)
    (run : runOp op.toNat (s.begin.begun op p) (s.begin.entered op p) = (b, .done res)) (w : (s.begin.entered op p).Within b ps us)
    (hP : ∀ u : State, s.Ends (b.answer (s.begin.begun op p) 0 0 res) u → P u) (hc : .cmd ∉ ps := by decide)
    (hu : inUnits us F.SYS_DEV_STATE_STATE.addr = false := by decide) : Runs i s P :=
  hs.runs_done hx h0 run (w.dev hu) (congrArg CmdSt.inflight (w.cmd_eq hc)) hP

/-- One that its opcode turns away. -/
theorem State.Serves.runs_bad_within {st : Byte} {d : Nat} (hs : s.Serves p.path p.tag)
    (hx : exec i s = .next (s.row (fun s => s.takePkt op p)))
    (run : runOp op.toNat (s.begin.begun op p) (s.begin.entered op p) = (b, .bad st d)) (w : (s.begin.entered op p).Within b ps us)
    (hP : ∀ u : State, s.Ends (b.answer (s.begin.begun op p) st d []) u → P u) (hc : .cmd ∉ ps := by decide)
    (hu : inUnits us F.SYS_DEV_STATE_STATE.addr = false := by decide) : Runs i s P := by
  have body := State.takePkt_bad _ _ op p st d hs.begin run (congrArg CmdSt.inflight (w.cmd_eq hc))
  have answered := b.answer_within (s.begin.begun op p) st d [] hs.host rfl
  refine s.runs_now (fun s => s.takePkt op p) hx hs.up ?_ fun u ends => hP u ?_
  · rw [body]
    exact answered.dev.trans (w.dev hu)
  · rw [body] at ends
    exact ends

/-- One that its opcode leaves to wait, and not for a FORWARD's replies. -/
theorem State.Serves.runs_later_within {x : Wait} (hs : s.Serves p.path p.tag)
    (hx : exec i s = .next (s.row (fun s => s.takePkt op p)))
    (run : runOp op.toNat (s.begin.begun op p) (s.begin.entered op p) = (b, .later x)) (w : (s.begin.entered op p).Within b ps us)
    (hw : x.isForward = false)
    (hP : ∀ u : State, s.Ends (b.setWait s.cmd.nextOrder x) u → u.Waits s.cmd.nextOrder x → P u) (hc : .cmd ∉ ps := by decide)
    (hu : inUnits us F.SYS_DEV_STATE_STATE.addr = false := by decide) : Runs i s P := by
  have inflight : b.cmd.inflight = [s.begin.begun op p] := congrArg CmdSt.inflight (w.cmd_eq hc)
  refine hs.runs_later hx run (w.dev hu) inflight hw fun u ends => hP u ends ?_
  have waits := (congrArg CmdSt.inflight ends.cmd).trans (State.setWait_inflight _ _ _ inflight rfl)
  exact ⟨_, waits ▸ List.mem_singleton.mpr rfl, rfl, rfl, rfl⟩

end

/-- An answer leaves HUSK and its words. -/
theorem State.Ends.husk_of_answer {s b u : State} {q : InFlight} {st : Byte} {d : Nat} {res : List Word} (h : s.Ends (b.answer q st d res) u)
    (hp : q.path ≠ .ridge) (ho : q.orphan = false) : u.husk = b.husk ∧ ∀ f : Fld, inUnits [0x01] f.addr = false → u.get f = b.get f := by
  have w := b.answer_within q st d res hp ho
  exact ⟨h.husk.trans w.husk_eq, fun f hf => (h.get f).trans (w.get f hf)⟩

/-! ## What the opcodes come to -/

/-- The device key is taken; an island that was EMPTY is KEYED, and one that was ERASED is armed. -/
def State.deviceKeyed (s : State) (k : List Byte) : State :=
  let s := { s with husk := { s.husk with dk := some k } }
  (s.put F.HUSK_STAT_STATE (if s.get F.HUSK_STAT_STATE = 0 then 1 else 2)).put F.HUSK_DK_KCV (keyCheckValue k)

/-- The slot key `n` is `k`. -/
def State.slotKeyed (s : State) (n : Nat) (k : List Byte) : State :=
  { s with husk := { s.husk with keys := tabPut [] s.husk.keys n k } }

/-- ERASE is in force. -/
def State.eraseForced (s : State) : State := { s with husk := { s.husk with inForce := 2 } }

theorem State.eraseForced_held (s : State) : s.eraseForced.husk.dk = s.husk.dk ∧ s.eraseForced.husk.keys = s.husk.keys := ⟨rfl, rfl⟩

theorem State.eraseForced_get (s : State) (f : Fld) : s.eraseForced.get f = s.get f := rfl

theorem State.eraseForced_within (s : State) : s.Within s.eraseForced [.husk] [] := (State.Within.refl s _ _).husk _

section

variable {p : InFlight} {s : State}

theorem State.deviceKeyed_within (s : State) (k : List Byte) : s.Within (s.deviceKeyed k) [.husk] [0x60] :=
  (((State.Within.refl s _ _).husk _).put _ _).put _ _

theorem State.deviceKeyed_state (s : State) (k : List Byte) :
    (s.deviceKeyed k).get F.HUSK_STAT_STATE = if s.get F.HUSK_STAT_STATE = 0 then 1 else 2 := by
  unfold State.deviceKeyed
  dsimp only
  rw [State.get_put_other_word _ _ _ _ (by decide), State.get_put_same _ _ _ (by decide), State.get_husk]
  split <;> rfl

theorem opHuskInit_done (path : p.path = .pcie) (target : p.target = 0) (length : p.body.length = 8) (keyed : s.get F.HUSK_STAT_STATE ≠ 1)
    (armed : s.get F.HUSK_STAT_STATE ≠ 2) :
    opHuskInit p s = (s.deviceKeyed (bodyBytes p.body 32), .done [word (keyCheckValue (bodyBytes p.body 32))]) := by
  unfold opHuskInit
  rw [if_neg (by simp [path]), if_neg (by simp [target]), if_neg (by simp [length]), if_neg (by simp [keyed, armed])]
  rfl

theorem opHuskInit_bad (path : p.path ≠ .pcie) : opHuskInit p s = (s, badOpcode 0x6036) := if_pos path

theorem opHuskPolicy_done {v : Word} (body : p.body = [v]) (target : p.target = 0) (keyed : s.get F.HUSK_STAT_STATE = 1)
    (actions : (List.range 6).all (fun k => bitsOf v.toNat (2 * k) 2 != 3) = true) (clear : bitsOf v.toNat 12 4 = 0) (low : v.toNat < 2 ^ 24) :
    opHuskPolicy p s = ((s.put F.HUSK_POLICY (v.toNat + 2 ^ 31)).put F.HUSK_STAT_STATE 2, .done []) := by
  have word : bodyWord p.body 0 = v.toNat := by simp [bodyWord, body]
  have high : bitsOf v.toNat 24 8 = 0 := by rw [bitsOf, Nat.div_eq_of_lt low, Nat.zero_mod]
  have none : ¬(List.range 6).any (fun i => bitsOf v.toNat (2 * i) 2 == 3) = true := by
    simpa using actions
  unfold opHuskPolicy
  dsimp only
  rw [word, if_neg (by simp [target]), if_neg (by simp [body]), if_neg (by simp [keyed]), if_neg none, if_neg (by simp [clear, high])]

theorem keySlotCheck_ok {n : Nat} (target : p.target.toNat = n) (h1 : 1 ≤ n) (h64 : n ≤ 64) (armed : s.get F.HUSK_STAT_STATE = 2)
    (free : s.has (F.HUSK_SLOT_IN_USE n) = false) : keySlotCheck p s = .ok n := by
  unfold keySlotCheck
  simp only [target]
  rw [if_neg (by omega), if_neg (by omega), if_neg (by simp [armed]), if_neg (by simp [free])]

theorem opKeyLoad_done {n : Nat} {k : List Byte} (slot : keySlotCheck p s = .ok n) (length : p.body.length = 10)
    (key : unwrapKey (s.husk.dk.getD []) (bodyBytes p.body 40) = some k) :
    opKeyLoad p s = (((s.slotKeyed n k).put F.HUSK_AUTH_FAILS_RUN 0).showKeys, .done [word (keyCheckValue k)]) := by
  unfold opKeyLoad
  rw [if_neg (by simp [length])]
  simp only [slot, key]
  rfl

theorem opKeyLoad_bad {n : Nat} (slot : keySlotCheck p s = .ok n) (length : p.body.length = 10)
    (key : unwrapKey (s.husk.dk.getD []) (bodyBytes p.body 40) = none) : opKeyLoad p s = (s.authFail, .bad 0x10 0x6032) := by
  unfold opKeyLoad
  rw [if_neg (by simp [length])]
  simp only [slot, key]
  rfl

theorem opKeyClear_done {n : Nat} (slot : keySlotCheck p s = .ok n) (body : p.body = []) :
    opKeyClear p s = ((s.slotKeyed n []).showKeys, .done []) := by
  unfold opKeyClear
  rw [if_neg (by simp [body])]
  simp only [slot]
  rfl

theorem opHuskAck_done (target : p.target = 0) (body : p.body = []) (quiet : s.stopAsserted = false)
    (zeroizing : s.has F.HUSK_STAT_ZEROIZING = false) (pending : s.has F.HUSK_STAT_ZEROIZE_PENDING = false) :
    opHuskAck p s = ({ s.put F.HUSK_STAT_STOP 0 with husk := { s.husk with inForce := 0 } }, .done []) := by
  unfold opHuskAck
  rw [if_neg (by simp [target]), if_neg (by simp [body]), if_neg (by simp [quiet, zeroizing, pending])]

theorem opHuskZeroize_later (target : p.target = 0) (body : p.body = [0x4F52455A]) (dev : s.dev = 1 ∨ s.dev = 5) :
    opHuskZeroize p s = (((s.alarmLog 6 2 false).huskErase 6).eraseForced, .later .zeroize) := by
  have word : bodyWord p.body 0 = 0x4F52455A := by rw [body]; rfl
  unfold opHuskZeroize
  rw [if_neg (by simp [target]), if_neg (by simp [body]), if_neg (by rw [word]; omega)]
  rfl

end

/-! ## The statement -/

section

variable {s : State} {p : Pkt}

theorem huskInit_runs (hs : s.Serves p.path p.tag) (path : p.path = .pcie) (target : p.target = 0) (length : p.body.length = 8)
    (keyed : s.get F.HUSK_STAT_STATE ≠ 1) (armed : s.get F.HUSK_STAT_STATE ≠ 2) :
    Runs (.huskInit p) s (fun u => u.husk.dk = some (bodyBytes p.body 32)
      ∧ u.get F.HUSK_STAT_STATE = (if s.get F.HUSK_STAT_STATE = 0 then 1 else 2)
      ∧ u.Returned p.path p.tag [word (keyCheckValue (bodyBytes p.body 32))]) := by
  have run := opHuskInit_done (p := s.begin.begun 0x90 p) (s := s.begin.entered 0x90 p) path target length keyed armed
  refine hs.runs_done_within rfl (by decide) run (State.deviceKeyed_within _ _) fun u ends => ?_
  obtain ⟨husk, words⟩ := ends.husk_of_answer hs.host rfl
  refine ⟨?_, (words _ (by decide)).trans (State.deviceKeyed_state _ _), ends.returned (State.answer_returned _ _ _ hs.host rfl)⟩
  rw [husk]
  simp [State.deviceKeyed, State.begun]

theorem keyLoad_runs {n : Nat} (hs : s.Serves p.path p.tag) (target : p.target.toNat = n) (h1 : 1 ≤ n) (h64 : n ≤ 64)
    (length : p.body.length = 10) (armed : s.get F.HUSK_STAT_STATE = 2) (free : s.has (F.HUSK_SLOT_IN_USE n) = false) :
    Runs (.keyLoad p) s (fun u =>
      (∀ k, unwrapKey (s.husk.dk.getD []) (bodyBytes p.body 40) = some k →
        tabGet [] u.husk.keys n = k ∧ u.get F.HUSK_AUTH_FAILS_RUN = 0 ∧ u.Returned p.path p.tag [word (keyCheckValue k)])
      ∧ (unwrapKey (s.husk.dk.getD []) (bodyBytes p.body 40) = none →
        u.husk.keys = s.husk.keys ∧ u.Answered p.path p.tag 0x10 0x6032)) := by
  have slot : keySlotCheck (s.begin.begun 0x92 p) (s.begin.entered 0x92 p) = .ok n := keySlotCheck_ok target h1 h64 armed free
  cases key : unwrapKey (s.husk.dk.getD []) (bodyBytes p.body 40) with
  | none =>
    refine hs.runs_bad_within rfl (opKeyLoad_bad slot length key) (State.authFail_within _) fun u ends => ⟨nofun, fun _ => ?_⟩
    obtain ⟨husk, -⟩ := ends.husk_of_answer hs.host rfl
    refine ⟨?_, ends.answered (State.answer_answered _ _ _ _ _ hs.host rfl (by decide))⟩
    rw [husk, (State.authFail_within _).husk_eq]
    rfl
  | some k =>
    have w : (s.begin.entered 0x92 p).Within ((((s.begin.entered 0x92 p).slotKeyed n k).put F.HUSK_AUTH_FAILS_RUN 0).showKeys) [.husk] [0x60] :=
      (((State.Within.refl _ [.husk] [0x60]).husk _).put _ _).andThen (State.showKeys_within _) (by decide) (by decide)
    refine hs.runs_done_within rfl (by decide) (opKeyLoad_done slot length key) w fun u ends => ⟨?_, nofun⟩
    rintro _ ⟨⟩
    obtain ⟨husk, words⟩ := ends.husk_of_answer hs.host rfl
    refine ⟨?_, ?_, ends.returned (State.answer_returned _ _ _ hs.host rfl)⟩
    · rw [husk, State.showKeys_husk]
      simp [State.slotKeyed, tabGet_put_same]
    · rw [words _ (by decide), State.showKeys_get _ _ ⟨by decide, by decide⟩, State.get_put_same _ _ _ (by decide)]
      rfl

theorem keyClear_runs {n : Nat} (hs : s.Serves p.path p.tag) (target : p.target.toNat = n) (h1 : 1 ≤ n) (h64 : n ≤ 64)
    (body : p.body = []) (armed : s.get F.HUSK_STAT_STATE = 2) (free : s.has (F.HUSK_SLOT_IN_USE n) = false) :
    Runs (.keyClear p) s (fun u => tabGet [] u.husk.keys n = [] ∧ u.get (F.HUSK_SLOT_LOADED n) = 0 ∧ u.Returned p.path p.tag []) := by
  have slot : keySlotCheck (s.begin.begun 0x93 p) (s.begin.entered 0x93 p) = .ok n := keySlotCheck_ok target h1 h64 armed free
  have w : (s.begin.entered 0x93 p).Within (((s.begin.entered 0x93 p).slotKeyed n []).showKeys) [.husk] [0x60] :=
    ((State.Within.refl _ [.husk] [0x60]).husk _).andThen (State.showKeys_within _) (by decide) (by decide)
  refine hs.runs_done_within rfl (by decide) (opKeyClear_done slot body) w fun u ends => ?_
  obtain ⟨husk, words⟩ := ends.husk_of_answer hs.host rfl
  have gone : tabGet [] ((s.begin.entered 0x93 p).slotKeyed n []).husk.keys n = [] := by
    simp [State.slotKeyed, tabGet_put_same]
  refine ⟨?_, ?_, ends.returned (State.answer_returned _ _ _ hs.host rfl)⟩
  · rw [husk, State.showKeys_husk, gone]
  · rw [words _ (slotWord_unit _ n (by omega)), State.showKeys_loaded _ n h1 h64, gone]
    rfl

theorem huskAck_runs (hs : s.Serves p.path p.tag) (target : p.target = 0) (body : p.body = []) (quiet : s.stopAsserted = false)
    (zeroizing : s.has F.HUSK_STAT_ZEROIZING = false) (pending : s.has F.HUSK_STAT_ZEROIZE_PENDING = false) :
    Runs (.huskAck p) s (fun u => u.get F.HUSK_STAT_STOP = 0 ∧ u.husk.inForce = 0 ∧ u.Returned p.path p.tag []) := by
  have run := opHuskAck_done (p := s.begin.begun 0x94 p) (s := s.begin.entered 0x94 p) target body quiet zeroizing pending
  refine hs.runs_done_within rfl (by decide) run (((State.Within.refl _ [.husk] [0x60]).put _ _).husk _) fun u ends => ?_
  obtain ⟨husk, words⟩ := ends.husk_of_answer hs.host rfl
  refine ⟨?_, by rw [husk], ends.returned (State.answer_returned _ _ _ hs.host rfl)⟩
  rw [words _ (by decide), State.get_husk, State.get_put_same _ _ _ (by decide), Nat.zero_mod]

theorem State.get_setWait (s : State) (order : Nat) (x : Wait) (f : Fld) : (s.setWait order x).get f = s.get f := rfl

theorem State.setWait_husk (s : State) (order : Nat) (x : Wait) : (s.setWait order x).husk = s.husk := rfl

theorem runOp_huskZeroize (q : InFlight) (t : State) : runOp (0x95 : Byte).toNat q t = opHuskZeroize q t := by
  rw [show (0x95 : Byte).toNat = 0x95 from rfl]
  simp [runOp, islandOps]

theorem huskZeroize_runs (hs : s.Serves p.path p.tag) (target : p.target = 0) (body : p.body = [0x4F52455A]) (dev : s.dev = 1 ∨ s.dev = 5) :
    Runs (.huskZeroize p) s (fun u => u.husk.dk = none ∧ u.husk.keys = [] ∧ u.get F.HUSK_STAT_ZEROIZING = 1
      ∧ u.get F.HUSK_STAT_ZEROIZE_PENDING = 1 ∧ u.get F.HUSK_STAT_STOP = 1 ∧ u.Waits s.cmd.nextOrder .zeroize) := by
  have run := opHuskZeroize_later (p := s.begin.begun 0x95 p) (s := s.begin.entered 0x95 p) target body dev
  have logged := (s.begin.entered 0x95 p).alarmLog_within 6 2 false
  have w := (logged.mono (qs := [.husk, .stream, .seq, .err, .sys, .journal, .pack]) (vs := [0x10, 0x11, 0x49, 0x60, 0x68]) (by decide)
    (by decide)).trans (State.huskErase_within _ 6)
  refine hs.runs_later_within rfl ((runOp_huskZeroize _ _).trans run) (w.andThen (State.eraseForced_within _) (by decide) (by decide)) rfl fun u ends waits => ?_
  have words : ∀ f, u.get f = (((s.begin.entered 0x95 p).alarmLog 6 2 false).huskErase 6).get f :=
    fun f => (ends.get f).trans ((State.get_setWait _ _ _ f).trans (State.eraseForced_get _ f))
  obtain ⟨dk, keys⟩ := ((s.begin.entered 0x95 p).alarmLog 6 2 false).huskErase_husk 6
  refine ⟨?_, ?_, ?_, ?_, ?_, waits⟩
  · rw [ends.husk, State.setWait_husk, (State.eraseForced_held _).1, dk]
  · rw [ends.husk, State.setWait_husk, (State.eraseForced_held _).2, keys]
  · rw [words, State.huskErase_zeroizing]
  · rw [words, State.huskErase_pending]
  · rw [words, State.huskErase_get _ _ _ (by decide) (by decide), State.islandErased_stop]

/-- The end of a zeroization for which one HUSK_ZEROIZE waits. -/
def State.zeroizeEnded (s : State) : State :=
  ((((s.put F.HUSK_STAT_ZEROIZING 0).put F.HUSK_STAT_ZEROIZE_PENDING 0).put F.HUSK_POLICY 0).put F.HUSK_STAT_STATE 0)

theorem State.zeroizeDone_answers (s : State) (q : InFlight) (one : s.cmd.inflight = [q]) (runs : s.has F.HUSK_STAT_ZEROIZING = true)
    (waits : q.wait = .zeroize) : s.zeroizeDone = s.zeroizeEnded.answer q 0 0 [] := by
  unfold State.zeroizeDone
  rw [runs, if_neg (by decide)]
  simp [one, waits, forEach, State.zeroizeEnded]

theorem zeroizationComplete_runs {a : State} {t : Nat} {q : InFlight} (ha : s.Awake t a) (one : a.cmd.inflight = [q])
    (runs : a.has F.HUSK_STAT_ZEROIZING = true) (waits : q.wait = .zeroize) (host : q.path ≠ .ridge) (orphan : q.orphan = false) :
    Runs (.zeroizationComplete t) s (fun u => u.get F.HUSK_STAT_STATE = 0 ∧ u.get F.HUSK_POLICY = 0 ∧ u.get F.HUSK_STAT_ZEROIZING = 0
      ∧ u.cmd.inflight = [] ∧ u.Answered q.path q.tag 0 0) := by
  have ended : a.Within a.zeroizeEnded [] [0x60] := ((((State.Within.refl a _ _).put _ _).put _ _).put _ _).put _ _
  have answered := a.zeroizeEnded.answer_within q 0 0 [] host orphan
  have none : (a.zeroizeEnded.answer q 0 0 []).cmd.inflight = [] :=
    State.answer_inflight _ q 0 0 [] ((congrArg CmdSt.inflight ended.cmd_eq).trans one) host orphan
  have e : a.zeroizeDone.pump = a.zeroizeEnded.answer q 0 0 [] := by
    rw [a.zeroizeDone_answers q one runs waits]
    exact State.pump_none _ none
  have w : a.Within a.zeroizeDone.pump [.cmd, .host] [0x01, 0x60] := by
    rw [e]
    exact (ended.mono (by decide) (by decide)).andThen answered (by decide) (by decide)
  refine ha.runs_to (fun s => s.zeroizeDone.pump) rfl w e fun u ends => ?_
  obtain ⟨-, words⟩ := ends.husk_of_answer host orphan
  refine ⟨?_, ?_, ?_, (congrArg CmdSt.inflight ends.cmd).trans none, ends.answered (State.answer_answered _ q 0 0 [] host orphan (by decide))⟩
  · rw [words _ (by decide), State.zeroizeEnded, State.get_put_same _ _ _ (by decide), Nat.zero_mod]
  · rw [words _ (by decide), State.zeroizeEnded, State.get_put_other_word _ _ _ _ (by decide), State.get_put_same _ _ _ (by decide), Nat.zero_mod]
  · rw [words _ (by decide), State.zeroizeEnded, State.get_put_apart _ _ _ _ (by decide) (by decide),
      State.get_put_other_word _ _ _ _ (by decide), State.get_put_apart _ _ _ _ (by decide) (by decide),
      State.get_put_same _ _ _ (by decide), Nat.zero_mod]

end

/-- Settles O36: each opcode comes to the state that its lemma names, and its reply leaves HUSK. -/
theorem keysAndPolicyAreHeld : Obligations.KeysAndPolicyAreHeld := by
  unfold Obligations.KeysAndPolicyAreHeld
  refine ⟨fun s p hs path target length keyed armed => huskInit_runs hs path target length keyed armed, fun s p hs path => ?_,
    fun s p v hs body target keyed actions clear low => ?_, fun s p n hs target h1 h64 length armed free =>
      keyLoad_runs hs target h1 h64 length armed free, fun s p n hs target h1 h64 body armed free =>
      keyClear_runs hs target h1 h64 body armed free, fun s p hs target body quiet zeroizing pending =>
      huskAck_runs hs target body quiet zeroizing pending, fun s p hs target body dev => huskZeroize_runs hs target body dev,
    fun s a t q ha one runs waits host orphan => zeroizationComplete_runs ha one runs waits host orphan⟩
  · refine hs.runs_bad rfl (opHuskInit_bad path) fun u ends => ?_
    obtain ⟨husk, -⟩ := ends.husk_of_answer hs.host rfl
    exact ⟨husk, ends.answered (State.answer_answered _ _ _ _ _ hs.host rfl (by decide))⟩
  · have run := opHuskPolicy_done (p := s.begin.begun 0x91 p) (s := s.begin.entered 0x91 p) body target keyed actions clear low
    refine hs.runs_done_within rfl (by decide) run (((State.Within.refl _ [] [0x60]).put _ _).put _ _) fun u ends => ?_
    obtain ⟨-, words⟩ := ends.husk_of_answer hs.host rfl
    refine ⟨?_, ?_, ends.returned (State.answer_returned _ _ _ hs.host rfl)⟩
    · rw [words _ (by decide), State.get_put_other_word _ _ _ _ (by decide), State.get_put_same _ _ _ (by decide)]
      exact Nat.mod_eq_of_lt (show v.toNat + 2 ^ 31 < 2 ^ 32 by omega)
    · rw [words _ (by decide), State.get_put_same _ _ _ (by decide)]
      rfl

end Sys2Proof.Machine
end

section
/-!
PROOFS about temperature (R506 to R520): the thermal cycle, bands in force, failed sensors, and the orderly shutdown.
-/
set_option Elab.async false -- one proof after the other: checking the whole text at once takes more memory than the check allows
namespace Sys2Proof.Machine

theorem State.Ends.therm {s t u : State} (h : s.Ends t u) : u.therm = t.therm := (congrArg State.therm h.eq :)

theorem State.Ends.therm_edge {s b u : State} (h : s.Ends (haltEdge s.begin b) u) : u.therm = b.therm :=
  h.therm.trans ((haltEdge_within s.begin b).parts .therm (by decide))

theorem State.Within.therm_eq {a b : State} {ps : List Part} {us : List Nat} (h : a.Within b ps us) (hq : .therm ∉ ps := by decide) :
    b.therm = a.therm := h.parts .therm hq

/-! ## Failed sensors (R508) -/

/-- A number, cut at bit `n`. -/
theorem cut_bit (x n : Nat) :
    x = x % 2 ^ n + x / 2 ^ n % 2 * 2 ^ n + x / 2 ^ (n + 1) * 2 ^ (n + 1) := by
  have low := Nat.mod_add_div x (2 ^ n)
  have bit := Nat.mod_add_div (x / 2 ^ n) 2
  have above : x / 2 ^ n / 2 = x / 2 ^ (n + 1) := by rw [Nat.pow_succ, Nat.div_div_eq_div_mul]
  rw [above] at bit
  calc x = x % 2 ^ n + 2 ^ n * (x / 2 ^ n % 2 + 2 * (x / 2 ^ (n + 1))) := by rw [bit, low]
    _ = _ := by ring

/-- A number with a clear bit set is the number with that bit added. -/
theorem withBits_one (x n : Nat) (clear : bitsOf x n 1 = 0) : withBits x n 1 1 = x + 2 ^ n := by
  have cut := cut_bit x n
  rw [show x / 2 ^ n % 2 = 0 from clear, Nat.zero_mul] at cut
  show x % 2 ^ n + 1 * 2 ^ n + x / 2 ^ (n + 1) * 2 ^ (n + 1) = x + 2 ^ n
  omega

/-- A number with a set bit cleared is the number without it. -/
theorem withBits_zero (x n : Nat) (set : bitsOf x n 1 = 1) : withBits x n 1 0 = x - 2 ^ n := by
  have cut := cut_bit x n
  rw [show x / 2 ^ n % 2 = 1 from set] at cut
  show x % 2 ^ n + 0 * 2 ^ n + x / 2 ^ (n + 1) * 2 ^ (n + 1) = x - 2 ^ n
  omega

theorem State.sensorBad_iff (s : State) (n : Nat) : s.sensorBad n = true ↔ bitsOf (s.get F.THERM_FLAGS_FAILED) n 1 = 1 := by
  simp [State.sensorBad]

theorem State.sensorBad_congr {s t : State} (h : t.get F.THERM_FLAGS_FAILED = s.get F.THERM_FLAGS_FAILED) (n : Nat) :
    t.sensorBad n = s.sensorBad n := by rw [State.sensorBad, State.sensorBad, h]

/-- FAILED with the bit of a sensor that is not marked. -/
theorem State.failedAdded (s : State) (n m : Nat) (hm : m < 16) (good : s.sensorBad n = false) :
    bitsOf ((s.put F.THERM_FLAGS_FAILED (s.get F.THERM_FLAGS_FAILED + 2 ^ n)).get F.THERM_FLAGS_FAILED) m 1
      = if m = n then 1 else bitsOf (s.get F.THERM_FLAGS_FAILED) m 1 := by
  have bit : bitsOf (s.get F.THERM_FLAGS_FAILED) n 1 < 2 := Nat.mod_lt _ (by decide)
  have clear : bitsOf (s.get F.THERM_FLAGS_FAILED) n 1 = 0 := by
    have ne : bitsOf (s.get F.THERM_FLAGS_FAILED) n 1 ≠ 1 := by simpa [State.sensorBad] using good
    omega
  rw [bitsOf_field _ _ _ _ (by decide) hm, ← withBits_one _ n clear]
  split
  · subst m
    exact bitsOf_withBits_same _ _ _ _
  · exact bitsOf_withBits_disjoint _ _ _ _ _ _ (by omega)

theorem State.markFailed_failed (s : State) (n m : Nat) (hm : m < 16) :
    (s.markFailed n).sensorBad m = (s.sensorBad m || m == n) := by
  unfold State.markFailed
  split
  · rename_i marked
    by_cases e : m = n
    · simp [e, marked]
    · simp [e]
  · rename_i good
    have added := s.failedAdded n m hm (Bool.eq_false_iff.mpr good)
    rw [State.sensorBad_congr ((State.warn_within _ _ _ _).get _) m]
    unfold State.sensorBad
    rw [added]
    split
    · simp_all
    · simp_all

theorem State.markFailed_get (s : State) (n : Nat) (f : Fld) (apart : f.addr ≠ wordAddr 0x50 5) (units : inUnits [0x68] f.addr = false) :
    (s.markFailed n).get f = s.get f := by
  unfold State.markFailed
  split
  · rfl
  · rw [(State.warn_within _ _ _ _).get f units, State.get_put_other_word _ _ _ _ apart]

/-! ## Words of the sensors and the diodes -/

theorem sensorWord_unit (us : List Nat) (n : Nat) (hn : n < 16) : inUnits us (wordAddr 0x50 (0x10 + n)) = us.contains 0x50 :=
  inUnits_wordAddr us 0x50 _ (by omega)

theorem diodeWord_unit (us : List Nat) (k : Nat) (hk : k < 4) : inUnits us (wordAddr 0x50 (0x24 + k)) = us.contains 0x50 :=
  inUnits_wordAddr us 0x50 _ (by omega)

theorem sensorWord_ne (n w : Nat) (hn : n < 16) (h : w < 0x10 ∨ 0x20 ≤ w) : wordAddr 0x50 (0x10 + n) ≠ wordAddr 0x50 w := by
  unfold wordAddr
  omega

theorem diodeWord_ne (k w : Nat) (h : w < 0x24) : wordAddr 0x50 (0x24 + k) ≠ wordAddr 0x50 w := by
  unfold wordAddr
  omega

/-! ## What a cycle keeps of marks and readings (R506 to R510) -/

/-- From `s` to `t` no mark of a failed sensor goes, and every sensor's RAW is as before. -/
structure State.KeepsReadings (s t : State) : Prop where
  failed : ∀ m < 16, s.sensorBad m = true → t.sensorBad m = true
  raw : ∀ m < 16, t.raw m = s.raw m

namespace State.KeepsReadings

variable {s t u : State}

theorem refl (s : State) : s.KeepsReadings s := ⟨fun _ _ h => h, fun _ _ => rfl⟩

theorem trans (h : s.KeepsReadings t) (h' : t.KeepsReadings u) : s.KeepsReadings u :=
  ⟨fun m hm bad => h'.failed m hm (h.failed m hm bad), fun m hm => (h'.raw m hm).trans (h.raw m hm)⟩

/-- A change of other words. -/
theorem within {ps : List Part} {us : List Nat} (h : s.KeepsReadings t) (w : t.Within u ps us) (hu : us.contains 0x50 = false := by decide) :
    s.KeepsReadings u := by
  refine h.trans ⟨fun m _ bad => ?_, fun m hm => State.getI_congr (w.get (F.THERM_SENSOR_RAW m) ((sensorWord_unit us m hm).trans hu))⟩
  rw [State.sensorBad_congr (w.get F.THERM_FLAGS_FAILED ((inUnits_wordAddr us 0x50 5 (by decide)).trans hu)), bad]

/-- A field written that is neither FAILED nor a sensor's RAW. -/
theorem put (h : s.KeepsReadings t) (f : Fld) (v : Nat) (fits : f.lo + f.width ≤ 32)
    (failed : wordAddr 0x50 5 ≠ f.addr ∨ 16 ≤ f.lo) (raw : ∀ m < 16, wordAddr 0x50 (0x10 + m) ≠ f.addr ∨ 16 ≤ f.lo) :
    s.KeepsReadings (t.put f v) := by
  refine h.trans ⟨fun m _ bad => ?_, fun m hm => State.getI_congr ?_⟩
  · rw [State.sensorBad_congr (t.get_put_apart f F.THERM_FLAGS_FAILED v fits (failed.imp_right .inl)), bad]
  · exact t.get_put_apart f (F.THERM_SENSOR_RAW m) v fits ((raw m hm).imp_right fun lo => .inl lo)

theorem forEach {α : Type} (xs : List α) (f : α → State → State) (h : s.KeepsReadings t)
    (step : ∀ y ∈ xs, ∀ u, State.KeepsReadings u (f y u)) : s.KeepsReadings (Machine.forEach xs f t) := by
  induction xs generalizing t with
  | nil => exact h
  | cons y ys ih => exact ih (h.trans (step y List.mem_cons_self t)) fun z hz => step z (List.mem_cons_of_mem y hz)

end State.KeepsReadings

theorem State.markFailed_keeps (s : State) (n : Nat) : s.KeepsReadings (s.markFailed n) := by
  refine ⟨fun m hm bad => ?_, fun m hm => State.getI_congr ?_⟩
  · rw [s.markFailed_failed n m hm, bad, Bool.true_or]
  · exact s.markFailed_get n _ (sensorWord_ne m 5 hm (by decide)) (sensorWord_unit _ m hm)

theorem State.showUsed_keeps (s : State) (c : Nat) : s.KeepsReadings (s.showUsed c) := by
  unfold State.showUsed
  extract_lets good hottest used us shown
  have h : s.KeepsReadings shown := (State.KeepsReadings.refl s).forEach _ _ fun e _ t =>
    (State.KeepsReadings.refl t).put _ _ (Nat.le_of_ble_eq_true rfl) (.inr (Nat.le_of_ble_eq_true rfl)) fun _ _ => .inr (Nat.le_of_ble_eq_true rfl)
  have tstat : ∀ m < 16, wordAddr 0x50 (0x10 + m) ≠ wordAddr 0x50 0 := fun m hm => sensorWord_ne m 0 hm (by decide)
  exact (h.put F.THERM_TSTAT_HOT _ (by decide) (by decide) fun m hm => .inl (tstat m hm)).put F.THERM_TSTAT_VALID _ (by decide) (by decide)
    fun m hm => .inl (tstat m hm)

/-- The flag of diode `k`. -/
def State.diodeFlag (s : State) (k : Nat) (b : Bool) (f : Fld) : State := s.put f (withBits (s.get f) k 1 (if b then 1 else 0))

/-- Diode `k` is shown open. -/
def State.diodeOpen (s : State) (k : Nat) : State := (s.diodeFlag k true F.THERM_FLAGS_TD_OPEN).put (F.THERM_TD_VAL_OPEN k) 1

/-- Diode `k` is shown with its value. -/
def State.diodeShown (s : State) (k : Nat) (v : Int) : State :=
  ((s.diodeFlag k false F.THERM_FLAGS_TD_OPEN).put (F.THERM_TD_VAL_OPEN k) 0).putI (F.THERM_TD_VAL_VALUE k) v

namespace State.KeepsReadings

variable {s t : State}

/-- A field of the upper half of a word: no mark of a failed sensor and no RAW stands there. -/
theorem upper (h : s.KeepsReadings t) (f : Fld) (v : Nat) (fits : f.lo + f.width ≤ 32) (lo : 16 ≤ f.lo) : s.KeepsReadings (t.put f v) :=
  h.put f v fits (.inr lo) fun _ _ => .inr lo

theorem diodeFlag (h : s.KeepsReadings t) (k : Nat) (b : Bool) (f : Fld) (fits : f.lo + f.width ≤ 32) (lo : 16 ≤ f.lo) :
    s.KeepsReadings (t.diodeFlag k b f) := h.upper f _ fits lo

end State.KeepsReadings

theorem State.diodeOpen_keeps (s : State) (k : Nat) : s.KeepsReadings (s.diodeOpen k) := by
  have flagged : s.KeepsReadings (s.diodeFlag k true F.THERM_FLAGS_TD_OPEN) := .diodeFlag (.refl s) _ _ _ (by decide) (by decide)
  exact flagged.upper _ _ (Nat.le_of_ble_eq_true rfl) (Nat.le_of_ble_eq_true rfl)

theorem State.diodeShown_keeps (s : State) (k : Nat) (v : Int) : s.KeepsReadings (s.diodeShown k v) := by
  have flagged : s.KeepsReadings (s.diodeFlag k false F.THERM_FLAGS_TD_OPEN) := .diodeFlag (.refl s) _ _ _ (by decide) (by decide)
  have closed := flagged.upper (F.THERM_TD_VAL_OPEN k) 0 (Nat.le_of_ble_eq_true rfl) (Nat.le_of_ble_eq_true rfl)
  refine closed.put (F.THERM_TD_VAL_VALUE k) _ (Nat.le_of_ble_eq_true rfl) (.inl (diodeWord_ne k 5 (by decide)).symm) fun m hm => .inl ?_
  change wordAddr 0x50 (0x10 + m) ≠ wordAddr 0x50 (0x24 + k)
  unfold wordAddr
  omega

/-- What a diode's reading shows in the words: the flags and its own value. -/
theorem State.diode_keeps (s : State) (k : Nat) (r : Option Int) : s.KeepsReadings (s.diode k r) := by
  cases r with
  | none =>
    unfold State.diode
    dsimp -zeta only
    extract_lets put shown opened _ noted
    have h : s.KeepsReadings shown := s.diodeOpen_keeps k
    have h' : s.KeepsReadings noted := h.within ((State.Within.refl shown [.therm] []).therm _)
    show s.KeepsReadings (if opened = true then noted else noted.warn ⟨1, 0x50⟩ 0x5004 [k])
    split
    · exact h'
    · exact h'.within (State.warn_within _ _ _ _)
  | some v =>
    unfold State.diode
    dsimp -zeta only
    extract_lets put shown good act high was _ noted exceeded
    have h : s.KeepsReadings shown := s.diodeShown_keeps k v
    have h' : s.KeepsReadings exceeded := .diodeFlag (h.within ((State.Within.refl shown [.therm] []).therm _)) _ _ _ (by decide) (by decide)
    show s.KeepsReadings (if (high && !was && act == 1) = true then exceeded.warn ⟨1, 0x50⟩ 0x5003 [k, v] else exceeded)
    split
    · exact h'.within (State.warn_within _ _ _ _)
    · exact h'

/-! ## The records and the halt of a FATAL error (R29, R577) -/

theorem State.Raised.haltNow {s : State} {cls d : Nat} {x : Subject} (h : s.Raised cls d x) : s.haltNow.Raised cls d x := by
  unfold State.haltNow
  split
  · exact h
  · extract_lets lost _ cleared
    have held : cleared.Raised cls d x := h.within ((State.Within.refl s [.sys] []).sys _)
    have entered : (cleared.enterDev 5 0xA).Raised cls d x := held.within (State.enterDev_within _ _ _)
    exact forEach_keeps (fun t => t.Raised cls d x) _ _ _ entered fun _ _ held => held.enterRecord _

/-- Outside HALT a FATAL error enters its record and halts the device. -/
theorem State.raise_fatal (s : State) (d : Nat) (args : List Int) (dev : s.dev ≠ 5) :
    ∃ t : State, s.Within t [.err] [0x68] ∧ t.dev ≠ 5 ∧ t.Raised 5 d ⟨0, 0⟩ ∧ s.raise 5 false ⟨0, 0⟩ d args = t.haltNow := by
  unfold State.raise
  extract_lets entered
  have w : s.Within entered [.err] [0x68] := s.enterRecord_within _ (by decide : inUnits [0x68] (Subject.openAddr ⟨0, 0⟩) = true)
  have awake : entered.dev ≠ 5 := w.dev.trans_ne dev
  obtain ⟨r, held, cls, detail, subject, -⟩ := s.enterRecord_held _
  refine ⟨entered, w, awake, ⟨r, held, cls, detail, subject⟩, ?_⟩
  rw [if_pos rfl, if_neg awake]

theorem State.raise_fatal_halts (s : State) (d : Nat) (args : List Int) (dev : s.dev ≠ 5) :
    (s.raise 5 false ⟨0, 0⟩ d args).dev = 5 ∧ (s.raise 5 false ⟨0, 0⟩ d args).Raised 5 d ⟨0, 0⟩ ∧
      ∀ f : Fld, inUnits [0x00, 0x68] f.addr = false → (s.raise 5 false ⟨0, 0⟩ d args).get f = s.get f := by
  obtain ⟨t, w, awake, raised, e⟩ := s.raise_fatal d args dev
  rw [e]
  exact ⟨(t.haltNow_halts awake).1, raised.haltNow, fun f hf => ((w.mono (by decide) (by decide)).trans t.haltNow_within).get f hf⟩

/-- What is read of SYS apart from the triggers, decided transitions, FAULT_N and the watch on a safe stop is as before. -/
theorem State.raise_fatal_of_sys (s : State) (d : Nat) (args : List Int) (dev : s.dev ≠ 5) :
    (s.raise 5 false ⟨0, 0⟩ d args).sys.tcritHalt = s.sys.tcritHalt := by
  obtain ⟨t, w, awake, -, e⟩ := s.raise_fatal d args dev
  rw [e, (t.haltNow_within_entry awake).sys_eq, State.enterDev_of_sys _ 5 0xA SysSt.tcritHalt, w.sys_eq]

/-! ## SENSOR_FAILED (R508) -/

/-- A sensor whose deviation is decided is judged afresh. -/
def State.deviationEnded (s : State) (n : Nat) : State :=
  { s with therm := { s.therm with due := s.therm.due.filter (fun m => m != n), devRun := tabPut 0 s.therm.devRun n 0 } }

theorem State.sensorFailed_due (s : State) (n : Nat) (due : s.therm.due.contains n = true) :
    s.sensorFailed n = (((s.deviationEnded n).markFailed n).put F.THERM_TSTAT_VALID
      ((List.range 16).filter (fun m => !((s.deviationEnded n).markFailed n).sensorBad m)).length).quorum := by
  unfold State.sensorFailed
  rw [if_neg (by simp only [due, Bool.not_true]; decide)]
  rfl

theorem State.markFailed_raised (s : State) (n : Nat) (good : s.sensorBad n = false) : (s.markFailed n).Raised 1 0x5001 ⟨1, 0x50⟩ := by
  unfold State.markFailed
  rw [good, if_neg Bool.false_ne_true]
  exact State.warn_raised _ _ _ _

theorem State.Raised.quorum {s : State} {cls d : Nat} {x : Subject} (h : s.Raised cls d x) : s.quorum.Raised cls d x := by
  unfold State.quorum
  extract_lets lost was _ noted
  have held : noted.Raised cls d x := h.within ((State.Within.refl s [.therm] []).therm _)
  split
  · exact held.devErr _ _
  · exact held

theorem State.sensorFailed_marks (s : State) (n : Nat) (hn : n < 16) (due : s.therm.due.contains n = true) (good : s.sensorBad n = false) :
    (s.sensorFailed n).sensorBad n = true ∧ (s.sensorFailed n).Raised 1 0x5001 ⟨1, 0x50⟩ := by
  rw [s.sensorFailed_due n due]
  have marked : ((s.deviationEnded n).markFailed n).sensorBad n = true := by
    rw [State.markFailed_failed _ n n hn, beq_self_eq_true, Bool.or_true]
  have raised := (s.deviationEnded n).markFailed_raised n good
  refine ⟨?_, (raised.within ((State.Within.refl _ [] [0x50]).put _ _)).quorum⟩
  rw [State.sensorBad_congr ((State.quorum_within _).get _), State.sensorBad_congr (State.get_put_other_word _ _ _ _ (by decide)), marked]

/-! ## POWER_BAND_APPLY (R514, R515) -/

theorem State.powerBand_one (s : State) (g b : Nat) (due : s.therm.power = [(g, b)]) (past : g ≤ s.us) :
    s.powerBand = { s with therm := { s.therm with power := [] } }.put F.THERM_TSTAT_POWER_BAND b := by
  unfold State.powerBand
  simp [due, past, forEach]

/-! ## The orderly shutdown (R516 to R520) -/

/-- A shutdown request that starts its sequence. -/
def State.shutdownStarted (s : State) : State :=
  { s with therm := { s.therm with shutDue := false, coolRun := 0, shutClk := some s.time.clk } }

/-- A shutdown request that starts its sequence is latched and raised. -/
def State.shutdownLatched (s : State) : State :=
  ((s.shutdownStarted.put F.THERM_TSTAT_SHUT_REQ 1).put F.THERM_TSTAT_CAUSE_CLEAR 0).unitErr 0x50 0x5010 [s.shutdownStarted.getI F.THERM_TSTAT_HOT]

theorem State.thermalShutdown_due (s : State) (due : s.therm.shutDue = true) (starts : devTransition (s.devAt s.nextFix) 7 = some 4) :
    s.thermalShutdown = s.shutdownLatched.triggerDev 4 7 := by
  unfold State.thermalShutdown
  simp only [due, starts, Bool.not_true, beq_self_eq_true, if_true]
  rfl

theorem State.shutdownLatched_words (s : State) : s.Within s.shutdownLatched [.therm, .err] [0x50, 0x68] :=
  ((((State.Within.refl s [.therm, .err] [0x50, 0x68]).therm _).put _ _).put _ _).andThen (State.unitErr_within _ _ _ _ (by decide))
    (by decide) (by decide)

theorem State.Within.devAt_nextFix {a b : State} {ps : List Part} {us : List Nat} (w : a.Within b ps us)
    (hs : .sys ∉ ps := by decide) (ht : .time ∉ ps := by decide) (hu : inUnits us F.SYS_DEV_STATE_STATE.addr = false := by decide) :
    b.nextFix = a.nextFix ∧ b.devAt b.nextFix = a.devAt a.nextFix := by
  have fix : b.nextFix = a.nextFix := by
    unfold State.nextFix State.us State.ns
    rw [w.time_eq ht]
  refine ⟨fix, ?_⟩
  unfold State.devAt
  rw [fix, w.sys_eq hs, w.dev hu]

theorem State.triggerDev_adds (s : State) (target cause : Nat) (starts : devTransition (s.devAt s.nextFix) cause = some target) :
    s.triggerDev target cause = s.addDevTrigger { at_ := s.nextFix, target := target, cause := cause } := if_pos (.inr starts)

theorem State.thermalShutdown_latches (s : State) (due : s.therm.shutDue = true) (starts : devTransition (s.devAt s.nextFix) 7 = some 4) :
    s.thermalShutdown.get F.THERM_TSTAT_SHUT_REQ = 1 ∧ s.thermalShutdown.get F.THERM_TSTAT_CAUSE_CLEAR = 0
      ∧ s.thermalShutdown.therm.shutClk = some s.time.clk
      ∧ { at_ := s.nextFix, target := 4, cause := 7 } ∈ s.thermalShutdown.sys.triggers
      ∧ s.thermalShutdown.Raised 3 0x5010 ⟨1, 0x50⟩ := by
  obtain ⟨fix, dev⟩ := s.shutdownLatched_words.devAt_nextFix
  have triggered := s.shutdownLatched.triggerDev_within 4 7
  have record := State.unitErr_within ((s.shutdownStarted.put F.THERM_TSTAT_SHUT_REQ 1).put F.THERM_TSTAT_CAUSE_CLEAR 0) 0x50 0x5010
    [s.shutdownStarted.getI F.THERM_TSTAT_HOT] (by decide)
  rw [s.thermalShutdown_due due starts]
  refine ⟨?_, ?_, ?_, ?_, ?_⟩
  · rw [triggered.get _, State.shutdownLatched, record.get _, State.get_put_apart _ _ _ _ (by decide) (by decide),
      State.get_put_same _ _ _ (by decide)]
    rfl
  · rw [triggered.get _, State.shutdownLatched, record.get _, State.get_put_same _ _ _ (by decide)]
    rfl
  · rw [triggered.therm_eq, State.shutdownLatched, record.therm_eq]
    rfl
  · rw [State.triggerDev_adds _ _ _ (dev ▸ starts), fix]
    exact List.mem_append_right _ (List.mem_singleton.mpr rfl)
  · exact State.Raised.within (State.raise_low_raised _ _ _ _ _ (by decide) (by decide)) triggered

/-- The decision on TCRIT is taken. -/
def State.critTaken (s : State) : State := { s with therm := { s.therm with critDue := false, coolRun := 0 } }

/-- TCRIT is decided: the halt is noted. -/
def State.tcritNoted (s : State) : State := { s.critTaken with sys := { s.sys with tcritHalt := true } }

/-- TCRIT is decided: the halt is noted, and its cause stands. -/
def State.tcritLatched (s : State) : State := s.tcritNoted.put F.THERM_TSTAT_CAUSE_CLEAR 0

theorem State.tcrit_due (s : State) (due : s.therm.critDue = true) :
    ∃ args, s.tcrit = s.tcritLatched.raise 5 false ⟨0, 0⟩ 0x5032 args := by
  unfold State.tcrit
  rw [due, if_neg (by decide)]
  exact ⟨_, rfl⟩

theorem State.tcritLatched_within (s : State) : s.Within s.tcritLatched [.therm, .sys] [0x50] := by
  have taken : s.Within s.critTaken [.therm, .sys] [0x50] := (State.Within.refl s _ _).therm _
  have noted : s.Within s.tcritNoted [.therm, .sys] [0x50] := taken.sys _
  exact noted.put _ _

theorem State.tcrit_halts (s : State) (due : s.therm.critDue = true) (dev : s.dev ≠ 5) :
    s.tcrit.dev = 5 ∧ s.tcrit.sys.tcritHalt = true ∧ s.tcrit.get F.THERM_TSTAT_CAUSE_CLEAR = 0 ∧ s.tcrit.Raised 5 0x5032 ⟨0, 0⟩ := by
  obtain ⟨args, e⟩ := s.tcrit_due due
  have awake : s.tcritLatched.dev ≠ 5 := s.tcritLatched_within.dev.trans_ne dev
  obtain ⟨halted, raised, words⟩ := s.tcritLatched.raise_fatal_halts 0x5032 args awake
  have kept := s.tcritLatched.raise_fatal_of_sys 0x5032 args awake
  rw [e]
  refine ⟨halted, kept.trans rfl, ?_, raised⟩
  rw [words _ (by decide), State.tcritLatched, State.get_put_same _ _ _ (by decide)]
  rfl

theorem State.shutLimit_halts (s : State) (c : Nat) (began : s.therm.shutClk = some c)
    (passed : c + s.get F.THERM_HYST_SHUT_LIMIT * 250000 ≤ s.time.clk) (dev : s.dev ≠ 5) :
    s.shutLimit.dev = 5 ∧ s.shutLimit.Raised 5 0x5031 ⟨0, 0⟩ := by
  have e : s.shutLimit = { s with therm := { s.therm with shutClk := none } }.raise 5 false ⟨0, 0⟩ 0x5031 := by
    unfold State.shutLimit
    rw [began]
    exact if_neg (Nat.not_lt.mpr passed)
  have w := (State.Within.refl s [.therm] []).therm { s.therm with shutClk := none }
  obtain ⟨halted, raised, -⟩ := State.raise_fatal_halts _ 0x5031 [] (w.dev.trans_ne dev)
  rw [e]
  exact ⟨halted, raised⟩

theorem State.thermalClear_clears (s : State) (req : s.has F.THERM_TSTAT_SHUT_REQ = true) (cool : 100000 ≤ s.therm.coolRun) :
    s.thermalClear = s.put F.THERM_TSTAT_CAUSE_CLEAR 1 := by
  unfold State.thermalClear
  rw [if_pos (by simp [req, cool])]

/-! ## SENSOR_READMIT (R527) -/

/-- The mark of sensor `n` is taken away. -/
def State.markCleared (s : State) (n : Nat) : State := s.put F.THERM_FLAGS_FAILED (s.get F.THERM_FLAGS_FAILED - 2 ^ n)

/-- Sensor `n` is judged afresh. -/
def State.readmitted (s : State) (n : Nat) : State :=
  { s.markCleared n with therm := { s.therm with devRun := tabPut 0 s.therm.devRun n 0 } }

theorem State.markCleared_good (s : State) (n : Nat) (hn : n < 16) (bad : s.sensorBad n = true) : (s.markCleared n).sensorBad n = false := by
  have cleared : bitsOf ((s.markCleared n).get F.THERM_FLAGS_FAILED) n 1 = 0 := by
    rw [State.markCleared, bitsOf_field _ _ _ _ (by decide) hn, ← withBits_zero _ n ((s.sensorBad_iff n).mp bad)]
    exact bitsOf_withBits_same _ _ _ _
  rw [State.sensorBad, cleared]
  rfl

theorem State.get_therm (s : State) (x : ThermSt) (f : Fld) : ({ s with therm := x } : State).get f = s.get f := rfl

theorem State.readmitted_bad (s : State) (n m : Nat) : (s.readmitted n).sensorBad m = (s.markCleared n).sensorBad m :=
  State.sensorBad_congr (State.get_therm _ _ _) m

theorem opSensorReadmit_done {p : InFlight} {s : State} {n : Nat} (target : p.target.toNat = n) (hn : n < 16) (body : p.body = []) :
    ∃ t, opSensorReadmit p s = (t, .done []) ∧ s.Within t [.therm] [0x50] ∧ t.sensorBad n = false := by
  unfold opSensorReadmit
  simp only [target]
  rw [if_neg (by omega), if_neg (by simp [body])]
  by_cases bad : s.sensorBad n = true
  · rw [if_pos bad]
    have w : s.Within (s.markCleared n) [.therm] [0x50] := (State.Within.refl s _ _).put _ _
    exact ⟨s.readmitted n, rfl, w.therm _, (s.readmitted_bad n n).trans (s.markCleared_good n hn bad)⟩
  · rw [if_neg bad]
    exact ⟨s, rfl, .refl s _ _, Bool.eq_false_iff.mpr bad⟩

end Sys2Proof.Machine
end

section
/-!
PROOFS about what a thermal cycle shows and decides (R506 to R515): readings, marks, open diodes, and the band that comes into force.
-/
set_option Elab.async false -- one proof after the other: checking the whole text at once takes more memory than the check allows
namespace Sys2Proof.Machine

/-! ## A decided band comes into force (R512 to R515) -/

theorem State.sbQueue_within (s : State) (c : Nat) (r : SbReq) : s.Within (s.sbQueue c r) [.stn] [] := (State.Within.refl s _ _).stn _

theorem State.gateDelays_within (s : State) (b f : Nat) : s.Within (s.gateDelays b f) [.stn] [] :=
  .forEach _ _ (.refl s _ _) fun _ _ t h => h.trans (t.sbQueue_within _ _)

/-- The decided band is taken. -/
def State.bandTaken (s : State) : State := { s with therm := { s.therm with bandDue := none } }

/-- Band `b` is shown, and its event raised. -/
def State.bandShown (s : State) (b : Nat) : State :=
  (s.bandTaken.put F.THERM_TSTAT_BAND b).info ⟨1, 0x50⟩ 0x5002 [s.get F.THERM_TSTAT_BAND, b]

/-- Memory refresh and the tap targets follow band `b`. -/
def State.bandFollowed (s : State) (b : Nat) : State :=
  forEach (List.range 68) (fun t s => if (s.calT t).found then s.aim t else s) (s.put F.MEM_STAT_REFRESH (if b = 4 then 2 else if b = 3 then 1 else 0))

/-- Band `b` is named for POWER from apply instant `f`. -/
def State.powerNamed (s : State) (f b : Nat) : State := { s with therm := { s.therm with power := s.therm.power ++ [(f, b)] } }

theorem State.bandChange_due (s : State) (b c : Nat) (due : s.therm.bandDue = some (b, c)) :
    s.bandChange = if ((s.bandShown b).bandFollowed b).pairRole ≤ 1 then
      (((s.bandShown b).bandFollowed b).powerNamed (c + 200) b).gateDelays b (c + 200) else (s.bandShown b).bandFollowed b := by
  unfold State.bandChange
  rw [due]
  dsimp -zeta only
  extract_lets old _ taken shown refreshed followed
  have e : followed = (s.bandShown b).bandFollowed b := rfl
  rw [← e]
  rfl

theorem State.bandFollowed_within (s : State) (b : Nat) : s.Within (s.bandFollowed b) [] [0x04, 0x51] :=
  .forEach _ _ ((State.Within.refl s _ _).put _ _) fun n hn t h =>
    .ite (fun _ => h.andThen (t.aim_within n (by have := List.mem_range.mp hn; omega)) (by decide) (by decide)) fun _ => h

theorem State.bandShown_within (s : State) (b : Nat) : s.Within (s.bandShown b) [.therm, .err] [0x50, 0x68] :=
  ((show s.Within s.bandTaken [.therm, .err] [0x50, 0x68] from (State.Within.refl s _ _).therm _).put _ _).andThen
    (State.raise_low_within _ 0 ⟨1, 0x50⟩ 0x5002 _ (by decide) (by decide)) (by decide) (by decide)

theorem State.bandShown_band (s : State) (b : Nat) (hb : b ≤ 4) : (s.bandShown b).get F.THERM_TSTAT_BAND = b := by
  have record := State.raise_low_within (s.bandTaken.put F.THERM_TSTAT_BAND b) 0 ⟨1, 0x50⟩ 0x5002
    [s.get F.THERM_TSTAT_BAND, b] (by decide) (by decide)
  refine (record.get _).trans ((State.get_put_same _ _ _ (by decide)).trans (Nat.mod_eq_of_lt ?_))
  exact Nat.lt_of_le_of_lt hb (by decide)

theorem State.bandShown_therm (s : State) (b : Nat) : (s.bandShown b).therm = { s.therm with bandDue := none } :=
  (State.raise_low_within (s.bandTaken.put F.THERM_TSTAT_BAND b) 0 ⟨1, 0x50⟩ 0x5002
    [s.get F.THERM_TSTAT_BAND, b] (by decide) (by decide)).therm_eq

theorem State.powerNamed_within (s : State) (f b : Nat) : s.Within (s.powerNamed f b) [.therm] [] := (State.Within.refl s _ _).therm _

/-- On a device that is no SHADOW a decided band is in force, and named for POWER. -/
theorem State.bandChange_acts (s : State) (b c : Nat) (due : s.therm.bandDue = some (b, c)) (hb : b ≤ 4) (role : s.pairRole ≤ 1) :
    s.bandChange.get F.THERM_TSTAT_BAND = b ∧ s.bandChange.therm.bandDue = none ∧ s.bandChange.therm.power = s.therm.power ++ [(c + 200, b)]
      ∧ s.bandChange.Raised 0 0x5002 ⟨1, 0x50⟩ := by
  have followed := (s.bandShown b).bandFollowed_within b
  have named := ((s.bandShown b).bandFollowed b).powerNamed_within (c + 200) b
  have sent := (((s.bandShown b).bandFollowed b).powerNamed (c + 200) b).gateDelays_within b (c + 200)
  have same : ((s.bandShown b).bandFollowed b).pairRole = s.pairRole := (followed.get _).trans ((s.bandShown_within b).get _)
  have therm : ((s.bandShown b).bandFollowed b).therm = { s.therm with bandDue := none } := followed.therm_eq.trans (s.bandShown_therm b)
  have e : (((s.bandShown b).bandFollowed b).powerNamed (c + 200) b).therm =
      { s.therm with bandDue := none, power := s.therm.power ++ [(c + 200, b)] } := by
    rw [State.powerNamed, therm]
  rw [s.bandChange_due b c due, if_pos (same.trans_le role), sent.therm_eq, e]
  refine ⟨?_, rfl, rfl, ?_⟩
  · rw [sent.get _, named.get _, followed.get _, s.bandShown_band b hb]
  · exact ((State.info_raised _ _ _ _ : (s.bandShown b).Raised 0 0x5002 ⟨1, 0x50⟩).within followed).within named |>.within sent

theorem bandChange_runs {s a : State} {b c : Nat} (ha : s.Awake (((s.therm.bandDue.map (fun e => e.2)).getD 0 + 2) * 1000) a)
    (due : a.therm.bandDue = some (b, c)) (same : s.therm.bandDue = a.therm.bandDue) (hb : b ≤ 4) (role : a.pairRole ≤ 1) :
    Runs .bandChange s (fun u => u.get F.THERM_TSTAT_BAND = b ∧ u.therm.bandDue = none ∧ u.therm.power = a.therm.power ++ [(c + 200, b)]
      ∧ u.Raised 0 0x5002 ⟨1, 0x50⟩) := by
  obtain ⟨eq, up, -⟩ := ha
  have row : s.begin.bandRow = a.bandChange := by
    have begun : s.begin.therm.bandDue = some (b, c) := same.trans due
    rw [same, due] at eq
    rw [State.bandRow, begun, eq]
    rfl
  obtain ⟨band, none, power, raised⟩ := a.bandChange_acts b c due hb role
  have ends := s.row_ends State.bandRow up
  rw [row] at ends
  exact ⟨_, rfl, (ends.get_edge _).trans band, (congrArg ThermSt.bandDue ends.therm_edge).trans none,
    (congrArg ThermSt.power ends.therm_edge).trans power, ends.raised_edge raised⟩

/-! ## Readings, marks and diodes of a cycle (R506 to R508, R517) -/

/-- The readings that are in range. -/
def readingsInRange (raws : List (Option Int)) : List (Option Int) :=
  raws.map (fun r => r.filter (fun v => decide (-960 ≤ v) && decide (v ≤ 2560)))

/-- The readings shown as RAW. -/
def State.rawsShown (s : State) (rs : List (Option Int)) : State :=
  forEach (List.range 16) (fun n s => match rs.getD n none with
    | some v => s.putI (F.THERM_SENSOR_RAW n) v
    | none => s) s

/-- The sensors without a reading marked as failed. -/
def State.lostMarked (s : State) (rs : List (Option Int)) : State :=
  forEach (List.range 16) (fun n s => if (rs.getD n none).isNone then s.markFailed n else s) s

/-- The readings of the diodes taken. -/
def State.diodesRead (s : State) (ds : List (Option Int)) : State := forEach (List.range 4) (fun k s => s.diode k (ds.getD k none)) s

/-- What a cycle shows of the sensors and the diodes. -/
def State.cycleShown (s : State) (c : Nat) (raws diodes : List (Option Int)) : State :=
  (((((s.rawsShown (readingsInRange raws)).crossCheck s).lostMarked (readingsInRange raws)).showUsed c).quorum).diodesRead diodes

theorem State.thermCycle_eq (s : State) (c : Nat) (raws diodes : List (Option Int)) :
    s.thermCycle c raws diodes = (((s.bandChange.cycleShown c raws diodes).decideBand c).shutRuns).calCycle := rfl

theorem readingsInRange_getD (raws : List (Option Int)) (n : Nat) :
    (readingsInRange raws).getD n none = (raws.getD n none).filter (fun v => decide (-960 ≤ v) && decide (v ≤ 2560)) :=
  List.getD_map raws (none : Option Int) (fun r => r.filter (fun v => decide (-960 ≤ v) && decide (v ≤ 2560)))

theorem readingsInRange_none (raws : List (Option Int)) (n : Nat) (h : raws.getD n none = none) : (readingsInRange raws).getD n none = none := by
  rw [readingsInRange_getD, h, Option.filter_none]

theorem readingsInRange_some (raws : List (Option Int)) (n : Nat) (v : Int) (h : raws.getD n none = some v) (lo : -960 ≤ v) (hi : v ≤ 2560) :
    (readingsInRange raws).getD n none = some v := by
  rw [readingsInRange_getD, h]
  simp [lo, hi]

theorem sensorWords_ne (n m : Nat) (h : n ≠ m) : wordAddr 0x50 (0x10 + n) ≠ wordAddr 0x50 (0x10 + m) := by
  unfold wordAddr
  omega

theorem diodeWords_ne (j k : Nat) (h : j ≠ k) : wordAddr 0x50 (0x24 + j) ≠ wordAddr 0x50 (0x24 + k) := by
  unfold wordAddr
  omega

theorem State.rawsShown_raw (s : State) (rs : List (Option Int)) (n : Nat) (v : Int) (hn : n < 16) (h : rs.getD n none = some v)
    (lo : -960 ≤ v) (hi : v ≤ 2560) : (s.rawsShown rs).raw n = v := by
  have own : ∀ t : State, (match rs.getD n none with
      | some v => t.putI (F.THERM_SENSOR_RAW n) v
      | none => t).raw n = v := fun t => by
    rw [h]
    exact t.getI_putI _ v (Nat.le_of_ble_eq_true rfl) (Nat.le_of_ble_eq_true rfl) (by change -32768 ≤ v; omega) (by change v < 32768; omega)
  refine forEach_brings (fun t => t.raw n = v) _ _ (List.mem_range.mpr hn) s own fun m t kept => ?_
  by_cases e : m = n
  · exact e ▸ own t
  · split
    · exact (State.getI_congr (State.get_put_other_word _ _ _ _ (sensorWords_ne n m (Ne.symm e)))).trans kept
    · exact kept

theorem State.crossCheck_within (s w : State) : s.Within (s.crossCheck w) [.therm] [] :=
  .forEach _ _ (.refl s _ _) fun _ _ _ h => h.therm _

theorem State.lostMarked_keeps (s : State) (rs : List (Option Int)) : s.KeepsReadings (s.lostMarked rs) := by
  refine (State.KeepsReadings.refl s).forEach _ _ fun n _ t => ?_
  split
  · exact t.markFailed_keeps n
  · exact .refl t

theorem State.lostMarked_bad (s : State) (rs : List (Option Int)) (n : Nat) (hn : n < 16) (h : rs.getD n none = none) :
    (s.lostMarked rs).sensorBad n = true := by
  refine forEach_brings (fun t => t.sensorBad n = true) _ _ (List.mem_range.mpr hn) s (fun t => ?_) fun m t bad => ?_
  · rw [h, Option.isNone_none, if_pos rfl, t.markFailed_failed n n hn, beq_self_eq_true, Bool.or_true]
  · split
    · exact (t.markFailed_keeps m).failed n hn bad
    · exact bad

theorem State.diodesRead_keeps (s : State) (ds : List (Option Int)) : s.KeepsReadings (s.diodesRead ds) :=
  (State.KeepsReadings.refl s).forEach _ _ fun k _ t => t.diode_keeps k _

theorem State.diodeFlag_get (s : State) (k : Nat) (b : Bool) (f g : Fld) (apart : g.addr ≠ f.addr) : (s.diodeFlag k b f).get g = s.get g :=
  s.get_put_other_word f g _ apart

/-- A diode that is not read leaves what is shown of it. -/
theorem State.diode_open_other (s : State) (j k : Nat) (r : Option Int) (hk : k < 4) (h : j ≠ k) :
    (s.diode j r).get (F.THERM_TD_VAL_OPEN k) = s.get (F.THERM_TD_VAL_OPEN k) := by
  have flags : (F.THERM_TD_VAL_OPEN k).addr ≠ F.THERM_FLAGS_TD_OPEN.addr := diodeWord_ne k 5 (by decide)
  have own : (F.THERM_TD_VAL_OPEN k).addr ≠ (F.THERM_TD_VAL_OPEN j).addr := diodeWords_ne k j (Ne.symm h)
  have unit : ∀ us, inUnits us (F.THERM_TD_VAL_OPEN k).addr = us.contains 0x50 := fun us => diodeWord_unit us k hk
  cases r with
  | none =>
    unfold State.diode
    dsimp -zeta only
    extract_lets put shown opened _ noted
    have read : (s.diodeOpen j).get (F.THERM_TD_VAL_OPEN k) = s.get (F.THERM_TD_VAL_OPEN k) := by
      rw [State.diodeOpen, State.get_put_other_word _ _ _ _ own, State.diodeFlag_get _ _ _ _ _ flags]
    have e : noted.get (F.THERM_TD_VAL_OPEN k) = s.get (F.THERM_TD_VAL_OPEN k) := (State.get_therm shown _ _).trans read
    split
    · exact e
    · exact ((State.warn_within _ _ _ _).get _ (unit _)).trans e
  | some v =>
    unfold State.diode
    dsimp -zeta only
    extract_lets put shown good act high was _ noted exceeded
    have read : (s.diodeShown j v).get (F.THERM_TD_VAL_OPEN k) = s.get (F.THERM_TD_VAL_OPEN k) := by
      rw [State.diodeShown, State.putI, State.get_put_other_word _ _ _ _ (show (F.THERM_TD_VAL_OPEN k).addr ≠ (F.THERM_TD_VAL_VALUE j).addr from own),
        State.get_put_other_word _ _ _ _ own, State.diodeFlag_get _ _ _ _ _ flags]
    have e : noted.get (F.THERM_TD_VAL_OPEN k) = s.get (F.THERM_TD_VAL_OPEN k) := (State.get_therm shown _ _).trans read
    have e' : exceeded.get (F.THERM_TD_VAL_OPEN k) = s.get (F.THERM_TD_VAL_OPEN k) :=
      (State.diodeFlag_get noted j high F.THERM_FLAGS_TD_OVER _ flags).trans e
    split
    · exact ((State.warn_within _ _ _ _).get _ (unit _)).trans e'
    · exact e'

theorem State.diode_opens (s : State) (k : Nat) (hk : k < 4) : (s.diode k none).get (F.THERM_TD_VAL_OPEN k) = 1 := by
  unfold State.diode
  dsimp -zeta only
  extract_lets put shown opened _ noted
  have read : (s.diodeOpen k).get (F.THERM_TD_VAL_OPEN k) = 1 := by
    rw [State.diodeOpen, State.get_put_same _ _ _ (Nat.le_of_ble_eq_true rfl)]
    rfl
  have e : noted.get (F.THERM_TD_VAL_OPEN k) = 1 := (State.get_therm shown _ _).trans read
  split
  · exact e
  · exact ((State.warn_within _ _ _ _).get _ (diodeWord_unit _ k hk)).trans e

theorem State.diodesRead_opens (s : State) (ds : List (Option Int)) (k : Nat) (hk : k < 4) (h : ds.getD k none = none) :
    (s.diodesRead ds).get (F.THERM_TD_VAL_OPEN k) = 1 := by
  have own : ∀ t : State, (t.diode k (ds.getD k none)).get (F.THERM_TD_VAL_OPEN k) = 1 := fun t => by
    rw [h]
    exact t.diode_opens k hk
  refine forEach_brings (fun t => t.get (F.THERM_TD_VAL_OPEN k) = 1) _ _ (List.mem_range.mpr hk) s own fun j t opened => ?_
  by_cases e : j = k
  · exact e ▸ own t
  · exact (t.diode_open_other j k _ hk e).trans opened

/-- A sensor without a reading stands marked when the cycle has shown its readings, and one in range with its RAW. -/
theorem State.cycleShown_shows (s : State) (c : Nat) (raws diodes : List (Option Int)) :
    (∀ n < 16, raws.getD n none = none → (s.cycleShown c raws diodes).sensorBad n = true)
      ∧ (∀ k < 4, diodes.getD k none = none → (s.cycleShown c raws diodes).get (F.THERM_TD_VAL_OPEN k) = 1)
      ∧ (∀ n < 16, ∀ v : Int, raws.getD n none = some v → -960 ≤ v → v ≤ 2560 → (s.cycleShown c raws diodes).raw n = v) := by
  have kept : ((((s.rawsShown (readingsInRange raws)).crossCheck s).lostMarked (readingsInRange raws))).KeepsReadings
      (s.cycleShown c raws diodes) := ((State.showUsed_keeps _ c).within (State.quorum_within _)).trans (State.diodesRead_keeps _ _)
  refine ⟨fun n hn none => kept.failed n hn (State.lostMarked_bad _ _ n hn (readingsInRange_none raws n none)),
    fun k hk none => State.diodesRead_opens _ _ k hk none, fun n hn v some lo hi => ?_⟩
  have checked := (State.KeepsReadings.refl (s.rawsShown (readingsInRange raws))).within (State.crossCheck_within _ s)
  rw [kept.raw n hn, (checked.trans (State.lostMarked_keeps _ _)).raw n hn,
    State.rawsShown_raw s _ n v hn (readingsInRange_some raws n v some lo hi) lo hi]

/-! ## What a cycle decides (R512, R516, R522, R540) -/

theorem State.decideBand_within (s : State) (c : Nat) : s.Within (s.decideBand c) [.therm] [] := by
  have h := State.Within.refl s [.therm] []
  unfold State.decideBand
  exact .ite (fun _ => h.therm _) fun _ => .ite (fun _ => h.therm _) fun _ => .ite (fun _ => h.therm _) fun _ => h.therm _

/-- The first decision after a reset is taken. -/
theorem State.decideBand_first (s : State) (c : Nat) : (s.decideBand c).therm.first = false := by
  unfold State.decideBand
  extract_lets b hot go up down
  split
  · rfl
  · rename_i later
    split
    · rfl
    · split
      · rfl
      · exact Bool.eq_false_iff.mpr later

theorem State.shutRuns_within (s : State) : s.Within s.shutRuns [.therm] [] := (State.Within.refl s _ _).therm _

theorem State.shutRuns_first (s : State) : s.shutRuns.therm.first = s.therm.first := rfl

theorem State.calCycle_within (s : State) : s.Within s.calCycle [.cal] [0x51] :=
  .forEach _ _ (.refl s _ _) fun n _ t h => .ite (fun _ => .ite (fun _ => h.trans (t.queueRun_within n)) fun _ => h) fun _ => h

theorem State.derate_keeps (s : State) : s.Within s.derate [.therm, .err] [0x58, 0x68] ∧ s.derate.therm.first = s.therm.first := by
  have put : ∀ {t : State} (f : Fld) (v : Nat), s.Within t [.therm, .err] [0x58, 0x68] ∧ t.therm.first = s.therm.first →
      inUnits [0x58, 0x68] f.addr = true → s.Within (t.put f v) [.therm, .err] [0x58, 0x68] ∧ (t.put f v).therm.first = s.therm.first :=
    fun f v h unit => ⟨h.1.put f v unit, h.2⟩
  unfold State.derate
  extract_lets k bad was badShown _ badNoted t good _ noted
  split
  · have shown : s.Within badShown [.therm, .err] [0x58, 0x68] ∧ badShown.therm.first = s.therm.first :=
      put _ _ (put _ _ ⟨.refl s _ _, rfl⟩ (by decide)) (by decide)
    have h : s.Within badNoted [.therm, .err] [0x58, 0x68] := shown.1.therm _
    split
    · exact ⟨h, shown.2⟩
    · have w := badNoted.lightWarn_within 0x5805 [k]
      exact ⟨h.andThen w (by decide) (by decide), (congrArg ThermSt.first w.therm_eq).trans shown.2⟩
  · have h : s.Within noted [.therm, .err] [0x58, 0x68] ∧ noted.therm.first = s.therm.first := ⟨(State.Within.refl s _ _).therm _, rfl⟩
    exact put _ _ (put _ _ (put _ _ h (by decide)) (by decide)) (by decide)

/-- What the cycle's decisions leave of its readings. -/
theorem State.cycleDecided_within (s : State) (c : Nat) :
    s.Within ((((s.decideBand c).shutRuns).calCycle).derate) [.therm, .err, .cal] [0x51, 0x58, 0x68] :=
  (((s.decideBand_within c).trans (State.shutRuns_within _)).mono (by decide) (by decide)).andThen (State.calCycle_within _) (by decide) (by decide)
    |>.andThen (State.derate_keeps _).1 (by decide) (by decide)

theorem thermCycle_runs {s a : State} {c : Nat} (raws diodes : List (Option Int)) (ha : s.Awake ((c + 2) * 1000) a) :
    Runs (.thermCycle c raws diodes) s (fun u => (∀ n : Fin 16, raws.getD n none = none → u.sensorBad n = true)
      ∧ (∀ k : Fin 4, diodes.getD k none = none → u.get (F.THERM_TD_VAL_OPEN k) = 1) ∧ u.therm.first = false
      ∧ (∀ n < 16, ∀ v : Int, raws.getD n none = some v → -960 ≤ v → v ≤ 2560 → u.raw n = v)) := by
  refine ha.runs_edge (fun s => (s.thermCycle c raws diodes).derate) rfl fun u ends => ?_
  obtain ⟨bad, opened, raw⟩ := a.bandChange.cycleShown_shows c raws diodes
  have w := (a.bandChange.cycleShown c raws diodes).cycleDecided_within c
  have kept := (State.KeepsReadings.refl (a.bandChange.cycleShown c raws diodes)).within w
  rw [a.thermCycle_eq] at ends
  refine ⟨fun n none => ?_, fun k none => ?_, ?_, fun n hn v some lo hi => ?_⟩
  · rw [State.sensorBad_congr (ends.get_edge _), kept.failed n n.isLt (bad n n.isLt none)]
  · rw [ends.get_edge _ (diodeWord_unit _ k k.isLt), w.get _ (diodeWord_unit _ k k.isLt), opened k k.isLt none]
  · rw [ends.therm_edge, (State.derate_keeps _).2, (State.calCycle_within _).therm_eq, State.shutRuns_first, State.decideBand_first]
  · rw [State.raw, State.getI_congr (ends.get_edge _ (sensorWord_unit _ n hn)), ← State.raw, kept.raw n hn, raw n hn v some lo hi]

/-- Settles O33: each command's body comes to the state that its lemma names; what ends the command leaves THERM and the records raised. -/
theorem temperatureIsWatched : Obligations.TemperatureIsWatched := by
  unfold Obligations.TemperatureIsWatched
  refine ⟨fun s a c raws diodes ha => thermCycle_runs raws diodes ha, fun s n up due good => ?_, fun s a b c ha due same hb role =>
    bandChange_runs ha due same hb role, fun s a f g b ha due past hb => ?_, fun s up due starts => ?_, fun s up due dev => ?_,
    fun s a t c ha began passed dev => ?_, fun s up req cool => ?_, fun s p n hs target hn body => ?_⟩
  · obtain ⟨marked, raised⟩ := s.begin.sensorFailed_marks n n.isLt due good
    refine s.runs_now_to (fun s => s.sensorFailed n) rfl up (s.begin.sensorFailed_within n) rfl fun u ends => ⟨?_, ends.raised raised⟩
    rw [State.sensorBad_congr (ends.get _), marked]
  · refine ha.runs_to State.powerBand rfl a.powerBand_within (a.powerBand_one g b due past) fun u ends => ⟨?_, ?_⟩
    · rw [ends.get _, State.get_put_same _ _ _ (by decide)]
      exact Nat.mod_eq_of_lt (Nat.lt_of_le_of_lt hb (by decide))
    · rw [ends.therm]
      rfl
  · obtain ⟨req, clear, clk, triggered, raised⟩ := s.begin.thermalShutdown_latches due starts
    exact s.runs_now_to State.thermalShutdown rfl up s.begin.thermalShutdown_within rfl fun u ends =>
      ⟨(ends.get _).trans req, (ends.get _).trans clear, (congrArg ThermSt.shutClk ends.therm).trans clk,
        (ends.of_sys SysSt.triggers) ▸ triggered, ends.raised raised⟩
  · obtain ⟨halted, noted, cause, raised⟩ := s.begin.tcrit_halts due dev
    have ends := s.row_ends State.tcrit up
    exact ⟨_, rfl, ends.dev_edge.trans halted, (ends.of_sys_edge SysSt.tcritHalt).trans noted, (ends.get_edge _).trans cause, ends.raised_edge raised⟩
  · obtain ⟨halted, raised⟩ := a.shutLimit_halts c began passed dev
    exact ha.runs_edge State.shutLimit rfl fun u ends => ⟨ends.dev_edge.trans halted, ends.raised_edge raised⟩
  · have e := s.begin.thermalClear_clears req cool
    refine s.runs_now_to State.thermalClear rfl up s.begin.thermalClear_within e fun u ends => ⟨?_, ?_⟩
    · rw [ends.get _, State.get_put_same _ _ _ (by decide)]
      rfl
    · rw [ends.get _, State.get_put_apart _ _ _ _ (by decide) (by decide)]
      exact State.get_of_has s _ req
  · obtain ⟨t, run, w, good⟩ := opSensorReadmit_done (p := s.begin.begun 0x81 p) (s := s.begin.entered 0x81 p) target hn body
    refine hs.runs_done_within rfl (by decide) run w fun u ends => ⟨?_, ends.returned (State.answer_returned _ _ _ hs.host rfl)⟩
    rw [State.sensorBad_congr ((ends.get _).trans ((t.answer_within _ _ _ _ hs.host rfl).get _)), good]

end Sys2Proof.Machine
end

section
/-!
PROOFS about checkpoints and the journal's packets (R596 to R602, R605): what a write begins, completes or fails with, and what JOURNAL_INFO,
JOURNAL_READ and JOURNAL_RESTORE take from the newest copies.
-/
set_option Elab.async false -- one proof after the other: checking the whole text at once takes more memory than the check allows
namespace Sys2Proof.Machine

/-! ## JSTAT (R606) -/

/-- The bits of JSTAT follow the journal. -/
theorem State.showJournal_words (s : State) :
    s.showJournal.get F.ERR_JSTAT_RUN_VALID = (if s.journal.runs.isEmpty then 0 else 1)
      ∧ s.showJournal.get F.ERR_JSTAT_BASE_VALID = (if s.journal.bases.isEmpty then 0 else 1)
      ∧ s.showJournal.get F.ERR_JSTAT_WRITING = (if s.journal.writing.isEmpty then 0 else 1) := by
  unfold State.showJournal State.putB
  refine ⟨?_, ?_, ?_⟩
  · rw [State.get_put_other_word _ _ _ _ (by decide), State.get_put_apart _ _ _ _ (by decide) (by decide),
      State.get_put_apart _ _ _ _ (by decide) (by decide), State.get_put_apart _ _ _ _ (by decide) (by decide),
      State.get_put_same _ _ _ (by decide)]
    cases s.journal.runs.isEmpty <;> rfl
  · rw [State.get_put_other_word _ _ _ _ (by decide), State.get_put_apart _ _ _ _ (by decide) (by decide),
      State.get_put_apart _ _ _ _ (by decide) (by decide), State.get_put_same _ _ _ (by decide)]
    cases s.journal.bases.isEmpty <;> rfl
  · rw [State.get_put_other_word _ _ _ _ (by decide), State.get_put_apart _ _ _ _ (by decide) (by decide), State.get_put_same _ _ _ (by decide)]
    cases s.journal.writing.isEmpty <;> rfl

theorem State.Within.journal_eq {a b : State} {ps : List Part} {us : List Nat} (h : a.Within b ps us) (hq : .journal ∉ ps := by decide) :
    b.journal = a.journal := (h.parts .journal hq).1

theorem State.showJournal_journal (s : State) : s.showJournal.journal = s.journal := s.showJournal_within.journal_eq

/-- The state with another journal. -/
def State.setJournal (s : State) (j : JournalSt) : State := { s with journal := j }

theorem State.setJournal_within (s : State) (j : JournalSt) : s.Within (s.setJournal j) [.journal] [] := (State.Within.refl s _ _).journal j

/-- The state with another journal, as its words show it. -/
def State.journaled (s : State) (j : JournalSt) : State := (s.setJournal j).showJournal

theorem State.journaled_within (s : State) (j : JournalSt) : s.Within (s.journaled j) [.journal] [0x04, 0x68] :=
  ((s.setJournal_within j).mono (by decide) (by decide)).andThen (State.showJournal_within _) (by decide) (by decide)

theorem State.journaled_journal (s : State) (j : JournalSt) : (s.journaled j).journal = j := State.showJournal_journal _

/-! ## Checkpoints begin (R598, R599) -/

/-- The journal with a checkpoint's write begun. -/
def State.checkpointBegun (s : State) (k reason : Nat) : JournalSt :=
  let r := s.runImage k reason
  let j := s.journal
  let base := j.dirty && j.writingBase.isNone
  { j with
    writing := if reason = 3 then r :: j.writing else j.writing ++ [r]
    nextRun := j.nextRun + 1
    writingBase := if base then some ⟨j.nextBase, s.baseWords⟩ else j.writingBase
    nextBase := if base then j.nextBase + 1 else j.nextBase
    dirty := if base then false else j.dirty
    parkedAt := if reason = 3 then some k else j.parkedAt }

theorem State.checkpoint_eq (s : State) (k reason : Nat) : s.checkpoint k reason = s.journaled (s.checkpointBegun k reason) := rfl

theorem State.checkpoint_within (s : State) (k reason : Nat) : s.Within (s.checkpoint k reason) [.journal] [0x04, 0x68] :=
  s.checkpoint_eq k reason ▸ s.journaled_within _

/-- A checkpoint that is not a parked machine's writes after those that are being written. -/
theorem State.checkpointBegun_writing (s : State) (k reason : Nat) (h : reason ≠ 3) :
    (s.checkpointBegun k reason).writing = s.journal.writing ++ [s.runImage k reason] := if_neg h

theorem State.checkpoint_writing (s : State) (k reason : Nat) (h : reason ≠ 3) :
    (s.checkpoint k reason).journal.writing = s.journal.writing ++ [s.runImage k reason] := by
  rw [s.checkpoint_eq, State.journaled_journal, s.checkpointBegun_writing k reason h]

theorem State.checkpoint_shown (s : State) (k reason : Nat) (h : reason ≠ 3) : (s.checkpoint k reason).get F.ERR_JSTAT_WRITING = 1 := by
  have writing : (s.setJournal (s.checkpointBegun k reason)).journal.writing = s.journal.writing ++ [s.runImage k reason] :=
    s.checkpointBegun_writing k reason h
  rw [s.checkpoint_eq, State.journaled, (State.showJournal_words _).2.2, writing]
  simp

theorem State.checkpointPeriodic_due (s : State) (k : Nat) (every : s.get F.ERR_CKPT_CFG_CKPT_MS ≠ 0)
    (due : k % (s.get F.ERR_CKPT_CFG_CKPT_MS * 1000) = 0) (armed : s.journal.armed = true) (dev : s.devAt k = 2 ∨ s.devAt k = 3) :
    s.checkpointPeriodic k = s.checkpoint k 0 := by
  unfold State.checkpointPeriodic
  refine if_neg ?_
  rintro (zero | early | unarmed | other)
  · omega
  · exact early due
  · simp [armed] at unarmed
  · omega

/-! ## Records released before the checkpoint of a power failure (R53, R598) -/

theorem State.logAppend_within (s : State) (r : ErrRec) : s.Within (s.logAppend r) [.err] [] := (State.Within.refl s _ _).err _

theorem State.logRecord_within (s : State) (r : ErrRec) : s.Within (s.logRecord r) [.err] [0x68] := by
  unfold State.logRecord
  extract_lets times appended _ first counted _ kept
  have logged : s.Within appended [.err] [0x68] := (s.logAppend_within r).mono (by decide) (by decide)
  have limited : s.Within counted [.err] [0x68] := (State.Within.refl s _ _).count _ _
  have w : s.Within kept [.err] [0x68] := limited.err _
  exact .ite (fun _ => logged) fun _ => .ite (fun _ => logged.err _) fun _ =>
    .ite (fun _ => w.trans (State.warn_within _ _ _ _)) fun _ => w

theorem State.spread_within (s : State) (r : ErrRec) : s.Within (s.spread r) [.err] [0x68] := by
  have told : s.Within ((s.logRecord r).telRecord r) [.err] [0x68] :=
    .ite (fun _ => s.logRecord_within r) fun _ => .ite (fun _ => (s.logRecord_within r).err _) fun _ => (s.logRecord_within r).err _
  exact .ite (fun _ => told.emit _) fun _ => told

theorem State.setQueue_within (s : State) (q : List ErrRec) : s.Within (s.setQueue q) [.err] [0x68] := ((State.Within.refl s _ _).err _).put _ _

theorem State.enqueue_within (s : State) (r : ErrRec) : s.Within (s.enqueue r).1 [.err] [0x68] := by
  unfold State.enqueue
  extract_lets q queued
  split
  · exact (s.setQueue_within _).err _
  · split
    · exact (State.Within.refl s _ _).count _ _
    · split
      · exact (s.setQueue_within _).count _ _
      · exact (State.Within.refl s _ _).count _ _

/-- Numbers of records alone are given in the journal from `s` to `t`. -/
def State.NumbersOnly (s t : State) : Prop := ∃ n, t.journal = { s.journal with nextNumber := n }

namespace State.NumbersOnly

variable {s t u : State}

theorem refl (s : State) : s.NumbersOnly s := ⟨s.journal.nextNumber, rfl⟩

theorem within (h : s.NumbersOnly t) (w : t.Within u [.err] [0x68]) : s.NumbersOnly u := h.imp fun _ e => w.journal_eq.trans e

theorem numbered (h : s.NumbersOnly t) : s.NumbersOnly t.numbered := by
  obtain ⟨n, e⟩ := h
  exact ⟨(t.err.next + 1) % 2 ^ 32, by rw [State.numbered, e]⟩

theorem trans (h : s.NumbersOnly t) (h' : t.NumbersOnly u) : s.NumbersOnly u := by
  obtain ⟨n, e⟩ := h
  obtain ⟨m, e'⟩ := h'
  exact ⟨m, by rw [e', e]⟩

end State.NumbersOnly

theorem State.queueDrop_numbers (s : State) (first : Nat) : s.NumbersOnly (s.queueDrop first) := by
  unfold State.queueDrop
  split
  · exact .refl s
  · have queued := (State.NumbersOnly.refl s).numbered.within (State.setQueue_within _ (s.err.queue ++ [s.ownRecord 0x6801 [first]]))
    exact (queued.within ((State.Within.refl _ _ _).err _)).within (State.spread_within _ _)

theorem State.releaseRecord_numbers (s : State) (r : ErrRec) : s.NumbersOnly (s.releaseRecord r) := by
  have taken : s.NumbersOnly { s with err := { s.err with held := s.err.held.erase r } } :=
    (State.NumbersOnly.refl s).within ((State.Within.refl s _ _).err _)
  have spread := (taken.numbered.within (State.enqueue_within _ { r with number := s.err.next })).within (State.spread_within _ { r with number := s.err.next })
  unfold State.releaseRecord
  dsimp only
  split
  · exact spread.trans (State.queueDrop_numbers _ _)
  · exact spread

theorem State.releaseAll_numbers (n : Nat) (s : State) : s.NumbersOnly (s.releaseAll n) := by
  induction n generalizing s with
  | zero => exact .refl s
  | succ n ih =>
    unfold State.releaseAll
    split
    · exact .refl s
    · exact (s.releaseRecord_numbers _).trans (ih _)

theorem State.checkpointPwrfail_takes (s : State) (k : Nat) (due : s.journal.pwrfailDue = true) :
    (s.checkpointPwrfail k).journal.pwrfailDue = false ∧ (s.checkpointPwrfail k).journal.writing.length = s.journal.writing.length + 1
      ∧ (s.checkpointPwrfail k).journal.writing.getLast?.map (fun r => r.reason) = some 2 := by
  obtain ⟨n, e⟩ := State.releaseAll_numbers s.err.held.length (s.setJournal { s.journal with pwrfailDue := false })
  have body : s.checkpointPwrfail k = ((s.setJournal { s.journal with pwrfailDue := false }).releaseAll s.err.held.length).checkpoint k 2 := by
    unfold State.checkpointPwrfail
    rw [due]
    rfl
  rw [body, State.checkpoint_writing _ _ _ (by decide), State.checkpoint_eq, State.journaled_journal, State.checkpointBegun, e]
  refine ⟨rfl, ?_, ?_⟩
  · rw [List.length_append]
    rfl
  · rw [List.getLast?_concat]
    rfl

/-! ## Writes end (R596, R600) -/

/-- The journal with its first write complete. -/
def JournalSt.written (j : JournalSt) (r : RunImage) (rest : List RunImage) : JournalSt :=
  { j with writing := rest, runs := (r :: j.runs).take 2, parkedAt := if r.reason = 3 then none else j.parkedAt }

theorem State.checkpointDone_answers (s : State) (r : RunImage) (rest : List RunImage) (p : InFlight) (writing : s.journal.writing = r :: rest)
    (one : s.cmd.inflight = [p]) (waits : p.wait = .checkpoint r.number) :
    s.checkpointDone = (s.journaled (s.journal.written r rest)).answer p 0 0 [word r.number] := by
  have inflight : (s.journaled (s.journal.written r rest)).cmd.inflight = [p] := (congrArg CmdSt.inflight (s.journaled_within _).cmd_eq).trans one
  have only : (s.journaled (s.journal.written r rest)).cmd.inflight.filter (fun q => q.wait == .checkpoint r.number) = [p] := by
    rw [inflight]
    simp [waits]
  have e : s.checkpointDone = forEach ((s.journaled (s.journal.written r rest)).cmd.inflight.filter (fun q => q.wait == .checkpoint r.number))
      (fun q s => s.answer q 0 0 [word r.number]) (s.journaled (s.journal.written r rest)) := by
    unfold State.checkpointDone
    rw [writing]
    rfl
  rw [e, only]
  rfl

theorem State.journaled_runs (s : State) (r : RunImage) (rest : List RunImage) :
    (s.journaled (s.journal.written r rest)).get F.ERR_JSTAT_RUN_VALID = 1 := by
  rw [State.journaled, (State.showJournal_words _).1]
  rfl

theorem State.baseDone_written (s : State) (b : BaseImage) (writing : s.journal.writingBase = some b) :
    s.baseDone = s.journaled { s.journal with writingBase := none, bases := (b :: s.journal.bases).take 2 } := by
  unfold State.baseDone
  rw [writing]
  rfl

/-- The journal with its first write given up. -/
def JournalSt.givenUp (j : JournalSt) (r : RunImage) (rest : List RunImage) : JournalSt :=
  { j with writing := rest, parkedAt := if r.reason = 3 then none else j.parkedAt }

theorem State.checkpointFail_gives (s : State) (r : RunImage) (rest : List RunImage) (writing : s.journal.writing = r :: rest) :
    s.checkpointFail = ((s.journaled (s.journal.givenUp r rest)).mark F.ERR_JSTAT_WRITE_FAIL).unitErr 0x68 0x6820 [r.number] := by
  unfold State.checkpointFail
  rw [writing]
  rfl

/-- A record's entry writes no word but that of its subject's open head. -/
theorem State.enterRecord_get (s : State) (r : ErrRec) (f : Fld) (apart : f.addr ≠ r.subject.openAddr) : (s.enterRecord r).get f = s.get f := by
  have word : (s.enterRecord r).reg f.addr = s.reg f.addr := by
    rcases s.enterRecord_regs r with e | ⟨v, e⟩
    · exact State.reg_congr e _
    · exact (State.reg_congr e _).trans (s.reg_setReg_ne _ _ v apart)
  rw [State.get, State.get, word]

theorem State.unitErr_get (s : State) (u d : Nat) (args : List Int) (f : Fld) (apart : f.addr ≠ Subject.openAddr ⟨1, u⟩) :
    (s.unitErr u d args).get f = s.get f := by
  rw [State.unitErr, s.raise_low 3 ⟨1, u⟩ d args (by decide) (by decide), State.enterRecord_get _ _ _ apart]

theorem State.checkpointFail_shows (s : State) (r : RunImage) (rest : List RunImage) (writing : s.journal.writing = r :: rest) :
    s.checkpointFail.journal.writing = rest ∧ s.checkpointFail.journal.runs = s.journal.runs ∧ s.checkpointFail.get F.ERR_JSTAT_WRITE_FAIL = 1
      ∧ s.checkpointFail.Raised 3 0x6820 ⟨1, 0x68⟩ := by
  have record := State.unitErr_within ((s.journaled (s.journal.givenUp r rest)).mark F.ERR_JSTAT_WRITE_FAIL) 0x68 0x6820 [r.number] (by decide)
  have marked : (s.journaled (s.journal.givenUp r rest)).Within ((s.journaled (s.journal.givenUp r rest)).mark F.ERR_JSTAT_WRITE_FAIL) [] [0x68] :=
    (State.Within.refl _ _ _).mark _ _
  rw [s.checkpointFail_gives r rest writing, record.journal_eq, marked.journal_eq, State.journaled_journal]
  refine ⟨rfl, rfl, ?_, State.raise_low_raised _ _ _ _ _ (by decide) (by decide)⟩
  rw [State.unitErr_get _ _ _ _ _ (by decide), State.get_mark_same _ _ (by decide) rfl]

/-! ## The journal's packets (R602, R605) -/

section

variable {p : InFlight} {s : State}

theorem opCheckpoint_waits (target : p.target = 0) (body : p.body = []) (boot : s.dev ≠ 0) (halt : s.dev ≠ 5) :
    opCheckpoint p s = (s, .later (.checkpoint 0)) := by
  unfold opCheckpoint
  rw [if_neg (by simp [target]), if_neg (by simp [body]), if_neg (by simp [boot, halt])]

theorem opJournalInfo_empty (target : p.target = 0) (body : p.body = []) (runs : s.journal.runs = []) :
    opJournalInfo p s = (s, .done (word (if s.journal.bases.isEmpty then 0 else 2) :: List.replicate 11 0)) := by
  unfold opJournalInfo
  rw [if_neg (by simp [target]), if_neg (by simp [body]), runs]
  cases s.journal.bases.isEmpty <;> rfl

theorem opJournalRead_done {o n : Word} {r : RunImage} {rest : List RunImage} (body : p.body = [o, n]) (runs : s.journal.runs = r :: rest)
    (target : p.target = 0) (some : 1 ≤ n.toNat) (inside : o.toNat + n.toNat ≤ 2896) :
    opJournalRead p s = (s, .done ((List.range n.toNat).map (fun j => r.word (o.toNat + j)))) := by
  unfold opJournalRead
  simp only [body, bodyWord, List.getD_cons_zero, List.getD_cons_succ]
  rw [if_neg (by simp [target]), if_neg (by simp), runs]
  dsimp only
  rw [if_neg (by omega), if_neg (by omega)]

/-- The newest BASE as one commit at frame `f`, cascade words left out. -/
def InFlight.restoreBatch (p : InFlight) (f : Nat) (b : BaseImage) : Scheduled :=
  { f := f, order := p.order, rank := p.order, path := p.path, tag := p.tag,
    writes := (b.words.filter (fun e => !cascadeWord e.1)).map (fun e => (⟨e.1, word (rwMask e.1), e.2⟩ : StagedWrite)),
    cascade := false, whole := some false }

/-- Checkpoints are armed. -/
def State.armed (s : State) : State := s.setJournal { s.journal with armed := true }

theorem frameLead_near {f ns : Nat} (lo : ns + 10000 ≤ f * 1000) (hi : f * 1000 ≤ ns + 10000000000) :
    ¬frameLead f ns < 10000 ∧ ¬10000000000 < frameLead f ns := by
  unfold frameLead
  dsimp only
  split
  · omega
  · split <;> omega

theorem opJournalRestore_waits {lo hi c : Word} {b : BaseImage} {rest : List BaseImage} (body : p.body = [lo, hi, c])
    (bases : s.journal.bases = b :: rest) (target : p.target = 0) (own : c = 0) (dev : s.dev = 1) (alone : s.pairRole = 0)
    (off : ∀ x : Fin 64, s.ch x ≤ 1) (none : s.cmd.scheduled = []) (early : p.acceptNs + 10000 ≤ dword lo hi * 1000)
    (late : dword lo hi * 1000 ≤ p.acceptNs + 10000000000) :
    opJournalRestore p s = (s.armed.schedule (p.restoreBatch (dword lo hi) b), .later (.restore (dword lo hi))) := by
  have frame : frameOfBody p.body 0 = dword lo hi := by simp [frameOfBody, body]
  have third : bodyWord p.body 2 = 0 := by simp [bodyWord, body, own]
  have rests : (List.range 64).all (fun c => decide (s.ch c ≤ 1)) = true := by
    simpa using fun x hx => off ⟨x, hx⟩
  obtain ⟨near, far⟩ := frameLead_near early late
  unfold opJournalRestore
  simp only [frame, third, rests]
  rw [if_neg (by simp [target]), if_neg (by simp [body]), if_neg (by simp), if_neg (by simp [dev, alone, none])]
  split
  · rename_i empty
    exact absurd (bases.symm.trans empty) (List.cons_ne_nil _ _)
  · rename_i newest older e
    obtain ⟨rfl, -⟩ := List.cons.inj (bases.symm.trans e)
    rw [if_neg near, if_neg far]
    rfl

end

end Sys2Proof.Machine
end

section
/-!
PROOFS about the commit of a JOURNAL_RESTORE (R17, R601, R602): what a batch does leaves the packets, the batches and what has been decided for
later instants alone, so the packet that waits for it is answered at its frame.
-/
set_option Elab.async false -- one proof after the other: checking the whole text at once takes more memory than the check allows
namespace Sys2Proof.Machine

/-! ## What a batch leaves alone -/

/-- The packets in flight, the batches scheduled, and what has been decided for later instants. -/
def State.agenda (s : State) : List InFlight × List Scheduled × List (Nat × Nat × Nat) × Tab SeqCh × List (Nat × List (Nat × Word)) :=
  (s.cmd.inflight, s.cmd.scheduled, s.sys.next, s.seq, s.pair.streamWords)

/-- A state put together from `s` keeps its agenda where CMD's lists, the decided transitions and the stream words are those of `s`. -/
@[simp] theorem State.mk_agenda (s : State) {regs : Tab Word} {marks : List (Nat × Nat × Nat)} {cmd : CmdSt} {host : HostSt} {sys : SysSt}
    {err : ErrSt} {journal : JournalSt} {time : TimeSt} {stream : StreamSt} {pack : PackSt} {loop : LoopSt} {trace : TraceSt}
    {stn : Tab StnCh} {power : Tab PowCh} {ledger : LedgerSt} {col : ColSt} {axis : AxisSt} {husk : HuskSt} {ridge : RidgeSt} {pair : PairSt}
    {therm : ThermSt} {cal : CalSt} {light : LightSt} {out : List Output} (inflight : cmd.inflight = s.cmd.inflight)
    (scheduled : cmd.scheduled = s.cmd.scheduled) (next : sys.next = s.sys.next) (words : pair.streamWords = s.pair.streamWords) :
    State.agenda ⟨s.pending, regs, marks, cmd, host, sys, err, journal, time, stream, pack, s.seq, loop, trace, stn, power, ledger, col, axis,
      husk, ridge, pair, therm, cal, light, out⟩ = s.agenda := by
  simp [State.agenda, inflight, scheduled, next, words]

@[simp] theorem State.ite_agenda {c : Prop} [Decidable c] (a b : State) : (if c then a else b).agenda = if c then a.agenda else b.agenda :=
  apply_ite _ _ _ _

@[simp] theorem forEach_agenda {α : Type} (l : List α) (f : α → State → State) (s : State) (h : ∀ x s, (f x s).agenda = s.agenda) :
    (forEach l f s).agenda = s.agenda :=
  forEach_keeps (fun t => t.agenda = s.agenda) l f s rfl fun x t ht => (h x t).trans ht

theorem State.Within.agenda_eq {a b : State} {ps : List Part} {us : List Nat} (h : a.Within b ps us) (hc : .cmd ∉ ps := by decide)
    (hs : .sys ∉ ps := by decide) (hq : .seq ∉ ps := by decide) (hp : .pair ∉ ps := by decide) : b.agenda = a.agenda := by
  rw [State.agenda, h.cmd_eq hc, h.sys_eq hs, h.seq_eq hq, (h.parts .pair hp : b.pair = a.pair)]
  rfl

/-! ### Words and records -/

@[simp] theorem State.setReg_agenda (s : State) (a : Nat) (v : Word) : (s.setReg a v).agenda = s.agenda := by simp [State.setReg]
@[simp] theorem State.put_agenda (s : State) (f : Fld) (v : Nat) : (s.put f v).agenda = s.agenda := by simp [State.put]
@[simp] theorem State.putB_agenda (s : State) (f : Fld) (b : Bool) : (s.putB f b).agenda = s.agenda := by simp [State.putB]
@[simp] theorem State.count_agenda (s : State) (f : Fld) (n : Nat) : (s.count f n).agenda = s.agenda := by simp [State.count]
@[simp] theorem State.mark_agenda (s : State) (f : Fld) (bits : Nat) : (s.mark f bits).agenda = s.agenda := by simp [State.mark]
@[simp] theorem State.emit_agenda (s : State) (o : Output) : (s.emit o).agenda = s.agenda := by simp [State.emit]
@[simp] theorem State.noteSaved_agenda (s : State) (a : Nat) : (s.noteSaved a).agenda = s.agenda := by simp [State.noteSaved]
@[simp] theorem State.enterRecord_agenda (s : State) (r : ErrRec) : (s.enterRecord r).agenda = s.agenda := by simp [State.enterRecord]

/-- An INFO, WARN, CHANNEL or UNIT record without the fault mark decides nothing. -/
theorem State.raise_low_agenda (s : State) (cls : Nat) (x : Subject) (d : Nat) (args : List Int) (h4 : cls ≠ 4) (h5 : cls ≠ 5) :
    (s.raise cls false x d args).agenda = s.agenda := by rw [s.raise_low cls x d args h4 h5, State.enterRecord_agenda]

@[simp] theorem State.info_agenda (s : State) (x : Subject) (d : Nat) (args : List Int) : (s.info x d args).agenda = s.agenda :=
  s.raise_low_agenda 0 x d args (by decide) (by decide)

@[simp] theorem State.warn_agenda (s : State) (x : Subject) (d : Nat) (args : List Int) : (s.warn x d args).agenda = s.agenda :=
  s.raise_low_agenda 1 x d args (by decide) (by decide)

theorem State.writeWord_agenda (s : State) (w : StagedWrite) : (s.writeWord w).agenda = s.agenda := by
  unfold State.writeWord
  split <;> simp

theorem State.withWrites_agenda (s : State) (ws : List StagedWrite) : (s.withWrites ws).agenda = s.agenda :=
  forEach_agenda _ _ _ fun w t => t.writeWord_agenda w

theorem State.resetSaved_agenda (s : State) (cascade : Bool) : (s.resetSaved cascade).agenda = s.agenda := by simp [State.resetSaved]

/-! ### The host interface, the feeds, the calibration and the station links -/

theorem State.ringWrite_agenda (s : State) (r : Reply) : (s.ringWrite r).agenda = s.agenda := (s.ringWrite_within r).agenda_eq

theorem State.drainHeld_agenda (n : Nat) (s : State) : (State.drainHeld n s).agenda = s.agenda := by
  induction n generalizing s with
  | zero => rfl
  | succ n ih =>
    unfold State.drainHeld
    split
    · rfl
    · split
      · rw [ih, State.put_agenda, State.ringWrite_agenda, State.mk_agenda s rfl rfl rfl rfl]
      · rfl

theorem State.ringReset_agenda (s : State) : s.ringReset.agenda = s.agenda := by simp [State.ringReset]
theorem State.clearSources_agenda (s : State) (port : Bool) : (s.clearSources port).agenda = s.agenda := by simp [State.clearSources]
@[simp] theorem State.setFeed_agenda (s : State) (f : Nat) (x : Feed) : (s.setFeed f x).agenda = s.agenda := by simp [State.setFeed]
@[simp] theorem State.setSlot_agenda (s : State) (n : Nat) (x : Slot) : (s.setSlot n x).agenda = s.agenda := by simp [State.setSlot]
@[simp] theorem State.setEngine_agenda (s : State) (e : Nat) (x : Engine) : (s.setEngine e x).agenda = s.agenda := by simp [State.setEngine]

@[simp] theorem State.freeEngine_agenda (s : State) (n : Nat) : (s.freeEngine n).agenda = s.agenda := by
  unfold State.freeEngine
  split <;> simp

@[simp] theorem State.slotChanged_agenda (s : State) (n : Nat) : (s.slotChanged n).agenda = s.agenda := by
  simp [State.slotChanged, State.emitRidge]

@[simp] theorem State.feedStart_agenda (s : State) (f : Nat) : (s.feedStart f).agenda = s.agenda := by simp [State.feedStart]
@[simp] theorem State.feedStop_agenda (s : State) (f : Nat) : (s.feedStop f).agenda = s.agenda := by
  simp [State.feedStop, State.feedLeaves, State.unwait]

theorem State.feedSync_agenda (s : State) : s.feedSync.agenda = s.agenda := by simp [State.feedSync]

theorem State.wantRun_agenda (s : State) (t : Nat) : (s.wantRun t).agenda = s.agenda := by
  have queued := (s.queueRun_within t).agenda_eq
  simp [State.wantRun, queued]

@[simp] theorem State.setLink_agenda (s : State) (c : Nat) (x : StnCh) : (s.setLink c x).agenda = s.agenda := by simp [State.setLink]
theorem State.sbGo_agenda (s : State) (c : Nat) : (s.sbGo c).agenda = s.agenda := by simp [State.sbGo, State.sbQueue]
theorem State.gateDelay_agenda (s : State) (c b f : Nat) : (s.gateDelay c b f).agenda = s.agenda := by simp [State.gateDelay, State.sbQueue]

/-! ### TRIG outputs and lamps -/

@[simp] theorem State.setTrig_agenda (s : State) (k : Nat) (x : Trig) : (s.setTrig k x).agenda = s.agenda := by simp [State.setTrig]
@[simp] theorem State.trigGoTo_agenda (s : State) (k n : Nat) : (s.trigGoTo k n).agenda = s.agenda := by simp [State.trigGoTo]
theorem State.trigActivate_agenda (s : State) (k f : Nat) : (s.trigActivate k f).agenda = s.agenda := by simp [State.trigActivate]
@[simp] theorem State.setLamp_agenda (s : State) (n : Nat) (x : LightStr) : (s.setLamp n x).agenda = s.agenda := by simp [State.setLamp]
@[simp] theorem State.strobeGoTo_agenda (s : State) (n i : Nat) : (s.strobeGoTo n i).agenda = s.agenda := by simp [State.strobeGoTo]
@[simp] theorem State.lightWarn_agenda (s : State) (d : Nat) (args : List Int) : (s.lightWarn d args).agenda = s.agenda := by simp [State.lightWarn]
@[simp] theorem State.strobeActivate_agenda (s : State) (n f : Nat) : (s.strobeActivate n f).agenda = s.agenda := by simp [State.strobeActivate]
theorem State.lightCommitted_agenda (s old : State) (n f : Nat) : (s.lightCommitted old n f).agenda = s.agenda := by simp [State.lightCommitted]

/-! ## A device with no decided transition -/

/-- An entry of a table that has been written is the one written, or an old one. -/
theorem mem_of_mem_tabPut {α : Type} [DecidableEq α] {d : α} {t : Tab α} {k : Nat} {v : α} {e : Nat × α} (h : e ∈ tabPut d t k v) :
    e = (k, v) ∨ e ∈ t := by
  unfold tabPut at h
  split at h
  · exact .inr (List.mem_filter.mp h).1
  · exact ((mem_tabInsert k v (tabDrop t k) e).mp h).imp id fun old => (List.mem_filter.mp old).1

/-- The packets in flight and the batches scheduled, where nothing else is decided for a later instant. -/
structure State.Rests (i : List InFlight) (b : List Scheduled) (s : State) : Prop where
  inflight : s.cmd.inflight = i
  scheduled : s.cmd.scheduled = b
  next : s.sys.next = []
  channels : ∀ e ∈ s.seq, e.2.next = []
  words : s.pair.streamWords = []

theorem State.rests_of_quiet {s : State} {i : List InFlight} {b : List Scheduled} (hi : s.cmd.inflight = i) (hb : s.cmd.scheduled = b)
    (quiet : s.quiet = true) : s.Rests i b := by
  simp only [State.quiet, Bool.and_eq_true, List.isEmpty_iff, List.all_eq_true] at quiet
  obtain ⟨⟨next, channels⟩, words⟩ := quiet
  exact ⟨hi, hb, next, channels, words⟩

namespace State.Rests

variable {s t : State} {i : List InFlight} {b : List Scheduled}

theorem of_agenda (h : s.Rests i b) (e : t.agenda = s.agenda) : t.Rests i b := by
  simp only [State.agenda, Prod.mk.injEq] at e
  obtain ⟨hi, hb, hn, hq, hw⟩ := e
  exact ⟨hi.trans h.inflight, hb.trans h.scheduled, hn.trans h.next, fun e he => h.channels e (hq ▸ he), hw.trans h.words⟩

theorem sq (h : s.Rests i b) (c : Nat) : (s.sq c).next = [] := by
  have found : ∀ l : Tab SeqCh, (∀ e ∈ l, e.2.next = []) → (tabGet {} l c).next = [] := by
    intro l hl
    induction l with
    | nil => rfl
    | cons e l ih =>
      unfold tabGet
      split
      · exact hl e List.mem_cons_self
      · exact ih fun x hx => hl x (List.mem_cons_of_mem e hx)
  exact found s.seq h.channels

/-- A change of a channel that decides no transition of it. -/
theorem setSq (h : s.Rests i b) (c : Nat) (x : SeqCh) (hx : x.next = (s.sq c).next) : (s.setSq c x).Rests i b := by
  refine ⟨h.inflight, h.scheduled, h.next, fun e he => ?_, h.words⟩
  rcases mem_of_mem_tabPut he with rfl | old
  · exact hx.trans (h.sq c)
  · exact h.channels e old

theorem put (h : s.Rests i b) (f : Fld) (v : Nat) : (s.put f v).Rests i b := h.of_agenda (by simp)

theorem ite {c : Prop} [Decidable c] (h : c → s.Rests i b) (h' : ¬c → t.Rests i b) : (if c then s else t).Rests i b := by
  split
  · exact h ‹_›
  · exact h' ‹_›

theorem forEach {α : Type} (l : List α) (f : α → State → State) (h : s.Rests i b) (step : ∀ x t, t.Rests i b → (f x t).Rests i b) :
    (Machine.forEach l f s).Rests i b := forEach_keeps (fun t => t.Rests i b) l f s h step

/-! ### What a write does -/

theorem acceptRequest (h : s.Rests i b) (bit q : Nat) : (s.acceptRequest bit q).Rests i b := h.of_agenda (by simp [State.acceptRequest])

theorem acceptChRequest (h : s.Rests i b) (c kind q : Nat) : (s.acceptChRequest c kind q).Rests i b :=
  .ite (fun _ => h.of_agenda (by simp)) fun _ => h.setSq c _ rfl

theorem gateWriteFailed (h : s.Rests i b) (c : Nat) : (s.gateWriteFailed c).Rests i b := by
  have raised : ((s.setLink c { s.link c with gateFailed := true }).raise 2 false ⟨2, c⟩ 0x4014).Rests i b :=
    h.of_agenda ((State.raise_low_agenda _ 2 _ _ _ (by decide) (by decide)).trans (by simp))
  exact raised.setSq c _ rfl

theorem portDown (h : s.Rests i b) (c : Nat) : (s.portDown c).Rests i b := by
  unfold State.portDown
  extract_lets x busy gate down failed
  have hd : down.Rests i b := h.of_agenda (by simp [down])
  have hf : failed.Rests i b := .ite (fun _ => hd.gateWriteFailed c) fun _ => hd
  exact .ite (fun _ => hf.of_agenda (by simp)) fun _ => hf

theorem absorbWrite (h : s.Rests i b) (c n : Nat) : (s.absorbWrite c n).Rests i b :=
  (h.setSq c { s.sq c with absorbPending := (s.sq c).absorbPending + n } rfl).put _ _

theorem timeCfgChanged (h : s.Rests i b) : s.timeCfgChanged.Rests i b := h.of_agenda s.timeCfgChanged_within.agenda_eq

/-- What one write does decides nothing and leaves packets and batches alone. -/
theorem writeEffect (h : s.Rests i b) (old : State) (q : Nat) (w : StagedWrite) : (State.writeEffect old q w s).Rests i b := by
  unfold State.writeEffect
  rcases splitAddr w.addr with ⟨unit, chan, index⟩
  extract_lets noted cleared
  have hn : noted.Rests i b := h.of_agenda (s.noteSaved_agenda _)
  have hc : cleared.Rests i b := .ite (fun _ => hn.of_agenda (noted.clearSources_agenda _)) fun _ => hn
  refine .ite (fun _ => .forEach _ _ hn fun k t ht => ht.acceptRequest k q) fun _ => ?_
  refine .ite (fun _ => ?_) fun _ => ?_
  · extract_lets ring
    have hr : ring.Rests i b := .ite (fun _ => hn.of_agenda noted.ringReset_agenda) fun _ => hn
    exact hr.of_agenda (State.drainHeld_agenda _ _)
  refine .ite (fun _ => hn.of_agenda (noted.emit_agenda _)) fun _ => ?_
  refine .ite (fun _ => .ite (fun _ => hn.timeCfgChanged) fun _ => hn) fun _ => ?_
  refine .ite (fun _ => .ite (fun _ => hc.of_agenda (cleared.clearSources_agenda _)) fun _ => hc) fun _ => ?_
  refine .ite (fun _ => hn.of_agenda noted.feedSync_agenda) fun _ => ?_
  refine .ite (fun _ => .forEach _ _ hn fun k t ht => ht.acceptChRequest _ k q) fun _ => ?_
  refine .ite (fun _ => .ite (fun _ => hn.of_agenda (noted.wantRun_agenda _)) fun _ => hn) fun _ => ?_
  refine .ite (fun _ => .ite (fun _ => hn.portDown _) fun _ => hn) fun _ => ?_
  exact .ite (fun _ => .ite (fun _ => hn.of_agenda (noted.sbGo_agenda _)) fun _ => hn) fun _ => hn

theorem takeWrites (h : s.Rests i b) (ws : List StagedWrite) (q : Nat) : (s.takeWrites ws q).Rests i b := by
  unfold State.takeWrites
  extract_lets bad kept new
  have hn : new.Rests i b := .forEach _ _ (h.of_agenda (s.withWrites_agenda kept)) fun w t ht => ht.writeEffect s q w
  exact .ite (fun _ => hn.of_agenda (new.mark_agenda _ _)) fun _ => hn

/-! ### What a batch does -/

theorem commitEffects (h : s.Rests i b) (old : State) (x : Scheduled) : (State.commitEffects old x s).Rests i b := by
  unfold State.commitEffects
  extract_lets trigs lamps band gates absorbed
  have ht : trigs.Rests i b := .forEach _ _ h fun k t ht => .ite (fun _ => ht) fun _ => ht.of_agenda (t.trigActivate_agenda k _)
  have hl : lamps.Rests i b := .forEach _ _ ht fun n t ht => ht.of_agenda (t.lightCommitted_agenda old n _)
  have hg : gates.Rests i b := .forEach _ _ hl fun c t ht => .ite (fun _ => ht) fun _ => ht.of_agenda (t.gateDelay_agenda _ _ _)
  have ha : absorbed.Rests i b := by
    refine .forEach _ _ hg fun w t ht => .ite (fun _ => ?_) fun _ => ht
    split
    · exact ht.absorbWrite _ _
    · exact ht
  have swept := ((ha.of_agenda absorbed.trigSweepAll_within.agenda_eq).of_agenda (State.strobeSweepAll_within _).agenda_eq).of_agenda
    (State.expoHits_within _).agenda_eq
  exact swept.of_agenda (State.feedSync_agenda _)

/-! ### Device time -/

theorem reach (h : s.Rests i b) (n : Nat) : (s.reach n).Rests i b := h.of_agenda (by simp [State.reach, State.clocks])

/-- Nothing decided takes effect. -/
theorem settle (h : s.Rests i b) : s.settle = s :=
  State.Settled.settle ⟨fun _ he => absurd (h.next ▸ he) List.not_mem_nil, fun c _ _ he => absurd (h.sq c ▸ he) List.not_mem_nil⟩

theorem applyStreamWords (h : s.Rests i b) (f : Nat) : s.applyStreamWords f = s := by
  unfold State.applyStreamWords
  rw [h.words]
  rfl

/-- The instants to come are those of the batches, and of the reads that packets wait for. -/
theorem nextInstant (h : s.Rests i b) (u : Nat) : s.nextInstant u =
    ((b.map (fun x => x.f) ++ i.filterMap InFlight.readAt).filter (fun g => decide (g ≤ u))).foldl (fun m g => some (m.elim g (fun x => min x g))) none := by
  have channels : s.seq.flatMap (fun e => e.2.next.map (fun t => t.1)) = [] := by
    rw [List.flatMap_eq_nil_iff]
    intro e he
    rw [h.channels e he, List.map_nil]
  unfold State.nextInstant
  simp only [h.scheduled, h.inflight, h.next, h.words, channels, List.map_nil, List.append_nil]

/-- With neither packets nor batches, no instant is to come. -/
theorem passInstants (h : s.Rests [] []) (u n : Nat) : s.passInstants u n = s := by
  cases n with
  | zero => rfl
  | succ n =>
    unfold State.passInstants
    rw [h.nextInstant]
    rfl

theorem pump (h : s.Rests [] b) : s.pump = s := s.pump_none h.inflight

end State.Rests

/-! ## The batch of a JOURNAL_RESTORE (R601, R602) -/

theorem State.reach_cases (s : State) (n : Nat) : s.reach n = s ∨ ∃ k, s.reach n = s.clocks k := by
  unfold State.reach
  extract_lets d k
  split
  · exact .inl rfl
  · exact .inr ⟨k, rfl⟩

theorem State.clocks_answered (s : State) (k : Nat) {path : Path} {tag : Byte} {st d : Nat} (h : s.Answered path tag st d) :
    (s.clocks k).Answered path tag st d := h

/-- A batch has been applied, and the packet `p` that waited for it answered DONE. -/
structure State.Confirmed (p : InFlight) (s : State) : Prop where
  rests : s.Rests [] []
  answered : s.Answered p.path p.tag 0 0

/-- Packet `p` waits for the batch `b`, a whole image of no cascade. -/
structure Restores (p : InFlight) (b : Scheduled) : Prop where
  whole : b.whole = some false
  own : b.cascade = false
  order : p.order = b.order
  wait : p.wait = .restore b.f
  host : p.path ≠ .ridge
  orphan : p.orphan = false

section

variable {s : State} {p : InFlight} {b : Scheduled}

theorem State.answerAt_confirms (h : s.Rests [p] []) (host : p.path ≠ .ridge) (orphan : p.orphan = false) (res : List Word) (n : Nat) :
    (s.answerAt p 0 0 res n).Confirmed p := by
  have retired : (s.retire p).Rests [] [] := ⟨by simp [State.retire, h.inflight], h.scheduled, h.next, h.channels, h.words⟩
  unfold State.answerAt
  rw [if_neg host, orphan, if_neg Bool.false_ne_true]
  exact ⟨retired.of_agenda (State.send_within _ _ _).agenda_eq, s.mkReply p 0 0 res n, State.send_there _ _ _, rfl, rfl, rfl, rfl⟩

theorem State.confirmBatch_confirms (h : s.Rests [p] []) (r : Restores p b) : (s.confirmBatch b).Confirmed p := by
  have found : s.cmd.inflight.find? (fun p => p.order == b.order && (p.wait == .commit b.f || p.wait == .restore b.f)) = some p := by
    simp [h.inflight, r.order, r.wait]
  unfold State.confirmBatch
  rw [found]
  dsimp only
  rw [r.own, Bool.false_and, if_neg Bool.false_ne_true]
  exact s.answerAt_confirms h r.host r.orphan _ _

theorem State.applyBatch_confirms (h : s.Rests [p] [b]) (r : Restores p b) : (s.applyBatch b).Confirmed p := by
  unfold State.applyBatch
  extract_lets _ old same reset ws taken bumped
  have gone : old.Rests [p] [] := ⟨h.inflight, by simp [old, h.scheduled], h.next, h.channels, h.words⟩
  have hr : reset.Rests [p] [] := by
    unfold reset
    split
    · exact gone.of_agenda (old.resetSaved_agenda _)
    · exact gone
  have ht : taken.Rests [p] [] := hr.takeWrites _ _
  have hb : bumped.Rests [p] [] := .ite (fun _ => ht) fun _ => ht.of_agenda (by simp [State.bump])
  exact State.confirmBatch_confirms (hb.commitEffects _ _) r

/-- A batch whose frame has come is applied. -/
theorem State.applyDue_confirms (h : s.Rests [p] [b]) (r : Restores p b) {f : Nat} (hf : b.f ≤ f) : (s.applyDue f).Confirmed p := by
  have one : s.applyDue f = s.applyBatch b := by
    unfold State.applyDue
    simp [h.scheduled, hf, forEach]
  rw [one]
  exact State.applyBatch_confirms h r

namespace State.Confirmed

theorem reach (h : s.Confirmed p) (n : Nat) : (s.reach n).Confirmed p := by
  rcases s.reach_cases n with e | ⟨k, e⟩
  · rwa [e]
  · exact ⟨h.rests.reach n, e ▸ s.clocks_answered k h.answered⟩

theorem applyDue (h : s.Confirmed p) (f : Nat) : s.applyDue f = s := by
  unfold State.applyDue
  rw [h.rests.scheduled]
  rfl

end State.Confirmed

/-- The instant of a batch whose packet reads nothing. -/
theorem State.instant_confirms (h : s.Rests [p] [b]) (r : Restores p b) : (s.instant b.f).Confirmed p := by
  have noRead : s.cmd.inflight.any (fun q => q.readAt == some b.f) = false := by
    simp [h.inflight, InFlight.readAt, r.wait]
  have applied := State.applyDue_confirms (h.reach (b.f * 1000)) r (Nat.le_refl b.f)
  have due : (s.reach (b.f * 1000)).cmd.scheduled.any (fun x => decide (x.f ≤ b.f)) = true := by
    rw [(h.reach (b.f * 1000)).scheduled]
    simp
  have e : s.instant b.f = (s.reach (b.f * 1000)).applyDue b.f := by
    unfold State.instant
    rw [noRead]
    simp only [Bool.false_eq_true, if_false, due, if_true]
    rw [applied.rests.pump, applied.rests.settle, applied.rests.applyStreamWords]
  rw [e]
  exact applied

/-- Device time moves on with the batch applied, or with the batch still to come. -/
theorem State.arrive_confirms (h : s.Rests [p] [b]) (r : Restores p b) (t : Nat) :
    (s.arrive t).Confirmed p ∨ (s.arrive t).Rests [p] [b] := by
  have reads : [p].filterMap InFlight.readAt = [] := by simp [InFlight.readAt, r.wait]
  have passed : ∀ u, s.passTo u = s ∨ s.passTo u = s.instant b.f := by
    intro u
    unfold State.passTo State.passInstants
    rw [h.nextInstant, reads]
    by_cases due : b.f ≤ u
    · right
      simp [due, (State.instant_confirms h r).rests.passInstants]
    · left
      simp [due]
  unfold State.arrive
  rcases passed (s.reach t).us with e | e
  · right
    rw [e, (h.reach t).settle]
    exact h.reach t
  · left
    have arrived := (State.instant_confirms h r).reach t
    rw [e, arrived.rests.settle]
    exact arrived

theorem State.restoreApply_confirms (h : s.Rests [p] [b]) (r : Restores p b) (t : Nat) {f : Nat} (hf : b.f ≤ f) :
    (((s.arrive t).applyDue f).pump).Confirmed p := by
  rcases s.arrive_confirms h r t with done | waits
  · rw [done.applyDue, done.rests.pump]
    exact done
  · have applied := State.applyDue_confirms waits r hf
    rw [applied.rests.pump]
    exact applied

/-! ## Replies stay out when the pulses end (R222, R539) -/

theorem State.emit_keeps {o : Output} (h : o ∈ s.out) (x : Output) : o ∈ (s.emit x).out := List.mem_append_left _ h

theorem State.trigPin_out {o : Output} (h : o ∈ s.out) (k : Nat) (level : Bool) : o ∈ (s.trigPin k level).out := by
  unfold State.trigPin
  extract_lets _ shown
  have hs : o ∈ shown.out := h
  by_cases drives : shown.drivesOutputs = true
  · rw [if_pos drives]
    exact State.emit_keeps hs _
  · rwa [if_neg drives]

theorem State.trigLow_out {o : Output} (h : o ∈ s.out) (k : Nat) : o ∈ (s.trigLow k).out := by
  unfold State.trigLow
  split
  · exact State.trigPin_out h k false
  · exact h

theorem State.lampLow_out {o : Output} (h : o ∈ s.out) (n : Nat) : o ∈ (s.lampLow n).out := by
  unfold State.lampLow State.lightPin
  extract_lets x shown
  have hs : o ∈ shown.out := h
  split
  · split
    · exact State.emit_keeps hs _
    · exact hs
  · exact h

theorem haltEdge_out (old : State) {o : Output} (h : o ∈ s.out) : o ∈ (haltEdge old s).out := by
  have trigs : o ∈ s.trigHalt.out := forEach_keeps (fun t => o ∈ t.out) _ _ s h fun k t held => by
    dsimp only
    split
    · exact State.trigLow_out held k
    · exact State.trigLow_out held k
  have lamps : o ∈ s.trigHalt.lightHalt.out := forEach_keeps (fun t => o ∈ t.out) _ _ _ trigs fun n t held => by
    dsimp only
    split
    · exact State.lampLow_out held n
    · exact State.lampLow_out held n
  unfold haltEdge
  split
  · exact lamps
  · exact h

theorem State.Ends.answered_edge {a u : State} (h : a.Ends (haltEdge a.begin s) u) {path : Path} {tag : Byte} {st d : Nat}
    (hr : s.Answered path tag st d) : u.Answered path tag st d := by
  obtain ⟨r, there, hr⟩ := hr
  refine h.answered ⟨r, there.imp (haltEdge_out _) fun held => ?_, hr⟩
  rwa [((haltEdge_within a.begin s).parts .host (by decide)).1]

theorem journalRestoreApply_runs {f : Nat} (scheduled : s.cmd.scheduled = [b]) (inflight : s.cmd.inflight = [p]) (up : s.inReset = false)
    (quiet : s.quiet = true) (hf : b.f ≤ f) (r : Restores p b) :
    Runs (.journalRestoreApply f) s (fun u => u.cmd.scheduled = [] ∧ u.Answered p.path p.tag 0 0) := by
  have rests : s.begin.Rests [p] [b] := (State.rests_of_quiet inflight scheduled quiet).of_agenda rfl
  have confirmed := State.restoreApply_confirms rests r (f * 1000) hf
  have ends := s.row_ends (fun s => ((s.arrive (f * 1000)).applyDue f).pump) up
  refine ⟨_, rfl, ?_, ends.answered_edge confirmed.answered⟩
  rw [ends.cmd, (haltEdge_within _ _).cmd_eq, confirmed.rests.scheduled]

end

end Sys2Proof.Machine
end

section
/-!
PROOFS that checkpoints are taken (R596 to R602, R605): the statement, from what the writes, the journal's packets and the restoring batch do.
-/
set_option Elab.async false -- one proof after the other: checking the whole text at once takes more memory than the check allows
namespace Sys2Proof.Machine

section

variable {s : State} {p : Pkt}

theorem journalRestore_runs {lo hi c : Word} {b : BaseImage} {rest : List BaseImage} (hs : s.Serves p.path p.tag) (body : p.body = [lo, hi, c])
    (bases : s.journal.bases = b :: rest) (target : p.target = 0) (own : c = 0) (dev : s.dev = 1) (off : ∀ x : Fin 64, s.ch x ≤ 1)
    (none : s.cmd.scheduled = []) (early : s.ns + 10000 ≤ dword lo hi * 1000) (late : dword lo hi * 1000 ≤ s.ns + 10000000000) :
    Runs (.journalRestore p) s (fun u => u.journal.armed = true ∧ u.cmd.scheduled.map (fun x => x.f) = [dword lo hi]
      ∧ u.Waits s.cmd.nextOrder (.restore (dword lo hi))) := by
  have run := opJournalRestore_waits (p := s.begin.begun 0x9D p) (s := s.begin.entered 0x9D p) body bases target own dev hs.alone off none early late
  have inflight : ((s.begin.entered 0x9D p).armed.schedule ((s.begin.begun 0x9D p).restoreBatch (dword lo hi) b)).cmd.inflight
      = [s.begin.begun 0x9D p] := rfl
  have w : (s.begin.entered 0x9D p).Within ((s.begin.entered 0x9D p).armed.schedule ((s.begin.begun 0x9D p).restoreBatch (dword lo hi) b))
      [.journal, .cmd] [] :=
    (((s.begin.entered 0x9D p).setJournal_within _).mono (by decide) (by decide)).cmd _
  have joined : ((s.begin.entered 0x9D p).armed.schedule ((s.begin.begun 0x9D p).restoreBatch (dword lo hi) b)).cmd.scheduled
      = [(s.begin.begun 0x9D p).restoreBatch (dword lo hi) b] := congrArg (insertBatch _) none
  refine hs.runs_later rfl run w.dev inflight rfl fun u ends => ⟨?_, ?_, ?_⟩
  · rw [ends.journal]
    rfl
  · rw [ends.cmd]
    exact congrArg (List.map fun x => x.f) joined
  · have waits := (congrArg CmdSt.inflight ends.cmd).trans (State.setWait_inflight _ _ _ inflight rfl)
    exact ⟨_, waits ▸ List.mem_singleton.mpr rfl, rfl, rfl, rfl⟩

end

section

variable {s a : State} {t : Nat}

theorem checkpointWriteDone_runs {r : RunImage} {rest : List RunImage} {p : InFlight} (ha : s.Awake t a) (writing : a.journal.writing = r :: rest)
    (one : a.cmd.inflight = [p]) (waits : p.wait = .checkpoint r.number) (host : p.path ≠ .ridge) (orphan : p.orphan = false) :
    Runs (.checkpointWriteDone t) s (fun u => u.journal.writing = rest ∧ u.journal.runs = (r :: a.journal.runs).take 2
      ∧ u.get F.ERR_JSTAT_RUN_VALID = 1 ∧ u.Returned p.path p.tag [word r.number]) := by
  have shown := a.journaled_within (a.journal.written r rest)
  have answered := (a.journaled (a.journal.written r rest)).answer_within p 0 0 [word r.number] host orphan
  have idle := State.answer_inflight _ p 0 0 [word r.number] ((congrArg CmdSt.inflight shown.cmd_eq).trans one) host orphan
  have e : a.checkpointDone.pump = (a.journaled (a.journal.written r rest)).answer p 0 0 [word r.number] := by
    rw [a.checkpointDone_answers r rest p writing one waits]
    exact State.pump_none _ idle
  have w : a.Within a.checkpointDone.pump [.cmd, .host, .journal] [0x01, 0x04, 0x68] := by
    rw [e]
    exact (shown.mono (by decide) (by decide)).andThen answered (by decide) (by decide)
  refine ha.runs_to (fun s => s.checkpointDone.pump) rfl w e fun u ends => ?_
  have journal : u.journal = a.journal.written r rest := by rw [ends.journal, answered.journal_eq, State.journaled_journal]
  refine ⟨by rw [journal]; rfl, by rw [journal]; rfl, ?_, ends.returned (State.answer_returned _ p _ host orphan)⟩
  rw [ends.get _, answered.get _, State.journaled_runs]

theorem baseWriteDone_runs {b : BaseImage} (ha : s.Awake t a) (writing : a.journal.writingBase = some b) :
    Runs (.baseWriteDone t) s (fun u => u.journal.writingBase = none ∧ u.journal.bases = (b :: a.journal.bases).take 2
      ∧ u.get F.ERR_JSTAT_BASE_VALID = 1) := by
  refine ha.runs_to State.baseDone rfl a.baseDone_within (a.baseDone_written b writing) fun u ends => ?_
  have journal := ends.journal.trans (State.journaled_journal a _)
  refine ⟨by rw [journal], by rw [journal], ?_⟩
  rw [ends.get _, State.journaled, (State.showJournal_words _).2.1]
  rfl

end

/-- Settles O40: each write leaves the journal that its lemma names, and the batch of a restore leaves its packet to be answered. -/
theorem checkpointsAreTaken : Obligations.CheckpointsAreTaken := by
  unfold Obligations.CheckpointsAreTaken
  refine ⟨fun s a k ha every due armed dev => ?_, fun s a k ha due => ?_, fun s a t r rest p ha writing one waits host orphan =>
    checkpointWriteDone_runs ha writing one waits host orphan, fun s a t b ha writing => baseWriteDone_runs ha writing,
    fun s a t r rest ha writing => ?_, fun s p hs target body boot halt => ?_, fun s p hs target body runs => ?_,
    fun s p o n r rest hs body runs target some inside => ?_, fun s p lo hi c b rest hs body bases target own dev off none early late =>
    journalRestore_runs hs body bases target own dev off none early late,
    fun s f b p scheduled inflight up quiet hf _ whole own order wait host orphan =>
    journalRestoreApply_runs scheduled inflight up quiet hf ⟨whole, own, order, wait, host, orphan⟩⟩
  · have e := a.checkpointPeriodic_due k every due armed dev
    refine ha.runs_to (fun s => s.checkpointPeriodic k) rfl (e ▸ a.checkpoint_within k 0) e fun u ends => ⟨?_, ?_⟩
    · rw [ends.journal, a.checkpoint_writing k 0 (by decide)]
    · rw [ends.get _, a.checkpoint_shown k 0 (by decide)]
  · obtain ⟨taken, length, reason⟩ := a.checkpointPwrfail_takes k due
    refine ha.runs_edge (fun s => s.checkpointPwrfail k) rfl fun u ends => ?_
    rw [ends.journal_edge]
    exact ⟨taken, length, reason⟩
  · obtain ⟨rests, runs, failed, raised⟩ := a.checkpointFail_shows r rest writing
    refine ha.runs_to State.checkpointFail rfl a.checkpointFail_within rfl fun u ends => ?_
    rw [ends.journal]
    exact ⟨rests, runs, (ends.get _).trans failed, ends.raised raised⟩
  · have run := opCheckpoint_waits (p := s.begin.begun 0x9E p) (s := s.begin.entered 0x9E p) target body boot halt
    refine hs.runs_later_within rfl run (.refl _ [] []) rfl fun u ends waits => ⟨?_, waits⟩
    rw [ends.journal]
    rfl
  · have run := opJournalInfo_empty (p := s.begin.begun 0x9B p) (s := s.begin.entered 0x9B p) target body runs
    refine hs.runs_done_within rfl (by decide) run (.refl _ [] []) fun u ends => ⟨?_, ends.returned (State.answer_returned _ _ _ hs.host rfl)⟩
    rw [ends.journal, (State.answer_within _ _ _ _ _ hs.host rfl).journal_eq]
    rfl
  · have run := opJournalRead_done (p := s.begin.begun 0x9C p) (s := s.begin.entered 0x9C p) body runs target some inside
    refine hs.runs_done_within rfl (by decide) run (.refl _ [] []) fun u ends => ⟨?_, ends.returned (State.answer_returned _ _ _ hs.host rfl)⟩
    rw [ends.journal, (State.answer_within _ _ _ _ _ hs.host rfl).journal_eq]
    rfl

end Sys2Proof.Machine
end
